-- ==== Sys2Proof/Word.lean ====
section
/-!
DEFINITION. The words the manual uses (R8, R10, R11) and the numbering of the functional levels (R6, R7).
-/
namespace Sys2Proof

/-- One byte (R8). -/
abbrev Byte := BitVec 8
/-- A 16-bit word. -/
abbrev Word16 := BitVec 16
/-- A 32-bit word (R8); also a binary angle (R10). -/
abbrev Word32 := BitVec 32
/-- A 64-bit word (R8). -/
abbrev Word64 := BitVec 64
/-- A channel mask: bit c is channel c (R469). -/
abbrev Mask128 := BitVec 128
/-- A 64-byte descriptor, byte 0 in bits [7:0] (R433, R8). -/
abbrev Desc := BitVec 512

/-- Channel number, 0–127 (R6). -/
abbrev ChanId := Fin 128
/-- Quadrant number, 0–3 (R6). -/
abbrev QuadId := Fin 4
/-- Queue number, 0–63; queue 0 is the admin queue (R420). -/
abbrev QueueId := Fin 64
/-- Filter-chain number, 0–15 (R342). -/
abbrev ChainId := Fin 16
/-- Sequence-slot number of a quadrant, 0–63 regular, 64 injected (R307). -/
abbrev SlotId := Fin 65
/-- Plumb context, 0–7 (R539). -/
abbrev CtxId := Fin 8
/-- Course-bank number, 0 or 1 (R275). -/
abbrev CBankId := Fin 2
/-- MSI-X vector, 0–67 (R410). -/
abbrev VecId := Fin 68

/-- The quadrant of a channel, c / 32 (R6). -/
def quadOf (c : ChanId) : QuadId := ⟨c.val / 32, by omega⟩
/-- The local index of a channel, c mod 32 (R7). -/
def localOf (c : ChanId) : Fin 32 := ⟨c.val % 32, by omega⟩
/-- The channel of a quadrant with local index i (R7). -/
def chanAt (q : QuadId) (i : Fin 32) : ChanId := ⟨32 * q.val + i.val, by omega⟩
/-- The bank of a channel, c / 8 (R6). -/
def bankOf (c : ChanId) : Fin 16 := ⟨c.val / 8, by omega⟩

end Sys2Proof
end

