-- ==== Sys2Proof/Syntax.lean ====
section
/-!
DEFINITION. The commands the block takes: one constructor per row of spec/opcode_table.json, in the table's order.
The first operand dt of each is the number of 125 MHz ANGLE ticks that pass before it (R11, log entry 1).
Admin commands name the descriptor by its number n on queue 0, the other queue commands by queue q and number n;
the parameters stand in the descriptor that was staged (R433, R469). An event that its rule ties to a measured quantity and
a time carries the quantity (mV, µA, mA, °C) and run, the ns for which it has held without a break (log entry 12).
-/
namespace Sys2Proof

/-- A logic rail whose fall asserts the power-on reset (R76). -/
inductive Rail where
  | vaon | vio | vcore | vser
deriving DecidableEq, Repr

/-- What the lands show at a release of the power-on reset: strap levels (as GL_BOOT[4:0]), PEER_PRES_N, VISO above its
threshold (R57, R83, R502). -/
structure StartPins where
  straps : BitVec 5
  peerPresN : Bool
  viso : Bool
deriving DecidableEq, Repr

/-- Serial-bus protocols: lines used for command, address and data (R559). -/
inductive Proto where
  | p111 | p114 | p144 | p444
deriving DecidableEq, Repr

/-- A read protocol that a flash supports, with its command and its dummy and mode cycles (R560). -/
structure ReadMode where
  proto : Proto
  cmd : Byte
  dummy : Nat
  mode : Nat
deriving DecidableEq, Repr

/-- What the JESD216 tables of a flash give: density in bytes, whether 4-byte read commands are listed, the 1-1-1 read and the
further read protocols, the mode bits of continuous read, and the quad-enable, 4-4-4 entry and continuous-read exit sequences
(R560, R564). -/
structure FlashTable where
  density : Nat
  wideCmds : Bool
  base : ReadMode
  more : List ReadMode
  contBits : Byte
  entry : List Byte
  exit : List Byte
deriving DecidableEq, Repr

/-- Steps of the loading of a flash image: discovery reads the SFDP tables, or no signature (steps 1 to 4 of R560); the header
is read (step 5); the certificate is read; the body is read; digest and signature are checked (R577, R644). -/
inductive LoadStep where
  | tables (t : Option FlashTable)
  | header (bytes : List Byte)
  | cert (bytes : List Byte)
  | body (bytes : List Byte)
  | checked
deriving DecidableEq, Repr

/-- A read of host memory that can fail (R458). -/
inductive HostRead where
  | poll
  | index
  | descriptor (q : QueueId) (first : Word32) (count : Nat)
  | command (q : QueueId) (n : Word32)
deriving DecidableEq, Repr

/-- What ECC finds in a line read; status: the quadrant whose channel status the line held in record staging, whose layout
the manual does not give (R384–R387). -/
inductive Ecc where
  | clean
  | single
  | double (status : Option QuadId)
deriving DecidableEq, Repr

/-- Measurements the logic die has of a quadrant in a frame: L+ in mV, averaged as R236 says, die sensor in °C (R193),
which slice sensors read below 155 °C (R197), and the power monitors in mW (R234). -/
structure Readings where
  lplus : Nat
  dieT : Int
  cool : BitVec 32
  logicMw : Nat
  visoMw : Nat
deriving DecidableEq, Repr

/-- What the field die's comparators and sense amplifiers show of an uplink frame: the lands at its first sample (R125), the
readback states at its end with the eighths of their last transitions, three bits a channel (R23, R143), and the eight sense
samples, in µA, of the channel that COUNT names, taken in the frame before (R184). -/
structure UpSamples where
  pins : BitVec 32
  readback : BitVec 32
  eighths : BitVec 96
  amps : List Nat
deriving DecidableEq, Repr

/-- An uplink frame on its way: what the die puts into it and the bits that arrive wrong (R23, R26). -/
structure UpFrame where
  sent : UpSamples
  err : BitVec 200
deriving DecidableEq, Repr

/-- A measured value of a channel, a quadrant or a converter: the unit it belongs to and the value. -/
structure Sensed (ι α : Type) where
  unit : ι
  val : α
deriving DecidableEq, Repr

/-- A value that holds without a break: the value and for how many ns it has held. -/
structure Held (α : Type) where
  val : α
  run : Nat
deriving DecidableEq, Repr

/-- A measured condition of a channel or a quadrant: the unit, the value and for how many ns it has held without a break. -/
structure Lasting (ι α : Type) where
  unit : ι
  val : α
  run : Nat
deriving DecidableEq, Repr

/-- A reference mark: the ticks that pass before it, and for how many ticks its level holds (R254, R262). -/
structure MarkEdge where
  dt : Nat
  held : Nat
deriving DecidableEq, Repr

/-- What the converter meets at a sampling instant: the voltages of the selected land and of its pair's other land in µV,
the land's loop current in nA (R302), and the raw path's error before correction: offset in ppm of span, gain in ppm (R332). -/
structure Analog where
  va : Int
  vb : Int
  ia : Int
  off : Int
  gain : Int
deriving DecidableEq, Repr

/-- Offset in ppm of span and gain error in ppm of the factory value, of one range of a converter (R332). -/
structure Coef where
  off : Int
  gain : Int
deriving DecidableEq, Repr

/-- The commands of the block. -/
inductive Instr where
  /-- IDENTIFY (R472): Admin command that returns the silicon revision, firmware version, straps, ordering code and serial number. -/
  | identify (dt : Nat) (n : Word32)
  /-- QUEUE_CREATE (R473): Admin command that makes an ABSENT I/O queue ACTIVE with the attributes it carries. -/
  | queueCreate (dt : Nat) (n : Word32)
  /-- QUEUE_DELETE (R457): Admin command that quiesces a queue if needed, then makes it ABSENT and forgets its rings and attributes. -/
  | queueDelete (dt : Nat) (n : Word32)
  /-- QUEUE_QUIESCE (R452): Admin command that stops fetching on an ACTIVE queue and drains it to QUIESCED. -/
  | queueQuiesce (dt : Nat) (n : Word32)
  /-- QUEUE_RESUME (R454): QUEUE_QUIESCE with RESUME, which makes a QUIESCED queue ACTIVE again from its fetch index. -/
  | queueResume (dt : Nat) (n : Word32)
  /-- SET_POWER_TARGET (R89): FEATURE_SET of the power target that requests DORMANT, or is rejected while quadrants are armed, queues exist or in a pair mode. -/
  | setPowerTarget (dt : Nat) (n : Word32)
  /-- SET_QUADRANT_RESET (R98): FEATURE_SET that power-cycles and reloads one disarmed field die, or all four in turn. -/
  | setQuadrantReset (dt : Nat) (n : Word32)
  /-- SET_SUPPLY_POLICY (R204): FEATURE_SET that selects AUTO or LATCH restart after a quadrant leaves UNDER or OVER. -/
  | setSupplyPolicy (dt : Nat) (n : Word32)
  /-- SET_FAULT_N_CLASS_MASK (R211): FEATURE_SET of the diagnostic classes that drive FAULT_N low. -/
  | setFaultNClassMask (dt : Nat) (n : Word32)
  /-- SET_FIELD_WATCHDOG (R214): FEATURE_SET of a quadrant's field-watchdog silence time, rejected in the pair modes. -/
  | setFieldWatchdog (dt : Nat) (n : Word32)
  /-- SET_SYNC (R375): FEATURE_SET that selects the SYNC_IN edge and the SYNC_OUT mode. -/
  | setSync (dt : Nat) (n : Word32)
  /-- SET_RECORD_FLUSH (R444): FEATURE_SET of the record-flush time after which a buffer holding records is retired. -/
  | setRecordFlush (dt : Nat) (n : Word32)
  /-- SET_RECORD_ROUTE (R445): FEATURE_SET that routes one record type to any queue, a named queue or discard. -/
  | setRecordRoute (dt : Nat) (n : Word32)
  /-- SET_VAULT_LAYOUT (R390): FEATURE_SET that resizes descriptor staging, record staging and the archive, and empties all three regions. -/
  | setVaultLayout (dt : Nat) (n : Word32)
  /-- SET_ARCHIVE (R392): FEATURE_SET of the archive post-trigger count and the fault classes that freeze it. -/
  | setArchive (dt : Nat) (n : Word32)
  /-- SET_PAIR_TIMING (R510): FEATURE_SET of the release time, checkpoint interval, staleness limit and heartbeat timing, sent to the partner as a delta. -/
  | setPairTiming (dt : Nat) (n : Word32)
  /-- SET_PLUMB_SCHEDULE (R541): FEATURE_SET of a Plumb context's polynomial, alive width, step, target and pass period. -/
  | setPlumbSchedule (dt : Nat) (n : Word32)
  /-- SET_SERIAL_PORT (R558): FEATURE_SET of the serial-port bus-free time, fill byte, clock limit, multi-master and slave settings. -/
  | setSerialPort (dt : Nat) (n : Word32)
  /-- FEATURE_GET (R476): Admin command that returns a feature word or writes a data feature's items, and resets statistics counts. -/
  | featureGet (dt : Nat) (n : Word32)
  /-- LOG_READ (R475): Admin command that copies event-log or counter-log entries into a host buffer. -/
  | logRead (dt : Nat) (n : Word32)
  /-- FW_LOAD (R579): Admin command that writes one consecutive part of a Kozan image into Mason SRAM or the flash staging area. -/
  | fwLoad (dt : Nat) (n : Word32)
  /-- FW_COMMIT_START (R580): ROM-loader action that verifies the image in Mason SRAM and starts it. -/
  | fwCommitStart (dt : Nat) (n : Word32)
  /-- FW_COMMIT_VERIFY (R580): Firmware action that verifies the staged image and changes nothing. -/
  | fwCommitVerify (dt : Nat) (n : Word32)
  /-- FW_COMMIT_INSTALL (R581): Action that verifies an image, erases the boot image and copies the image to flash address 0. -/
  | fwCommitInstall (dt : Nat) (n : Word32)
  /-- FW_COMMIT_ACTIVATE (R582): Action that installs the image and then restarts Mason into it without touching the field. -/
  | fwCommitActivate (dt : Nat) (n : Word32)
  /-- FW_COMMIT_ADVANCE (R583): Action that raises the anti-rollback counter to the running image's ARC. -/
  | fwCommitAdvance (dt : Nat) (n : Word32)
  /-- ATTEST (R587): Admin command that measures the access tables and configuration and writes a signed attestation report. -/
  | attest (dt : Nat) (n : Word32) (overtaken : Nat)
  /-- ACCESS_LOAD (R595): Admin command that loads one access-table row or all 22 rows, taking effect whole between two command starts. -/
  | accessLoad (dt : Nat) (n : Word32)
  /-- ACCESS_LOCK (R596): Admin command that freezes every access-table row until power-on reset or wake. -/
  | accessLock (dt : Nat) (n : Word32)
  /-- PAIR_CONTROL_HANDOVER (R536): Admin command that starts a bumpless handover of the role to the partner. -/
  | pairControlHandover (dt : Nat) (n : Word32)
  /-- PAIR_CONTROL_RESYNC (R535): Admin command that starts a full copy of the static area to the partner. -/
  | pairControlResync (dt : Nat) (n : Word32)
  /-- CHECKPOINT_NOW (R516): Admin command that forces a checkpoint capture and completes at its commit. -/
  | checkpointNow (dt : Nat) (n : Word32)
  /-- CH_CONFIG (R121): Command that checks and writes the channel, protection and pulse groups to every channel in its mask. -/
  | chConfig (dt : Nat) (q : QueueId) (n : Word32)
  /-- OUT_WRITE (R246): Command that sets output levels on host-owned channels through Buttress and completes with the applied mask. -/
  | outWrite (dt : Nat) (q : QueueId) (n : Word32)
  /-- OUT_PULSE_START (R222): Command that starts a pulse generator on each named channel, or updates one that runs. -/
  | outPulseStart (dt : Nat) (q : QueueId) (n : Word32)
  /-- OUT_PULSE_STOP (R223): Command that stops the pulse generator on each named channel and takes the channel off. -/
  | outPulseStop (dt : Nat) (q : QueueId) (n : Word32)
  /-- OUT_PULSE_UPDATE (R224): Command that gives running generators a new pulse group from the end of their current period. -/
  | outPulseUpdate (dt : Nat) (q : QueueId) (n : Word32)
  /-- SAFE_DEFINE (R480): Command that stores the safe value of the named channels in their field dies. -/
  | safeDefine (dt : Nat) (q : QueueId) (n : Word32)
  /-- ARM (R106): Command that arms each named quadrant and completes after the first frame carrying ARMED = 1. -/
  | arm (dt : Nat) (q : QueueId) (n : Word32)
  /-- DISARM (R108): Command that disarms each named quadrant, applies its safe values and withdraws its waiting switch-ons. -/
  | disarm (dt : Nat) (q : QueueId) (n : Word32)
  /-- FAULT_CLEAR (R200): Command that clears latches, retry counters and PROTECT diagnostics of channels, supply latches and the angle-source fault. -/
  | faultClear (dt : Nat) (q : QueueId) (n : Word32)
  /-- BUDGET_SET (R239): Command that writes channel, quadrant or device budget words from the next frame. -/
  | budgetSet (dt : Nat) (q : QueueId) (n : Word32)
  /-- COURSE_LOAD (R280): Command that checks a course table in two passes and writes it into the inactive bank. -/
  | courseLoad (dt : Nat) (q : QueueId) (n : Word32)
  /-- COURSE_SWAP (R292): Command that makes the inactive course bank active at the next wrap no class has yet reached. -/
  | courseSwap (dt : Nat) (q : QueueId) (n : Word32)
  /-- COURSE_SWAP_IMMEDIATE (R295): COURSE_SWAP with IMMEDIATE, taking effect on receipt below the stall speed. -/
  | courseSwapImmediate (dt : Nat) (q : QueueId) (n : Word32)
  /-- ANGLE_CONFIG (R256): Command that writes the source, tracking and reference words of the angle source. -/
  | angleConfig (dt : Nat) (q : QueueId) (n : Word32)
  /-- SEQ_LOAD (R310): Command that checks and loads sequence slots and the quadrant word, taking effect at one frame boundary. -/
  | seqLoad (dt : Nat) (q : QueueId) (n : Word32)
  /-- INJECT (R321): Command that triggers named HOST slots and optionally the injected slot of a quadrant. -/
  | inject (dt : Nat) (q : QueueId) (n : Word32)
  /-- CALIBRATE (R330): Command that makes Mason calibrate the converter ranges of the named quadrants one at a time. -/
  | calibrate (dt : Nat) (q : QueueId) (n : Word32)
  /-- ACC_SNAPSHOT (R339): Command that copies, and optionally clears, accumulator blocks in one DSP tick into an ACC record. -/
  | accSnapshot (dt : Nat) (q : QueueId) (n : Word32)
  /-- FILTER_CONFIG (R350): Command that configures, enables or quiesces one filter chain. -/
  | filterConfig (dt : Nat) (q : QueueId) (n : Word32)
  /-- COEF_LOAD (R363): Command that loads FIR coefficients into an inactive bank of a chain. -/
  | coefLoad (dt : Nat) (q : QueueId) (n : Word32)
  /-- COEF_SWAP (R364): Command that cross-fades a chain to its other coefficient bank, or makes the swap pending. -/
  | coefSwap (dt : Nat) (q : QueueId) (n : Word32)
  /-- SYNC (R374): Command that resets all running filter chains at one reset tick. -/
  | sync (dt : Nat) (q : QueueId) (n : Word32)
  /-- RECORD_BUFFER (R442): Command that posts one record buffer to its queue, completing when the buffer is retired. -/
  | recordBuffer (dt : Nat) (q : QueueId) (n : Word32)
  /-- ARCHIVE_FREEZE (R393): Command that moves the archive from RECORDING to POST with its own post count. -/
  | archiveFreeze (dt : Nat) (q : QueueId) (n : Word32)
  /-- ARCHIVE_RELEASE (R396): ARCHIVE_FREEZE RELEASE, which returns the archive to RECORDING. -/
  | archiveRelease (dt : Nat) (q : QueueId) (n : Word32)
  /-- ARCHIVE_READ (R399): Command that copies valid archive slots by sequence number into ARCHIVE records. -/
  | archiveRead (dt : Nat) (q : QueueId) (n : Word32)
  /-- PLUMB_SCAN (R548): Command that computes a check value over a Vault or host range and compares it with an expected value. -/
  | plumbScan (dt : Nat) (q : QueueId) (n : Word32)
  /-- SIDEBAND_SEND (R571): Command that places words into the slave-port transmit FIFO, all or nothing. -/
  | sidebandSend (dt : Nat) (q : QueueId) (n : Word32)
  /-- UNKNOWN_OPCODE (R422): A descriptor whose opcode is unknown or not accepted on its queue completes with REJ_FIELD. -/
  | unknownOpcode (dt : Nat) (q : QueueId) (n : Word32)
  /-- OUT_ON (R286): Course entry that switches a channel on through Buttress when its class's look-ahead angle reaches it. -/
  | outOn (dt : Nat) (b : CBankId) (idx : Nat)
  /-- OUT_OFF (R286): Course entry that switches a channel off without admission. -/
  | outOff (dt : Nat) (b : CBankId) (idx : Nat)
  /-- OUT_TOGGLE (R287): Course entry that inverts a channel's reference. -/
  | outToggle (dt : Nat) (b : CBankId) (idx : Nat)
  /-- PULSE_START (R222): Course entry that starts or changes a channel's pulse generator, with an optional duty override. -/
  | pulseStart (dt : Nat) (b : CBankId) (idx : Nat)
  /-- PULSE_STOP (R223): Course entry that stops a channel's pulse generator. -/
  | pulseStop (dt : Nat) (b : CBankId) (idx : Nat)
  /-- BANK_WRITE (R119): Course entry that writes the levels of the OUTPUT channels of one bank. -/
  | bankWrite (dt : Nat) (b : CBankId) (idx : Nat)
  /-- ADC_TRIGGER (R287): Course entry that triggers a COURSE sequence slot, or is ignored and counted. -/
  | adcTrigger (dt : Nat) (b : CBankId) (idx : Nat)
  /-- SNAPSHOT (R296): Course entry that writes a 1,152-byte snapshot of all channels into the next archive slot. -/
  | snapshot (dt : Nat) (b : CBankId) (idx : Nat)
  /-- MARK (R298): Course entry that writes a COURSE_MARK record with its user value. -/
  | mark (dt : Nat) (b : CBankId) (idx : Nat)
  /-- SYNC_FIRE (R375): Course entry that resets all filter chains as the SYNC command does. -/
  | syncFire (dt : Nat) (b : CBankId) (idx : Nat)
  /-- ADMIN_QUEUE_ENABLE (R419): Write of HI_CTRL.AQEN = 1 that checks the admin registers and creates the admin queue. -/
  | adminQueueEnable (dt : Nat)
  /-- ADMIN_QUEUE_DISABLE (R456): Write of HI_CTRL.AQEN = 0 that quiesces and removes the admin queue. -/
  | adminQueueDisable (dt : Nat)
  /-- HI_HOSTWD_WRITE (R109): Write of HI_HOSTWD that sets period, action or lock and restarts or stops the host watchdog. -/
  | hiHostwdWrite (dt : Nat) (v : Word32)
  /-- HI_KEEPALIVE (R114): Write of HI_KEEPALIVE that restarts the host watchdog. -/
  | hiKeepalive (dt : Nat) (v : Word32)
  /-- HI_DEVCAUSE_WRITE (R450): W1C write that clears device causes, allowing the device vector to be signalled again. -/
  | hiDevcauseWrite (dt : Nat) (v : Word32)
  /-- HI_DEVEN_WRITE (R451): Write of the device-cause enables, which signals a vector when a set cause becomes enabled. -/
  | hiDevenWrite (dt : Nat) (v : Word32)
  /-- GL_TIME_READ (R612): Read of the low word of GL_TIME that latches the upper word into the shadow. -/
  | glTimeRead (dt : Nat)
  /-- SEC_ROW_READ (R615): Read of the low word of an access-table row image that latches its upper word. -/
  | secRowRead (dt : Nat) (row : Fin 22)
  /-- DBG_DATA_READ (R618): Read of the low word of DBG_DATA that reads a Vault word as master DEBUG and may advance the address. -/
  | dbgDataRead (dt : Nat) (ue : Bool)
  /-- REGISTER_WRITE (R13): Write to any other BAR0 register or field, acting by its access type, or ignored with WIGN. -/
  | registerWrite (dt : Nat) (off size : Nat) (v : Word64)
  /-- MSIX_VECTOR_UNMASK (R449): Unmasking a vector whose pending bit is set issues its MSI-X message. -/
  | msixVectorUnmask (dt : Nat) (v : VecId)
  /-- FUNCTION_LEVEL_RESET (R95): Setting the initiate bit starts a reset of the host interface with the scope of PERST_N. -/
  | functionLevelReset (dt : Nat)
  /-- BUS_MASTER_ENABLE (R459): A change of Bus Master Enable pauses or resumes polling and writes to host memory. -/
  | busMasterEnable (dt : Nat) (on memSpace msixOn : Bool)
  /-- D3HOT_TO_D0 (R412): Transition from D3hot to D0 that resets the function as a function-level reset. -/
  | d3hotToD0 (dt : Nat)
  /-- PERST_ASSERT (R460): Assertion of PERST_N that stops requests, makes every queue ABSENT and resets host-interface registers. -/
  | perstAssert (dt : Nat)
  /-- PERST_RELEASE (R102): Release of PERST_N after which the link trains and configuration requests are answered. -/
  | perstRelease (dt : Nat)
  /-- POWER_ON_RESET_ASSERT (R76): A logic rail falling below its threshold asserts the internal power-on reset. -/
  | powerOnResetAssert (dt : Nat) (rail : Rail)
  /-- POWER_ON_RESET_RELEASE (R76): Release of the internal power-on reset: straps sampled, device time from 0, ROM loader starts. -/
  | powerOnResetRelease (dt : Nat) (pins : StartPins)
  /-- STRAP_CHANGE (R59): A strap level changing after sampling has no effect and is logged by Mason. -/
  | strapChange (dt : Nat) (straps : BitVec 5)
  /-- ENTER_DORMANT (R90): After an accepted DORMANT request the part stops polling and enters DORMANT. -/
  | enterDormant (dt : Nat)
  /-- WAKE (R92): WAKE_N low for 10 µs with the logic rails present wakes the part from DORMANT as after power-on reset. -/
  | wake (dt : Nat) (pins : StartPins)
  /-- VISO_LOST (R83): VISO below its threshold for 10 µs disarms all quadrants and withdraws waiting switch-ons. -/
  | visoLost (dt : Nat)
  /-- VISO_RESTORED (R84): VISO rising again restarts the transformers, with quadrants returning disarmed. -/
  | visoRestored (dt : Nat)
  /-- CLK25_LOSS (R633): CLK25 absent or off frequency for 2 µs holds the logic die in power-on reset. -/
  | clk25Loss (dt : Nat)
  /-- CLK25_RETURN (R633): CLK25 back in tolerance releases the reset 1 ms later. -/
  | clk25Return (dt : Nat) (pins : StartPins)
  /-- TRANSFORMER_START (R80): The next field die's transformer starts when the previous die synchronises or after 1 ms. -/
  | transformerStart (dt : Nat) (q : QuadId)
  /-- FIELD_DIE_SYNC (R81): A field die synchronises its barrier link and aligns to device time. -/
  | fieldDieSync (dt : Nat) (q : QuadId)
  /-- IMAGE_READ_COMPLETE (R644): The image has been read from flash and its digest and signature are checked. -/
  | imageReadComplete (dt : Nat) (step : LoadStep)
  /-- FIRMWARE_READY (R640): Firmware finishes initialising and GL_BOOT.STAGE reads FW_READY. -/
  | firmwareReady (dt : Nat)
  /-- ADMIN_COMMAND_START (R641): Mason starts the next fetched admin command once it has finished with the one before. -/
  | adminCommandStart (dt : Nat) (n : Word32)
  /-- MASON_WATCHDOG_EXPIRY (R601): The Mason watchdog expires and Mason is restarted; admin commands in flight abort. -/
  | masonWatchdogExpiry (dt : Nat)
  /-- MASON_RESTART_COMPLETE (R602): The restart digest check completes and the firmware restarts from ENTRY. -/
  | masonRestartComplete (dt : Nat) (digestOk : Bool)
  /-- MASON_LOAD_WINDOW (R597): End of a 1 ms load window, on which Mason sheds or restores a step of work. -/
  | masonLoadWindow (dt : Nat) (load : Nat)
  /-- MASON_STATUS_PERIODIC (R599): While any step is shed, a MASON_STATUS record is staged once per second. -/
  | masonStatusPeriodic (dt : Nat)
  /-- THROTTLE_ENTER (R194): The logic die reaches 125 °C and DSP and MASON run at half frequency. -/
  | throttleEnter (dt : Nat)
  /-- THROTTLE_EXIT (R194): The logic die falls to 115 °C and full frequency returns. -/
  | throttleExit (dt : Nat)
  /-- HOST_WATCHDOG_EXPIRY (R110): The host watchdog runs PERIOD without a restart and applies each quadrant's action. -/
  | hostWatchdogExpiry (dt : Nat)
  /-- DOORBELL_POLL (R426): At each poll period the part reads the generation counter from the doorbell block. -/
  | doorbellPoll (dt : Nat)
  /-- POLL_COMPLETE (R427): Poll data arrives; a changed generation issues the index read. -/
  | pollComplete (dt : Nat) (gen : Word64)
  /-- INDEX_READ_COMPLETE (R427): The index read completes, the new generation and producer and consumer indices are taken. -/
  | indexReadComplete (dt : Nat) (sqp cqc : Vector Word32 64)
  /-- DESCRIPTOR_FETCH (R430): The part issues a fetch read for descriptors of a queue that may fetch, by class priority. -/
  | descriptorFetch (dt : Nat) (q : QueueId) (count : Nat)
  /-- DESCRIPTOR_STAGED (R543): A fetched descriptor's last line is staged and checked against its Plumb profile before it starts. -/
  | descriptorStaged (dt : Nat) (q : QueueId) (n : Word32) (d : Desc) (ue : Bool)
  /-- HOST_READ_FAILURE (R458): A read of host memory fails and the poll, index, descriptor or command data read is handled accordingly. -/
  | hostReadFailure (dt : Nat) (r : HostRead)
  /-- COALESCE_TIMEOUT (R448): CTIME passes since the oldest unsignalled completion and the queue's vector is signalled. -/
  | coalesceTimeout (dt : Nat) (q : QueueId)
  /-- RECORD_FLUSH_TIMEOUT (R444): The record-flush time passes and the buffer being filled is retired. -/
  | recordFlushTimeout (dt : Nat) (q : QueueId)
  /-- RECORD_WRITE (R446): A staged record is written into a posted buffer once its destination has room and is ACTIVE. -/
  | recordWrite (dt : Nat) (ue : Bool)
  /-- DOWNLINK_FRAME (R22): Every 1.0 µs a downlink frame carries levels, conversion orders, a mailbox word and ARMED to a field die. -/
  | downlinkFrame (dt : Nat) (q : QuadId) (err : BitVec 200) (r : Readings)
  /-- UPLINK_FRAME (R23): An uplink frame delivers input states, conversion results, one sense code and diagnostic state to the logic die. -/
  | uplinkFrame (dt : Nat) (q : QuadId) (f : UpFrame)
  /-- FIELD_WATCHDOG_EXPIRY (R214): The silence time passes and the quadrant applies safe values, or switches off and releases in a pair. -/
  | fieldWatchdogExpiry (dt : Nat) (q : QuadId)
  /-- INPUT_ACCEPT (R128): A debounce run completes and the input accepts its new state. -/
  | inputAccept (dt : Nat) (c : ChanId) (r : Held Bool)
  /-- EDGE_LOCKOUT_END (R129): An EDGE-mode lockout ends and a differing sample is accepted as a new state. -/
  | edgeLockoutEnd (dt : Nat) (c : ChanId) (sample : Bool)
  /-- CURRENT_LIMIT (R174): A channel reaches its current limit. -/
  | currentLimit (dt : Nat) (r : Sensed ChanId Nat)
  /-- SHORT_LIMIT (R175): A channel in limit for 100 µs is switched off and SHORT_LIMIT raised. -/
  | shortLimit (dt : Nat) (c : ChanId)
  /-- OVERLOAD (R176): A channel at 0.75 A or more for OVTIME is switched off and OVERLOAD raised. -/
  | overload (dt : Nat) (r : Lasting ChanId Nat)
  /-- THERM_OFF (R192): A slice sensor reaching 170 °C switches the channel off. -/
  | thermOff (dt : Nat) (r : Sensed ChanId Int)
  /-- DIE_HOT (R193): The die sensor reaching 150 °C switches all 32 outputs off. -/
  | dieHot (dt : Nat) (r : Sensed QuadId Int)
  /-- DIE_HOT_CLEAR (R193): The die sensor falls to 135 °C and DIE_HOT is cleared. -/
  | dieHotClear (dt : Nat) (r : Sensed QuadId Int)
  /-- INRUSH_WINDOW_END (R180): An inrush window ends and the limit falls to normal. -/
  | inrushWindowEnd (dt : Nat) (c : ChanId)
  /-- REVERSE (R151): A land more than 1 V above L+ for 10 µs switches the driver off and raises REVERSE. -/
  | reverse (dt : Nat) (r : Lasting ChanId Int)
  /-- REVERSE_CLEAR (R152): The land stays at or below L+ + 0.5 V for a settle time and REVERSE clears, restarting an on channel. -/
  | reverseClear (dt : Nat) (r : Lasting ChanId Int)
  /-- RETRY_WINDOW_EXPIRY (R199): RWIN seconds without a thermal event clear the retry counter. -/
  | retryWindowExpiry (dt : Nat) (c : ChanId)
  /-- SETTLE_END (R145): A readback settle time ends and the readback is compared with the reference. -/
  | settleEnd (dt : Nat) (c : ChanId) (land : Bool)
  /-- READBACK_MISMATCH_CLEAR (R146): The land reads back high for a full settle time and the mismatch clears. -/
  | readbackMismatchClear (dt : Nat) (c : ChanId)
  /-- SHORT_LPLUS_CLEAR (R149): The land reads back low for a full settle time and SHORT_LPLUS clears. -/
  | shortLplusClear (dt : Nat) (c : ChanId)
  /-- OPEN_OFF (R188): The land stays above 4.0 V for 10 ms under off-state detection and OPEN_OFF is raised. -/
  | openOff (dt : Nat) (r : Lasting ChanId Nat)
  /-- OPEN_OFF_CLEAR (R188): The land stays at or below 3.0 V for 10 ms and OPEN_OFF clears. -/
  | openOffClear (dt : Nat) (r : Lasting ChanId Nat)
  /-- OPEN_ON (R189): The current stays below the threshold for 10 ms of on-time and OPEN_ON is raised. -/
  | openOn (dt : Nat) (r : Lasting ChanId Nat)
  /-- OPEN_ON_CLEAR (R189): The current stays at or above 1.25 times the threshold for 10 ms and OPEN_ON clears. -/
  | openOnClear (dt : Nat) (r : Lasting ChanId Nat)
  /-- OPEN_LOAD_RESUME (R190): 10 ms after the quadrant returns to NORMAL, open-load detection resumes. -/
  | openLoadResume (dt : Nat) (q : QuadId)
  /-- WIRE_BREAK (R133): The input current stays below 0.25 mA for 10 ms and WIRE_BREAK is raised. -/
  | wireBreak (dt : Nat) (r : Lasting ChanId Nat)
  /-- WIRE_BREAK_CLEAR (R133): The input current stays at or above 0.35 mA for 10 ms and WIRE_BREAK clears. -/
  | wireBreakClear (dt : Nat) (r : Lasting ChanId Nat)
  /-- WIRE_BREAK_RESUME (R134): 10 ms after the quadrant leaves UNDER or OVER, wire-break detection resumes. -/
  | wireBreakResume (dt : Nat) (q : QuadId)
  /-- LPLUS_LOW (R201): L+ below 19.2 V for 100 µs puts the quadrant in LOW and reduces its current budget. -/
  | lplusLow (dt : Nat) (r : Lasting QuadId Nat)
  /-- LPLUS_NORMAL (R201): L+ at or above 19.6 V for 10 ms returns the quadrant to NORMAL. -/
  | lplusNormal (dt : Nat) (r : Lasting QuadId Nat)
  /-- LPLUS_UNDER (R201): L+ below 16.0 V for 1 ms puts the quadrant in UNDER and switches its outputs off. -/
  | lplusUnder (dt : Nat) (r : Lasting QuadId Nat)
  /-- LPLUS_UNDER_EXIT (R204): L+ above 16.5 V for 10 ms ends UNDER and restarts on channels under AUTO. -/
  | lplusUnderExit (dt : Nat) (r : Lasting QuadId Nat) (full : Nat)
  /-- LPLUS_OVER (R201): L+ above 35.0 V for 10 µs puts the quadrant in OVER and switches its outputs off. -/
  | lplusOver (dt : Nat) (r : Lasting QuadId Nat)
  /-- LPLUS_OVER_EXIT (R204): L+ at or below 34.0 V for 10 ms ends OVER and restarts on channels under AUTO. -/
  | lplusOverExit (dt : Nat) (r : Lasting QuadId Nat) (full : Nat)
  /-- TEST_PULSE_START (R252): Buttress places an off-state test pulse into headroom. -/
  | testPulseStart (dt : Nat) (c : ChanId)
  /-- TEST_PULSE_END (R191): A 200 µs test pulse ends and a land that did not rise raises READBACK_MISMATCH;
  rose tells it of channel c and of a gang's odd channel. -/
  | testPulseEnd (dt : Nat) (c : ChanId) (rose : Bool × Bool)
  /-- SWITCH_ON_ADMIT (R241): Buttress tests a waiting switch-on request in the frame and admits it or keeps it waiting. -/
  | switchOnAdmit (dt : Nat) (q : QuadId)
  /-- DEFERRAL_LIMIT (R243): A request waits D_max and is admitted or refused under DPOL with OVERBUDGET. -/
  | deferralLimit (dt : Nat) (c : ChanId)
  /-- PULSE_EDGE (R219): A pulse generator reaches a period start or phase change and changes its channel's level. -/
  | pulseEdge (dt : Nat) (c : ChanId)
  /-- SAFE_PULSE_EDGE (R163): A field die's safe pulse train changes its channel's level. -/
  | safePulseEdge (dt : Nat) (c : ChanId)
  /-- SAFE_SWITCH_ON (R165): The field die switches up to two ON or PULSE channels on per frame without admission. -/
  | safeSwitchOn (dt : Nat) (q : QuadId)
  /-- SAFE_N_LOW (R169): SAFE_N low for 1 µs applies safe values in all four quadrants. -/
  | safeNLow (dt : Nat)
  /-- SAFE_N_CLEAR (R170): SAFE_N high for 1 ms clears the SAFE_N trigger. -/
  | safeNClear (dt : Nat)
  /-- ENCODER_EDGE (R267): A counted encoder or tooth edge updates the decoded count and the tracking observer;
  lv holds the new levels of ENC_A and ENC_B, held the ticks for which they stay. -/
  | encoderEdge (dt : Nat) (lv : Bool × Bool) (held : Nat)
  /-- REFERENCE_MARK (R262): A qualified index or gap references the engine or corrects its angle. -/
  | referenceMark (m : MarkEdge)
  /-- ENC_STALL (R269): No edge for STALL ms at speed raises the stall fault and the fault policy acts. -/
  | encStall (dt : Nat)
  /-- COAST_TIMEOUT (R271): TCOAST ends and a coasting engine enters SAFE. -/
  | coastTimeout (dt : Nat)
  /-- SWAP_DONE (R293): The angle crosses the swap wrap; SWAP_DONE and the COURSE_SWAP completion are written. -/
  | swapDone (dt : Nat)
  /-- COURSE_REFILL (R406): A lead class's prefetch refill of 16 entries arrives from the Vault. -/
  | courseRefill (dt : Nat) (b : CBankId) (lead : Nat) (bad : Option Nat)
  /-- TIMER_TRIGGER (R312): Device time reaches a TIMER slot's period point and the slot gets a pending trigger. -/
  | timerTrigger (dt : Nat) (q : QuadId) (i : Fin 64)
  /-- CONVERSION_START (R316): The converter becomes free and takes the next due conversion by priority. -/
  | conversionStart (dt : Nat) (p : Sensed QuadId Analog)
  /-- CONVERSION_RESULT (R319): A burst's result enters its accumulator, min-max tracker and filter chains. -/
  | conversionResult (dt : Nat) (q : QuadId) (injected : Bool)
  /-- CALIBRATION_START (R331): A quadrant's calibration starts once its converter is idle. -/
  | calibrationStart (dt : Nat) (q : QuadId)
  /-- CALIBRATION_END (R332): A quadrant's calibration ends, coefficients are applied and held triggers run. -/
  | calibrationEnd (dt : Nat) (q : QuadId) (found : Vector Coef 4)
  /-- FILTER_BATCH_TIMEOUT (R379): 1 ms after a batch's first output, the chain writes its FILTER_OUT record. -/
  | filterBatchTimeout (dt : Nat) (ch : ChainId)
  /-- SYNC_IN_EDGE (R375): An enabled SYNC_IN edge resets all running chains at a reset tick. -/
  | syncInEdge (dt : Nat) (rising : Bool)
  /-- SCRUB_REQUEST (R386): The scrubber requests the next line of a bank every 256 cycles and corrects single-bit errors. -/
  | scrubRequest (dt : Nat) (bank : Fin 4) (e : Ecc)
  /-- PLUMB_PASS_DUE (R549): A context's background pass falls due and starts. -/
  | plumbPassDue (dt : Nat) (x : CtxId)
  /-- PLUMB_PASS_END (R553): A background pass ends an object and compares it with its stored value. -/
  | plumbPassEnd (dt : Nat) (x : CtxId) (value : Word32) (storedUe : Bool)
  /-- PAIR_ROLE_DECISION (R499): At start-up a pair unit takes the role or enters STANDBY. -/
  | pairRoleDecision (dt : Nat)
  /-- HEARTBEAT_SEND (R504): Every HBPER a unit whose liveness gate passes sends a HEARTBEAT frame. -/
  | heartbeatSend (dt : Nat)
  /-- HB_OUT_TOGGLE (R505): HB_OUT toggles on AON ticks while the liveness gate passes. -/
  | hbOutToggle (dt : Nat)
  /-- HEARTBEAT (R504): A good HEARTBEAT frame arrives from the partner. -/
  | heartbeat (dt : Nat) (p : List Byte)
  /-- HB_IN_EDGE (R507): An edge arrives on HB_IN. -/
  | hbInEdge (dt : Nat)
  /-- PATH_LOSS (R507): A heartbeat path shows nothing for TMISS × HBPER and is lost. -/
  | pathLoss (dt : Nat) (zafifa : Bool)
  /-- TAKEOVER_DRIVE (R525): After the field dies synchronise, references are set and the new active unit drives outputs. -/
  | takeoverDrive (dt : Nat) (readback : Mask128)
  /-- HOST_RESUME (R527): The new active unit reconciles completions, writes INDOUBT and starts polling. -/
  | hostResume (dt : Nat) (phases : Vector Nat 64) (cids : List Word16)
  /-- LIVENESS_GATE_FAIL (R506): The liveness gate fails and both heartbeats stop and ACT_REQ_N is released. -/
  | livenessGateFail (dt : Nat)
  /-- ACT_GNT_LOW (R501): ACT_GNT_N low for 10 µs grants the role in an arbiter pair. -/
  | actGntLow (dt : Nat)
  /-- ACT_GNT_HIGH (R501): ACT_GNT_N high for 10 µs withdraws the role in an arbiter pair. -/
  | actGntHigh (dt : Nat)
  /-- RELEASE_EXPIRY (R529): TREL after losing the role, the unit sends ARMED = 0, stops its transformers and enters STANDBY. -/
  | releaseExpiry (dt : Nat)
  /-- CHECKPOINT_CAPTURE (R516): Every CPINT the active unit captures a checkpoint and sends its body. -/
  | checkpointCapture (dt : Nat)
  /-- YIELD (R503): A YIELD frame from the active unit hands the role to the standby. -/
  | yield (dt : Nat) (cause : Byte)
  /-- BODY (R503): A BODY frame writes checkpoint body data into the standby's Plinth. -/
  | body (dt : Nat) (addr : Word32) (data : List Byte)
  /-- DELTA (R513): A DELTA frame writes static-area data into the standby's delta buffer. -/
  | delta (dt : Nat) (addr : Word32) (data : List Byte)
  /-- LOG (R518): A LOG frame writes an index-log entry into the standby's Plinth. -/
  | log (dt : Nat) (e : Word64)
  /-- COMMIT (R515): A COMMIT frame writes a slot header into the standby's Plinth. -/
  | commit (dt : Nat) (header : List Byte)
  /-- ACK (R516): An ACK frame commits a log entry, delta or checkpoint at the active unit. -/
  | ack (dt : Nat) (v : Word32)
  /-- RESYNC_COMPLETE (R533): The static-area copy and its checkpoint are committed. -/
  | resyncComplete (dt : Nat)
  /-- HANDOVER_DRAINED (R536): Commands in flight complete or 10 ms pass, and the handover captures a final checkpoint and yields. -/
  | handoverDrained (dt : Nat)
  /-- SP_COLLIDE (R565): A foreign select falls during a transfer and the part releases the serial bus;
  sel holds the part's own select and the foreign one. -/
  | spCollide (dt : Nat) (sel : Fin 2 × Fin 3)
  /-- SERIAL_RETRY (R566): After the bus is free for TBUS, an aborted transfer is retried from its start. -/
  | serialRetry (dt : Nat)
  /-- XIP_READ (R563): A Mason read of the XIP window hits the prefetch buffer or fills a line from flash. -/
  | xipRead (dt : Nat) (addr : Nat) (line next : List Byte)
  /-- SLAVE_SELECT_FALL (R567): SP_SCS_N falls with SEN = 1 and a slave transaction begins. -/
  | slaveSelectFall (dt : Nat)
  /-- SLAVE_WORD (R569): A received slave word completes and enters the receive FIFO as one word is sent. -/
  | slaveWord (dt : Nat) (w : Word32)
  /-- SLAVE_SELECT_RISE (R568): SP_SCS_N rises, a partial word is discarded and the open record is staged. -/
  | slaveSelectRise (dt : Nat) (bits : Nat)
  /-- SIDEBAND_RECORD_TIMEOUT (R570): 100 µs without a completed word stages the open SIDEBAND_WORDS record. -/
  | sidebandRecordTimeout (dt : Nat)
  /-- D0_TO_D3HOT (R412): A host write of the power state moves the function from D0 to D3hot, after which the DN128 issues no memory request. -/
  | d0ToD3hot (dt : Nat)
  /-- LINK_RETURN_TO_L0 (R414): The PCI Express link returns from L1.2 or L2 to L0, and the DN128 releases WAKE_N. -/
  | linkReturnToL0 (dt : Nat)
  /-- FUNCTION_LEVEL_RESET_COMPLETE (R95): A function-level reset completes, at most 100 ms after it started, and its reset scope ends. -/
  | functionLevelResetComplete (dt : Nat)
  /-- COMMAND_DATA_READ_COMPLETE (R458): A read of host memory for command data (course table, coefficients, slot words, firmware part, scanned range) completes and the command continues. -/
  | commandDataReadComplete (dt : Nat) (q : QueueId) (n : Word32) (data : List Byte)
  /-- FLASH_PROGRAM_ERASE_COMPLETE (R579): A flash erase, program or read-back issued for FW_LOAD, INSTALL or ACTIVATE finishes on the serial bus. -/
  | flashProgramEraseComplete (dt : Nat) (ok : Bool)
  /-- PLUMB_SCAN_COMPLETE (R549): A running PLUMB_SCAN finishes its range and completes, and a background pass that fell due meanwhile starts. -/
  | plumbScanComplete (dt : Nat) (x : CtxId) (data : List Byte) (ue : Bool)
  /-- RNG_HEALTH_TEST_FAIL (R588): The random number generator's continuous health tests start failing, SEC_STATE.RNGOK falls and ATTEST is rejected. -/
  | rngHealthTestFail (dt : Nat)
  /-- RNG_HEALTH_TEST_PASS (R613): The random number generator passes its health tests again and RNGOK reads 1. -/
  | rngHealthTestPass (dt : Nat)
  /-- LIVENESS_GATE_PASS (R506): The liveness gate passes again, and the unit resumes HEARTBEAT frames and HB_OUT toggling. -/
  | livenessGatePass (dt : Nat)
  /-- CURRENT_LIMIT_EXIT (R206): A channel's current falls out of current limit before SHORT_LIMIT, which stops the 100 µs timer and ends the admission freeze. -/
  | currentLimitExit (dt : Nat) (c : ChanId)
  /-- OBSERVER_CAP (R267): The extrapolated angle reaches one count past the last edge without a new edge, so the observer holds the angle and sets speed to 0. -/
  | observerCap (dt : Nat)
deriving DecidableEq, Repr

end Sys2Proof
end

