-- ==== Sys2Proof/WellFormed.lean ====
section
/-!
DEFINITION. Which commands the bus can deliver at all: list operands of the lengths the rules give, and numbers inside
their ranges. A command that is not well-formed is a frame or access that no rule describes; it changes nothing but the
time that passed, and a rise of SP_SCS_N the level of the pin (log entry 2).
-/
namespace Sys2Proof

/-- The operands have the lengths and ranges of their rules. -/
def Instr.wellFormed : Instr → Bool
  | .descriptorFetch _ _ count => 1 ≤ count && count ≤ 8                       -- R432
  | .registerWrite _ off size _ => (size == 1 || size == 2 || size == 4 || size == 8) && off % size == 0   -- R606
  | .masonLoadWindow _ load => load ≤ 100                                      -- R597
  | .heartbeat _ p => p.length == 16                                           -- R504
  | .body _ _ data => 1 ≤ data.length && data.length ≤ 256                     -- R503
  | .delta _ _ data => 1 ≤ data.length && data.length ≤ 256                    -- R503
  | .commit _ header => header.length == 64                                    -- R515
  | .xipRead _ _ line next => line.length == 256 && next.length == 256         -- R563
  | .slaveSelectRise _ bits => bits < 32                                       -- R568
  | _ => true

end Sys2Proof
end

