-- ==== Sys2Proof/Config.lean ====
section
/-!
DEFINITION. What an implementation fixes and the values the manual leaves open: free values without a body,
so that no proof can lean on a number (log entries 6 to 12).
-/
namespace Sys2Proof.Config

/-- A fresh free value of any width: the k-th value the manual leaves undefined (log entry 6). -/
opaque freeNat : Nat → Nat
/-- A fresh byte string the manual leaves undefined (log entry 6). -/
opaque freeBytes : Nat → List Byte
/-- Digits of 2π from the sixteenth decimal on, in the observer's arithmetic, whose word lengths R267 does not give (log
entry 7). -/
opaque twoPiTail : Fin 1001
/-- 2π, between 6.283185307179586 and 6.283185307179587 (R267, log entry 7). -/
def twoPi : Rat := (6283185307179586000 + twoPiTail.val) / 1000000000000000000
/-- The sense code of a mean that is no whole code; R183 gives no rounding (log entry 7). -/
opaque roundSense : Rat → Nat
/-- Whether a converter value halfway between the codes k and k + 1 reads k + 1; the manual gives no rule for ties (log entry 104). -/
opaque codeTie : Int → Bool
/-- The 8-bit address and 24 data bits with which the mailbox carries part number p of a group of kind k (0 channel, 1
protection) of local channel i, and its bits when it carries none (kind 2); R22 gives the field and no codes (log entry 86). -/
opaque mailbox : (kind i part : Nat) → Word64 → Word32
/-- The 32-bit reading of an angle estimate that is no whole unit; R267 gives no rounding (log entry 7). -/
opaque roundAngle : Rat → Word32
/-- The 0.001 rpm reading of a speed estimate that is no whole count; R265 gives no rounding (log entry 7). -/
opaque roundSpeed : Rat → Int
/-- The integer an item of a data feature reports for a value that is no whole unit; R476 gives no rounding (log entry 7). -/
opaque roundItem : Rat → Int
/-- The ns reading of an interpolated stamp that is no whole ns; R372 gives no rounding (log entry 7). -/
opaque roundStamp : Rat → Int
/-- The resampler's ROM prototype c[p][m] in Q2.22; R358 gives its shape and not its words (log entry 8). -/
opaque proto : Nat → Nat → Int
/-- SHA-384 over a byte string; the manual names it and does not define it (R575, log entry 9). -/
opaque sha384 : List Byte → BitVec 384
/-- R576 step 4 on a certificate, against the root-key hash in OTP (log entry 9). -/
opaque certOk : List Byte → Bool
/-- R576 step 6: the signature (96 bytes) over header bytes 0–159 under the certificate's key (log entry 9). -/
opaque sigOk : List Byte → List Byte → List Byte → Bool
/-- The ATTEST signature with the identity key over report bytes 0–207, with the k-th secret (R585, log entry 9). -/
opaque attestSig : List Byte → Nat → List Byte
/-- The DER device certificate held in OTP (R574, log entry 9). -/
opaque deviceCert : List Byte
/-- The DER certificate of the device CA (R585, log entry 9). -/
opaque caCert : List Byte
/-- CODE and SOURCE of an event-log entry by event kind; R475 gives no codes (log entry 13). -/
opaque logCode : Nat → Nat
opaque logSource : Nat → Nat
/-- Version of the ROM loader (R103, log entry 10). -/
opaque romVer : Byte
/-- The part's serial number in OTP (R574, log entry 10). -/
opaque serial : Word64
/-- The value of the anti-rollback counter C that the part left manufacture with (R574, log entry 10). -/
opaque arcc0 : Fin 129
/-- true for DN128-AE, false for DN128-AX (R5, log entry 10). -/
opaque codeAE : Bool
/-- Rth_c that Mason takes from the k-th calibration, in 1/1,024 K/W (R233, log entry 11). -/
opaque calRth : Nat → ChanId → Nat
/-- Tau_c that Mason takes from the k-th calibration, in ns (R233, log entry 11). -/
opaque calTau : Nat → ChanId → Nat
/-- Kappa_q that Mason takes from the k-th calibration, in 1/65,536 (R233, log entry 11). -/
opaque calKappa : Nat → QuadId → Nat

/-- The number that an item of a data feature gives for a state, a reason, a cause or an absent value; R476 gives no codes
(log entry 6). -/
opaque itemCode : (kind value : Nat) → Nat
/-- Item number i of a kind in the Plinth region that begins at an offset; R512 and R514 list the contents and give no
layout below the region (log entry 6). -/
opaque plinthItem : List (Nat × Byte) → (base kind i : Nat) → Nat

/-- SPI mode 3 rather than 0 in a transfer of the DN128 as master: R559 names both (log entry 112). -/
opaque spiMode3 : Nat → Nat → Bool

end Sys2Proof.Config
end

