-- ==== Sys2Proof/Machine/Types.lean ====
section
/-!
DEFINITION. The parts of the machine's state as plain data: channels, quadrants, queues, records, the angle engine,
converters, filter chains, archive, Plumb, serial port, Mason, access tables and the redundant pair.
-/
namespace Sys2Proof.Machine

/-! ## Host interface -/

/-- Completion statuses (R462). -/
inductive Status where
  | done | partialDone | indoubt | doneLate | abortedQuiesce | abortedReset
  | rejField | rejAccess | rejCheck | rejAlive | rejState | rejBudget | rejBusy | rejCapacity
deriving DecidableEq, Repr

/-- States of a queue (R421). -/
inductive QState where
  | absent | active | draining | quiesced | error
deriving DecidableEq, Repr

/-- Why a queue is in ERROR (R429, R458). -/
inductive QErr where
  | sqidx | cqidx | fetch
deriving DecidableEq, Repr

/-- A descriptor in flight is fetching, staged (waiting to start) or started (R432, R435). -/
inductive FlightStage where
  | fetching | staged | started
deriving DecidableEq, Repr

/-- One descriptor in flight (R432). -/
structure Inflight where
  num : Word32
  desc : Desc
  stage : FlightStage
  /-- In a pair, the index-log entry of its fetch is committed (R518); true in single mode. -/
  logged : Bool
  /-- CFLAGS bit 2 of its completion (R438, R547). -/
  aresync : Bool
  /-- CFLAGS bit 1 of its completion (R438, R446). -/
  rdrop : Bool
  /-- Its place in the order in which the part has fetched descriptors (R42). -/
  ford : Nat
deriving DecidableEq, Repr

/-- A posted record buffer (R442–R444). -/
structure RecBuf where
  num : Word32
  addr : Word64
  len : Nat
  used : Nat
  /-- Device time at which its first record entered (R444). -/
  firstAt : Option Nat
deriving DecidableEq, Repr

/-- One queue (R420, R421). -/
structure Queue where
  st : QState
  cls : Fin 4
  weight : Nat
  vector : Fin 64
  sqlog : Nat
  cqlog : Nat
  ccnt : Nat
  ctime : Nat
  profile : Option CtxId
  hctx : Fin 8
  sqbase : Word64
  cqbase : Word64
  /-- Fetch index F (R421). -/
  f : Word32
  /-- Completion count W (R421). -/
  w : Word32
  /-- Last SQP and CQC taken (R427). -/
  sqp : Word32
  cqc : Word32
  flight : List Inflight
  err : Option QErr
  /-- Completions since the last signal, and the time of the oldest (R448). -/
  unsig : Nat
  oldest : Option Nat
  /-- Last accepted alive value V (R545) and alive resynchronisation (R547). -/
  alive : Word16
  resync : Bool
  bufs : List RecBuf
  /-- Descriptors fetched in the queue's present turn (R431). -/
  turn : Nat
deriving DecidableEq, Repr

/-- One MSI-X table entry and its pending bit (R619, R620). -/
structure MsixEntry where
  addr : Word64
  data : Word32
  mask : Bool
  pend : Bool
deriving DecidableEq, Repr

/-- A completion entry (R437). -/
structure Completion where
  cid : Word16
  status : Status
  aresync : Bool
  rdrop : Bool
  phase : Bool
  detail : Word32
  time : Nat
  result : Mask128
deriving DecidableEq, Repr

/-- What a FILTER_OUT record holds for one output (R380). -/
structure FOut where
  value : Int
  angle : Word32
  rev : Word32
  stamp : Nat
  flags : Word16
deriving DecidableEq, Repr

/-- The record of one archive slot's channel (R489). -/
structure SnapChan where
  levels : Byte
  dstate : Byte
  sense : Word16
  sage : Nat
deriving DecidableEq, Repr

/-- One archive slot (R489, R391). -/
structure ArchSlot where
  seq : Word32
  time : Nat
  angle : Word32
  rev : Word32
  speed : Int
  entry : Nat
  coasting : Bool
  lclass : Byte
  qstate : Byte
  chans : Vector SnapChan 128
deriving DecidableEq, Repr

/-- The records (R484–R493, R380). -/
inductive Record where
  | inputEdge (chan : ChanId) (eflags : Byte) (dropcnt : Nat) (time : Nat) (angle rev : Word32)
  | diag (chan : Nat) (code : Byte) (dflags : Byte) (dropcnt : Nat) (time : Nat) (sense : Word16) (retry : Nat) (dstate : Byte) (obinfo : Byte)
  | filterOut (chain : ChainId) (rflags : Word16) (time0 : Nat) (rev0 : Word32) (mcount dropcnt gdelay : Nat) (outs : List FOut)
  | acc (quad : QuadId) (cleared : Bool) (time : Nat) (bmask : BitVec 65) (blocks : List (List Byte))
  | courseMark (kind : Byte) (mflags : Byte) (dropcnt : Nat) (time : Nat) (angle rev : Word32) (speed : Int) (data0 data1 : Word32) (entry : Nat)
  | archive (slot : ArchSlot)
  | pairEvent (event : Byte) (role paths : Byte) (time : Nat) (cpseq : Word32) (cpage : Word32) (data : Word64)
  | sideband (width : Fin 4) (partcnt : Nat) (time : Nat) (words : List Word32)
  | masonStatus (shed : Byte) (load backlog : Nat) (time : Nat) (restarts : Nat) (throt : Bool)
  | fieldState (cause : Byte) (qvalid armed lclass safeact : Byte) (time : Nat) (readback drive owner fault : Mask128)
deriving DecidableEq, Repr

/-- What the DN128 sends to the host, in the order in which it forms it (R411, R446, R449): the completion entries,
records, feature data, MSI-X messages and read requests, and the data returned for a BAR0 read. -/
inductive HostOut where
  | completion (q : QueueId) (addr : Word64) (c : Completion)
  | record (q : QueueId) (buf : Word64) (off : Nat) (r : Record)
  | data (addr : Word64) (bytes : List Byte)
  | msix (v : VecId) (addr : Word64) (data : Word32)
  | pollRead (addr : Word64)
  | indexRead (addr : Word64)
  | fetchRead (q : QueueId) (addr : Word64) (first : Word32) (count : Nat)
  | dataRead (addr : Word64) (len : Nat)
  | readValue (v : Word32)
deriving DecidableEq, Repr

/-- Registers of the host interface and of the PCI Express function (R410–R419, R450, R451, R113, R605–R619). -/
structure HostRegs where
  aqSq : Word64
  aqCq : Word64
  aqSize : Word32
  dbBase : Word64
  poll : Word32
  aqen : Bool
  wign : Bool
  cfgerr : Bool
  devCause : Word32
  devEn : Word32
  wdLock : Bool
  wdExpired : Bool
  wdAct : Byte
  wdPeriod : Nat
  /-- Device time of the host watchdog's last restart (R109). -/
  wdLast : Nat
  /-- The watchdog has expired since its last restart and counts no more (R110). -/
  wdFired : Bool
  timeShadow : Word32
  /-- One shadow per SEC_ROW row: it lasts until the next read of that row's low word (R13, R14, R615). -/
  rowShadow : Vector Word32 22
  dbgShadow : Word32
  dbgUe : Bool
  dbgDeny : Bool
  dbgAinc : Bool
  dbgWen : Bool
  dbgAddr : BitVec 24
  jtag : Bool
  denyValid : Bool
  denyTarget : Byte
  denyMaster : BitVec 4
  denyKind : BitVec 2
  denyCount : Nat
  /-- The first denial of the present cycle (R614). -/
  denyNow : Byte × BitVec 4 × BitVec 2
  /-- W1C bits that the hardware set at the running time setAt: HI_DEVCAUSE's, then EXPIRED, WIGN, CFGERR, VALID, UE and DENY as
  bits 12 to 17 (R14). -/
  setBits : Word32
  setAt : Nat
  /-- Command-register bits and MSI-X Enable (R459, R449). -/
  bme : Bool
  mse : Bool
  msixEn : Bool
  d3hot : Bool
  perst : Bool
  flr : Bool
  /-- 0 down, 1 L0, 2 L1.2, 3 L2 (R413, R414). -/
  link : Fin 4
  wakeLow : Bool
  /-- A polled generation that differs from the accepted one (R427). -/
  genSeen : Option Word64
  gen : Word64
  pollOut : Bool
  indexOut : Bool
  /-- When the next poll is due (R418, R426). -/
  pollAt : Nat
  polledOnce : Bool
deriving DecidableEq, Repr

/-! ## Field channels -/

/-- Safe values (R163). -/
inductive SafeVal where
  | off | on | hold | pulse
deriving DecidableEq, Repr

/-- Protective causes that hold a channel off (R195, R208). -/
inductive OffCause where
  | none | short | overload | therm | dieHot
deriving DecidableEq, Repr

/-- A running pulse generator (R217–R229). -/
structure Gen where
  /-- The group that runs, with the duty of the present run, not yet held at DCAP (R222, R225). -/
  pulw : Word64
  start : Nat
  /-- Offset in PHASE units (R219, R227). -/
  phase : Nat
  /-- An admitted change: its group, and the end of the period in which it was admitted (R224). -/
  next : Option (Word64 × Nat)
  /-- A rise that Buttress has not admitted: its group, and the stored group that a refusal restores (R224). -/
  want : Option (Word64 × Word64)
  lvl : Bool
  /-- The first on-edge of the run has been driven (R178). -/
  edged : Bool
  /-- No period begins before this device time, the next start under a new offset, and the on-phase under way lasts until
  then (R228). -/
  hold : Nat
  onUntil : Nat
  /-- Currents in µA measured in the last on-phase, of the unit's channel and of a gang's odd one (R230, R231). -/
  measured : Option (Nat × Nat)
deriving DecidableEq, Repr

/-- A test pulse: none, placed by Buttress and on, or at its end, the driver still to follow (R191, R252). -/
inductive TestPhase where
  | idle | running | ending
deriving DecidableEq, Repr

/-- One channel: configuration in force, new groups on their way across the barrier, field-die and CORE state. -/
structure Chan where
  chw : Word64
  protw : Word64
  pulw : Word64
  budw : Word64
  /-- Groups accepted by CH_CONFIG and not yet in force (R124). -/
  chwNew : Option Word64
  protNew : Option Word64
  pulNew : Option Word64
  /-- Fetch order of the CH_CONFIG that carried pulNew (R42, R224). -/
  pulOrd : Nat
  /-- A channel budget word that applies from the next frame (R239). -/
  budwNew : Option Word64
  safe : SafeVal
  safePer : Nat
  safeDuty : Nat
  /-- A safe value with its period and duty that the die does not hold yet: defined while a safe level rules, it applies from
  the next trigger (R480); on a die that has kept its power through a reset, from its synchronisation (R85, R94). -/
  safeNew : Option (SafeVal × Nat × Nat)
  /-- Accepted input state in the field die, accepted at a lockout's end, end of the lockout (R128–R130). -/
  acc : Bool
  accLock : Bool
  lockUntil : Option Nat
  /-- The sample of the last acceptance; the state before that frame and the last acceptance before it (R23, R25); and the time
  from which a run of equal samples may count: the last acceptance or start of the filter (R125, R128). -/
  accAt : Nat
  accWas : Bool
  accWasAt : Nat
  filtAt : Nat
  /-- Input state as the last good uplink frame gave it, and the device time of its last change (R23, R27, R146, R149). -/
  inSt : Bool
  inAt : Nat
  /-- The mode has changed: the IN bits of frames before this one are not taken, and this one's without an edge (R125). -/
  inTake : Option Nat
  /-- The owner's reference (R38, R203), and the device time at which the level that CORE asks for last changed (R31). -/
  ref : Bool
  chgAt : Nat
  /-- The level of the last good downlink frame (R26), the driver level (R144) and the die time of its last change. -/
  cmd : Bool
  drv : Bool
  drvAt : Nat
  /-- Level at the instant the first safe-state trigger took effect (R213). -/
  held : Bool
  /-- The safe level is in force, by a trigger or until the owner's next command (R168, R213). -/
  safeOn : Bool
  /-- Running time at which the safe ON or PULSE train began, and whether the die has switched the channel on under R165
  since it was last held off. -/
  safeStart : Option Nat
  safeGate : Bool
  /-- The first on-edge of a safe PULSE train has been driven (R178). -/
  safeEdged : Bool
  /-- The channel became course-owned while an encoder fault's SAFE trigger acts, which does not act on it (R38). -/
  encOut : Bool
  /-- End of the readback settle time under way (R145); the readback of this phase is still to be checked (R148). -/
  settle : Option Nat
  checkDue : Bool
  /-- Standing diagnostics: bit k is code k of R210. -/
  standing : Word32
  cause : OffCause
  /-- Eighth of the last protective cause (R177). -/
  causeAt : Nat
  fault : Bool
  retry : Nat
  latch : Bool
  lastThermal : Nat
  coolUntil : Nat
  /-- The slice sensor reads 155 °C or more (R192, R197). -/
  sliceHot : Bool
  /-- In current limit since limFrom; the end of the last limit before (R175, R186). The 100 µs timer runs from limitSince. -/
  inLimit : Bool
  limFrom : Nat
  limTo : Option Nat
  limitSince : Nat
  /-- From when a run at the overload threshold may count: the last switch-on, limit or inrush window (R176, R180). -/
  ovFrom : Nat
  /-- End of the inrush window, its beginning, and the end of the last one (R178, R186); INRUSH_CUT has ended it (R181). -/
  inrush : Option Nat
  inrFrom : Nat
  inrTo : Option Nat
  inrushCut : Bool
  /-- INCEIL as it stood when the inrush window opened (R173). -/
  inceil : Nat
  reverse : Bool
  /-- Device time at which REVERSE was raised (R152), and at which the channel and protection groups last changed (R190). -/
  revAt : Nat
  grpAt : Nat
  /-- The sense range last changed at this device time (R183, R186). -/
  rangeAt : Nat
  /-- On-time under on-state detection, up to the last switch-off (R189). -/
  onAcc : Nat
  gen : Option Gen
  /-- The last sense code received, with the range, limit and inrush window of its measured frame (R184, R186). -/
  sense : BitVec 12
  senseFine : Bool
  senseLim : Bool
  senseInr : Bool
  senseAt : Nat
  dstate : BitVec 4
  /-- Modelled temperature rise and its parameters (R232, R233). -/
  dT : Rat
  rth : Nat
  tau : Nat
  /-- Runs of failing and clearing gang comparisons, on the even channel (R160, R161). -/
  gFail : Nat
  gClear : Nat
  gFresh : Bool
  /-- Test pulse, its end once the driver is on, the last one placed, and since when pulses are enabled (R191, R252). -/
  test : TestPhase
  testEnd : Option Nat
  testLast : Option Nat
  testFrom : Nat
  /-- Energies of switch-offs in the last second: (time, µJ) (R234). -/
  demag : List (Nat × Rat)
deriving DecidableEq, Repr

/-- L+ classes (R201, R23). -/
inductive LClass where
  | normal | low | under | over
deriving DecidableEq, Repr

/-- One word on its way to a field die through the mailbox (R22, R124). -/
inductive MboxWord where
  | chanGroup (c : ChanId) (part : Fin 4)
  | protGroup (c : ChanId) (part : Fin 4)
deriving DecidableEq, Repr

/-- One quadrant: field die, barrier link, supply class, budgets. -/
structure Quad where
  /-- Armed (R106); an accepted ARM waits for its first frame; ARMED of the last good downlink frame (R22). -/
  armed : Bool
  armReq : Bool
  dieArmed : Bool
  /-- Safe-state triggers of ranks 4, 5 and 7 acting on the quadrant (R212). -/
  fwTrig : Bool
  hwTrig : Bool
  disTrig : Bool
  /-- A DISARM waits for the die to synchronise (R108). -/
  disWait : Bool
  started : Option Nat
  sync : Bool
  /-- The die keeps its power and its settings from before a power-on reset until it synchronises again (R85). -/
  stale : Bool
  /-- Released by its field watchdog in a pair until the die synchronises again (R511). -/
  released : Bool
  lclass : LClass
  hot : Bool
  /-- LCLASS and HOT of the last good uplink frame (R23). -/
  lclassUp : LClass
  hotUp : Bool
  /-- Die time at which the class was entered (R201). -/
  classAt : Nat
  /-- Measured L+ in mV and die temperature in °C (R232, R236). -/
  lplus : Nat
  dieT : Rat
  supLatchPol : Bool
  /-- Outputs stay off under LATCH until FAULT_CLEAR (R204). -/
  supLatch : Bool
  /-- Standing quadrant diagnostics by code (R205, R193). -/
  standing : Word32
  /-- Silence time of the field watchdog in µs, and the running time of the last good downlink frame (R30, R214). -/
  silence : Nat
  /-- The silence time as set, which a die that kept its power takes when it synchronises (R85, R94). -/
  silenceSet : Nat
  lastGood : Option Nat
  /-- Downlink frames lost since the last good one, and the last one lost (R26, R315). -/
  lostRun : Nat
  lostFrame : Option Nat
  crcDown : Nat
  crcUp : Nat
  /-- Start of the earliest uplink frame of a run of lost ones (R28). -/
  lostFrom : Option Nat
  inDrop : Nat
  diagDrop : Nat
  /-- Until when open-load and wire-break detection are suspended, 0 when not, and since when they have run (R134, R190). -/
  olResume : Nat
  wbResume : Nat
  olFrom : Nat
  wbFrom : Nat
  qbudw : Word64
  qbudwNew : Option Word64
  deferred : Nat
  forced : Nat
  refused : Nat
  overHard : Nat
  testDelays : Nat
  /-- Device time since which the headroom has stayed at least 10 % (R252). -/
  headSince : Option Nat
  mbox : List MboxWord
  /-- Mailbox words filed, crossed, and acknowledged, since the die's synchronisation (R124). -/
  mboxFiled : Nat
  mboxDone : Nat
  mboxAcked : Nat
  /-- OUT levels of the last downlink frame (R22), and the last uplink frame delivered or lost (R23). -/
  outWas : BitVec 32
  upFrame : Option Nat
  frame : Nat
  frameSent : Bool
  safeFrame : Option Nat
  kappa : Nat
  statusMiss : Bool
deriving DecidableEq, Repr

/-- Where a switch-on request comes from (R42). -/
inductive ReqSrc where
  | courseHard (idx : Nat)
  | courseSoft (idx : Nat)
  | host (q : QueueId) (n : Word32)
  | config (ord : Nat)
  | restart
deriving DecidableEq, Repr

/-- What a switch-on request asks for (R41, R224, R226); held: a held safe level returns after UNDER or OVER (R204). -/
inductive ReqKind where
  | level
  | start (pulw : Word64)
  | raise
  | rejoin
  | held
deriving DecidableEq, Repr

/-- A switch-on request waiting at Buttress (R241–R248). -/
structure Req where
  chan : ChanId
  src : ReqSrc
  kind : ReqKind
  /-- First frame at Buttress, place within its group and frame (R42), and order of arrival (R241, R243). -/
  frame : Nat
  key : Nat
  seq : Nat
  /-- Firing of the course entry that it belongs to (R299). -/
  firing : Nat
  /-- Last frame in which it was tested; the first failing test, 0 before any (R241). -/
  tested : Option Nat
  failed : Nat
  /-- Commands whose waiting switch-on this one superseded; they count as applied late once it is decided (R247). -/
  olds : List (QueueId × Word32)
deriving DecidableEq, Repr

/-- Progress of an OUT_WRITE or OUT_PULSE (R246). -/
structure OutOp where
  named : Mask128
  todo : Mask128
  applied : Mask128
  refused : Mask128
  late : Bool
  capped : Nat
  /-- Quadrants whose next frame carries a level of the command (R140). -/
  quads : BitVec 4
  /-- Start of the last frame that carried one of its levels (R470). -/
  sentAt : Nat
deriving DecidableEq, Repr

/-- A fade under way or a pending swap (R365, R366). -/
structure Fade where
  toB : Bool
  k : Nat
  j : Nat
  who : Option (QueueId × Word32)
deriving DecidableEq, Repr

/-- What a command in flight waits for after it has started. -/
inductive OpKind where
  /-- OUT_WRITE or OUT_PULSE: channels undecided, or the frame of its last level not yet sent (R140, R246). -/
  | out (o : OutOp)
  /-- ARM: quadrants whose first frame with ARMED = 1 has not been sent; part: some named quadrants were rejected (R106, R481). -/
  | arm (todo done : BitVec 4) (part : Bool)
  /-- DISARM: quadrants whose first frame with ARMED = 0 has not been sent (R470). -/
  | disarm (todo done : BitVec 4)
  /-- CH_CONFIG: quadrants whose frame boundary has not brought the pulse group into force, those whose die has not
  acknowledged, and the mailbox words of each quadrant up to the command's last (R124). -/
  | chConfig (core todo : BitVec 4) (upto : List Nat)
  /-- Quadrant reset: quadrants still to reset, the one under way first (R98). -/
  | quadReset (todo : List QuadId)
  /-- QUEUE_QUIESCE or QUEUE_DELETE of a queue (R452, R457). -/
  | drain (target : QueueId) (delete : Bool)
  /-- A read of command data is outstanding (R458, R475, R482, R483). -/
  | data
  /-- COURSE_LOAD between its passes, with the CRC-32C of the first (R280, R281). -/
  | coursePass2 (crc : Word32)
  /-- SEQ_LOAD waiting for its frame boundary: slots and quadrant word (R311). -/
  | seqFrame (quad : QuadId) (slots : List (SlotId × Word64 × Word64)) (qw : Word64)
  /-- COURSE_SWAP that waits in a pair for the copy's commit (R513). -/
  | swapWait (immediate : Bool)
  /-- INJECT number id of the quadrant: slots whose results have not entered (R322). -/
  | inject (quad : QuadId) (id : Nat) (left hit : BitVec 65) (all : Bool) (time : Nat)
  /-- CALIBRATE: quadrants left, the one under way first; failed ranges (R330–R332). -/
  | cal (todo : List QuadId) (failed : BitVec 16)
  /-- COEF_SWAP that waits in a pair for the copy's commit (R513). -/
  | fadeWait (chain : ChainId) (f : Fade)
  /-- CHECKPOINT_NOW waiting for its commit (R516). -/
  | checkpoint
  /-- PAIR_CONTROL under way (R535, R536). -/
  | handover
  | resync
  /-- A flash or verification operation of FW_LOAD or FW_COMMIT (R579–R582). -/
  | flash
  /-- A configuration command whose delta is not yet committed, with its completion (R513). -/
  | delta (gen : Word32) (st : Status) (detail : Word32) (time : Nat) (result : Mask128)
deriving DecidableEq, Repr

/-- A started command that has not completed; live is false once its queue was reset, so that its completion is
lost (R96). -/
structure Op where
  q : QueueId
  n : Word32
  live : Bool
  kind : OpKind
deriving DecidableEq, Repr

/-! ## Angle engine and course -/

/-- States of the Course engine (table after R274). -/
inductive EState where
  | idle | unreferenced | running | coasting | frozen | safe
deriving DecidableEq, Repr

/-- Encoder faults (R269). -/
inductive EncFault where
  | illegal | index | stall
deriving DecidableEq, Repr

/-- Extrapolation under COAST (R271). -/
structure Coast where
  theta : Rat
  omega : Rat
  t : Nat
  until_ : Nat
deriving DecidableEq, Repr

/-- One segment of the tracking observer's estimate: its start, θ̂ and ω̂ there, and the decoded angle one count ahead, which
the estimate does not reach (R267). Angles are absolute: revolution × 2^32 + angle (R264); speeds are units per ns. -/
structure Seg where
  t : Nat
  th : Rat
  om : Rat
  lim : Rat
deriving DecidableEq, Repr

/-- The angle source, decoder and tracking observer. -/
structure Ang where
  srcw : Word64
  trkw : Word64
  refw : Word64
  st : EState
  /-- Decoded count since the base angle was set, and the base (R259, R262, R264). -/
  cnt : Int
  base : Rat
  /-- The present segment of the estimate, the one that began at the last counted edge, and earlier ones, newest first
  (kept 100 ms, for the stamps of R131). -/
  seg : Seg
  edgeSeg : Seg
  hist : List Seg
  /-- Times of the last counted edges, newest first, at most 8 (R267). -/
  edges : List Nat
  lvlA : Bool
  lvlB : Bool
  /-- ANGLE ticks in which the two lines last changed after the filter (R253, R269). -/
  chgA : Option Nat
  chgB : Option Nat
  /-- The generation of the delta whose commit completes an ANGLE_CONFIG that makes the engine RUNNING (R262, R513). -/
  refWait : Option Word32
  /-- Direction D and the extremes of θ̂ (R288). -/
  fwd : Bool
  hi : Rat
  lo : Rat
  /-- Revolution count as last seen, for the changes of R394. -/
  rev : Int
  /-- Count at the previous qualified index (R269). -/
  idxCnt : Option Int
  /-- The next index or gap is accepted without a check (R270). -/
  trustNext : Bool
  fault : Option EncFault
  coast : Option Coast
  /-- Earlier engine states with the instants at which they ended, newest first, kept 100 ms (R344). -/
  was : List (Nat × EState)
  /-- The engine has been RUNNING since R257, power-on reset or wake (R263). -/
  everRun : Bool
  /-- Teeth since the previous gap, the interval before the last tooth, and a gap that this tooth showed (R261). -/
  teeth : Nat
  lastInt : Nat
  gap : Bool
deriving DecidableEq, Repr

/-- One course entry (R275). -/
structure Entry where
  angle : Word32
  param : Word32
  lead : Word16
  action : Byte
  target : Byte
  flags : Byte
deriving DecidableEq, Repr

/-- One course bank and its bank word (R279). -/
structure CBank where
  entries : List Entry
  tcoast : Nat
  fpol : BitVec 2
  suspect : Bool
deriving DecidableEq, Repr

/-- A lead class being tracked: its effective lead in ns (R278, R290). -/
structure Front where
  bank : CBankId
  lead : Nat
  /-- The firing front: the extreme of λ since D last changed (R290). -/
  ext : Rat
  clamped : Bool
  /-- λ has crossed the wrap of the pending swap: the class has changed over (R292). -/
  changed : Bool
  /-- Prefetched entries left (R406). -/
  pre : Nat
deriving DecidableEq, Repr

/-- An entry that its class's front has passed and that has not fired yet, with the ANGLE tick in which λ reached it (R283, R285). -/
structure Due where
  tick : Nat
  bank : CBankId
  idx : Nat
deriving DecidableEq, Repr

/-- A pending swap: the wrap at which it applies, as an absolute revolution number, and who asked (R292). -/
structure Swap where
  wrap : Int
  who : Option (QueueId × Word32)
deriving DecidableEq, Repr

/-- The Course engine's banks and statistics (R275–R299). -/
structure Course where
  banks : Vector CBank 2
  active : CBankId
  swap : Option Swap
  fronts : List Front
  /-- Entries reached and not yet fired, in firing order (R285). -/
  due : List Due
  /-- ANGLE tick of the last firing (R285). -/
  lastFire : Option Nat
  /-- Entries whose Vault read met an uncorrectable error (R387). -/
  bad : List (CBankId × Nat)
  lastSnap : Option Nat
  /-- Number of the last firing, and the firings counted as refused or not applied already: R299 counts entries. -/
  firing : Nat
  counted : List Nat
  fired : Nat
  notApplied : Nat
  softRefused : Nat
  clamps : Nat
  snapDrop : Nat
  adcIgnored : Nat
  nIllegal : Nat
  nIndex : Nat
  nStall : Nat
  markDrop : Nat
deriving DecidableEq, Repr

/-! ## Measurement -/

/-- An accumulator block (R334, R335). -/
structure Acc where
  sum : Int
  ovr : Nat
  count : Nat
  miss : Nat
  flags : Word16
  min : Int
  max : Int
  last : Nat
deriving DecidableEq, Repr

/-- A sequence slot with its pending trigger (requested instant) and its block (R307, R314). -/
structure Slot where
  w0 : Word64
  w1 : Word64
  trig : Option Nat
  /-- The trigger was held through a calibration: its result is LATE (R331). -/
  held : Bool
  /-- The INJECT that the trigger belongs to (R322). -/
  tag : Option Nat
  acc : Acc
deriving DecidableEq, Repr

/-- One conversion of a burst: sampling instant, end of the conversion, the die's code, the code once an uplink frame has
brought it back, flags (R317, R325, R328). -/
structure Conv where
  at_ : Nat
  fin : Nat
  die : Nat
  code : Option Nat
  recovery : Bool
  settleTb : Bool
deriving DecidableEq, Repr

/-- A burst under way (R317): the slot's word W1 as it stood when the burst began, the requested instant, the conversions
still to start and those started, oldest first. -/
structure Burst where
  id : Nat
  slot : SlotId
  w1 : Word64
  req : Nat
  left : Nat
  convs : List Conv
  /-- A result of it was lost with an uplink frame, and the burst counted as missed (R27, R327). -/
  lost : Bool
  /-- Its trigger was held through a calibration (R331). -/
  held : Bool
  /-- The INJECT that it belongs to (R322). -/
  tag : Option Nat
deriving DecidableEq, Repr

/-- A quadrant's converter and slots (R301–R341). -/
structure Meas where
  slots : Vector Slot 65
  tdac : BitVec 12
  tdacAt : Nat
  tdacHeld : Option (BitVec 12)
  cal : Bool
  calSaved : BitVec 12
  /-- Offset and gain of each range that the die corrects with, relative to the factory's (R332, R333). -/
  coef : Vector Coef 4
  /-- The injected slot's words of an INJECT that wait for the frame boundary, with its requested instant and number (R320). -/
  injNew : Option (Word64 × Word64 × Nat × Nat)
  /-- The regular and the injected burst with conversions still to start (R316, R317). -/
  burst : Option Burst
  inj : Option Burst
  /-- Bursts all of whose conversions have started, oldest first, until their result enters (R319). -/
  wait : List Burst
  nextId : Nat
  busyUntil : Nat
  /-- Over-range conversions of the last 4 µs, input and sampling instant; the input of the last conversion when it was
  over-range (R325). -/
  ovrs : List (Nat × Nat)
  prevOvr : Option Nat
deriving DecidableEq, Repr

/-! ## Filter chains -/

/-- States of a chain (R354). -/
inductive CState where
  | quiesced | running | draining | suspended
deriving DecidableEq, Repr

/-- An input of a chain: value, stamp, angle (absolute, if valid) and flags as R381 places them (R343–R345). -/
structure CIn where
  x : Int
  stamp : Nat
  angle : Option Rat
  flags : Word16
deriving DecidableEq, Repr

/-- A stage-2 output with its stamp and absolute angle (R372). -/
structure S2 where
  y : Int
  stamp : Rat
  angle : Option Rat
  flags : Word16
deriving DecidableEq, Repr

/-- One filter chain (R342–R382). -/
structure Chain where
  c0 : Word64
  c1 : Word64
  c2 : Word64
  st : CState
  bankB : Bool
  coefA : List (BitVec 24)
  coefB : List (BitVec 24)
  fade : Option Fade
  pend : Option Fade
  integ : List Int
  comb : List Int
  cicPhase : Nat
  line : List Int
  firCount : Nat
  /-- Inputs since the reset, newest first, kept as far as the stamps of R372 need them; their number. -/
  ins : List CIn
  nIn : Nat
  /-- Stage-2 outputs since the reset, newest first (17 kept); their number. -/
  hist : List S2
  nS2 : Nat
  /-- Next TIME position in 24.24 fixed point (R368). -/
  pos : Nat
  /-- Highest grid point already output, as an absolute angle (R369). -/
  front : Option Rat
  angGap : Bool
  fifo : List CIn
  startAt : Nat
  reconf : Bool
  batch : List FOut
  batchAt : Nat
  mLast : Nat
  settled : Nat
  gaps : Nat
  overruns : Nat
  swapCollide : Nat
  undersampled : Nat
  suppressed : Nat
  dropped : Nat
  dropcnt : Nat
  suspectA : Bool
  suspectB : Bool
deriving DecidableEq, Repr

/-! ## Vault, archive, Plumb -/

/-- States of the archive (R393). -/
inductive AState where
  | recording | post | frozen
deriving DecidableEq, Repr

/-- The revolution archive (R391–R397). Valid slots, newest first. -/
structure Arch where
  word : Word64
  st : AState
  left : Nat
  slots : List ArchSlot
  nextSeq : Word32
  /-- Trigger: command, or diagnostic code with channel or quadrant (R397). -/
  trigCode : Nat
  trigNum : Nat
  trigTime : Nat
  trigRev : Word32
  trigSeq : Word32
  ignored : Nat
  dropped : Nat
  /-- The ARCHIVE_FREEZE that waits for FROZEN (R394). -/
  waiter : Option (QueueId × Word32)
deriving DecidableEq, Repr

/-- A Plumb context: schedule word without its counts, counts and scan (R540–R555). -/
structure Plumb where
  word : Word64
  misCnt : Nat
  eccCnt : Nat
  passCnt : Nat
  pass : Bool
  passAt : Nat
  passDue : Bool
  /-- The object the pass is at; objects a load has overtaken (R552). -/
  obj : Nat
  skip : List Nat
  /-- The PLUMB_SCAN that runs or waits on the context (R549). -/
  scan : Option (QueueId × Word32)
  scanWait : List (QueueId × Word32)
deriving DecidableEq, Repr

/-- ECC counts, scrub pointers and layout of the Vault (R385–R390). -/
structure Vault where
  layout : Word64
  corrected : Vector Nat 4
  uncorrected : Nat
  scrub : Vector Nat 4
  /-- Check table: stored values of course banks and coefficient banks (R551). -/
  cb : Vector Word32 2
  cfA : Vector Word32 16
  cfB : Vector Word32 16
deriving DecidableEq, Repr

/-! ## Serial port -/

/-- A flash as discovery found it: density, address width, read protocol, the clock in MHz that succeeded in step 5 of R560,
and its sequences (R560, R561). -/
structure FlashDev where
  density : Nat
  wide : Bool
  read : ReadMode
  clock : Nat
  contBits : Byte
  exit : List Byte
deriving DecidableEq, Repr

/-- A read transfer of the DN128 as master: select, clock in MHz, protocol, the command unless continuous-read mode omits it,
address and its bytes, the continuous-read mode bits when sent, mode and dummy clocks, data bytes (R559, R563, R564). -/
structure Xfer where
  sel : Fin 2
  clock : Nat
  proto : Proto
  cmd : Option Byte
  addr : Nat
  addrBytes : Nat
  contBits : Option Byte
  modeClks : Nat
  dummy : Nat
  data : Nat
deriving DecidableEq, Repr

/-- What the DN128 sends as master: a read, or the bytes of a command on a number of lines (R559, R560, R564). -/
inductive BusOp where
  | read (x : Xfer)
  | cmd (sel : Fin 2) (lanes : Nat) (bytes : List Byte)
deriving DecidableEq, Repr

/-- The serial port (R556–R572). -/
structure Serial where
  word : Word64
  colCnt : Nat
  ovfCnt : Nat
  undCnt : Nat
  txCut : Nat
  scs : Bool
  cs0 : Bool
  cs1 : Bool
  /-- Since when the three selects have all been high (R565). -/
  freeSince : Nat
  /-- A collision has aborted a transfer of the DN128 as master, and its retry has not begun (R565, R566). -/
  aborted : Bool
  /-- Received words with the device times at which they completed, and words to send (R569). -/
  rx : List (Word32 × Nat)
  tx : List Word32
  /-- Words put on SP_IO1 for the external master, oldest first (R567). -/
  miso : List Word32
  /-- The open SIDEBAND_WORDS record, its TIME, the last completed word, partial words discarded (R570). -/
  openRec : List Word32
  recAt : Nat
  lastWord : Nat
  partCnt : Nat
  /-- Prefetch lines by line number, most recently used first (R563). -/
  lines : List (Nat × List Byte)
  /-- What discovery found of the flash on SP_CS0_N and of the one on SP_CS1_N (R560, R561). -/
  flash : Vector (Option FlashDev) 2
  /-- The flash on SP_CS0_N is in continuous-read mode (R564). -/
  cont : Bool
  /-- What the DN128 has sent as master for the last access, oldest first (R559–R564). -/
  bus : List BusOp
deriving DecidableEq, Repr

/-! ## Mason and security -/

/-- Header fields of the image that runs (R575). -/
structure Image where
  vmaj : Word16
  vmin : Word16
  arc : Nat
  digest : BitVec 384
deriving DecidableEq, Repr

/-- A flash operation that an admin command waits for (R579–R582). -/
inductive FlashOp where
  | load | install | activate
deriving DecidableEq, Repr

/-- Mason, its firmware, load shedding and logs (R573–R604). -/
structure Mason where
  /-- GL_BOOT.STAGE and FAULT (R103). -/
  stage : BitVec 4
  fault : BitVec 4
  image : Image
  /-- The image bytes in Mason SRAM (ROM loader) or in the staging area (firmware), and where the next part starts. -/
  sram : List Byte
  staged : List Byte
  stagedOk : Bool
  hostLoaded : Bool
  arcc : Nat
  rngOk : Bool
  recovery : Bool
  /-- The admin command Mason serves and has not finished with (R641). -/
  busy : Option Word32
  flashOp : Option (FlashOp × Word32)
  restarts : Nat
  expiries : List Nat
  restarting : Bool
  shed : Fin 5
  highRun : Nat
  lowRun : Nat
  shedAt : Nat
  restoreAt : Nat
  load : Nat
  statusAt : Nat
  logShed : Nat
  /-- Event log, oldest first: time, code, source, data (R475). -/
  log : List (Nat × Nat × Nat × Nat)
  resetDiscards : Nat
  strapChanges : Nat
  /-- Strap changes that Mason records once its firmware runs again, oldest first (R59). -/
  strapWait : List (BitVec 5)
  /-- The flash image as far as it has been read, and the clock in MHz of its header's read (R560, R644). -/
  reading : List Byte
  loadClk : Nat
deriving DecidableEq, Repr

/-! ## Redundant pair -/

/-- Pair states (R498). -/
inductive PState where
  | single | starting | active | releasing | standby
deriving DecidableEq, Repr

/-- A frame on the Zafifa link (R503). -/
inductive ZFrame where
  | yield (cause : Byte)
  | heartbeat (state straps : Byte) (hbcnt : Word16) (epoch cfggen cpseq : Word32)
  | ack (v : Word32)
  | log (f : Word32) (queue tag : Byte)
  | delta (addr : Word32) (data : List Byte)
  | body (addr : Word32) (data : List Byte)
  | commit (header : List Byte)
deriving DecidableEq, Repr

/-- Contents of the partner's last HEARTBEAT frame (R504). -/
structure Partner where
  state : Byte
  straps : Byte
  hbcnt : Word16
  epoch : Word32
  cfggen : Word32
  cpseq : Word32
deriving DecidableEq, Repr

/-- One heartbeat path: last arrival, whether any arrived since power-on reset, present or lost, since when a lost path
shows arrivals again, present since the state was entered, losses (R507, R521). -/
structure HPath where
  last : Nat
  seen : Bool
  present : Bool
  lost : Bool
  goodSince : Option Nat
  ever : Bool
  losses : Nat
deriving DecidableEq, Repr

/-- A checkpoint captured and not yet committed: SEQ, CFGGEN of its body, FINAL, its header, whether COMMIT has been
sent, and the CHECKPOINT_NOW commands that it completes (R515, R516). -/
structure Capture where
  seq : Word32
  cfggen : Word32
  final : Bool
  header : List Byte
  sent : Bool
  who : List Word32
  /-- Index-log entries not yet committed at the capture, whose indices its body holds (R518). -/
  logs : List (Word32 × QueueId × Word32)
deriving DecidableEq, Repr

/-- The redundant pair (R494–R538). -/
structure Pair where
  st : PState
  peerAbsent : Bool
  lone : Bool
  gate : Bool
  hbOut : Bool
  hbcnt : Word16
  hbLast : Nat
  partner : Option Partner
  zaf : HPath
  hb : HPath
  mismatch : Bool
  degraded : Bool
  /-- Both heartbeats stopped by R530. -/
  mute : Bool
  /-- The partner's heartbeat has appeared after an absence, and no copy has started yet (R533). -/
  needResync : Bool
  timing : Word64
  /-- A pair-timing word accepted and not yet committed, with its delta's generation (R510). -/
  timingNew : Option (Word64 × Word32)
  gntN : Bool
  /-- A HANDOVER has released ACT_REQ_N (R536). -/
  handedOver : Bool
  /-- EPOCH and CFGGEN the unit holds, and the newest generation the partner acknowledged. -/
  epoch : Word32
  cfggen : Word32
  acked : Word32
  staticOk : Bool
  /-- Deltas sent and not yet committed: Plinth address, generation and the command that waits (R513). -/
  deltas : List (Word32 × Word32 × Option (QueueId × Word32))
  /-- Journal: last SEQ used, capture under way, times, log entries in the slot, newest committed (R516–R519). -/
  seq : Word32
  cap : Option Capture
  /-- A final checkpoint is to be captured (R530, R536). -/
  finalDue : Bool
  capAt : Nat
  capNow : Bool
  commitAt : Option Nat
  committedSeq : Option Word32
  logUsed : Nat
  /-- Index-log entries sent and not yet committed: Plinth address, queue and F (R518). -/
  logWait : List (Word32 × QueueId × Word32)
  nCommitted : Nat
  nAbandoned : Nat
  nLogFull : Nat
  /-- Commands that wait for a commit: CHECKPOINT_NOW. -/
  cpWaiters : List Word32
  /-- Loss of the role: t_L (R528); takeover: recognition t1 and cause (R521, R537). -/
  tl : Nat
  t1 : Option Nat
  cause : Nat
  /-- The journal slot that a takeover restored (R522, R525). -/
  slot : Option Nat
  /-- Times at which this unit's journal slots were committed, by slot (R522). -/
  slotTimes : List (Nat × Nat)
  /-- TAG of the log entry received last (R518). -/
  logTag : Option Byte
  /-- The first poll after a takeover counts as a change of GEN (R527). -/
  firstPoll : Bool
  driven : Bool
  /-- Channels that the takeover still has to switch on (R525). -/
  ons : List ChanId
  /-- A full copy of the static area is under way, with the PAIR_CONTROL it belongs to; bytes committed; a checkpoint has
  been committed after it (R533). -/
  resyncing : Option (Option Word32)
  resyncBytes : Nat
  resyncCp : Bool
  handover : Option Word32
  /-- Device time at which the handover was accepted (R536). -/
  handoverAt : Nat
  /-- Frames sent, oldest first. -/
  tx : List ZFrame
deriving DecidableEq, Repr

end Sys2Proof.Machine
end

