-- ==== Sys2Proof/Machine/State.lean ====
section
/-!
DEFINITION. The state of one DN128, the reasons a step can stop, and the state after power-on reset.
Every field is plain data. Times are nanoseconds: clock is the model's running time, device time is clock − zero (R11).
-/
namespace Sys2Proof.Machine

/-- The DN128. -/
structure State where
  /-- Commands that wait, first in, first out. The model's own field. -/
  pending : List Instr
  /-- Running time and the instant at which device time was 0 (R11). -/
  clock : Nat
  zero : Nat
  /-- Free values used so far. The model's own field (log entry 6). -/
  freeCtr : Nat
  /-- The internal power-on reset is held (R76). -/
  por : Bool
  /-- Logic rails above their thresholds: VAON, VIO, VCORE, VSER (R75, R76). -/
  rails : BitVec 4
  /-- VISO above its threshold (R83, R84). -/
  viso : Bool
  clk25 : Bool
  dormantReq : Bool
  dormant : Bool
  /-- GL_BOOT.CAUSE = 0b01 (R103). -/
  wokeDormant : Bool
  /-- Sampled straps as GL_BOOT[4:0], and the present levels (R57–R60). -/
  straps : BitVec 5
  strapsNow : BitVec 5
  throttled : Bool
  /-- The SAFE_N trigger acts, and the running time of its last low (R169, R170). -/
  safeN : Bool
  safeNAt : Nat
  /-- A SAFE trigger of the Course engine acts (rank 6 of R212). -/
  encSafe : Bool
  /-- A loss of VISO that has not ended (R83). -/
  visoLost : Bool
  /-- Device budget word (R238). -/
  devw : Word64
  devwNew : Option Word64
  /-- Power monitors in mW (R234). -/
  logicMw : Nat
  visoMw : Nat
  /-- Feature words: FAULT_N class mask, sync, record flush in µs, record routes by type − 1 (R477). -/
  faultMask : BitVec 5
  syncw : BitVec 4
  flush : Nat
  routes : Vector Byte 10
  host : HostRegs
  msix : Vector MsixEntry 68
  queues : Vector Queue 64
  /-- Writes and requests issued towards the host, and those that wait for Bus Master Enable, oldest first (R411, R459). -/
  out : List HostOut
  outWait : List HostOut
  /-- Record staging, oldest first, with the command that a record belongs to (R446, R447). -/
  staging : List (Record × Option (QueueId × Word32))
  /-- A FIELD_STATE record is due, with its CAUSE (R97, R83). -/
  fieldDue : Option Byte
  ops : List Op
  chans : Vector Chan 128
  quads : Vector Quad 4
  /-- Requests waiting at Buttress, and the number given to the next one (R241). -/
  reqs : List Req
  reqSeq : Nat
  /-- Number given to the next descriptor fetched (R42). -/
  fetchSeq : Nat
  ang : Ang
  course : Course
  meas : Vector Meas 4
  chains : Vector Chain 16
  /-- Last reset tick of the chains, merged resets, end of the SYNC_OUT pulse (R374–R376). -/
  syncTick : Option Nat
  syncMerged : Nat
  syncOut : Nat
  arch : Arch
  vault : Vault
  plumb : Vector Plumb 8
  serial : Serial
  mason : Mason
  /-- Access-table rows in ascending target number, their lock, the configuration generation (R587–R596). -/
  rows : Vector Word64 22
  locked : Bool
  cfgGen : Word32
  pair : Pair
  /-- Plinth store: bytes that are not 0, by rising offset (R512). -/
  plinth : List Host.Cell
deriving DecidableEq, Repr

/-- Why the machine stops. -/
inductive Fault where
  /-- Raised by REGISTER_WRITE: the offset lies outside BAR0's 1 MiB (R410, R605), so no register is named. Safe. -/
  | outsideBar0 (off : Nat)
  /-- Raised by XIP_READ: the offset lies outside the 64 MiB XIP window (R562). Safe. -/
  | outsideXip (addr : Nat)
  /-- Raised by BODY and DELTA: bytes outside the 2 MiB Plinth store (R512). Safe. -/
  | outsidePlinth (addr : Nat)
deriving DecidableEq, Repr

/-- Why a command gets no meaning. -/
inductive Refusal where
  /-- Raised by a row of the dispatch that has no meaning yet. Safe. -/
  | notModelled (mnemonic : String)
deriving DecidableEq, Repr

namespace Reset

/-- Channel group after reset: SETTLE 200, DEBOUNCE 3,000, MODE INPUT (R120). -/
def chw : Word64 := 0x000000C80BB80001
/-- Protection group after reset (R171). -/
def protw : Word64 := BitVec.ofNat 64 (8 * 2^56 + 10 * 2^46 + 40 * 2^37 + 20 * 2^29 + 50 * 2^17 + 10 * 2^10 + 10 * 2^4)
/-- Pulse group after reset: DUTY 512, PERIOD 1,000 (R217). -/
def pulw : Word64 := BitVec.ofNat 64 (512 * 2^20 + 1000)
/-- Channel budget word after reset: DCAP 1,024, DMAX 20, INOM 50 (R237). -/
def budw : Word64 := BitVec.ofNat 64 (1024 * 2^32 + 20 * 2^16 + 50)
/-- Quadrant budget word after reset: KINR 2, PBUD 160, IBUD 1,200 (R238). -/
def qbudw : Word64 := BitVec.ofNat 64 (2 * 2^32 + 160 * 2^16 + 1200)
/-- Device word after reset: TAMB 85, or 105 on DN128-AE (R238). -/
def devw : Word64 := if Config.codeAE then 105 else 85
/-- Source word after reset (R253). -/
def srcw : Word64 := BitVec.ofNat 64 (2 * 2^56 + 0x3FFF * 2^24 + 1 * 2^22 + 36 * 2^12 + 1 * 2^8 + 1 * 2^3)
/-- Tracking word after reset (R254). -/
def trkw : Word64 := BitVec.ofNat 64 (10 * 2^35 + 50 * 2^25 + 6 * 2^21 + 4 * 2^13 + 500)
/-- Pair-timing word after reset (R509). -/
def pairw : Word64 := BitVec.ofNat 64 (20 * 2^46 + 10 * 2^36 + 100 * 2^22 + 3 * 2^17 + 100)
/-- Plumb schedule word of context x after reset (R540). -/
def plumbw (x : Fin 8) : Word64 :=
  BitVec.ofNat 64 (1000 * 2^20 + (if x = 6 then 1 else if x = 7 then 2 else 0) * 2^18 + 1 * 2^8 + 3)
/-- Serial-port word after reset (R557). -/
def serialw : Word64 := BitVec.ofNat 64 (10 * 2^24 + 0xFF * 2^16 + 2^7 + 2^6)
/-- Chain word C0 after reset: CICN 1 (R347). -/
def c0 : Word64 := BitVec.ofNat 64 (1 * 2^10)
/-- Chain word C1 after reset: RATE 0x0000_0100_0000 (R348). -/
def c1 : Word64 := 0x1000000
/-- Vault layout after reset: ARCH 128, RSTG 64, DSTG 16 (R389). -/
def layout : Word64 := BitVec.ofNat 64 (128 * 2^16 + 64 * 2^8 + 16)
/-- Archive word after reset: POST 4 (R392). -/
def archw : Word64 := BitVec.ofNat 64 (4 * 2^8)
/-- Every access-table row after reset (R591). -/
def row : Word64 := 0x0077777777777777

def queue : Queue :=
  { st := .absent, cls := 0, weight := 0, vector := 0, sqlog := 0, cqlog := 0, ccnt := 0, ctime := 0, profile := none,
    hctx := 0, sqbase := 0, cqbase := 0, f := 0, w := 0, sqp := 0, cqc := 0, flight := [], err := none, unsig := 0,
    oldest := none, alive := 0, resync := false, bufs := [], turn := 0 }

def msixEntry : MsixEntry := { addr := 0, data := 0, mask := true, pend := false }

def host : HostRegs :=
  { aqSq := 0, aqCq := 0, aqSize := 0, dbBase := 0, poll := 20, aqen := false, wign := false, cfgerr := false,
    devCause := 0, devEn := 0xFFF, wdLock := false, wdExpired := false, wdAct := 0, wdPeriod := 0, wdLast := 0,
    wdFired := false, timeShadow := 0, rowShadow := .replicate 22 0, dbgShadow := 0, dbgUe := false, dbgDeny := false,
    dbgAinc := false, dbgWen := false, dbgAddr := 0, jtag := false, denyValid := false, denyTarget := 0,
    denyMaster := 0, denyKind := 0, denyCount := 0, denyNow := (0, 0, 0), setBits := 0, setAt := 0, bme := false, mse := false, msixEn := false, d3hot := false,
    perst := false, flr := false, link := 1, wakeLow := false, genSeen := none, gen := 0, pollOut := false,
    indexOut := false, pollAt := 0, polledOnce := false }

def chan : Chan :=
  { chw := chw, protw := protw, pulw := pulw, budw := budw, chwNew := none, protNew := none, pulNew := none,
    pulOrd := 0, budwNew := none, safe := .off, safePer := 250, safeDuty := 0, safeNew := none, acc := false, accLock := false,
    lockUntil := none, accAt := 0, accWas := false, accWasAt := 0, filtAt := 0, inSt := false, inAt := 0, inTake := none, ref := false,
    chgAt := 0, cmd := false, drv := false, drvAt := 0, held := false, safeOn := false, safeStart := none, safeGate := false,
    safeEdged := false, encOut := false, settle := none, checkDue := false, standing := 0, cause := .none, causeAt := 0,
    fault := false, retry := 0, latch := false, lastThermal := 0, coolUntil := 0, sliceHot := false, inLimit := false,
    limFrom := 0, limTo := none, limitSince := 0, ovFrom := 0, inrush := none, inrFrom := 0, inrTo := none,
    inrushCut := false, inceil := 50, reverse := false, revAt := 0, grpAt := 0, rangeAt := 0, onAcc := 0, gen := none, sense := 0,
    senseFine := false, senseLim := false, senseInr := false, senseAt := 0, dstate := 0, dT := 0, rth := 61440,
    tau := 5000000, gFail := 0, gClear := 0, gFresh := false, test := .idle, testEnd := none, testLast := none,
    testFrom := 0, demag := [] }

/-- A quadrant after reset, with the silence time of its mode in µs (R214). -/
def quad (silence : Nat) : Quad :=
  { armed := false, armReq := false, dieArmed := false, fwTrig := false, hwTrig := false, disTrig := false, disWait := false, started := none,
    sync := false, stale := false, released := false, lclass := .normal, hot := false, lclassUp := .normal, hotUp := false,
    classAt := 0, lplus := 0, dieT := 25,
    supLatchPol := false, supLatch := false, standing := 0, silence := silence, silenceSet := silence, lastGood := none, lostRun := 0,
    lostFrame := none, crcDown := 0,
    crcUp := 0, lostFrom := none, inDrop := 0, diagDrop := 0, olResume := 0, wbResume := 0, olFrom := 0,
    wbFrom := 0, qbudw := qbudw,
    qbudwNew := none, deferred := 0, forced := 0, refused := 0, overHard := 0, testDelays := 0, headSince := none,
    mbox := [], mboxFiled := 0, mboxDone := 0, mboxAcked := 0, outWas := 0, upFrame := none, frame := 0, frameSent := false, safeFrame := none,
    kappa := 6554, statusMiss := false }

def seg : Seg := { t := 0, th := 0, om := 0, lim := 0 }
def ang : Ang :=
  { srcw := srcw, trkw := trkw, refw := 0, st := .idle, cnt := 0, base := 0, seg := seg, edgeSeg := seg, hist := [],
    edges := [], lvlA := false, lvlB := false, chgA := none, chgB := none, refWait := none, fwd := true, hi := 0, lo := 0, rev := 0, idxCnt := none, trustNext := true,
    fault := none, coast := none, was := [], everRun := false, teeth := 0, lastInt := 0, gap := false }

/-- An empty course bank after reset: COUNT 0, TCOAST 100, FPOL FREEZE (R279). -/
def cbank : CBank := { entries := [], tcoast := 100, fpol := 0, suspect := false }

def course : Course :=
  { banks := .replicate 2 cbank, active := 0, swap := none, fronts := [], due := [], lastFire := none, bad := [], lastSnap := none, firing := 0, counted := [], fired := 0,
    notApplied := 0, softRefused := 0, clamps := 0, snapDrop := 0, adcIgnored := 0, nIllegal := 0, nIndex := 0,
    nStall := 0, markDrop := 0 }

def acc : Acc := { sum := 0, ovr := 0, count := 0, miss := 0, flags := 0, min := 0, max := 0, last := 0 }
def slot : Slot := { w0 := 0, w1 := 0, trig := none, held := false, tag := none, acc := acc }

def meas : Meas :=
  { slots := .replicate 65 slot, tdac := 0, tdacAt := 0, tdacHeld := none, cal := false, calSaved := 0, coef := .replicate 4 { off := 0, gain := 0 },
    injNew := none, burst := none,
    inj := none, wait := [], nextId := 0, busyUntil := 0, ovrs := [], prevOvr := none }

def chain : Chain :=
  { c0 := c0, c1 := c1, c2 := 0, st := .quiesced, bankB := false, coefA := List.replicate 256 0,
    coefB := List.replicate 256 0, fade := none, pend := none, integ := [], comb := [], cicPhase := 0, line := [],
    firCount := 0, ins := [], nIn := 0, hist := [], nS2 := 0, pos := 0, front := none, angGap := false,
    fifo := [], startAt := 0, reconf := false, batch := [], batchAt := 0, mLast := 0, settled := 0, gaps := 0,
    overruns := 0, swapCollide := 0, undersampled := 0, suppressed := 0, dropped := 0, dropcnt := 0,
    suspectA := false, suspectB := false }

def arch : Arch :=
  { word := archw, st := .recording, left := 0, slots := [], nextSeq := 0, trigCode := 0, trigNum := 0, trigTime := 0,
    trigRev := 0, trigSeq := 0, ignored := 0, dropped := 0, waiter := none }

/-- CRC-32C of 256 zero words and of the empty string, which the check table holds after reset (R551, R539). -/
def crcZeros : Word32 := 0xEEAEDE7C
def vault : Vault :=
  { layout := layout, corrected := .replicate 4 0, uncorrected := 0, scrub := .replicate 4 0,
    cb := .replicate 2 0, cfA := .replicate 16 crcZeros, cfB := .replicate 16 crcZeros }

def plumb (x : Fin 8) : Plumb :=
  { word := plumbw x, misCnt := 0, eccCnt := 0, passCnt := 0, pass := false, passAt := 0, passDue := false, obj := 0,
    skip := [], scan := none, scanWait := [] }

def serial : Serial :=
  { word := serialw, colCnt := 0, ovfCnt := 0, undCnt := 0, txCut := 0, scs := true, cs0 := true, cs1 := true,
    freeSince := 0, aborted := false, rx := [], tx := [], miso := [], openRec := [], recAt := 0,
    lastWord := 0, partCnt := 0, lines := [], flash := .replicate 2 none, cont := false, bus := [] }

def image : Image := { vmaj := 0, vmin := 0, arc := 0, digest := 0 }

def mason : Mason :=
  { stage := 0, fault := 0, image := image, sram := [], staged := [], stagedOk := false, hostLoaded := false,
    arcc := Config.arcc0.val, rngOk := true, recovery := false, busy := none, flashOp := none, restarts := 0,
    expiries := [], restarting := false, shed := 0, highRun := 0, lowRun := 0, shedAt := 0, restoreAt := 0, load := 0,
    statusAt := 0, logShed := 0, log := [], resetDiscards := 0, strapChanges := 0, strapWait := [],
    reading := [], loadClk := 100 }

def hpath : HPath := { last := 0, seen := false, present := false, lost := false, goodSince := none, ever := false, losses := 0 }

def pair : Pair :=
  { st := .single, peerAbsent := false, lone := false, gate := true, hbOut := false, hbcnt := 0, hbLast := 0,
    partner := none, zaf := hpath, hb := hpath, mismatch := false, degraded := false, mute := false, needResync := false, timing := pairw,
    timingNew := none, gntN := true, handedOver := false, epoch := 0, cfggen := 0, acked := 0, staticOk := false,
    deltas := [], seq := 0, cap := none, finalDue := false, capAt := 0, capNow := false, commitAt := none,
    committedSeq := none, logUsed := 0, logWait := [], nCommitted := 0, nAbandoned := 0, nLogFull := 0, cpWaiters := [],
    tl := 0, t1 := none, cause := 0, slot := none, slotTimes := [], logTag := none, firstPoll := false, driven := false,
    ons := [], resyncing := none, resyncBytes := 0, resyncCp := false, handover := none, handoverAt := 0, tx := [] }

end Reset

/-- The DN128 right after its power-on reset is released in single mode with BOOTSRC 0b10 (R94): device time 0,
the ROM loader at its start, every field die still unpowered, every queue ABSENT, nothing pending. -/
def State.reset : State :=
  { pending := [], clock := 0, zero := 0, freeCtr := 0, por := false, rails := 0xF, viso := true, clk25 := true,
    dormantReq := false, dormant := false, wokeDormant := false, straps := 0b10000, strapsNow := 0b10000,
    throttled := false, safeN := false, safeNAt := 0, encSafe := false, visoLost := false, devw := Reset.devw, devwNew := none,
    logicMw := 0, visoMw := 0, faultMask := 0, syncw := 0, flush := 1000, routes := .replicate 10 0,
    host := Reset.host, msix := .replicate 68 Reset.msixEntry, queues := .replicate 64 Reset.queue,
    out := [], outWait := [], staging := [], fieldDue := none, ops := [], chans := .replicate 128 Reset.chan,
    quads := .replicate 4 (Reset.quad 1000), reqs := [], reqSeq := 0, fetchSeq := 0, ang := Reset.ang, course := Reset.course,
    meas := .replicate 4 Reset.meas, chains := .replicate 16 Reset.chain, syncTick := none, syncMerged := 0,
    syncOut := 0, arch := Reset.arch, vault := Reset.vault, plumb := .ofFn Reset.plumb, serial := Reset.serial,
    mason := Reset.mason, rows := .replicate 22 Reset.row, locked := false, cfgGen := 0, pair := Reset.pair,
    plinth := [] }

end Sys2Proof.Machine
end

