-- ==== Sys2Proof/Machine/Crc.lean ====
section
/-!
DEFINITION. The check polynomials of Plumb (R539), bit by bit, and byte strings of words (R8).
-/
namespace Sys2Proof.Machine

/-- The parameters of one polynomial (R539). -/
structure CrcParams where
  width : Nat
  poly : Nat
  init : Nat
  refl : Bool
  xorOut : Nat

/-- Reverse the low n bits. -/
def revBits (n v : Nat) : Nat :=
  (List.range n).foldl (fun r i => if v.testBit i then r ||| (1 <<< (n - 1 - i)) else r) 0

/-- One byte into the register, most significant bit first. -/
def crcByte (p : CrcParams) (r b : Nat) : Nat :=
  (List.range 8).foldl (fun r i =>
    let top := (r.testBit (p.width - 1)) != (b.testBit (7 - i))
    let r := (r <<< 1) % 2 ^ p.width
    if top then r ^^^ p.poly else r) r

/-- The check value over a byte string, bytes in ascending address order (R539). -/
def crc (p : CrcParams) (bs : List Byte) : Nat :=
  let r := bs.foldl (fun r b => crcByte p r (if p.refl then revBits 8 b.toNat else b.toNat)) p.init
  (if p.refl then revBits p.width r else r) ^^^ p.xorOut

/-- The parameters of POLY; none for the reserved codes 0b101–0b111 (R539, R540). -/
def polyParams : Nat → Option CrcParams
  | 0 => some ⟨8, 0x1D, 0xFF, false, 0xFF⟩
  | 1 => some ⟨16, 0x1021, 0xFFFF, false, 0⟩
  | 2 => some ⟨32, 0x04C11DB7, 0xFFFFFFFF, true, 0xFFFFFFFF⟩
  | 3 => some ⟨32, 0x1EDC6F41, 0xFFFFFFFF, true, 0xFFFFFFFF⟩
  | 4 => some ⟨64, 0x42F0E1EBA9EA3693, 0, false, 0⟩
  | _ => none

/-- CRC-32C (R539). -/
def crc32c (bs : List Byte) : Word32 := BitVec.ofNat 32 (crc ⟨32, 0x1EDC6F41, 0xFFFFFFFF, true, 0xFFFFFFFF⟩ bs)
/-- CRC-8, polynomial 0x1D (R22, R518, R539). -/
def crc8 (bs : List Byte) : Byte := BitVec.ofNat 8 (crc ⟨8, 0x1D, 0xFF, false, 0xFF⟩ bs)

/-- The n little-endian bytes of a number (R8). -/
def leBytes : Nat → Nat → List Byte
  | 0, _ => []
  | n + 1, v => BitVec.ofNat 8 v :: leBytes n (v / 256)

/-- The number that little-endian bytes spell (R8). -/
def leNat : List Byte → Nat
  | [] => 0
  | b :: bs => b.toNat + 256 * leNat bs

/-- Bytes lo to lo + n − 1 of a byte string, absent ones as 0. -/
def slice (bs : List Byte) (lo n : Nat) : List Byte :=
  (List.range n).map fun i => bs.getD (lo + i) 0

/-- A little-endian field of a byte string. -/
def fieldAt (bs : List Byte) (lo n : Nat) : Nat := leNat (slice bs lo n)

/-- The bytes of a 200-bit frame from bit 199 down to bit 8, over which its CRC-8 runs (R22, R23). -/
def frameBytes (f : BitVec 200) : List Byte :=
  (List.range 24).map fun i => f.extractLsb' (192 - 8 * i) 8

/-- A frame's CRC field agrees with its contents (R22, R23). -/
def frameCrcOk (f : BitVec 200) : Bool := f.extractLsb' 0 8 == crc8 (frameBytes f)

end Sys2Proof.Machine
end

