-- ==== Sys2Proof/Machine/Operands.lean ====
section
/-!
DEFINITION. The operand forms: descriptor bytes and their reserved fields (R433, R434, R469), and the fields of every
configuration word with the checks that their rules make.
-/
namespace Sys2Proof.Machine

/-- Bits [lo + len − 1 : lo] of a word as a number (R8). -/
def fld {n : Nat} (w : BitVec n) (lo len : Nat) : Nat := (w.extractLsb' lo len).toNat
/-- One bit of a word. -/
def bit {n : Nat} (w : BitVec n) (i : Nat) : Bool := w.getLsbD i
/-- A word with bits [lo + len − 1 : lo] replaced. -/
def putFld {n : Nat} (w : BitVec n) (lo len v : Nat) : BitVec n :=
  let m : BitVec n := BitVec.ofNat n ((2 ^ len - 1) <<< lo)
  (w &&& ~~~m) ||| (BitVec.ofNat n (v <<< lo) &&& m)
/-- One-bit number of a Boolean. -/
def b2n (b : Bool) : Nat := if b then 1 else 0
/-- A mask with exactly the bits that hold. -/
def maskOf (n : Nat) (p : Nat → Bool) : BitVec n :=
  (List.range n).foldl (fun m i => if p i then m ||| BitVec.ofNat n (1 <<< i) else m) 0

/-! ## Descriptors -/

/-- Byte i of a descriptor (R433). -/
def dByte (d : Desc) (i : Nat) : Byte := d.extractLsb' (8 * i) 8
/-- The number in len bytes at offset off of a descriptor (R8). -/
def dNum (d : Desc) (off len : Nat) : Nat := fld d (8 * off) (8 * len)
def d32 (d : Desc) (off : Nat) : Word32 := d.extractLsb' (8 * off) 32
def d64 (d : Desc) (off : Nat) : Word64 := d.extractLsb' (8 * off) 64
def dMask (d : Desc) (off : Nat) : Mask128 := d.extractLsb' (8 * off) 128
/-- OPCODE (R433). -/
def dOp (d : Desc) : Nat := dNum d 0 1
/-- CID (R433). -/
def dCid (d : Desc) : Word16 := d.extractLsb' 16 16
/-- FLAGS: FENCE, NOCOAL and bit 4 of CSPEC (R434). -/
def dFence (d : Desc) : Bool := bit d 8
def dNocoal (d : Desc) : Bool := bit d 9
def dCspec (d : Desc) : Bool := bit d 12
/-- ALIVE and CHECK (R433). -/
def dAlive (d : Desc) : Word16 := d.extractLsb' 448 16
def dCheck (d : Desc) : Word32 := d.extractLsb' 480 32
/-- Bytes 0–59, over which CHECK runs (R433). -/
def dBytes60 (d : Desc) : List Byte := (List.range 60).map fun i => dByte d i

/-- The descriptor's bytes that a command uses: (offset, size) pairs; FLAGS bit 4 when cspec. The offset of the first
non-zero reserved byte, if any (R9, R434, R465, R469). -/
def reservedByte (d : Desc) (profiled cspec : Bool) (used : List (Nat × Nat)) : Option Nat :=
  let flagBad := fld d 10 2 != 0 || fld d 13 3 != 0 || (!cspec && bit d 12)
  if flagBad then some 1 else
  (List.range 64).find? fun i =>
    4 ≤ i && dByte d i != 0 &&
    !(used.any fun u => u.1 ≤ i && i < u.1 + u.2) &&
    !(profiled && (i == 56 || i == 57 || 60 ≤ i))

/-- Opcodes of the configuration set (R435). -/
def isConfigOp (op : Nat) : Bool :=
  [0x20, 0x23, 0x24, 0x25, 0x26, 0x27, 0x30, 0x31, 0x32, 0x38, 0x3A, 0x40, 0x41, 0x42].contains op
/-- Admin opcodes, accepted only on queue 0 (R422). -/
def isAdminOp (op : Nat) : Bool := 1 ≤ op && op ≤ 0x0E
/-- The opcodes of R470 that queues 1–63 accept. -/
def isIoOp (op : Nat) : Bool :=
  [0x20, 0x21, 0x22, 0x23, 0x24, 0x25, 0x26, 0x27, 0x30, 0x31, 0x32, 0x38, 0x39, 0x3A, 0x3B, 0x40, 0x41, 0x42, 0x43,
   0x48, 0x49, 0x4A, 0x50, 0x58].contains op

/-! ## Channel group (R120) -/

def chLoadl (w : Word64) : Nat := fld w 48 11
def chSettle (w : Word64) : Nat := fld w 32 14
def chDebounce (w : Word64) : Nat := fld w 16 16
def chSlew (w : Word64) : Nat := fld w 11 2
def chGang (w : Word64) : Bool := bit w 10
def chEdgerep (w : Word64) : Nat := fld w 8 2
def chWben (w : Word64) : Bool := bit w 7
def chEdgeMode (w : Word64) : Bool := bit w 6
def chItype (w : Word64) : Nat := fld w 4 2
def chCourse (w : Word64) : Bool := bit w 3
def chMode (w : Word64) : Nat := fld w 0 3
def chIsInput (w : Word64) : Bool := chMode w == 1
def chIsOutput (w : Word64) : Bool := chMode w == 2
def chIsAnalogue (w : Word64) : Bool := chMode w == 3

/-- R121 step 1 on a channel group for channel c. -/
def chwBad (w : Word64) (c : Nat) : Bool :=
  4 ≤ chMode w || chItype w == 3 || chSlew w == 3 || chSettle w < 20 || 10000 < chSettle w ||
  (chGang w && (c % 2 == 1 || !chIsOutput w)) || fld w 59 5 != 0 || fld w 46 2 != 0 || fld w 13 3 != 0

/-! ## Protection group (R171) -/

def prRlim (w : Word64) : Nat := fld w 56 8
def prRwin (w : Word64) : Nat := fld w 46 10
def prLatch (w : Word64) : Bool := bit w 45
def prOlthn (w : Word64) : Nat := fld w 37 8
def prOlthf (w : Word64) : Nat := fld w 29 8
def prInrush (w : Word64) : Nat := fld w 23 6
def prInceil (w : Word64) : Nat := fld w 17 6
def prTcool (w : Word64) : Nat := fld w 10 7
def prOvtime (w : Word64) : Nat := fld w 4 6
def prTpen (w : Word64) : Bool := bit w 3
def prOlon (w : Word64) : Bool := bit w 2
def prOloff (w : Word64) : Bool := bit w 1
def prFine (w : Word64) : Bool := bit w 0

/-- R172: a field outside its stated range. -/
def protwBad (w : Word64) : Bool :=
  prRwin w < 1 || 600 < prRwin w || prOlthn w < 10 || 200 < prOlthn w || prOlthf w < 5 || 200 < prOlthf w ||
  50 < prInrush w || prTcool w < 1 || prOvtime w < 1

/-! ## Pulse group (R217) -/

def puStart (w : Word64) : Bool := bit w 47
def puSpn (w : Word64) : Nat := fld w 43 4
def puSpread (w : Word64) : Bool := bit w 42
def puPhase (w : Word64) : Nat := fld w 32 10
def puDuty (w : Word64) : Nat := fld w 20 11
def puPeriod (w : Word64) : Nat := fld w 0 20

/-- R218. -/
def pulwBad (w : Word64) : Bool :=
  puPeriod w < 250 || 1000000 < puPeriod w || 1024 < puDuty w || 8 < puSpn w || fld w 48 16 != 0 || bit w 31

/-! ## Budget words (R237, R238) -/

def buDcap (w : Word64) : Nat := fld w 32 11
def buRefuse (w : Word64) : Bool := bit w 24
def buDmax (w : Word64) : Nat := fld w 16 8
def buIpeak (w : Word64) : Nat := fld w 8 8
def buInom (w : Word64) : Nat := fld w 0 8
def qbKinr (w : Word64) : Nat := fld w 32 4
def qbPbud (w : Word64) : Nat := fld w 16 9
def qbIbud (w : Word64) : Nat := fld w 0 11
/-- TAMB, signed °C (R238). -/
def dvTamb (w : Word64) : Int := (w.extractLsb' 0 8).toInt

/-- R239 on a channel budget word. -/
def budwBad (w : Word64) : Bool :=
  buDcap w < 1 || 1024 < buDcap w || 200 < buDmax w || fld w 43 21 != 0 || fld w 25 7 != 0
/-- R239 on a quadrant budget word. -/
def qbudwBad (w : Word64) : Bool :=
  qbKinr w < 1 || 8 < qbKinr w || qbPbud w < 5 || 300 < qbPbud w || qbIbud w < 50 || 1600 < qbIbud w ||
  fld w 36 28 != 0 || fld w 25 7 != 0 || fld w 11 5 != 0
/-- R239 on the device word: −40 °C to the top of the code's range. -/
def devwBad (ae : Bool) (w : Word64) : Bool :=
  fld w 8 56 != 0 || dvTamb w < -40 || (if ae then 105 else 85) < dvTamb w

/-! ## Angle words (R253–R255) -/

def srZtol (w : Word64) : Nat := fld w 56 8
/-- CPR is CPRM1 + 1 (R259). -/
def srCpr (w : Word64) : Nat := fld w 24 24 + 1
def srTmiss (w : Word64) : Nat := fld w 22 2
def srTeeth (w : Word64) : Nat := fld w 12 10
def srFilt (w : Word64) : Nat := fld w 8 4
def srInv (w : Word64) : Bool := bit w 7
def srZgate (w : Word64) : Nat := fld w 4 3
def srZuse (w : Word64) : Bool := bit w 3
def srSrc (w : Word64) : Nat := fld w 0 2
def trVstall (w : Word64) : Nat := fld w 35 16
def trStall (w : Word64) : Nat := fld w 25 10
def trGapr (w : Word64) : Nat := fld w 21 4
def trHyst (w : Word64) : Nat := fld w 13 8
def trBw (w : Word64) : Nat := fld w 0 13
def rfAngle (w : Word64) : Nat := fld w 0 32

/-- R256 on the source word. -/
def srcwBad (w : Word64) : Bool :=
  fld w 48 8 != 0 || bit w 2 || srSrc w == 3 || (1 ≤ srZgate w && srZgate w ≤ 3) || srTmiss w == 0 ||
  srTeeth w < 8
/-- R256 on the tracking word. -/
def trkwBad (w : Word64) : Bool :=
  fld w 51 13 != 0 || trVstall w < 1 || 60000 < trVstall w || trStall w < 1 || 1000 < trStall w ||
  trGapr w < 5 || trHyst w < 1 || trBw w < 50 || 5000 < trBw w
/-- R255: bits [63:32] reserved. -/
def refwBad (w : Word64) : Bool := fld w 32 32 != 0
/-- R256: the two TOOTH conditions on the words together. -/
def toothBad (s t : Word64) : Bool :=
  srSrc s == 2 && (srTeeth s < 4 * srTmiss s || 4 * srTmiss s + 3 < trGapr t)

/-! ## Course entries (R275–R280) -/

def bwCount (w : Word64) : Nat := fld w 32 14
def bwTcoast (w : Word64) : Nat := fld w 2 10
def bwFpol (w : Word64) : BitVec 2 := w.extractLsb' 0 2
/-- R280 step 1 on a bank word. -/
def bankwBad (w : Word64) : Bool :=
  fld w 46 18 != 0 || fld w 12 20 != 0 || bwFpol w == 3 || bwTcoast w < 1 || 1000 < bwTcoast w || 8192 < bwCount w

def enHard (e : Entry) : Bool := bit e.flags 2
def enDir (e : Entry) : Nat := fld e.flags 0 2
/-- Actions on one channel (R277). -/
def enChanAction (e : Entry) : Bool := 1 ≤ e.action.toNat && e.action.toNat ≤ 5
/-- Latency of an action in ns (R277). -/
def enLatency (e : Entry) : Nat := if e.action.toNat < 0x11 then 1600 else 0
/-- Effective lead in ns (R278). -/
def enLead (e : Entry) : Nat := e.lead.toNat * 1000 + enLatency e

/-- One entry of a table in host memory: the entry, and whether its reserved bytes are 0 (R275). -/
def entryAt (bs : List Byte) (i : Nat) : Entry × Bool :=
  ({ angle := BitVec.ofNat 32 (fieldAt bs (16 * i) 4), param := BitVec.ofNat 32 (fieldAt bs (16 * i + 4) 4),
     lead := BitVec.ofNat 16 (fieldAt bs (16 * i + 8) 2), action := bs.getD (16 * i + 10) 0,
     target := bs.getD (16 * i + 11) 0, flags := bs.getD (16 * i + 12) 0 },
   fieldAt bs (16 * i + 13) 3 == 0)

/-- The bytes of an entry (R275). -/
def entryBytes (e : Entry) : List Byte :=
  leBytes 4 e.angle.toNat ++ leBytes 4 e.param.toNat ++ leBytes 2 e.lead.toNat ++ [e.action, e.target, e.flags, 0, 0, 0]

/-- R280 step 1 on an entry by itself. -/
def entryBad (e : Entry) (rsvdZero : Bool) : Bool :=
  let a := e.action.toNat
  let t := e.target.toNat
  !rsvdZero || fld e.flags 3 5 != 0 || enDir e == 3 ||
  !([1, 2, 3, 4, 5, 6, 0x10, 0x11, 0x12, 0x13].contains a) ||
  (if a ≤ 5 then 128 ≤ t else if a == 6 then 16 ≤ t else if a == 0x10 then false else t != 0) ||
  (if a == 4 then fld e.param 11 20 != 0 || 1024 < fld e.param 0 11
   else if a == 6 then fld e.param 8 24 != 0 else if a == 0x12 then false else e.param != 0)

/-- The channels an entry targets (R36). -/
def entryChans (e : Entry) : List ChanId :=
  (List.finRange 128).filter fun c =>
    if enChanAction e then c.val == e.target.toNat else e.action.toNat == 6 && c.val / 8 == e.target.toNat

/-! ## Sequence slots (R301–R310) -/

def slOsr (w : Word64) : Nat := fld w 56 8
def slDelay (w : Word64) : Nat := fld w 36 20
def slTch (w : Word64) : Nat := fld w 31 5
def slTedge (w : Word64) : Nat := fld w 29 2
def slTper (w : Word64) : Nat := fld w 9 20
def slTrig (w : Word64) : Nat := fld w 6 3
def s1Test (w : Word64) : Bool := bit w 15
def s1Defer (w : Word64) : Bool := bit w 14
def s1Recx (w : Word64) : Bool := bit w 13
def s1Align (w : Word64) : Bool := bit w 12
def s1Acc (w : Word64) : Bool := bit w 9
def s1Mm (w : Word64) : Bool := bit w 10
def s1Chains (w : Word64) : Bool := bit w 11
def s1Range (w : Word64) : Nat := fld w 6 2
def s1Insel (w : Word64) : Nat := fld w 0 6

/-- R301: the range is allowed for the input. -/
def rangeOk (insel range : Nat) : Bool :=
  if insel < 0x20 then range != 2 || insel % 2 == 0
  else if insel == 0x20 then range == 0 else if insel == 0x21 then range == 1
  else range == 0 || range == 1

/-- R310 step 1 on a slot's words. -/
def slotBad (w0 w1 : Word64) : Bool :=
  fld w0 0 6 != 0 || 5 ≤ slTrig w0 || slTedge w0 == 3 || fld w1 16 48 != 0 || bit w1 8 || 0x24 ≤ s1Insel w1 ||
  !rangeOk (s1Insel w1) (s1Range w1) || (s1Test w1 && 0x20 ≤ s1Insel w1) ||
  (slTrig w0 == 3 && (slTper w0 < 2 || 1000000 < slTper w0))

/-- R309: reserved bits of the quadrant word. -/
def qwBad (w : Word64) : Bool := fld w 13 51 != 0

/-! ## Chain words (R347–R350) -/

def cEnable (w : Word64) : Bool := bit w 0
def cQsrc (w : Word64) : Nat := fld w 1 2
def cSsrc (w : Word64) : Nat := fld w 3 7
def cN (w : Word64) : Nat := fld w 10 3
def cR (w : Word64) : Nat := fld w 13 8 + 1
def cT (w : Word64) : Nat := fld w 21 8 + 1
def cD (w : Word64) : Nat := fld w 29 4 + 1
def cUser (w : Word64) : Bool := bit w 33
def cGd (w : Word64) : Nat := fld w 34 16
def oAngle (w : Word64) : Bool := fld w 62 2 == 1
def oSuppress (w : Word64) : Bool := bit w 61
def oBatch (w : Word64) : Nat := fld w 55 6 + 1
def oRatio (w : Word64) : Nat := fld w 0 48
def oPoints (w : Word64) : Nat := fld w 0 12 + 1
def cFsmax (w : Word64) : Nat := fld w 0 21

/-- R350 step 1. -/
def chainBad (c0 c1 c2 : Word64) : Bool :=
  fld c0 50 14 != 0 || cN c0 == 0 || 6 ≤ cN c0 || 64 < cSsrc c0 || 2 ≤ fld c1 62 2 || fld c1 48 7 != 0 ||
  (if oAngle c1 then fld c1 12 36 != 0 else oRatio c1 < 2 ^ 24) || fld c2 21 43 != 0 || 2000000 < cFsmax c2 ||
  (cEnable c0 && cFsmax c2 == 0)

/-! ## Feature words -/

def ptTrel (w : Word64) : Nat := fld w 46 10
def ptCpint (w : Word64) : Nat := fld w 36 10
def ptStale (w : Word64) : Nat := fld w 22 14
def ptTmiss (w : Word64) : Nat := fld w 17 5
def ptHbper (w : Word64) : Nat := fld w 0 14
/-- R510: REJ_FIELD conditions of the pair-timing word; times in µs. -/
def ptBad (w : Word64) : Bool :=
  fld w 56 8 != 0 || fld w 14 3 != 0 || ptTrel w < 8 || 1000 < ptTrel w || ptCpint w < 1 || 1000 < ptCpint w ||
  ptStale w < 2 || 10000 < ptStale w || ptTmiss w < 2 || 16 < ptTmiss w || ptHbper w < 50 || 10000 < ptHbper w ||
  ptTrel w * 1000 < (ptTmiss w + 1) * ptHbper w + 7000 || ptStale w < 2 * ptCpint w

def plSper (w : Word64) : Nat := fld w 20 16
def plTarget (w : Word64) : Nat := fld w 18 2
def plStep (w : Word64) : Nat := fld w 8 8
def plAwid (w : Word64) : Nat := fld w 3 2
def plPoly (w : Word64) : Nat := fld w 0 3
/-- Width of the alive counter in bits, 0 for none (R540). -/
def plWidth (w : Word64) : Nat := [0, 4, 8, 16].getD (plAwid w) 0
/-- R541: REJ_FIELD conditions, the RO fields aside. -/
def plBad (w : Word64) : Bool :=
  5 ≤ plPoly w || plTarget w == 3 || fld w 36 3 != 0 || fld w 16 2 != 0 || fld w 5 3 != 0 || plSper w < 10 ||
  60000 < plSper w || plStep w < 1 || (plAwid w != 0 && 2 ^ plWidth w ≤ plStep w) || (plTarget w != 0 && plPoly w != 3)

def spTbus (w : Word64) : Nat := fld w 24 8
def spFill (w : Word64) : Byte := w.extractLsb' 16 8
def spMclk (w : Word64) : Nat := fld w 8 2
def spMmen (w : Word64) : Bool := bit w 7
def spCrm (w : Word64) : Bool := bit w 6
def spSwid (w : Word64) : Nat := fld w 4 2
def spSen (w : Word64) : Bool := bit w 2
/-- Slave word width in bits (R557). -/
def spBits (w : Word64) : Nat := 8 * 2 ^ spSwid w
/-- R558: REJ_FIELD conditions, the RO fields aside. -/
def spBad (w : Word64) : Bool := spMclk w == 3 || spSwid w == 3 || spTbus w == 0 || fld w 10 6 != 0 || fld w 0 2 != 0

def laArch (w : Word64) : Nat := fld w 16 8
def laRstg (w : Word64) : Nat := fld w 8 8
def laDstg (w : Word64) : Nat := fld w 0 8
/-- R390: REJ_FIELD conditions of the layout word. -/
def laBad (w : Word64) : Bool :=
  fld w 24 40 != 0 || 192 < laArch w || laRstg w < 16 || 128 < laRstg w || laDstg w < 4 || 32 < laDstg w ||
  238 < laArch w + laRstg w + laDstg w

def arPost (w : Word64) : Nat := fld w 8 8
def arMask (w : Word64) : BitVec 5 := w.extractLsb' 0 5
def arBad (w : Word64) : Bool := fld w 16 48 != 0 || fld w 5 3 != 0

end Sys2Proof.Machine
end

