-- ==== Sys2Proof/Machine/Flags.lean ====
section
/-!
DEFINITION. Access to the parts of the state, and the status words the hardware computes from it: sense word (R186),
uplink diagnostic state (R208), FAULT_N (R211), and the words of GL_BOOT, GL_ID, HI_STATUS and SEC_STATE.
-/
namespace Sys2Proof.Machine
open Sys2Proof

/-! ## Parts of the state -/

def State.chan (s : State) (c : ChanId) : Chan := s.chans[c]
def State.quad (s : State) (q : QuadId) : Quad := s.quads[q]
def State.queue (s : State) (q : QueueId) : Queue := s.queues[q]
def State.modChan (s : State) (c : ChanId) (f : Chan → Chan) : State :=
  { s with chans := s.chans.set c (f s.chans[c]) }
def State.modQuad (s : State) (q : QuadId) (f : Quad → Quad) : State :=
  { s with quads := s.quads.set q (f s.quads[q]) }
def State.modQueue (s : State) (q : QueueId) (f : Queue → Queue) : State :=
  { s with queues := s.queues.set q (f s.queues[q]) }
def State.modHost (s : State) (f : HostRegs → HostRegs) : State := { s with host := f s.host }
def State.modAng (s : State) (f : Ang → Ang) : State := { s with ang := f s.ang }
def State.modCourse (s : State) (f : Course → Course) : State := { s with course := f s.course }
def State.modMeas (s : State) (q : QuadId) (f : Meas → Meas) : State := { s with meas := s.meas.set q (f s.meas[q]) }
def State.modChain (s : State) (k : ChainId) (f : Chain → Chain) : State :=
  { s with chains := s.chains.set k (f s.chains[k]) }
def State.modArch (s : State) (f : Arch → Arch) : State := { s with arch := f s.arch }
def State.modPlumb (s : State) (x : CtxId) (f : Plumb → Plumb) : State := { s with plumb := s.plumb.set x (f s.plumb[x]) }
def State.modSerial (s : State) (f : Serial → Serial) : State := { s with serial := f s.serial }
def State.modMason (s : State) (f : Mason → Mason) : State := { s with mason := f s.mason }
def State.modPair (s : State) (f : Pair → Pair) : State := { s with pair := f s.pair }

/-- Device time in ns; it stands at 0 while the power-on reset holds it (R11, R94). -/
def State.now (s : State) : Nat := if s.por then 0 else s.clock - s.zero
/-- The field dies' time, which runs on while the logic die is in power-on reset (R85). -/
def State.dieNow (s : State) : Nat := s.clock - s.zero
/-- Number of the present barrier frame (R20). -/
def State.frameNo (s : State) : Nat := s.now / 1000
/-- Start of the present barrier frame (R20). -/
def State.frameStart (s : State) : Nat := 1000 * s.frameNo
/-- Time passes before a command: dt ticks of the 125 MHz ANGLE clock (R11, log entry 1). -/
def State.elapse (s : State) (dt : Nat) : State := { s with clock := s.clock + 8 * dt }
/-- The next free value (log entry 6). -/
def State.fresh (s : State) : Nat := Config.freeNat s.freeCtr
def State.useFresh (s : State) : State := { s with freeCtr := s.freeCtr + 1 }

/-! ## Straps, roles, throttling -/

def State.bootsrc (s : State) : Nat := fld s.straps 3 2
def State.redmode (s : State) : Nat := fld s.straps 1 2
def State.roleB (s : State) : Bool := bit s.straps 0
/-- Heartbeat or arbiter pair (R60, R494). -/
def State.inPair (s : State) : Bool := s.redmode == 1 || s.redmode == 2
/-- The unit holds the role, or needs none (R498). -/
def State.holdsRole (s : State) : Bool := s.pair.st == .single || s.pair.st == .active
/-- The unit is active in a pair (R498). -/
def State.pairActive (s : State) : Bool := s.pair.st == .active
/-- The active unit journals to its partner; nothing reaches a partner whose Zafifa path is not present (R508, log entry
29). -/
def State.journals (s : State) : Bool := s.pairActive && s.pair.zaf.present
/-- The logic die runs: neither in power-on reset nor in DORMANT. -/
def State.up (s : State) : Bool := !s.por && !s.dormant
/-- The host interface runs (R94, R95, R460). -/
def State.hostUp (s : State) : Bool := s.up && !s.host.perst && !s.host.flr

/-! ## Channels, gangs, modes -/

/-- The channel with local index one lower. -/
def prevChan (c : ChanId) : ChanId := ⟨c.val - 1, by omega⟩
/-- The channel with number one higher (c itself for 127). -/
def nextChan (c : ChanId) : ChanId := if h : c.val + 1 < 128 then ⟨c.val + 1, h⟩ else c
/-- Even channel c has declared a gang (R154). -/
def State.gangAt (s : State) (c : ChanId) : Bool := c.val % 2 == 0 && chGang (s.chan c).chw
/-- c is the odd channel of a gang (R154). -/
def State.isOdd (s : State) (c : ChanId) : Bool := c.val % 2 == 1 && chGang (s.chan (prevChan c)).chw
/-- The channel whose settings, retry counter, latch and generator govern c (R154, R158, R229). -/
def State.lead (s : State) (c : ChanId) : ChanId := if s.isOdd c then prevChan c else c
/-- The channels that switch with c: a gang's two, or c alone (R157). -/
def State.members (s : State) (c : ChanId) : List ChanId :=
  let l := s.lead c
  if s.gangAt l then [l, nextChan l] else [l]
def State.ganged (s : State) (c : ChanId) : Bool := s.gangAt (s.lead c)
/-- The channel and protection groups in force for c (R123, R154). -/
def State.chwOf (s : State) (c : ChanId) : Word64 := (s.chan (s.lead c)).chw
def State.protOf (s : State) (c : ChanId) : Word64 := (s.chan (s.lead c)).protw
def State.budOf (s : State) (c : ChanId) : Word64 := (s.chan (s.lead c)).budw
def State.isOutput (s : State) (c : ChanId) : Bool := chIsOutput (s.chwOf c)
/-- CORE's settings of the quadrant's channels start anew and its die still holds those from before a reset (R85, R94). -/
def State.staleChan (s : State) (c : ChanId) : Bool := (s.quad (quadOf c)).stale
/-- Course-owned (R34); after a power-on reset every channel is the host's. -/
def State.courseOwned (s : State) (c : ChanId) : Bool := !s.staleChan c && chCourse (s.chwOf c)
/-- The channel and protection groups that CORE has in force for a channel, not those that a die still holds from before a reset
(R94). -/
def State.coreChw (s : State) (c : ChanId) : Word64 := if s.staleChan c then Reset.chw else (s.chan c).chw
def State.coreProt (s : State) (c : ChanId) : Word64 := if s.staleChan c then Reset.protw else (s.chan c).protw
/-- The channel group accepted last for a channel; after a power-on reset it is the reset value (R94, R123). -/
def State.lastChw (s : State) (c : ChanId) : Word64 :=
  (s.chan c).chwNew.getD (s.coreChw c)
/-- The odd channel of a gang, as accepted last (R123, R156). -/
def State.lastOdd (s : State) (c : ChanId) : Bool := c.val % 2 == 1 && chGang (s.lastChw (prevChan c))
/-- The channels of a quadrant (R7). -/
def quadChans (q : QuadId) : List ChanId := (List.finRange 32).map (chanAt q)
def allChans : List ChanId := List.finRange 128
/-- A 128-bit mask's channels in ascending order (R469). -/
def maskChans (m : Mask128) : List ChanId := allChans.filter fun c => bit m c.val
def bitOf (c : ChanId) : Mask128 := BitVec.ofNat 128 (2 ^ c.val)
def chanMask (p : ChanId → Bool) : Mask128 := allChans.foldl (fun m c => if p c then m ||| bitOf c else m) 0
def quadMask (p : QuadId → Bool) : BitVec 4 := maskOf 4 fun i => if h : i < 4 then p ⟨i, h⟩ else false

/-- UNDER or OVER: the outputs are off (R202). -/
def State.supplyOff (s : State) (q : QuadId) : Bool := (s.quad q).lclass == .under || (s.quad q).lclass == .over
/-- The L+ class code of R23. -/
def LClass.code : LClass → Nat
  | .normal => 0 | .low => 1 | .under => 2 | .over => 3
def LClass.ofCode : Nat → LClass
  | 0 => .normal | 1 => .low | 2 => .under | _ => .over
/-- The L+ classes as the uplinks gave them (R23, R489, R493). -/
def State.lclassByte (s : State) : Byte :=
  (List.finRange 4).foldl (fun b q => b ||| BitVec.ofNat 8 ((s.quad q).lclassUp.code <<< (2 * q.val))) 0

/-! ## Safe-state triggers (R212, R213) -/

/-- A trigger of ranks 3, 5 or 7 acts on the quadrant, or the field watchdog in single mode (R212, R214). -/
def State.quadTrig (s : State) (q : QuadId) : Bool :=
  s.safeN || (s.quad q).hwTrig || (s.quad q).disTrig || ((s.quad q).fwTrig && !s.inPair)
/-- A safe-state trigger of ranks 3 to 7 acts on the channel (R39, R213, R271); an encoder fault's SAFE does not act on a
channel that becomes course-owned under it, since a change of owner changes no level (R38, log entry 95). -/
def State.trigOn (s : State) (c : ChanId) : Bool :=
  s.quadTrig (quadOf c) || ((s.quad (quadOf c)).fwTrig && s.inPair) ||
  (s.encSafe && s.courseOwned c && !(s.chan (s.lead c)).encOut)
/-- Safe-state trigger acting per quadrant, for QSTATE and SAFEACT (R489, R493). -/
def State.safeAct (s : State) (q : QuadId) : Bool := (quadChans q).any s.trigOn
def State.safeActByte (s : State) : BitVec 4 := quadMask s.safeAct
def State.armedByte (s : State) : BitVec 4 := quadMask fun q => (s.quad q).armed

/-! ## Sense word, diagnostic state, FAULT_N -/

/-- The fine range is in use (R159, R183). -/
def State.fineRange (s : State) (c : ChanId) : Bool := prFine (s.protOf c) && !s.ganged c
/-- The sense word of the last code received (R186). -/
def State.senseWord (s : State) (c : ChanId) : Word16 :=
  let x := s.chan c
  BitVec.ofNat 16 (b2n x.senseFine * 2^15 + b2n x.senseLim * 2^14 + b2n x.senseInr * 2^13 + x.sense.toNat)

/-- An inrush window runs: it is open and INRUSH_CUT has not ended it (R178, R181). -/
def Chan.windowOn (x : Chan) : Bool := x.inrush.isSome && !x.inrushCut
/-- The diagnostic state the field die reports: the first row of R208 that applies. The model's choices (log entry 56): the
conditions of 0x9 to 0xB are the diagnostics that stand, and every channel in OUTPUT mode reports 0x8 while DIE_HOT, UNDER or
OVER lasts, also one that was off before. -/
def State.dieState (s : State) (c : ChanId) : BitVec 4 :=
  let x := s.chan c
  let l := s.chan (s.lead c)
  let q := s.quad (quadOf c)
  let on (k : Nat) : Bool := bit x.standing k
  if l.cause == .therm || (l.latch && l.cause != .none) then 6
  else if l.cause == .short then 4
  else if l.cause == .overload then 5
  else if l.cause == .dieHot || (s.isOutput c && (q.hot || s.supplyOff (quadOf c))) then 8
  else if (s.members c).any fun m => (s.chan m).reverse then 7
  else if x.inLimit then 2
  else if x.windowOn then 3
  else if on 5 then 9
  else if on 6 then 0xA
  else if on 0xA then 0xB
  else if x.drv then 1 else 0

/-- Classes of R210: PROTECT, LOAD, SUPPLY, DIE, BUDGET as bits 0 to 4 (R392). -/
def diagClass (code : Nat) : Nat :=
  if [1, 2, 3, 4, 8, 0xB].contains code then 0
  else if [0xC, 0xD, 0xE].contains code then 2
  else if code == 0xF then 3
  else if code == 0x11 then 4 else 1

/-- FAULT_N is driven low (R211, R529). -/
def State.faultN (s : State) : Bool :=
  let std (w : Word32) : Bool :=
    bit w 4 || bit w 0xD || bit w 0xE || bit w 0xF ||
    (List.range 18).any fun k => bit w k && bit s.faultMask (diagClass k)
  s.up && (s.chans.toList.any (fun x => std x.standing) || s.quads.toList.any (fun q => std q.standing) ||
    (List.finRange 4).any s.safeAct || s.host.wdExpired || s.visoLost || s.pair.st == .releasing)

/-- SYNC_OUT is high (R376). -/
def State.syncOutPin (s : State) : Bool := s.up && decide (s.now < s.syncOut)

/-- WAKE_N, CLKREQ_N and HB_OUT are driven: only outside the power-on reset and DORMANT (R63, R78); CLKREQ_N is released
while PERST_N is asserted and while the link is not in L0 (R66, R414). -/
def State.wakePin (s : State) : Bool := s.up && s.host.wakeLow
def State.clkreqPin (s : State) : Bool := s.up && !s.host.perst && s.host.link == 1
def State.hbPin (s : State) : Bool := s.up && s.pair.hbOut

/-! ## Register words -/

/-- GL_BOOT (R103). -/
def State.glBoot (s : State) : Word32 :=
  BitVec.ofNat 32 (Config.romVer.toNat * 2^24 + s.mason.stage.toNat * 2^20 + s.mason.fault.toNat * 2^16 +
    b2n s.wokeDormant * 2^5 + s.straps.toNat)
/-- FW_READY (R103). -/
def State.fwReady (s : State) : Bool := s.mason.stage == 6
def codeByte : Nat := if Config.codeAE then 1 else 0
/-- GL_ID (R611). -/
def State.glId (s : State) : Word32 :=
  BitVec.ofNat 32 (0xB1 * 2^24 + (if s.fwReady then s.mason.image.vmaj.toNat % 256 else 0) * 2^16 + codeByte)
def QState.aqst : QState → Nat
  | .active => 1 | .draining => 2 | .error => 3 | _ => 0
/-- Doorbell polling runs (R426). -/
def State.polling (s : State) : Bool :=
  s.hostUp && s.holdsRole && s.host.bme && !s.host.d3hot &&
  s.queues.toList.any (fun u => u.st == .active || u.st == .draining)
/-- HI_STATUS (R416). -/
def State.hiStatus (s : State) : Word32 :=
  BitVec.ofNat 32 (b2n s.polling * 32 + b2n (!s.host.bme) * 16 + b2n s.host.wign * 8 + b2n s.host.cfgerr * 4 +
    (s.queue 0).st.aqst)
/-- SEC_STATE (R613). -/
def State.secState (s : State) : Word32 := BitVec.ofNat 32 (s.mason.arcc * 256 + b2n s.mason.rngOk * 2 + b2n s.locked)
/-- SEC_DENY (R614). -/
def State.secDeny (s : State) : Word32 :=
  BitVec.ofNat 32 (b2n s.host.denyValid * 2^31 + s.host.denyTarget.toNat * 2^16 + s.host.denyMaster.toNat * 2^12 +
    s.host.denyKind.toNat * 2^8 + s.host.denyCount)
/-- HI_HOSTWD (R113). -/
def State.hiHostwd (s : State) : Word32 :=
  BitVec.ofNat 32 (b2n s.host.wdLock * 2^31 + b2n s.host.wdExpired * 2^30 + s.host.wdAct.toNat * 2^20 + s.host.wdPeriod)
/-- DBG_CTRL (R616). -/
def State.dbgCtrl (s : State) : Word32 :=
  BitVec.ofNat 32 (b2n s.host.jtag * 2^31 + b2n s.host.dbgUe * 8 + b2n s.host.dbgDeny * 4 + b2n s.host.dbgAinc * 2 +
    b2n s.host.dbgWen)

end Sys2Proof.Machine
end

