-- ==== Sys2Proof/Machine/Records.lean ====
section
/-!
DEFINITION. Completion entries and records byte by byte (R380, R437, R438, R462, R484–R493), and the archive slot (R489).
-/
namespace Sys2Proof.Machine
open Sys2Proof

/-- Status codes (R462). -/
def Status.code : Status → Nat
  | .done => 0 | .partialDone => 1 | .indoubt => 2 | .doneLate => 3 | .abortedQuiesce => 0x10 | .abortedReset => 0x11
  | .rejField => 0x20 | .rejAccess => 0x21 | .rejCheck => 0x22 | .rejAlive => 0x23 | .rejState => 0x24
  | .rejBudget => 0x25 | .rejBusy => 0x26 | .rejCapacity => 0x27

/-- A status that signals at once (R448). -/
def Status.urgent (st : Status) : Bool := st == .indoubt || 0x10 ≤ st.code

/-- A completion entry's 32 bytes (R437, R438). -/
def Completion.bytes (c : Completion) : List Byte :=
  leBytes 2 c.cid.toNat ++ leBytes 1 c.status.code ++
  leBytes 1 (b2n c.aresync * 4 + b2n c.rdrop * 2 + b2n c.phase) ++
  leBytes 4 c.detail.toNat ++ leBytes 8 c.time ++ leBytes 16 c.result.toNat

/-- A signed number as n little-endian bytes in two's complement. -/
def leInt (n : Nat) (v : Int) : List Byte := leBytes n (v % (256 ^ n : Nat)).toNat

/-- A drop count saturates at 0xFFFF (R484). -/
def sat16 (n : Nat) : Nat := min n 0xFFFF

/-- An archive slot's 1,152 bytes (R489); bytes the layout does not name are 0. -/
def ArchSlot.bytes (a : ArchSlot) : List Byte :=
  leBytes 4 a.seq.toNat ++ leBytes 4 0 ++ leBytes 8 a.time ++ leBytes 4 a.angle.toNat ++ leBytes 4 a.rev.toNat ++
  leInt 4 a.speed ++ leBytes 2 a.entry ++ leBytes 2 (b2n a.coasting) ++ [a.lclass, a.qstate] ++ leBytes 94 0 ++
  a.chans.toList.flatMap fun x => [x.levels, x.dstate] ++ leBytes 2 x.sense.toNat ++ leBytes 2 x.sage ++ leBytes 2 0

/-- An accumulator block's 32 bytes (R334). -/
def Acc.bytes (a : Acc) : List Byte :=
  leInt 6 a.sum ++ leBytes 2 a.ovr ++ leBytes 4 a.count ++ leBytes 2 a.miss ++ leBytes 2 a.flags.toNat ++
  leInt 4 a.min ++ leInt 4 a.max ++ leBytes 8 a.last

/-- TYPE of a record (R484–R493, R380). -/
def Record.type : Record → Nat
  | .inputEdge .. => 1 | .diag .. => 2 | .filterOut .. => 3 | .acc .. => 4 | .courseMark .. => 5 | .archive .. => 6
  | .pairEvent .. => 7 | .sideband .. => 8 | .masonStatus .. => 9 | .fieldState .. => 0xA

/-- LENGTH of a record in bytes. -/
def Record.len : Record → Nat
  | .inputEdge .. => 24
  | .diag .. => 24
  | .filterOut _ _ _ _ _ _ _ outs => 32 + 16 * outs.length
  | .acc _ _ _ _ blocks => 32 + 32 * blocks.length
  | .courseMark .. => 40
  | .archive _ => 1160
  | .pairEvent .. => 32
  | .sideband _ _ _ ws => (16 + 4 * ws.length + 7) / 8 * 8
  | .masonStatus .. => 24
  | .fieldState .. => 80

/-- Type-specific byte 1 and the bytes from offset 4 on. -/
def Record.body : Record → Byte × List Byte
  | .inputEdge c fl dr t a r =>
    (BitVec.ofNat 8 c.val, [fl, 0] ++ leBytes 2 (sat16 dr) ++ leBytes 8 t ++ leBytes 4 a.toNat ++ leBytes 4 r.toNat)
  | .diag c code fl dr t sw rt ds ob =>
    (BitVec.ofNat 8 c, [code, fl] ++ leBytes 2 (sat16 dr) ++ leBytes 8 t ++ leBytes 2 sw.toNat ++
      [BitVec.ofNat 8 (min 255 rt), ds, ob, 0, 0, 0])
  | .filterOut k fl t0 r0 m dr g outs =>
    (BitVec.ofNat 8 k.val, leBytes 2 outs.length ++ leBytes 2 fl.toNat ++ leBytes 8 t0 ++ leBytes 4 r0.toNat ++
      leBytes 2 m ++ leBytes 2 (sat16 dr) ++ leBytes 4 g ++ leBytes 4 0 ++
      outs.flatMap fun o => leInt 4 o.value ++ leBytes 4 o.angle.toNat ++ leInt 4 ((o.stamp : Int) - t0) ++
        (if bit o.flags 9 then [0] else leInt 1 ((o.rev.toNat : Int) - r0.toNat)) ++ [0] ++ leBytes 2 o.flags.toNat)
  | .acc q cl t bm blocks =>
    (BitVec.ofNat 8 q.val, [BitVec.ofNat 8 blocks.length, BitVec.ofNat 8 (b2n cl), 0, 0] ++ leBytes 8 t ++
      leBytes 8 (fld bm 0 64) ++ leBytes 8 (fld bm 64 1) ++ blocks.flatten)
  | .courseMark k fl dr t a r sp d0 d1 e =>
    (k, [fl, 0] ++ leBytes 2 (sat16 dr) ++ leBytes 8 t ++ leBytes 4 a.toNat ++ leBytes 4 r.toNat ++ leInt 4 sp ++
      leBytes 4 d0.toNat ++ leBytes 4 d1.toNat ++ leBytes 2 e ++ [0, 0])
  | .archive a => (0, leBytes 4 0 ++ a.bytes)
  | .pairEvent ev role paths t sq age data =>
    (ev, [role, paths, 0, 0] ++ leBytes 8 t ++ leBytes 4 sq.toNat ++ leBytes 4 age.toNat ++ leBytes 8 data.toNat)
  | .sideband w pc t ws =>
    (BitVec.ofNat 8 w.val, leBytes 2 ws.length ++ leBytes 2 pc ++ leBytes 8 t ++ ws.flatMap (fun v => leBytes 4 v.toNat) ++
      leBytes (ws.length % 2 * 4) 0)
  | .masonStatus sh ld bl t rs th =>
    (sh, [BitVec.ofNat 8 ld, BitVec.ofNat 8 bl, 0, 0] ++ leBytes 8 t ++ leBytes 2 rs ++ leBytes 6 (b2n th))
  | .fieldState ca qv ar lc sa t rb dr ow fa =>
    (ca, [qv, ar, lc, sa] ++ leBytes 8 t ++ leBytes 16 rb.toNat ++ leBytes 16 dr.toNat ++ leBytes 16 ow.toNat ++
      leBytes 16 fa.toNat)

/-- A record's bytes: TYPE in byte 0, LENGTH in bytes 2–3 (R443, R484). -/
def Record.bytes (r : Record) : List Byte :=
  [BitVec.ofNat 8 r.type, r.body.1] ++ leBytes 2 r.len ++ r.body.2

/-! ## Angle and speed as reports give them (R265, R267) -/

/-- The extrapolation of a segment has reached one count past its edge (R267). -/
def Seg.capped (g : Seg) (t : Nat) : Bool :=
  let x := g.th + g.om * ((t : Rat) - g.t)
  (decide (0 < g.om) && decide (g.lim ≤ x)) || (decide (g.om < 0) && decide (x ≤ g.lim))
/-- θ̂ of a segment: extrapolated, or held one unit short of the next count (R267). -/
def Seg.theta (g : Seg) (t : Nat) : Rat :=
  if g.capped t then (if 0 < g.om then g.lim - 1 else g.lim + 1) else g.th + g.om * ((t : Rat) - g.t)
/-- ω̂ of a segment (R267). -/
def Seg.omega (g : Seg) (t : Nat) : Rat := if g.capped t then 0 else g.om
/-- θ̂ at device time t. -/
def Ang.thetaHat (a : Ang) (t : Nat) : Rat :=
  if a.seg.t ≤ t then a.seg.theta t
  else match a.hist.find? (fun g => g.t ≤ t) with
    | some g => g.theta t
    | none => a.seg.theta t
/-- The engine's state at device time t. -/
def Ang.stateAt (a : Ang) (t : Nat) : EState :=
  match a.was.reverse.find? fun e => t < e.1 with
  | some e => e.2
  | none => a.st
/-- The absolute angle's 32-bit reading. -/
def angleWord (x : Rat) : Word32 := if x.den = 1 then BitVec.ofInt 32 x.num else Config.roundAngle x
/-- The revolution count of an absolute angle (R263). -/
def revInt (x : Rat) : Int := (x / 4294967296).floor
def revWord (x : Rat) : Word32 := BitVec.ofInt 32 (revInt x)
/-- ω̂ in 0.001 rpm (R265); ω̂ is in angle units per ns. -/
def speedOf (w : Rat) : Int :=
  let v := w * 60000000000000 / 4294967296
  if v.den = 1 then v.num else Config.roundSpeed v
/-- An angle estimate exists: the engine is neither IDLE nor waiting for its first reference (R131, R265, R266). -/
def State.angleValid (s : State) : Bool := s.ang.st == .running || s.ang.st == .coasting || s.ang.st == .frozen || s.ang.st == .safe
def State.thetaNow (s : State) : Rat := s.ang.thetaHat s.now
def State.omegaNow (s : State) : Rat := s.ang.seg.omega s.now

end Sys2Proof.Machine
end

