-- ==== Sys2Proof/Machine/Ops.lean ====
section
/-!
DEFINITION. The operations that the commands share: writes to the host, vectors and device causes, records, diagnostics,
completions, the queue rules, access tables, deltas and the Plinth store.
-/
namespace Sys2Proof.Machine
open Sys2Proof

/-- A command that comes about in this state acts; one that does not leaves the state as it is (log entry 2). -/
def State.when (s : State) (b : Bool) (f : State → State) : State := if b then f s else s

/-! ## Writes to the host and vectors (R411, R448–R451, R459) -/

/-- Issue a write or request to the host: at once, or once Bus Master Enable returns; none after a reset (R412, R459,
R460). -/
def State.emit (s : State) (o : HostOut) : State :=
  if !s.hostUp || !s.holdsRole then s
  else if s.host.bme && !s.host.d3hot then { s with out := s.out ++ [o] }
  else { s with outWait := s.outWait ++ [o] }

/-- The data a BAR0 read returns. -/
def State.answer (s : State) (v : Word32) : State := { s with out := s.out ++ [.readValue v] }

def setMsix (s : State) (v : VecId) (f : MsixEntry → MsixEntry) : State := { s with msix := s.msix.set v (f s.msix[v]) }

/-- Signal a vector: a masked one becomes pending; nothing while MSI-X is disabled (R449). -/
def State.signal (s : State) (v : VecId) : State :=
  if !s.host.msixEn || !s.hostUp || !s.holdsRole then s
  else if s.msix[v].mask then setMsix s v fun e => { e with pend := true }
  else s.emit (.msix v s.msix[v].addr s.msix[v].data)

/-- The cause bits of device vector 64 + i (R450). -/
def vecBits : Fin 4 → Word32
  | 0 => 0x1F | 1 => 0x60 | 2 => 0x80 | 3 => 0xF00

def devVec (i : Fin 4) : VecId := ⟨64 + i.val, by omega⟩

/-- New contents of HI_DEVCAUSE and HI_DEVEN: a vector is signalled when the OR of its set and enabled causes rises
(R451); WAKE_N is driven low in L1.2 and L2 (R414). -/
def State.setDev (s : State) (cause en : Word32) : State :=
  let old := s.host.devCause &&& s.host.devEn
  let new := cause &&& en
  let s := s.modHost fun h => { h with devCause := cause, devEn := en
                                       wakeLow := h.wakeLow || (2 ≤ h.link.val && (new &&& ~~~old) != 0) }
  (List.finRange 4).foldl (fun s i =>
    if (old &&& vecBits i) == 0 && (new &&& vecBits i) != 0 then s.signal (devVec i) else s) s

/-- The hardware sets a W1C bit in this cycle, one tick of 8 ns (R14); positions as in HostRegs.setBits. -/
def State.noteSet (s : State) (k : Nat) : State :=
  s.modHost fun h => { h with setBits := (if h.setAt == s.clock then h.setBits else 0) ||| BitVec.ofNat 32 (2 ^ k), setAt := s.clock }
/-- W1C bits that stay set whatever a write of this cycle says (R14). -/
def State.justSet (s : State) : Word32 := if s.host.setAt == s.clock then s.host.setBits else 0
/-- A write of 1s to HI_DEVCAUSE clears causes, but none that was set in the same cycle (R14, R450). -/
def State.clearCauses (s : State) (v : Word32) : State :=
  s.setDev (s.host.devCause &&& ~~~(v &&& ~~~s.justSet)) s.host.devEn
/-- A device cause is set by its event (R450). -/
def State.raiseCause (s : State) (bitNo : Nat) : State :=
  let s := s.noteSet bitNo
  s.setDev (s.host.devCause ||| BitVec.ofNat 32 (2 ^ bitNo)) s.host.devEn

/-! ## Event log (R475, R597) -/

/-- Mason writes an event-log entry of an event kind; while step 1 is shed, only faults are written (R597). -/
def State.logEvent (s : State) (kind : Nat) (data : Nat) (fault : Bool) : State :=
  if 1 ≤ s.mason.shed.val && !fault then s.modMason fun m => { m with logShed := m.logShed + 1 }
  else s.modMason fun m => { m with log := m.log ++ [(s.now, kind, data, 0)] }

/-! ## Records (R445–R447) -/

/-- Bytes in record staging, the open SIDEBAND_WORDS record among them, and its size (R389, R446, R569). -/
def openLen (words : Nat) : Nat := if words == 0 then 0 else (16 + 4 * words + 7) / 8 * 8
def State.recordBytes (s : State) : Nat := (s.staging.map fun r => r.1.len).foldl (· + ·) 0
def State.stagedBytes (s : State) : Nat := s.recordBytes + openLen s.serial.openRec.length
def State.stageRoom (s : State) (len : Nat) : Bool := s.stagedBytes + len ≤ laRstg s.vault.layout * 65536

/-- Where a record goes: 0 any queue, 1–63 a queue, 0x40 discard (R445). -/
def State.route (s : State) (r : Record) : Nat := (s.routes.toList.getD (r.type - 1) 0).toNat

/-- Put a record into staging; false when staging has no room. A record routed to 0x40 is discarded and not counted
(R446). -/
def State.stage (s : State) (r : Record) (who : Option (QueueId × Word32) := none) : State × Bool :=
  if s.route r == 0x40 then (s, true)
  else if s.stageRoom r.len then ({ s with staging := s.staging ++ [(r, who)] }, true)
  else (s, false)

/-- Stage a record of a source that counts its losses: ok when it has been staged, full when staging has no room. A record
that is routed to 0x40 is neither, so it leaves the count for the next record written (R132, R209, R298, R446). -/
def State.stageCount (s : State) (r : Record) (ok full : State → State) : State :=
  if s.route r == 0x40 then s else
  match s.stage r with
  | (s, true) => ok s
  | (s, false) => full s
/-- Stage a record whose loss no rule counts. -/
def State.stageAny (s : State) (r : Record) : State := (s.stage r).1

/-- The open SIDEBAND_WORDS record is staged (R570, R491). -/
def State.stageOpen (s : State) : State :=
  let p := s.serial
  if p.openRec.isEmpty then s else
  let r : Record := .sideband ⟨spSwid p.word % 4, by omega⟩ (sat16 p.partCnt) p.recAt p.openRec
  (s.modSerial fun p => { p with openRec := [], partCnt := 0 }).stageAny r
/-- One received word moves into the open record while record staging has room; 64 words stage it (R569, R570). -/
def State.drainWord (s : State) : State :=
  match s.serial.rx with
  | [] => s
  | (w, t) :: rest =>
    if s.recordBytes + openLen (s.serial.openRec.length + 1) ≤ laRstg s.vault.layout * 65536 then
      let s := s.modSerial fun p =>
        { p with rx := rest, openRec := p.openRec ++ [w], recAt := if p.openRec.isEmpty then t else p.recAt }
      if 64 ≤ s.serial.openRec.length then s.stageOpen else s
    else s
/-- The receive FIFO drains as far as there is room (R569). -/
def State.drainRx (s : State) : State := (List.range s.serial.rx.length).foldl (fun s _ => s.drainWord) s

/-- A COURSE_MARK record, or its count when staging has no room (R298, R488). -/
def State.mark (s : State) (kind : Byte) (flags : Byte) (d0 d1 : Word32) (entry : Nat) : State :=
  let th := s.thetaNow
  let r : Record := .courseMark kind flags s.course.markDrop s.now (angleWord th) (revWord th) (speedOf s.omegaNow) d0 d1 entry
  s.stageCount r (fun s => s.modCourse fun c => { c with markDrop := 0 })
    fun s => s.modCourse fun c => { c with markDrop := c.markDrop + 1 }

/-- PAIR_EVENT, written by the unit that holds the role, with its device cause (R450, R490, R537). -/
def State.pairEvent (s : State) (ev : Byte) (data : Word64) : State :=
  if s.pair.st == .active then
    let role : Byte := BitVec.ofNat 8 (b2n s.roleB + 2 * b2n (s.pair.st == .active))
    let paths : Byte := BitVec.ofNat 8 (b2n s.pair.zaf.present + 2 * b2n s.pair.hb.present)
    let age := match s.pair.commitAt with | some t => (s.now - t) / 1000000 | none => 0xFFFFFFFF
    (s.stageAny (.pairEvent ev role paths s.now (s.pair.committedSeq.getD 0) (BitVec.ofNat 32 age) data)).raiseCause 7
  else s

/-- MASON_STATUS (R492). -/
def State.masonRecord (s : State) : State :=
  let backlog := ((s.queue 0).flight.filter fun e => e.stage == .staged).length
  let mask : Byte := BitVec.ofNat 8 (2 ^ s.mason.shed.val - 1)
  s.stageAny (.masonStatus mask s.mason.load backlog s.now s.mason.restarts s.throttled)

/-- FIELD_STATE as the frame's uplinks gave it (R493). -/
def State.fieldRecord (s : State) (cause : Byte) : Record :=
  let ok (c : ChanId) : Bool := (s.quad (quadOf c)).sync
  .fieldState cause (BitVec.setWidth 8 (quadMask fun q => (s.quad q).sync)) (BitVec.setWidth 8 s.armedByte) s.lclassByte
    (BitVec.setWidth 8 s.safeActByte) s.frameStart
    (chanMask fun c => ok c && (s.chan c).inSt) (chanMask fun c => ok c && (s.chan c).drv)
    (chanMask fun c => ok c && s.courseOwned c) (chanMask fun c => ok c && ((s.chan c).fault || (s.chan (s.lead c)).latch))

/-! ## Archive trigger and diagnostics (R209, R210, R393) -/

/-- The archive becomes FROZEN (R394); the caller completes the command that waited. -/
def State.freezeNow (s : State) : State := (s.modArch fun a => { a with st := .frozen, left := 0 }).raiseCause 6

/-- A trigger in RECORDING moves the archive to POST with a count, and freezes it when that is 0; else it is
counted (R393, R394). -/
def State.archTrigger (s : State) (code num post : Nat) (who : Option (QueueId × Word32)) : State :=
  if s.arch.st == .recording then
    let s := s.modArch fun a => { a with st := .post, left := post, trigCode := code, trigNum := num, trigTime := s.frameStart
                                         trigRev := revWord s.thetaNow
                                         trigSeq := match a.slots with | x :: _ => x.seq | [] => 0
                                         waiter := who }
    if post == 0 then s.freezeNow else s
  else s.modArch fun a => { a with ignored := a.ignored + 1 }

/-- A diagnostic of a class in FCMASK triggers the archive (R393). -/
def State.diagTrigger (s : State) (code num : Nat) : State :=
  if bit s.arch.word (diagClass code) then s.archTrigger code num (arPost s.arch.word) none else s

/-- Stage a DIAG record of quadrant qd, or count it (R209, R486). A record on a gang as a whole carries the sense word of its
even channel (R158, log entry 96). -/
def State.diagRecord (s : State) (num : Nat) (qd : QuadId) (isQuad raised : Bool) (code : Nat) (ob : Byte) : State :=
  let c : ChanId := if h : num < 128 then ⟨num, h⟩ else 0
  let r : Record := .diag num (BitVec.ofNat 8 code) (BitVec.ofNat 8 (b2n raised + 2 * b2n isQuad)) (s.quad qd).diagDrop
    s.frameStart (if isQuad then 0 else s.senseWord c) (if isQuad then 0 else (s.chan (s.lead c)).retry)
    (if isQuad then 0 else BitVec.setWidth 8 (s.dieState c)) ob
  s.stageCount r (fun s => s.modQuad qd fun x => { x with diagDrop := 0 })
    fun s => s.modQuad qd fun x => { x with diagDrop := x.diagDrop + 1 }

/-- A channel diagnostic that stands is raised (R209, R210). -/
def State.raiseDiag (s : State) (c : ChanId) (code : Nat) : State :=
  let s := s.modChan c fun x => { x with standing := x.standing ||| BitVec.ofNat 32 (2 ^ code) }
  (s.diagRecord c.val (quadOf c) false true code 0).diagTrigger code c.val

/-- A standing channel diagnostic is reported as cleared (R209). -/
def State.clearDiag (s : State) (c : ChanId) (code : Nat) : State :=
  if bit (s.chan c).standing code then
    (s.modChan c fun x => { x with standing := x.standing &&& ~~~BitVec.ofNat 32 (2 ^ code) }).diagRecord
      c.val (quadOf c) false false code 0
  else s

/-- INRUSH_CUT and OVERBUDGET are events (R209, R245). -/
def State.eventDiag (s : State) (c : ChanId) (code : Nat) (ob : Byte) : State :=
  (s.diagRecord c.val (quadOf c) false false code ob).diagTrigger code c.val

/-- A quadrant diagnostic is raised or cleared (R205, R193). -/
def State.raiseQuadDiag (s : State) (q : QuadId) (code : Nat) : State :=
  if bit (s.quad q).standing code then s else
  let s := s.modQuad q fun x => { x with standing := x.standing ||| BitVec.ofNat 32 (2 ^ code) }
  (s.diagRecord q.val q true true code 0).diagTrigger code q.val
def State.clearQuadDiag (s : State) (q : QuadId) (code : Nat) : State :=
  if bit (s.quad q).standing code then
    (s.modQuad q fun x => { x with standing := x.standing &&& ~~~BitVec.ofNat 32 (2 ^ code) }).diagRecord q.val q true false code 0
  else s

/-- An uncorrectable Vault error: counted, device vector, logged (R387). -/
def State.vaultUe (s : State) (addr : Nat) : State :=
  (({ s with vault := { s.vault with uncorrected := s.vault.uncorrected + 1 } }).raiseCause 2).logEvent 3 addr true

/-! ## Completions (R437–R441, R448) -/

/-- Signal a queue's vector and restart its coalescing (R448). -/
def State.signalQueue (s : State) (q : QueueId) : State :=
  (s.signal ⟨(s.queue q).vector.val, by omega⟩).modQueue q fun u => { u with unsig := 0, oldest := none }

/-- Address of the completion slot that the queue writes next (R424). -/
def Queue.cqSlot (u : Queue) : Word64 := u.cqbase + BitVec.ofNat 64 (32 * (u.w.toNat % 2 ^ u.cqlog))
/-- Write the completion of descriptor n of queue q, if the queue still holds it (R96, R437–R440). -/
def State.completeRaw (s : State) (q : QueueId) (n : Word32) (st : Status) (detail time : Nat) (result : Mask128) : State :=
  match (s.queue q).flight.find? fun e => e.num == n with
  | none => s
  | some e =>
    let u := s.queue q
    let c : Completion := { cid := dCid e.desc, status := st, aresync := e.aresync, rdrop := e.rdrop
                            phase := !u.w.getLsbD u.cqlog, detail := BitVec.ofNat 32 detail, time := time, result := result }
    let s := { s with ops := s.ops.filter fun o => !(o.live && o.q == q && o.n == n) }
    let s := if q == 0 && s.mason.busy == some n then s.modMason fun m => { m with busy := none } else s
    let s := s.modQueue q fun u =>
      { u with flight := u.flight.filter (fun x => x.num != n), w := u.w + 1, unsig := u.unsig + 1
               oldest := some (u.oldest.getD s.now) }
    let s := s.emit (.completion q u.cqSlot c)
    if dNocoal e.desc || st.urgent || max 1 u.ccnt ≤ u.unsig + 1 then s.signalQueue q else s

/-- A queue with nothing in flight any more: DRAINING ends; an admin queue that was disabled becomes ABSENT (R452, R456). -/
def State.drained (s : State) (q : QueueId) : State :=
  let u := s.queue q
  if !u.flight.isEmpty then s
  else if q == 0 then
    if u.st == .draining || (u.st == .error && !s.host.aqen) then s.modQueue 0 fun _ => Reset.queue else s
  else if u.st == .draining then s.modQueue q fun u => { u with st := .quiesced } else s

/-- QUEUE_QUIESCE and QUEUE_DELETE complete once their queue has drained; a deleted queue becomes ABSENT (R452, R457). -/
def State.finishDrains (s : State) : State :=
  s.ops.foldl (fun s o =>
    match o.kind with
    | .drain t del =>
      if (s.queue t).st != .draining && (s.queue t).flight.isEmpty then
        let s := if del then s.modQueue t fun _ => Reset.queue else s
        let s := { s with ops := s.ops.filter fun x => !(x.q == o.q && x.n == o.n && x.live == o.live) }
        if o.live then (s.completeRaw o.q o.n .done 0 s.now 0).drained o.q else s
      else s
    | _ => s) s

/-- Complete a command, with what its completion ends (R437, R452). -/
def State.complete (s : State) (q : QueueId) (n : Word32) (st : Status) (detail time : Nat) (result : Mask128) : State :=
  ((s.completeRaw q n st detail time result).drained q).finishDrains

/-- A completion at the decision, without result (R470). -/
def State.finish (s : State) (q : QueueId) (n : Word32) (st : Status) (detail : Nat) : State := s.complete q n st detail s.now 0

/-- Complete for a waiter that a reset may have dropped (R96). -/
def State.completeWho (s : State) (who : Option (QueueId × Word32)) (st : Status) (detail time : Nat) (result : Mask128) : State :=
  match who with
  | some (q, n) => s.complete q n st detail time result
  | none => s

/-- Complete for a started command's entry, which is removed. -/
def State.completeOp (s : State) (o : Op) (st : Status) (detail time : Nat) (result : Mask128) : State :=
  if o.live then s.complete o.q o.n st detail time result
  else { s with ops := s.ops.filter fun x => x != o }

def State.addOp (s : State) (q : QueueId) (n : Word32) (k : OpKind) : State :=
  { s with ops := s.ops ++ [{ q := q, n := n, live := true, kind := k }] }
/-- Mason has finished with a command that waits on an event outside it (R641). -/
def State.freeMason (s : State) : State := s.modMason fun m => { m with busy := none }

/-- The archive has frozen: its command completes at the FROZEN instant (R394, R470). -/
def State.archDone (s : State) : State :=
  if s.arch.st == .frozen then
    let w := s.arch.waiter
    (s.modArch fun a => { a with waiter := none }).completeWho w .done 0 s.now (BitVec.setWidth 128 s.arch.trigSeq)
  else s

/-! ## Record buffers (R442–R447, R455) -/

/-- Retire a queue's buffer: its RECORD_BUFFER completes (R444). -/
def State.retire (s : State) (q : QueueId) (b : RecBuf) (st : Status) : State :=
  (s.modQueue q fun u => { u with bufs := u.bufs.filter fun x => x.num != b.num }).complete q b.num st
    (if st == .done then b.used else 0) s.now 0

/-- A queue begins DRAINING: descriptors not started abort, buffers retire (R452, R455). -/
def State.beginDrain (s : State) (q : QueueId) : State :=
  let s := s.modQueue q fun u => { u with st := .draining }
  let bufs := (s.queue q).bufs
  let s := bufs.foldl (fun s b => s.retire q b (if b.used == 0 then .abortedQuiesce else .done)) s
  let s := ((s.queue q).flight.filter fun e => e.stage == .staged).foldl
    (fun s e => s.complete q e.num .abortedQuiesce 0 s.now 0) s
  (s.drained q).finishDrains

/-! ## Access tables (R589–R593) -/

/-- Target numbers in ascending order, as SEC_ROW and ACCESS_LOAD take them (R590, R595). -/
def targets : List Nat :=
  [0, 1, 2, 3, 0x10, 0x11, 0x12, 0x13, 0x14, 0x15, 0x16, 0x17, 0x20, 0x30, 0x31, 0x32, 0x33, 0x38, 0x39, 0x3A, 0x3B, 0x40]
def rowIndex (t : Nat) : Nat := targets.findIdx (· == t)
/-- Master m has the permissions perm on target t (R591): 1 read, 2 write, 4 control. -/
def State.allowed (s : State) (m t perm : Nat) : Bool :=
  let w := s.rows.toList.getD (rowIndex t) 0
  (fld w (4 * m) 3) &&& perm == perm
/-- KIND of SEC_DENY: the permission denied (R614). -/
def denyKindOf (perm : Nat) : BitVec 2 := if perm == 1 then 1 else if perm == 2 then 2 else 3
/-- Record a denial (R614). -/
def State.deny (s : State) (m t perm : Nat) : State :=
  let s := s.modHost fun h =>
    if bit s.justSet 15 then h else { h with denyNow := (BitVec.ofNat 8 t, BitVec.ofNat 4 m, denyKindOf perm) }
  (s.noteSet 15).modHost fun h =>
    if h.denyValid then { h with denyCount := min 255 (h.denyCount + 1) }
    else { h with denyValid := true, denyTarget := BitVec.ofNat 8 t, denyMaster := BitVec.ofNat 4 m
                  denyKind := denyKindOf perm, denyCount := 1 }
/-- A write of 1 to VALID; a denial of the same cycle becomes the one recorded (R614). -/
def State.clearDeny (s : State) : State :=
  s.modHost fun h =>
    if bit s.justSet 15 then
      { h with denyTarget := h.denyNow.1, denyMaster := h.denyNow.2.1, denyKind := h.denyNow.2.2, denyCount := 1 }
    else { h with denyValid := false }
/-- The lowest denied target of a command's needs (R593). -/
def State.firstDenied (s : State) (m : Nat) (needs : List (Nat × Nat)) : Option (Nat × Nat) :=
  (needs.filter fun p => !s.allowed m p.1 p.2).foldl
    (fun b p => match b with | some x => if p.1 < x.1 then some p else b | none => some p) none

/-! ## Starting a command (R435, R436, R543, R593) -/

def isRecBuf (e : Inflight) : Bool := e.stage != .fetching && dOp e.desc == 0x48
def isBarrier (e : Inflight) : Bool := isConfigOp (dOp e.desc) || dFence e.desc
/-- The commands of the queue ahead of n, in fetch order. -/
def Queue.ahead (u : Queue) (n : Word32) : List Inflight := u.flight.takeWhile fun e => e.num != n
/-- The order of starting allows entry e (R435). -/
def Queue.mayStart (u : Queue) (e : Inflight) : Bool :=
  let a := u.ahead e.num
  let b := a.filter fun x => !isRecBuf x
  a.all (fun x => x.stage == .started) &&
  (isRecBuf e || ((!isBarrier e || b.isEmpty) && b.all fun x => !isBarrier x))

/-- The staged descriptor n of queue q, if it may start now. -/
def State.startable (s : State) (q : QueueId) (n : Word32) : Option Desc :=
  let u := s.queue q
  if !s.hostUp || !s.holdsRole || !(u.st == .active || u.st == .error) then none
  else match u.flight.find? fun e => e.num == n with
    | some e => if e.stage == .staged && e.logged && u.mayStart e then some e.desc else none
    | none => none

/-- The command has started (R435). -/
def State.started (s : State) (q : QueueId) (n : Word32) : State :=
  s.modQueue q fun u => { u with flight := u.flight.map fun e => if e.num == n then { e with stage := .started } else e }

/-- The lowest offset among reserved bytes and fields that fail (R9, R465, R469). -/
def firstBad (d : Desc) (profiled cspec : Bool) (used : List (Nat × Nat)) (checks : List (Bool × Nat)) : Option Nat :=
  let offs := (reservedByte d profiled cspec used).toList ++ (checks.filter (·.1)).map (·.2)
  offs.foldl (fun b x => match b with | some y => some (min x y) | none => some x) none

/-- The descriptor holds the opcode op. -/
def isOp (op : Nat) (d : Desc) : Bool := dOp d == op
/-- A result from the bytes that lie at completion offset 16 on (R437). -/
def resultOf (bs : List Byte) : Mask128 := BitVec.ofNat 128 (leNat bs)
/-- An I/O command of queue q (1–63) starts: its opcode and form match, its access is judged (R593), its fields are
checked (R465), and its body runs. -/
def State.io (s : State) (q : QueueId) (n : Word32) (form : Desc → Bool) (needs : Desc → List (Nat × Nat))
    (bad : Desc → Bool → Option Nat) (body : Desc → State → State) : State :=
  match s.startable q n with
  | none => s
  | some d =>
    if q == 0 || !form d then s else
    let s := s.started q n
    match s.firstDenied (s.queue q).hctx.val (needs d) with
    | some t => (s.deny (s.queue q).hctx.val t.1 t.2).finish q n .rejAccess t.1
    | none => match bad d (s.queue q).profile.isSome with
      | some off => s.finish q n .rejField off
      | none => body d s

/-- Firmware, or the ROM loader for the opcodes it serves, takes admin commands (R99, R101, R603). R99 does not say whether
FW_LOAD and FW_COMMIT are served once STAGE is 0x5: the model serves them in STAGE 0x4 alone (log entry 101). -/
def State.romServes (s : State) (op : Nat) : Bool :=
  op == 1 || ((op == 8 || op == 9) && s.mason.stage == 4)
def State.masonServes (s : State) (op : Nat) : Bool := s.fwReady || s.romServes op

/-- The admin command that Mason has started (R641). -/
def State.adm (s : State) (n : Word32) (form : Desc → Bool) (needs : Desc → List (Nat × Nat))
    (bad : Desc → Option Nat) (body : Desc → State → State) : State :=
  if s.mason.busy != some n || !s.hostUp then s else
  match (s.queue 0).flight.find? fun e => e.num == n with
  | none => s
  | some e =>
    let d := e.desc
    if e.stage != .started || !form d || s.ops.any (fun o => o.live && o.q == 0 && o.n == n) then s else
    match s.firstDenied 0 (needs d) with
    | some t => (s.deny 0 t.1 t.2).finish 0 n .rejAccess t.1
    | none => match bad d with
      | some off => s.finish 0 n .rejField off
      | none => body d s

/-! ## Configuration changes and deltas (R513, R587) -/

/-- A configuration change: the generation of R587 counts up, and an active unit of a pair sends a delta (R513). The
delta's address and bytes are free: R512 gives the region and not the items' places (log entry 6). measured: the change is
one that ACCMEAS or CFGMEAS measures. -/
def State.configured (s : State) (who : Option (QueueId × Word32)) (measured : Bool := true) : State :=
  let s := if measured then { s with cfgGen := s.cfgGen + 1 } else s
  if s.journals then
    let addr : Word32 := BitVec.ofNat 32 (0x1000 + s.fresh % 0xF000)
    let data := (Config.freeBytes (s.freeCtr + 1)).take 256
    let s := s.useFresh.useFresh
    s.modPair fun p => { p with cfggen := p.cfggen + 1, deltas := p.deltas ++ [(addr, p.cfggen + 1, who)]
                                tx := p.tx ++ [.delta addr data] }
  else s

/-- A command of the configuration set has done its work: in a pair its completion waits for the delta's commit (R513). -/
def State.configDone (s : State) (q : QueueId) (n : Word32) (st : Status) (detail time : Nat) (result : Mask128)
    (measured : Bool := true) : State :=
  let s := s.configured (if s.journals then some (q, n) else none) measured
  if s.journals then
    let s := { s with ops := s.ops.filter fun o => !(o.live && o.q == q && o.n == n) }
    s.addOp q n (.delta s.pair.cfggen st detail time result)
  else s.complete q n st detail time result

/-- The same for a waiter that a reset may have dropped (R96). -/
def State.configWho (s : State) (who : Option (QueueId × Word32)) (st : Status) (detail : Nat) (result : Mask128)
    (measured : Bool := true) : State :=
  match who with
  | some (q, n) => s.configDone q n st detail s.now result measured
  | none => s.configured none measured
/-- The same for an entry of the started commands. -/
def State.configOp (s : State) (o : Op) (st : Status) (detail time : Nat) (result : Mask128) : State :=
  let s := { s with ops := s.ops.filter fun x => x != o }
  if o.live then s.configDone o.q o.n st detail time result else s.configured none

/-- A load writes straight into the partner's static copy of a region, 256 bytes a frame (R503, R513). -/
def State.copyDelta (s : State) (base : Nat) (bytes : List Byte) : State :=
  if s.journals then
    (List.range ((bytes.length + 255) / 256)).foldl (fun s i =>
      let addr : Word32 := BitVec.ofNat 32 (base + 256 * i)
      s.modPair fun p => { p with cfggen := p.cfggen + 1, deltas := p.deltas ++ [(addr, p.cfggen + 1, none)]
                                  tx := p.tx ++ [.delta addr (slice bytes (256 * i) 256)] }) s
  else s
/-- The checkpoint in progress is abandoned; the next capture serves the commands that waited for it, and a final one is due
again (R387, R516, R530). -/
def State.abandon (s : State) : State :=
  match s.pair.cap with
  | some c => s.modPair fun p => { p with cap := none, nAbandoned := p.nAbandoned + 1, cpWaiters := c.who ++ p.cpWaiters
                                          finalDue := p.finalDue || c.final }
  | none => s
/-- A copy into the region is not yet committed (R513). -/
def State.copyWaits (s : State) (base size : Nat) : Bool :=
  s.journals && s.pair.deltas.any fun d => base ≤ d.1.toNat && d.1.toNat < base + size

/-! ## The check table (R551, R552) -/

/-- CRC-32C of a course bank's entries and of a chain's coefficient bank, as the check table holds them (R551). -/
def bankCrc (b : CBank) : Word32 := crc32c (b.entries.flatMap entryBytes)
def coefCrc (c : List (BitVec 24)) : Word32 := crc32c (c.flatMap fun v => leBytes 4 v.toNat)
/-- A load begins to write an object that a running background pass has not finished: the pass skips it (R552). Objects of
target 1 are the course banks, of target 2 the coefficient banks 2k and 2k + 1. -/
def State.overtake (s : State) (target obj : Nat) : State :=
  { s with plumb := s.plumb.map fun (p : Plumb) =>
    if p.pass && plTarget p.word == target && (if target == 1 then p.obj == obj else p.obj ≤ obj)
    then { p with skip := obj :: p.skip } else p }

/-! ## The Plinth store (R512): bytes that are not 0, by rising offset -/

def memRead (m : List Host.Cell) (a : Nat) : Byte :=
  match m.find? fun c => c.1 == a with | some c => c.2 | none => 0
/-- One byte written, keeping the canonical form. -/
def memWrite : List Host.Cell → Nat → Byte → List Host.Cell
  | [], a, b => if b == 0 then [] else [(a, b)]
  | (x, y) :: m, a, b =>
    if a < x then (if b == 0 then (x, y) :: m else (a, b) :: (x, y) :: m)
    else if a == x then (if b == 0 then m else (x, b) :: m)
    else (x, y) :: memWrite m a b
def memWriteAll (m : List Host.Cell) (a : Nat) : List Byte → List Host.Cell
  | [] => m
  | b :: bs => memWriteAll (memWrite m a b) (a + 1) bs
def memReadN (m : List Host.Cell) (a n : Nat) : List Byte := (List.range n).map fun i => memRead m (a + i)
/-- The canonical form: offsets strictly rising from lo, no byte 0. -/
def memOk : Nat → List Host.Cell → Bool
  | _, [] => true
  | lo, (x, y) :: m => decide (lo ≤ x) && y != 0 && memOk (x + 1) m
/-- Memory.wf of the Plinth store: canonical, and inside its 2 MiB (R512). -/
def plinthSize : Nat := 0x200000
def Memory.wf (m : List Host.Cell) : Bool := memOk 0 m && m.all fun c => c.1 < plinthSize

end Sys2Proof.Machine
end

