-- ==== Sys2Proof/Machine/Levels.lean ====
section
/-!
DEFINITION. The level of every driver (R212), safe values and triggers (R163–R168, R213), what a change of the driver
starts (R145, R178, R232), pulse generators (R217–R229), and Buttress' charges and tests (R230–R241).
-/
namespace Sys2Proof.Machine
open Sys2Proof

/-! ## Generators -/

/-- Down to a multiple of 125 ns (R219, R220). -/
def floor125 (n : Nat) : Nat := n / 125 * 125
def genPeriod (w : Word64) : Nat := puPeriod w * 1000
def genOffset (w : Word64) (phase : Nat) : Nat := floor125 (phase * genPeriod w / 1024)
/-- On-phase in ns: none shorter than 1 µs, no off-phase shorter than 1 µs (R220). -/
def genOn (w : Word64) : Nat :=
  let p := genPeriod w
  let on := floor125 (puDuty w * p / 1024)
  if on < 1000 then 0 else if p - on < 1000 then p else on
/-- Anchored at the start instant; SPREAD is treated as GRID (R227). -/
def genStartAnchored (w : Word64) : Bool := puStart w && !puSpread w
/-- DUTY held at DCAP (R225). -/
def capDuty (pulw budw : Word64) : Word64 := if buDcap budw < puDuty pulw then putFld pulw 20 11 (buDcap budw) else pulw
/-- The group that drives a unit: its generator's, held at the present DCAP (R225, log entry 55). -/
def Gen.runs (g : Gen) (budw : Word64) : Word64 := capDuty g.pulw budw
/-- Time into the current period at device time t, with the period's beginnings before the anchor counted back (R219, R221). -/
def Gen.pos (g : Gen) (t : Nat) : Nat :=
  let p := genPeriod g.pulw
  let base := (if genStartAnchored g.pulw then g.start else 0) + genOffset g.pulw g.phase
  if base ≤ t then (t - base) % p else (p - (base - t) % p) % p
/-- The first period start at or after t on the grid of a group. -/
def gridStart (w : Word64) (phase t : Nat) : Nat :=
  let p := genPeriod w
  t + (genOffset w phase % p + p - t % p) % p
/-- The old period has ended and the change waits for its new grid: the channel is off (R224, log entry 18). -/
def Gen.between (g : Gen) (t : Nat) : Bool := match g.next with | some (_, e) => decide (e ≤ t) | none => false
/-- The level a generator dictates (R219–R221, R224, R228). -/
def Gen.levelAt (g : Gen) (budw : Word64) (t : Nat) : Bool :=
  !g.between t && (decide (t < g.onUntil) ||
    (g.hold ≤ t && (!genStartAnchored g.pulw || g.start + genOffset g.pulw g.phase ≤ t) && g.pos t < genOn (g.runs budw)))
/-- End of the current period. -/
def Gen.periodEnd (g : Gen) (t : Nat) : Nat := t + (genPeriod g.pulw - g.pos t)
/-- The instant of the level change that led to the present phase: the period's start, or the end of its on-phase (R219,
R313). -/
def Gen.edgeAt (g : Gen) (budw : Word64) (t : Nat) : Nat :=
  if t < g.hold then min t g.onUntil
  else if g.pos t < genOn (g.runs budw) then t - g.pos t else t - g.pos t + genOn (g.runs budw)

/-- A group takes the place of the one that runs at the end of the current period (R224). -/
def Gen.change (g : Gen) (w : Word64) (t : Nat) : Gen :=
  { g with next := some (w, match g.next with | some (_, e) => e | none => g.periodEnd t) }
/-- The rise that waited has been admitted at device time t (R224). -/
def Gen.take (t : Nat) (g : Gen) : Gen :=
  match g.want with
  | some (w, _) => { g.change w t with want := none }
  | none => g

/-- Generators of a bank that run in SPREAD with an equal period (R227), the waiting change counted by its old period (R228). -/
def State.spreadPeers (s : State) (c : ChanId) (period : Nat) : List ChanId :=
  allChans.filter fun x => bankOf x == bankOf c &&
    match (s.chan x).gen with
    | some g => puSpread g.pulw && puPeriod g.pulw == period
    | none => false
/-- The phase offset of a generator in PHASE units (R227). -/
def State.spreadPhase (s : State) (c : ChanId) (w : Word64) : Nat :=
  if !puSpread w then puPhase w else
  if puSpn w != 0 then 1024 * (c.val % 8 % puSpn w) / puSpn w
  else
    let peers := s.spreadPeers c (puPeriod w)
    let peers := if peers.contains c then peers else (peers ++ [c]).mergeSort (fun a b => a.val ≤ b.val)
    1024 * (peers.findIdx (· == c) % peers.length) / peers.length

/-- A generator that starts now with group w (R221, R222). -/
def State.newGen (s : State) (c : ChanId) (w : Word64) : Gen :=
  let g : Gen := { pulw := w, start := s.now, phase := s.spreadPhase c w, next := none, want := none, lvl := false, edged := false
                   hold := 0, onUntil := 0, measured := none }
  { g with lvl := g.levelAt (s.chan c).budw s.now }
/-- A generator takes the offset that the spread now gives it at its next period start: the on-phase under way stays whole,
and the off-phase grows or shrinks (R228). -/
def State.respreadGen (s : State) (c : ChanId) (g : Gen) : Gen :=
  let t := s.now
  let ph := s.spreadPhase c g.pulw
  if !puSpread g.pulw || ph == g.phase then g else
  let on := genOn (g.runs (s.chan c).budw)
  let u := if t < g.hold then g.onUntil else if g.pos t < on then t + (on - g.pos t) else g.onUntil
  { g with phase := ph, onUntil := u, hold := gridStart g.pulw ph (if t < u then u + 1000 else t) }
/-- The generators of a quadrant follow a change of their bank's spread (R228). -/
def State.respread (s : State) (q : QuadId) : State :=
  ((quadChans q).filterMap fun c => (s.chan c).gen.map fun g => (c, s.respreadGen c g)).foldl
    (fun s p => s.modChan p.1 fun x => { x with gen := some p.2 }) s

/-! ## Driver level (R212) -/

/-- An automatic restart or a rejoining generator waits for its admission (R197, R204). -/
def State.waitsRestart (s : State) (l : ChanId) : Bool :=
  s.reqs.any fun r => r.chan == l && (r.src == .restart || r.kind == .rejoin)
/-- Protection holds the channel's unit off (ranks 1 and 2 of R212). -/
def State.fieldOff (s : State) (c : ChanId) : Bool :=
  let l := s.lead c
  let q := s.quad (quadOf c)
  !s.isOutput c || (s.members c).any (fun m => (s.chan m).cause != .none || (s.chan m).reverse) ||
  ((s.chan l).latch && !(s.chan l).drv) || q.hot || s.supplyOff (quadOf c) || q.supLatch || s.waitsRestart l || s.pair.ons.contains l
/-- The owner has commanded: the safe level ends (R168). -/
def Chan.owned (x : Chan) : Chan := { x with safeOn := false, safeStart := none, safeGate := false }
/-- The level of a safe PULSE train at running time t, started at start (R163, R165). -/
def safeTrain (per duty local_ start t : Nat) : Bool :=
  let p := per * 1000
  let off := floor125 (local_ * p / 32)
  decide ((t - start + p - off) % p < floor125 (duty * p / 1024))
/-- The safe level of the channel's unit (R163, R165, R168). On a disarmed quadrant a held level is not switched on anew
(R22, R137). -/
def State.safeLevel (s : State) (c : ChanId) : Bool :=
  let l := s.lead c
  let x := s.chan l
  let q := s.quad (quadOf c)
  match x.safe with
  | .off => false
  | .on => x.safeGate
  | .hold => x.held && (q.armed || q.dieArmed || x.drv)
  | .pulse => match x.safeStart with
    | some t => x.safeGate && safeTrain x.safePer x.safeDuty (localOf l).val t s.clock
    | none => false
/-- A safe level rules: a trigger acts, or the owner has not commanded since (R168, R213); armed is CORE's arm state, or the
one that the die has from its last good frame. -/
def State.safeUnder (s : State) (c : ChanId) (armed : Bool) : Bool := s.trigOn c || (armed && (s.chan (s.lead c)).safeOn)
def State.safeRules (s : State) (c : ChanId) : Bool := s.safeUnder c (s.quad (quadOf c)).armed
/-- Ranks 3 to 9 of R212 with an arm state and an owner's level. -/
def State.ranked (s : State) (c : ChanId) (armed own : Bool) : Bool :=
  let q := s.quad (quadOf c)
  if q.released || (q.fwTrig && s.inPair) then false
  else if s.safeUnder c armed then s.safeLevel c
  else armed && own
/-- The owner's level: its generator's, or its reference. -/
def State.ownLevel (s : State) (c : ChanId) : Bool :=
  match (s.chan (s.lead c)).gen with
  | some g => g.lvl
  | none => (s.chan (s.lead c)).ref
/-- What CORE asks of the channel's unit if protection allows it. -/
def State.demand (s : State) (c : ChanId) : Bool := s.ranked c (s.quad (quadOf c)).armed (s.ownLevel c)
/-- A test pulse has the channel on (R191). -/
def State.testing (s : State) (c : ChanId) : Bool := (s.chan c).test == .running
/-- The level that CORE sends and counts with; a test pulse switches on a channel that is off (R191, R212). -/
def State.level (s : State) (c : ChanId) : Bool :=
  !s.fieldOff c && (s.demand c || s.testing c)
/-- The silence of R30 lasts, and the quadrant holds its levels (R214): more than a frame has passed since the end of the
last good one. SAFE_N ends the hold (R215). -/
def State.holding (s : State) (q : QuadId) : Bool :=
  let x := s.quad q
  !s.safeN && !x.fwTrig && !x.released && match x.lastGood with | some t => decide (t + 1000 < s.clock) | none => false
/-- The level that the field die decides, from its last good frame (R22, R26, R212, R214). -/
def State.dieLevel (s : State) (c : ChanId) : Bool :=
  if s.fieldOff c then false
  else if s.holding (quadOf c) then (s.chan c).drv
  else s.ranked c (s.quad (quadOf c)).dieArmed (s.chan c).cmd
/-- The owner's reference or its generator asks for the channel (R197, R204). -/
def State.wanted (s : State) (c : ChanId) : Bool :=
  if s.safeRules c then (match (s.chan (s.lead c)).safe with | .off => false | .hold => (s.chan (s.lead c)).held | _ => true)
  else (s.quad (quadOf c)).armed && ((s.chan (s.lead c)).gen.isSome || (s.chan (s.lead c)).ref)

/-- Current of the latest sense code in mA (R183, R230). -/
def State.sensedMa (s : State) (c : ChanId) : Rat :=
  let x := s.chan c
  if x.sense == 0xFFF then 0 else (x.sense.toNat : Rat) * (if x.senseFine then 1 / 50 else 5 / 8)
/-- An on-edge opens an inrush window (R178): not a generator's or a safe train's later edge, nor a test pulse. -/
def State.opensWindow (s : State) (c : ChanId) : Bool :=
  let l := s.chan (s.lead c)
  prInrush (s.protOf c) != 0 && (s.chan c).test == .idle &&
  (if s.safeRules c then !(l.safe == .pulse && l.safeEdged) else match l.gen with | some g => !g.edged | none => true)

/-- The field die switches one driver at die time t: settle time (R145), inrush window (R178, R182), on-time of open-load
detection (R189), demagnetisation (R142, R232, R234), the 200 µs of a test pulse (R191). -/
def State.setDrv (s : State) (c : ChanId) (lvl : Bool) (t : Nat) : State :=
  let x := s.chan c
  if x.drv == lvl then s else
  let opens := lvl && s.opensWindow c
  let ma := s.sensedMa c
  let li := (chLoadl (s.chwOf c) : Rat) * ma * ma
  let settleNs := chSettle (s.chwOf c) * 1000
  let tested := x.test != .idle
  s.modChan c fun x =>
    { x with drv := lvl, drvAt := t
             settle := if tested then x.settle else some (t + settleNs)
             checkDue := !tested, ovFrom := if lvl then t else x.ovFrom
             onAcc := if lvl || tested then x.onAcc else x.onAcc + (t - (x.drvAt + settleNs))
             test := if lvl then x.test else .idle
             testEnd := if lvl && x.test == .running then some (t + 200000) else none
             inrush := if opens then some (t + prInrush (s.protOf c) * 1000000) else none
             inrFrom := if opens then t else x.inrFrom
             inrTo := if x.windowOn then some t else x.inrTo
             inrushCut := false, inLimit := false, limTo := if x.inLimit then some t else x.limTo
             inceil := if opens then prInceil (s.protOf c) else x.inceil
             dT := if lvl then x.dT else x.dT + li * x.rth / (1024 * x.tau)
             demag := if lvl then x.demag else (t, li / 1000) :: x.demag.filter fun e => t ≤ e.1 + 1000000000 }

/-- The drivers take the levels given, each at its instant, and the first on-edges are noted (R178). -/
def State.setDrvs (s : State) (levels : List (ChanId × Bool × Nat)) : State :=
  levels.foldl (fun s p =>
    let s := s.setDrv p.1 p.2.1 p.2.2
    if p.2.1 && s.lead p.1 == p.1 then
      s.modChan p.1 fun x => { x with safeEdged := x.safeEdged || x.safeGate
                                      gen := x.gen.map fun g => { g with edged := true } }
    else s) s
/-- The instant at which a driver takes a level that CORE asked for at device time t: t + 1.6 µs in its 125 ns eighth, later
by a frame for each downlink frame lost since (R26, R31, R286). -/
def Quad.takesAt (x : Quad) (t frame : Nat) : Nat :=
  max (1000 * frame) (floor125 (t + 1600) + 1000 * min x.lostRun (frame - (t / 1000 + 1)))
/-- The drivers of a quadrant take the levels of R212 from a good frame, a gang's two at one instant (R157). -/
def State.drive (s : State) (q : QuadId) : State :=
  s.setDrvs ((quadChans q).map fun c => (c, s.dieLevel c, (s.quad q).takesAt (s.chan (s.lead c)).chgAt s.frameNo))

/-! ## Waiting requests (R241–R248) -/

def State.findOut (s : State) (q : QueueId) (n : Word32) : Option Op :=
  s.ops.find? fun o => o.live && o.q == q && o.n == n && match o.kind with | .out _ => true | _ => false
def State.setOut (s : State) (o : Op) (x : OutOp) : State :=
  { s with ops := s.ops.map fun y => if y == o then { o with kind := .out x } else y }

/-- How a channel of an OUT_WRITE or OUT_PULSE was decided (R246). -/
inductive Decision where
  | applied (late : Bool) | refused | notApplied
deriving DecidableEq, Repr

/-- The status of an output command whose channels are all decided (R35, R246). -/
def OutOp.status (x : OutOp) : Status :=
  if x.applied == 0 then (if x.refused == x.named then .rejBudget else .rejState)
  else if x.applied == x.named then (if x.late then .doneLate else .done) else .partialDone
/-- The applied mask, the even channel's bit copied into the odd channel's of a gang (R155). -/
def State.appliedMask (s : State) (m : Mask128) : Mask128 :=
  m ||| chanMask fun c => s.isOdd c && bit m (prevChan c).val
/-- All channels of the command are decided, and the frames with its levels have been sent: it completes (R140, R246).
With none applied it completes at the decision. -/
def State.outDecided (s : State) (q : QueueId) (n : Word32) : State :=
  match s.findOut q n with
  | some o => match o.kind with
    | .out x =>
      if x.todo == 0 && x.quads == 0 then
        if x.applied == 0 then s.completeOp o x.status 0 s.now 0
        else s.completeOp o x.status x.capped x.sentAt (s.appliedMask x.applied)
      else s
    | _ => s
  | none => s

/-- A channel of a host command is decided (R246). -/
def State.decided (s : State) (q : QueueId) (n : Word32) (c : ChanId) (d : Decision) : State :=
  match s.findOut q n with
  | some o => match o.kind with
    | .out x =>
      let b := bitOf c
      let x := { x with todo := x.todo &&& ~~~b }
      let x := match d with
        | .applied late => { x with applied := x.applied ||| b, late := x.late || late
                                    quads := x.quads ||| BitVec.ofNat 4 (2 ^ (quadOf c).val) }
        | .refused => { x with refused := x.refused ||| b }
        | .notApplied => x
      (s.setOut o x).outDecided q n
    | _ => s
  | none => s

/-- Another channel of the same firing is still undecided, or was counted already: R299 counts entries (R285, R299). -/
def State.firingCounted (s : State) (r : Req) : Bool := s.course.counted.contains r.firing
/-- The firings to remember as counted: this one, and those whose requests still wait (R299). -/
def State.countedWith (s : State) (n : Nat) : List Nat :=
  n :: s.course.counted.filter fun k => s.reqs.any fun r => r.firing == k
/-- A request leaves the queue of Buttress with a decision for its command (R224, R246); a course entry is counted once,
whichever of its channels was refused or not applied first (R299). -/
def State.settleReq (s : State) (r : Req) (d : Decision) : State :=
  let s := r.olds.foldl (fun s p => s.decided p.1 p.2 r.chan (.applied true)) s
  let counted := s.firingCounted r
  match r.src with
  | .host q n => s.decided q n r.chan d
  | .courseHard _ | .courseSoft _ => match d with
    | .applied _ => s
    | .refused => if counted then s else
      s.modCourse fun c => { c with softRefused := c.softRefused + 1, counted := s.countedWith r.firing }
    | .notApplied => if counted then s else
      s.modCourse fun c => { c with notApplied := c.notApplied + 1, counted := s.countedWith r.firing }
  | .config _ | .restart => s
/-- The rise that a withdrawn or refused request was for is dropped, and the stored group returns (R224). -/
def State.dropChange (s : State) (r : Req) : State :=
  if r.kind == .raise then
    match (s.chan r.chan).gen with
    | some g => match g.want with
      | some (_, old) =>
        let s := (s.members r.chan).foldl (fun s m => s.modChan m fun x => { x with pulw := old }) s
        s.modChan r.chan fun x => { x with gen := some { g with want := none } }
      | none => s
    | none => s
  else s
/-- Withdraw the waiting requests of a channel; they were not applied (R248). -/
def State.withdraw (s : State) (c : ChanId) : State :=
  let mine := s.reqs.filter fun r => r.chan == c
  let s := { s with reqs := s.reqs.filter fun r => r.chan != c }
  mine.foldl (fun s r => (s.dropChange r).settleReq r .notApplied) s
/-- The requests of a channel that a new one of kind k, automatic or the owner's, takes the place of: a rise leaves a restart
or rejoin alone, and those leave a rise alone (R224, R226, R247). -/
def Req.clashes (r : Req) (c : ChanId) (auto : Bool) (k : ReqKind) : Bool :=
  r.chan == c && !(auto && r.kind == .raise) && !(k == .raise && r.src == .restart)
/-- The commands whose waiting switch-on among given requests a new level supersedes (R247). -/
def olderCommands (rs : List Req) : List (QueueId × Word32) :=
  rs.flatMap fun r => r.olds ++ match r.src with | .host q n => [(q, n)] | _ => []
/-- A new level, or a change of kind .raise to a generator, has been applied to a channel: the requests it supersedes are
withdrawn and count as applied (R247). -/
def State.supersede (s : State) (c : ChanId) (k : ReqKind := .level) : State :=
  let olds := olderCommands (s.reqs.filter fun r => r.clashes c false k)
  let s := { s with reqs := s.reqs.filter fun r => !r.clashes c false k }
  olds.foldl (fun s p => s.decided p.1 p.2 c (.applied true)) s
/-- Place of a request within its group and frame: table index, or the order of fetching (R42). -/
def State.reqKey (s : State) : ReqSrc → Nat
  | .courseHard i | .courseSoft i => i
  | .host q n => match (s.queue q).flight.find? fun e => e.num == n with | some e => e.ford | none => 0
  | .config ord => ord
  | .restart => 0
/-- A switch-on request reaches Buttress; it supersedes one of the channel that waits (R241, R247). -/
def State.request (s : State) (c : ChanId) (src : ReqSrc) (k : ReqKind) : State :=
  let auto := src == .restart
  let olds := olderCommands (s.reqs.filter fun r => r.clashes c auto k)
  { s with reqs := (s.reqs.filter fun r => !r.clashes c auto k) ++
             [{ chan := c, src := src, kind := k, frame := s.frameNo, key := s.reqKey src, seq := s.reqSeq
                firing := s.course.firing, tested := none, failed := 0, olds := olds }]
           reqSeq := s.reqSeq + 1 }

/-! ## Triggers (R163–R168, R213, R248) -/

/-- The first trigger takes effect on a channel: generator stopped, requests withdrawn, level held (R164, R166, R213, R248).
A test pulse is no level to hold: HOLD taken while one has the driver on holds off (log entry 97). A die that has kept its
settings through a reset knows no newer safe value (R85). -/
def State.takeSafe (s : State) (c : ChanId) : State :=
  let s := if s.lead c == c then s.withdraw c else s
  s.modChan c fun x =>
    let x := match (if s.staleChan c then none else x.safeNew) with
      | some v => { x with safe := v.1, safePer := v.2.1, safeDuty := v.2.2, safeNew := none }
      | none => x
    let on := x.safe == .on && x.drv && x.test == .idle
    { x with gen := none, ref := false, chgAt := s.now, held := x.drv && x.test == .idle, safeOn := true
             test := if x.test == .idle then .idle else .ending, testEnd := none
             safeStart := if on then some s.clock else none, safeGate := on, safeEdged := on }
/-- The last trigger clears: an armed channel keeps its safe level until its owner's next command (R168); on a disarmed
quadrant it is off (rank 8 of R212). -/
def State.leaveSafe (s : State) (c : ChanId) : State :=
  if (s.quad (quadOf c)).armed then s else s.modChan c Chan.owned
/-- A change of the triggers, with what it does to every channel. -/
def State.retrigger (s : State) (f : State → State) : State :=
  let t := f s
  allChans.foldl (fun u c =>
    if !s.trigOn c && t.trigOn c then u.takeSafe c
    else if s.trigOn c && !t.trigOn c then u.leaveSafe c else u) t

/-- Disarm a quadrant as DISARM does (R108). -/
def State.disarmQuad (s : State) (q : QuadId) : State :=
  if (s.quad q).sync then
    s.retrigger fun s => s.modQuad q fun x => { x with armed := false, armReq := false, disTrig := true, disWait := false }
  else s.modQuad q fun x => { x with armed := false, armReq := false, disWait := true }

/-! ## Charges (R230–R236) -/

/-- Modelled junction temperature in °C (R232). -/
def State.tj (s : State) (c : ChanId) : Rat :=
  let q := s.quad (quadOf c)
  let lo : Rat := if c.val % 32 == 0 then 0 else (s.chan (prevChan c)).dT
  let hi : Rat := if c.val % 32 == 31 then 0 else (s.chan (nextChan c)).dT
  q.dieT + (s.chan c).dT + (q.kappa : Rat) / 65536 * (lo + hi)
/-- R_model in mΩ (R231). -/
def State.rModel (s : State) (c : ChanId) : Rat := max 110 (min 210 (110 + 4 / 5 * (s.tj c - 25)))
/-- mW of a current in mA through one switch (R231). -/
def State.heat (s : State) (c : ChanId) (ma : Rat) : Rat := ma * ma * s.rModel c / 1000000
def State.inom (s : State) (c : ChanId) : Rat := 10 * (buInom (s.budOf c) : Rat)
def State.ipeak (s : State) (c : ChanId) : Rat :=
  if buIpeak (s.budOf c) == 0 then s.inom c else 20 * (buIpeak (s.budOf c) : Rat)
/-- Measured current of a unit in mA (R230). -/
def State.measuredMa (s : State) (l : ChanId) : Rat := (s.members l).foldl (fun a m => a + s.sensedMa m) 0
/-- Conduction of a unit in mW with INOM, split evenly between a gang's switches (R231, test 5 of R241). -/
def State.condNom (s : State) (l : ChanId) : Rat :=
  let ms := s.members l
  ms.foldl (fun a m => a + s.heat m (s.inom l / ms.length)) 0
/-- Conduction of a unit in mW, each switch with its own measured current (R231). -/
def State.condMeasured (s : State) (l : ChanId) : Rat := (s.members l).foldl (fun a m => a + s.heat m (s.sensedMa m)) 0
/-- The unit counts as on: driven, or about to be (R230). -/
def State.unitOn (s : State) (l : ChanId) : Bool := (s.chan l).drv || s.level l
/-- An inrush window of the unit runs, or opens with its next frame (R178, R241). -/
def State.inWindow (s : State) (l : ChanId) : Bool :=
  (s.members l).any (fun m => (s.chan m).windowOn) || (s.level l && !(s.chan l).drv && s.opensWindow l)
def dutyOf (w : Word64) : Rat := (puDuty w : Rat) / 1024
/-- The duty that a generator is charged with, held at DCAP: its own, or that of an admitted change if that is larger, since
an admitted request adds its charge at once (R224, R225, R241). -/
def Gen.duty (g : Gen) (budw : Word64) : Rat :=
  match g.next with
  | some (w, _) => max (dutyOf (g.runs budw)) (dutyOf (capDuty w budw))
  | none => dutyOf (g.runs budw)
/-- Current in mA of a generator's unit in its on-phases: INOM until one has been measured (R230). -/
def State.genCur (s : State) (l : ChanId) (g : Gen) : Rat :=
  match g.measured with | some ua => ((ua.1 + ua.2 : Nat) : Rat) / 1000 | none => s.inom l
/-- Conduction in mW of a generator's unit in its on-phases, each switch of a gang with its own current (R231). -/
def State.genCond (s : State) (l : ChanId) (g : Gen) : Rat :=
  match g.measured with
  | some ua => s.heat l ((ua.1 : Rat) / 1000) + s.heat (nextChan l) ((ua.2 : Rat) / 1000)
  | none => s.condNom l
/-- A test pulse alone has the unit on (R191). -/
def State.testOnly (s : State) (l : ChanId) : Bool := (s.chan l).test != .idle && !s.demand l
/-- The current charge of a unit in mA (R230); work: test pulses, which never count against a request, are counted (R252). -/
def State.unitCur (s : State) (work : Bool) (l : ChanId) : Rat :=
  if s.testOnly l then (if work then s.inom l else 0) else
  match (if s.safeRules l then none else (s.chan l).gen) with
  | some g => if s.fieldOff l then 0 else g.duty (s.budOf l) * s.genCur l g
  | none =>
    if !s.unitOn l then 0
    else if s.inWindow l then max (s.ipeak l) (s.measuredMa l)
    else if (s.chan l).settle.isSome || !(s.chan l).drv then s.inom l
    else s.measuredMa l
/-- The conduction charge of a unit in mW (R231). -/
def State.unitCond (s : State) (work : Bool) (l : ChanId) : Rat :=
  if s.testOnly l then (if work then s.condNom l else 0) else
  match (if s.safeRules l then none else (s.chan l).gen) with
  | some g => if s.fieldOff l then 0 else g.duty (s.budOf l) * s.genCond l g
  | none =>
    if !s.unitOn l then 0
    else if (s.chan l).drv && ((s.chan l).settle.isNone || s.inWindow l) then s.condMeasured l
    else s.condNom l
def State.leads (s : State) (q : QuadId) : List ChanId := (quadChans q).filter fun c => !s.isOdd c
def State.standingCur (s : State) (work : Bool) (q : QuadId) : Rat := (s.leads q).foldl (fun a l => a + s.unitCur work l) 0
def State.standingCond (s : State) (work : Bool) (q : QuadId) : Rat := (s.leads q).foldl (fun a l => a + s.unitCond work l) 0
/-- I_eff in mA, by the class that the uplink gave (R23, R236). -/
def State.iEff (s : State) (q : QuadId) : Rat :=
  let x := s.quad q
  let i : Rat := 10 * (qbIbud x.qbudw : Rat)
  if x.lclassUp == .low then max (i / 4) (min i (i * ((x.lplus : Rat) - 16000) / 3200)) else i
def State.pBud (s : State) (q : QuadId) : Rat := 10 * (qbPbud (s.quad q).qbudw : Rat)
/-- A deferrable slot runs in the quadrant's converter, until its last conversion has ended (R234, R252). -/
def State.deferring (s : State) (q : QuadId) : Bool :=
  let m := s.meas[q]
  (m.burst.toList ++ m.inj.toList).any (fun b => s1Defer b.w1) ||
  m.wait.any fun b => s1Defer b.w1 && b.convs.any fun v => s.now < v.fin
/-- P_pkg in mW (R234); work as for unitCur. -/
def State.pPkg (s : State) (work : Bool) : Rat :=
  let cond := (List.finRange 4).foldl (fun a q => a + s.standingCond work q) 0
  let inputs : Rat := allChans.foldl (fun a c =>
    let w := (s.chan c).chw
    if chIsInput w && (s.chan c).inSt then
      a + (if chItype w == 1 then 7 else 23 / 10) * ((s.quad (quadOf c)).lplus : Rat) / 1000
    else a) 0
  let demag : Rat := allChans.foldl (fun a c =>
    a + ((s.chan c).demag.filter fun e => s.dieNow ≤ e.1 + 1000000000).foldl (fun b e => b + e.2) 0) 0 / 1000
  let conv : Rat := if work then 40 * ((List.finRange 4).filter s.deferring).length else 0
  (s.logicMw : Rat) + s.visoMw + cond + inputs + demag + conv
/-- P_PKG in mW (R235). -/
def State.pPKG (s : State) : Rat :=
  let t := dvTamb s.devw
  if Config.codeAE && 85 < t then 11000 - 250 * ((t : Rat) - 85) else 11000
/-- Headroom of a quadrant with ma more of current (R251, R252). -/
def State.headroom (s : State) (q : QuadId) (ma : Rat) : Rat :=
  min ((s.iEff q - (s.standingCur true q + ma)) / s.iEff q)
    (min ((s.pBud q - s.standingCond true q) / s.pBud q) ((s.pPKG - s.pPkg true) / s.pPKG))

/-! ## The tests of R241 -/

/-- Admission is frozen (R206). -/
def State.frozen (s : State) (q : QuadId) : Bool := (quadChans q).any fun c => (s.chan c).dstate == 2 && !(s.chan c).windowOn
def State.windows (s : State) (q : QuadId) : Nat := ((s.leads q).filter s.inWindow).length
/-- The switch-on of a request opens an inrush window: it switches the channel on from off (R178). -/
def Req.opens (r : Req) (s : State) : Bool :=
  prInrush (s.protOf r.chan) != 0 && r.kind != .raise && !((s.chan r.chan).drv && (s.chan r.chan).test == .idle)
/-- Admission current in mA and conduction in mW (tests 4 to 6 of R241; for a rise, the increase of R224). -/
def State.asks (s : State) (r : Req) : Rat × Rat :=
  let l := r.chan
  let d : Rat := match r.kind with
    | .start w => dutyOf (capDuty w (s.budOf l))
    | .rejoin => match (s.chan l).gen with | some g => g.duty (s.budOf l) | none => 1
    | _ => 1
  match r.kind, (s.chan l).gen with
  | .raise, some g => match g.want with
    | some (w, _) =>
      let d := dutyOf (capDuty w (s.budOf l)) - g.duty (s.budOf l)
      (d * s.genCur l g, d * s.genCond l g)
    | none => (0, 0)
  | .raise, none => (0, 0)
  | _, _ => (if r.opens s then s.ipeak l else d * s.inom l, d * s.condNom l)
/-- The first test of R241 that fails, 0 when none does; work placed into headroom does not count (R252). -/
def State.testReq (s : State) (r : Req) : Nat :=
  let q := quadOf r.chan
  let a := s.asks r
  if s.frozen q then 1
  else if (s.members r.chan).any (fun m => 150 ≤ s.tj m) then 2
  else if r.opens s && qbKinr (s.quad q).qbudw ≤ s.windows q then 3
  else if s.iEff q < s.standingCur false q + a.1 then 4
  else if s.pBud q < s.standingCond false q + a.2 then 5
  else if s.pPKG < s.pPkg false + a.2 then 6
  else 0

/-- Step 3 of R197 holds for the unit: its slices are cool and TCOOL has passed; no REVERSE. -/
def State.coolEnough (s : State) (l : ChanId) : Bool :=
  (s.members l).all (fun m => !(s.chan m).sliceHot && !(s.chan m).reverse && (s.chan m).coolUntil ≤ s.dieNow)
def State.supplyGood (s : State) (q : QuadId) : Bool :=
  !s.supplyOff q && !(s.quad q).hot && !(s.quad q).supLatch && !s.visoLost
/-- A request may be tested: its unit may switch on once admitted (R107, R197, R198). The increase of a running generator
switches nothing on; a held safe level returns under its trigger (R204). -/
def State.readyReq (s : State) (r : Req) : Bool :=
  let q := quadOf r.chan
  (s.quad q).armed && (r.kind == .held || !s.trigOn r.chan) &&
  (r.kind == .raise || (s.supplyGood q && s.coolEnough r.chan && !(s.chan r.chan).latch))

/-- Group of a request in the order of R42. -/
def Req.rank (r : Req) : Nat :=
  match r.src with
  | .courseHard _ => 0 | .courseSoft _ => 1 | .host .. => 2 | .config _ => 2 | .restart => 3
/-- Order of decision: by group, waiting ones before new ones and oldest first, in table or fetch order, by channel (R42, R241). -/
def Req.before (a b : Req) : Bool :=
  if a.rank != b.rank then a.rank < b.rank
  else if a.frame != b.frame then a.frame < b.frame
  else if a.key != b.key then a.key < b.key else a.chan.val < b.chan.val

/-- Carry out an admitted request (R224, R226, R241). -/
def State.admitReq (s : State) (r : Req) : State :=
  let s := { s with reqs := s.reqs.filter fun x => x.seq != r.seq }
  let t := s.now
  let s := if r.kind == .raise then s else
    (s.members r.chan).foldl (fun s m => s.modChan m fun x => { x with cause := .none, chgAt := t }) s
  match r.kind with
  | .level => s.modChan r.chan fun x => { x.owned with gen := none, ref := true }
  | .start w =>
    let g := s.newGen r.chan w
    s.modChan r.chan fun x => { x.owned with gen := some g, ref := false }
  | .raise => s.modChan r.chan fun x => { x with gen := x.gen.map (Gen.take t) }
  | .rejoin => s.modChan r.chan fun x => { x with gen := x.gen.map fun g => { g with edged := false, lvl := g.levelAt x.budw t } }
  | .held => s

/-- OBINFO of an OVERBUDGET record (R486): outcome 1 HARD, 2 ADMITTED, 3 REFUSED. -/
def obInfo (host : Bool) (outcome test : Nat) : Byte := BitVec.ofNat 8 (b2n host + 2 * outcome + 8 * test)
def Req.isHost (r : Req) : Bool := match r.src with | .host .. => true | .config _ => true | _ => false

end Sys2Proof.Machine
end

