-- ==== Sys2Proof/Machine/Registers.lean ====
section
/-!
DEFINITION. BAR0 accesses: the set-up registers, the host watchdog, the device causes, the read-snapshot registers, the
debug window and the MSI-X table (R410–R419, R450, R451, R109–R114, R605–R620).
-/
namespace Sys2Proof.Machine
open Sys2Proof

/-! ## Access checks (R593, R608, R497) -/

def State.setWign (s : State) : State := (s.noteSet 13).modHost fun h => { h with wign := true }
/-- The function answers memory requests; a STARTING unit answers configuration requests only (R498). -/
def State.answers (s : State) : Bool := s.hostUp && s.pair.st != .starting
/-- The BAR0 set-up registers and the MSI-X table, which a pair copies (R497, R512). -/
def State.setupRegs (s : State) : List Nat × List (Word64 × Word32 × Bool) :=
  let h := s.host
  ([h.aqSq.toNat, h.aqCq.toNat, h.aqSize.toNat, h.dbBase.toNat, h.poll.toNat, b2n h.aqen, h.devEn.toNat, b2n h.wdLock,
    h.wdAct.toNat, h.wdPeriod], s.msix.toList.map fun e => (e.addr, e.data, e.mask))
/-- A BAR0 write to target t: denied or at a unit without the role it only sets WIGN. A change of the set-up registers
travels to the partner (R497, R513). -/
def State.barWrite (s : State) (t : Nat) (f : State → State) : State :=
  if !s.answers then s
  else if !s.holdsRole then s.setWign
  else if !s.allowed 0 t 2 then (s.deny 0 t 2).setWign
  else
    let s' := f s
    if s'.setupRegs == s.setupRegs then s' else s'.configured none false
/-- A BAR0 read of target t; a denied one returns 0. -/
def State.barRead (s : State) (t : Nat) (f : State → State) : State :=
  if !s.answers then s
  else if !s.allowed 0 t 1 then (s.deny 0 t 1).answer 0
  else f s

/-! ## Host watchdog (R109–R114) -/

/-- A restart ends a SAFE action (R109, R111). -/
def State.wdRestart (s : State) : State :=
  let s := s.modHost fun h => { h with wdLast := s.now, wdFired := false }
  s.retrigger fun s => { s with quads := s.quads.map fun x => { x with hwTrig := false } }

/-- A write of HI_HOSTWD; EXPIRED set in the same cycle stays set (R113). -/
def State.hostwdWrite (s : State) (v : Word32) : State :=
  let s := if bit v 30 && !bit s.justSet 12 then s.modHost fun h => { h with wdExpired := false } else s
  if s.host.wdLock then s else
  let s := s.modHost fun h => { h with wdLock := bit v 31, wdAct := v.extractLsb' 20 8, wdPeriod := fld v 0 14 }
  s.wdRestart

/-- The period in ns; above 10,000 acts as 10,000 (R113). -/
def HostRegs.wdNs (h : HostRegs) : Nat := min 10000 h.wdPeriod * 1000000

/-! ## Admin queue registers (R415–R419, R456) -/

def sizeLogs (w : Word32) : Nat × Nat := (fld w 0 5, fld w 8 5)
/-- AQEN = 1 (R419). -/
def State.adminEnable (s : State) : State :=
  if (s.queue 0).st != .absent then s else
  let (sq, cq) := sizeLogs s.host.aqSize
  if sq < 4 || 16 < sq || cq < 4 || 16 < cq || s.host.dbBase == 0 || s.host.aqSq == 0 || s.host.aqCq == 0 then
    (s.noteSet 14).modHost fun h => { h with cfgerr := true }
  else
    let s := s.modHost fun h => { h with aqen := true }
    s.modQueue 0 fun _ => { Reset.queue with st := .active, cls := 1, weight := 4, sqlog := sq, cqlog := cq
                                             sqbase := s.host.aqSq, cqbase := s.host.aqCq }
/-- AQEN = 0 (R456). -/
def State.adminDisable (s : State) : State :=
  let s := s.modHost fun h => { h with aqen := false }
  match (s.queue 0).st with
  | .active => s.beginDrain 0
  | .error => s.drained 0
  | _ => s

/-- Any queue exists (R418). -/
def State.anyQueue (s : State) : Bool := s.queues.toList.any fun u => u.st != .absent
/-- Any of queues 1–63 exists (R89, R390). -/
def State.anyIoQueue (s : State) : Bool := (s.queues.toList.drop 1).any fun u => u.st != .absent

/-- The low or high word of a 64-bit register. -/
def setLow (w : Word64) (v : Word32) : Word64 := (w &&& 0xFFFFFFFF00000000) ||| v.setWidth 64
def setHigh (w : Word64) (v : Word32) : Word64 := (w &&& 0xFFFFFFFF) ||| (v.setWidth 64 <<< 32)

/-! ## MSI-X table (R449, R619) -/

/-- A mask bit falls: a pending message is issued (R449). -/
def State.unmask (s : State) (v : VecId) : State :=
  let pend := s.msix[v].pend
  let s := setMsix s v fun e => { e with mask := false, pend := if s.host.msixEn then false else e.pend }
  if pend then s.signal v else s

/-- A 32-bit write to word i of entry v. -/
def State.msixWrite (s : State) (v : VecId) (i : Nat) (x : Word32) : State :=
  match i with
  | 0 => setMsix s v fun e => { e with addr := setLow e.addr x }
  | 1 => setMsix s v fun e => { e with addr := setHigh e.addr x }
  | 2 => setMsix s v fun e => { e with data := x }
  | _ => if bit x 0 then setMsix s v fun e => { e with mask := true } else s.unmask v

/-! ## Word writes (R13, R606, R607, R610) -/

/-- The access-table target of a BAR0 offset; none for reserved blocks (R605, R608). -/
def barTarget (off : Nat) : Option Nat :=
  if off < 0x1000 then some 0 else if off < 0x2000 then some 1 else if off < 0x3000 then some 2
  else if off < 0x4000 then some 3 else if off < 0x4440 then some 1
  else if 0x5000 ≤ off && off < 0x5010 then some 1 else none

/-- One aligned 32-bit write, by the access type of its fields. -/
def State.writeWord (s : State) (off : Nat) (v : Word32) : State :=
  let admin (f : HostRegs → HostRegs) : State := if (s.queue 0).st == .absent then s.modHost f else s.setWign
  let db (f : HostRegs → HostRegs) : State := if s.anyQueue then s.setWign else s.modHost f
  match off with
  | 0x1000 => if bit v 0 then s.adminEnable else s.adminDisable
  | 0x1004 => s.modHost fun h => { h with wign := h.wign && !(bit v 3 && !bit s.justSet 13), cfgerr := h.cfgerr && !(bit v 2 && !bit s.justSet 14) }
  | 0x1008 => admin fun h => { h with aqSq := setLow h.aqSq (v &&& 0xFFFFFFC0) }
  | 0x100C => admin fun h => { h with aqSq := setHigh h.aqSq v }
  | 0x1010 => admin fun h => { h with aqCq := setLow h.aqCq (v &&& 0xFFFFFFC0) }
  | 0x1014 => admin fun h => { h with aqCq := setHigh h.aqCq v }
  | 0x1018 => admin fun h => { h with aqSize := v &&& 0x1F1F }
  | 0x101C => s.modHost fun h => { h with poll := v &&& 0x3FFF }
  | 0x1020 => db fun h => { h with dbBase := setLow h.dbBase (v &&& 0xFFFFFC00) }
  | 0x1024 => db fun h => { h with dbBase := setHigh h.dbBase v }
  | 0x1028 => s.hostwdWrite v
  | 0x102C => s.wdRestart
  | 0x1030 => s.clearCauses v
  | 0x1034 => s.setDev s.host.devCause (v &&& 0xFFF)
  | 0x2004 => if bit v 31 then s.clearDeny else s
  | 0x3000 => s.modHost fun h => { h with dbgUe := h.dbgUe && !(bit v 3 && !bit s.justSet 16), dbgDeny := h.dbgDeny && !(bit v 2 && !bit s.justSet 17)
                                          dbgAinc := bit v 1, dbgWen := bit v 0 }
  | 0x3004 => s.modHost fun h => { h with dbgAddr := (v &&& 0xFFFFF8).setWidth 24 }
  | _ =>
    if h : 0x4000 ≤ off ∧ off < 0x4440 then s.msixWrite ⟨(off - 0x4000) / 16, by omega⟩ ((off - 0x4000) % 16 / 4) v
    else s

/-! ## Word reads without side effects (R606, R607, R610) -/

/-- What a 32-bit read returns where it has no side effect. -/
def State.readWord (s : State) (off : Nat) : Word32 :=
  let h := s.host
  match off with
  | 0x0 => s.glBoot
  | 0x4 => s.glId
  | 0xC => h.timeShadow
  | 0x1000 => BitVec.ofNat 32 (b2n h.aqen)
  | 0x1004 => s.hiStatus
  | 0x1008 => h.aqSq.setWidth 32
  | 0x100C => (h.aqSq >>> 32).setWidth 32
  | 0x1010 => h.aqCq.setWidth 32
  | 0x1014 => (h.aqCq >>> 32).setWidth 32
  | 0x1018 => h.aqSize
  | 0x101C => h.poll
  | 0x1020 => h.dbBase.setWidth 32
  | 0x1024 => (h.dbBase >>> 32).setWidth 32
  | 0x1028 => s.hiHostwd
  | 0x1030 => h.devCause
  | 0x1034 => h.devEn
  | 0x2000 => s.secState
  | 0x2004 => s.secDeny
  | 0x3000 => s.dbgCtrl
  | 0x3004 => h.dbgAddr.setWidth 32
  | 0x300C => h.dbgShadow
  | _ =>
    if 0x2100 ≤ off && off < 0x21B0 && off % 8 == 4 then h.rowShadow.toList.getD ((off - 0x2100) / 8) 0
    else if h : 0x4000 ≤ off ∧ off < 0x4440 then
      let e := s.msix[(off - 0x4000) / 16]
      match (off - 0x4000) % 16 / 4 with
      | 0 => e.addr.setWidth 32 | 1 => (e.addr >>> 32).setWidth 32 | 2 => e.data | _ => BitVec.ofNat 32 (b2n e.mask)
    else if 0x5000 ≤ off && off < 0x5010 then
      maskOf 32 fun i => ((s.msix.toList[8 * (off - 0x5000) + i]?).map (·.pend)).getD false
    else 0

/-! ## The debug window (R616–R618) -/

/-- The access-table target of a Vault address; unassigned space is Mason data (R388, R389, R590, R618). -/
def State.vaultTarget (s : State) (a : Nat) : Nat :=
  let d := laDstg s.vault.layout * 65536
  let r := laRstg s.vault.layout * 65536
  let ar := laArch s.vault.layout * 65536
  if a < 0x40000 then 0x10 else if a < 0x80000 then 0x11 else if a < 0x90000 then 0x12 else if a < 0xA0000 then 0x13
  else if a < 0x120000 then 0x14 else if a < 0x120000 + d then 0x15 else if a < 0x120000 + d + r then 0x16
  else if a < 0x120000 + d + r + ar then 0x17 else 0x14

/-- The Vault word at an aligned address where the manual gives its place: course entries (R275, R388), accumulators
(R334, R388), check table (R551). Other words are free (log entry 6). -/
def State.vaultWord (s : State) (a : Nat) : Option Word64 :=
  let word (bs : List Byte) : Word64 := BitVec.ofNat 64 (leNat bs)
  if a < 0x40000 then
    let b := s.course.banks[(if a < 0x20000 then 0 else 1 : CBankId)]
    match b.entries[a % 0x20000 / 16]? with
    | some e => some (word (slice (entryBytes e) (a % 16) 8))
    | none => none
  else if 0x7FF00 ≤ a && a < 0x80000 then
    let o := a - 0x7FF00
    let pair (x y : Word32) : Word64 := x.setWidth 64 ||| (y.setWidth 64 <<< 32)
    if o == 0 then some (pair s.vault.cb[0] s.vault.cb[1])
    else if 0x80 ≤ o then
      let k := (o - 0x80) / 8
      some (pair (s.vault.cfA.toList.getD k 0) (s.vault.cfB.toList.getD k 0))
    else some 0
  else if 0x80000 ≤ a && a < 0x80000 + 260 * 32 then
    let i := (a - 0x80000) / 32
    match s.meas.toList[i / 65]? with
    | some m => match m.slots.toList[i % 65]? with
      | some sl => some (word (slice sl.acc.bytes (a % 32) 8))
      | none => none
    | none => none
  else none

/-- A read of the low word of DBG_DATA (R618). R618 does not say what such a read leaves in the shadow when WEN is 0: the
model leaves the shadow as it is, whereas a denied read sets it to 0 (log entry 102). -/
def State.dbgRead (s : State) (ue : Bool) : State :=
  if !s.host.dbgWen then s.answer 0 else
  let a := s.host.dbgAddr.toNat
  let t := s.vaultTarget a
  let s := if s.host.dbgAinc then s.modHost fun h => { h with dbgAddr := h.dbgAddr + 8 } else s
  if !s.allowed 13 t 1 then (((s.deny 13 t 1).noteSet 17).modHost fun h => { h with dbgDeny := true, dbgShadow := 0 }).answer 0
  else
    let s := if ue then ((s.vaultUe a).noteSet 16).modHost fun h => { h with dbgUe := true } else s
    let w : Word64 := if ue then BitVec.ofNat 64 s.fresh else (s.vaultWord a).getD (BitVec.ofNat 64 s.fresh)
    (s.useFresh.modHost fun h => { h with dbgShadow := (w >>> 32).setWidth 32 }).answer (w.setWidth 32)

/-! ## The commands -/

/-- ADMIN_QUEUE_ENABLE: AQEN = 1 (R415, R419). -/
def execAdminQueueEnable (dt : Nat) (s : State) : Host.Outcome State Fault Refusal :=
  .next ((s.elapse dt).barWrite 1 State.adminEnable)
/-- ADMIN_QUEUE_DISABLE: AQEN = 0 (R415, R456). -/
def execAdminQueueDisable (dt : Nat) (s : State) : Host.Outcome State Fault Refusal :=
  .next ((s.elapse dt).barWrite 1 State.adminDisable)
/-- HI_HOSTWD_WRITE (R109, R113). -/
def execHiHostwdWrite (dt : Nat) (v : Word32) (s : State) : Host.Outcome State Fault Refusal :=
  .next ((s.elapse dt).barWrite 1 fun s => s.hostwdWrite v)
/-- HI_KEEPALIVE: any value restarts the host watchdog (R114). -/
def execHiKeepalive (dt : Nat) (_v : Word32) (s : State) : Host.Outcome State Fault Refusal :=
  .next ((s.elapse dt).barWrite 1 State.wdRestart)
/-- HI_DEVCAUSE_WRITE: 1 clears a cause (R450). -/
def execHiDevcauseWrite (dt : Nat) (v : Word32) (s : State) : Host.Outcome State Fault Refusal :=
  .next ((s.elapse dt).barWrite 1 fun s => s.clearCauses v)
/-- HI_DEVEN_WRITE (R451). -/
def execHiDevenWrite (dt : Nat) (v : Word32) (s : State) : Host.Outcome State Fault Refusal :=
  .next ((s.elapse dt).barWrite 1 fun s => s.setDev s.host.devCause (v &&& 0xFFF))
/-- GL_TIME_READ: the low word, with the high word latched (R612). -/
def execGlTimeRead (dt : Nat) (s : State) : Host.Outcome State Fault Refusal :=
  .next ((s.elapse dt).barRead 0 fun s =>
    (s.modHost fun h => { h with timeShadow := BitVec.ofNat 32 (s.now / 2 ^ 32) }).answer (BitVec.ofNat 32 s.now))
/-- SEC_ROW_READ: the low word of a row, with its high word latched (R615). -/
def execSecRowRead (dt : Nat) (row : Fin 22) (s : State) : Host.Outcome State Fault Refusal :=
  .next ((s.elapse dt).barRead 2 fun s =>
    (s.modHost fun h => { h with rowShadow := h.rowShadow.set row ((s.rows[row] >>> 32).setWidth 32) }).answer (s.rows[row].setWidth 32))
/-- DBG_DATA_READ; ue: the Vault word has an uncorrectable error (R618). -/
def execDbgDataRead (dt : Nat) (ue : Bool) (s : State) : Host.Outcome State Fault Refusal :=
  .next ((s.elapse dt).barRead 3 fun s => s.dbgRead ue)
/-- REGISTER_WRITE of 1, 2, 4 or 8 bytes: a short write only sets WIGN, a long one is two word writes (R606, R607); an
offset outside BAR0 names no register (R605). -/
def execRegisterWrite (dt off size : Nat) (v : Word64) (s : State) : Host.Outcome State Fault Refusal :=
  if 0x100000 ≤ off then .fault (.outsideBar0 off) else
  let s := s.elapse dt
  .next <|
    if off % size != 0 || !(size == 1 || size == 2 || size == 4 || size == 8) then s
    else match barTarget off with
      | none => s
      | some t => s.barWrite t fun s =>
        if size < 4 then s.setWign
        else
          let s := s.writeWord off (v.setWidth 32)
          if size == 8 then s.writeWord (off + 4) ((v >>> 32).setWidth 32) else s
/-- MSIX_VECTOR_UNMASK: the vector's mask bit falls (R449). -/
def execMsixVectorUnmask (dt : Nat) (v : VecId) (s : State) : Host.Outcome State Fault Refusal :=
  .next ((s.elapse dt).barWrite 1 fun s => s.unmask v)

end Sys2Proof.Machine
end

