-- ==== Sys2Proof/Machine/HostLink.lean ====
section
/-!
DEFINITION. The host link: resets of the host interface, bus mastering, doorbell polling, fetching and staging of
descriptors, record writing, coalescing and flushing (R94–R97, R411–R461, R543–R547, R598).
-/
namespace Sys2Proof.Machine
open Sys2Proof

/-! ## Reset of the host interface (R94, R96, R460, R572) -/

/-- Started commands finish their effect on the field without a completion (R96). -/
def orphan (s : State) : State :=
  let keep (o : Op) : Bool := match o.kind with
    | .out _ | .arm .. | .disarm .. | .drain .. | .data | .coursePass2 _ | .chConfig .. | .delta .. | .checkpoint => false
    | _ => true
  let pair : Pair := { s.pair with cpWaiters := [], cap := s.pair.cap.map fun (c : Capture) => { c with who := [] }
                                   resyncing := s.pair.resyncing.map fun _ => none }
  { s with ops := (s.ops.filter keep).map fun o =>
             { o with live := false, kind := match o.kind with | .fadeWait k f => .fadeWait k { f with who := none } | k => k }
           reqs := s.reqs.map fun r => match r.src with
             | .host .. => { r with src := .config r.key, olds := [] }
             | _ => { r with olds := [] }
           course := { s.course with swap := s.course.swap.map fun w => { w with who := none } }
           chains := s.chains.map fun c => { c with fade := c.fade.map fun f => { f with who := none }
                                                    pend := c.pend.map fun f => { f with who := none } }
           arch := { s.arch with waiter := none }
           plumb := s.plumb.map fun p => { p with scan := none, scanWait := [] }
           pair := pair
           mason := { s.mason with busy := none } }

/-- PERST_N and function-level reset (R94, R460): the field side keeps running. -/
def State.hostReset (s : State) (perst flr : Bool) : State :=
  let s := orphan s
  let h := s.host
  { s with
    host := { Reset.host with wdLock := h.wdLock, wdExpired := h.wdExpired, wdAct := h.wdAct, wdPeriod := h.wdPeriod
                              wdLast := h.wdLast, wdFired := h.wdFired, jtag := h.jtag
                              devCause := if h.wdExpired then h.devCause &&& 1 else 0
                              link := if perst then 0 else h.link, perst := perst, flr := flr }
    msix := .replicate 68 Reset.msixEntry
    queues := .replicate 64 Reset.queue
    routes := .replicate 10 0
    flush := 1000
    outWait := []
    staging := []
    mason := { s.mason with resetDiscards := s.mason.resetDiscards + s.staging.length }
    serial := { s.serial with tx := [] }
    fieldDue := some 1 }

/-- FUNCTION_LEVEL_RESET starts (R95). -/
def execFunctionLevelReset (dt : Nat) (s : State) : Host.Outcome State Fault Refusal :=
  let s := s.elapse dt
  .next (s.when s.hostUp fun s => s.hostReset false true)
/-- FUNCTION_LEVEL_RESET_COMPLETE (R95). -/
def execFunctionLevelResetComplete (dt : Nat) (s : State) : Host.Outcome State Fault Refusal :=
  let s := s.elapse dt
  .next (s.when (s.up && s.host.flr) fun s => s.modHost fun h => { h with flr := false })
/-- PERST_ASSERT (R95, R460). -/
def execPerstAssert (dt : Nat) (s : State) : Host.Outcome State Fault Refusal :=
  let s := s.elapse dt
  .next (if s.up && !s.host.perst then s.hostReset true false else s.modHost fun h => { h with perst := true })
/-- PERST_RELEASE: the link trains, or with the release of the power-on reset, if that comes later (R95, R102). -/
def execPerstRelease (dt : Nat) (s : State) : Host.Outcome State Fault Refusal :=
  let s := s.elapse dt
  .next (s.when s.host.perst fun s =>
    s.modHost fun h => { h with perst := false, link := if !s.up then h.link else if s.pair.st == .standby then 2 else 1 })
/-- D0_TO_D3HOT: no memory request from now on, and the link leaves L0 for L1.2 (R412, R413, log entry 103). -/
def execD0ToD3hot (dt : Nat) (s : State) : Host.Outcome State Fault Refusal :=
  let s := s.elapse dt
  .next (s.when (s.hostUp && !s.host.d3hot) fun s => s.modHost fun h => { h with d3hot := true, link := 2 })
/-- D3HOT_TO_D0, over a link that is back in L0, resets the function as a function-level reset does (R412, R414). -/
def execD3hotToD0 (dt : Nat) (s : State) : Host.Outcome State Fault Refusal :=
  let s := s.elapse dt
  .next (s.when (s.hostUp && s.host.d3hot) fun s => (s.hostReset false false).modHost fun h => { h with link := 1, wakeLow := false })
/-- LINK_RETURN_TO_L0 releases WAKE_N (R414). -/
def execLinkReturnToL0 (dt : Nat) (s : State) : Host.Outcome State Fault Refusal :=
  let s := s.elapse dt
  .next (s.when (s.up && 2 ≤ s.host.link.val) fun s => s.modHost fun h => { h with link := 1, wakeLow := false })
/-- BUS_MASTER_ENABLE: the Command register's bits and MSI-X Enable are written; waiting writes issue in order (R449,
R459, log entry 14). -/
def execBusMasterEnable (dt : Nat) (on memSpace msixOn : Bool) (s : State) : Host.Outcome State Fault Refusal :=
  let s := s.elapse dt
  .next (s.when s.hostUp fun s =>
    let s := s.modHost fun h => { h with bme := on, mse := memSpace, msixEn := msixOn }
    if on && !s.host.d3hot then { s with out := s.out ++ s.outWait, outWait := [] } else s)

/-! ## Polling (R426–R429) -/

def HostRegs.pollNs (h : HostRegs) : Nat := max 5 (min 10000 h.poll.toNat) * 100
/-- Polling runs and no takeover holds it back (R426, R527). -/
def State.pollRuns (s : State) : Bool := s.polling && s.pair.t1.isNone && !s.dormantReq

/-- DOORBELL_POLL: the next poll of GEN is issued; a new period counts from it on (R418, R426). -/
def execDoorbellPoll (dt : Nat) (s : State) : Host.Outcome State Fault Refusal :=
  let s := s.elapse dt
  .next (s.when (s.pollRuns && !s.host.pollOut && (!s.host.polledOnce || s.host.pollAt ≤ s.now)) fun s =>
    (s.modHost fun h => { h with pollOut := true, pollAt := s.now + s.host.pollNs, polledOnce := true }).emit (.pollRead s.host.dbBase))
/-- POLL_COMPLETE: a change of GEN restarts the host watchdog and issues the index read, if none is outstanding (R109,
R427, R428, log entry 91). -/
def execPollComplete (dt : Nat) (gen : Word64) (s : State) : Host.Outcome State Fault Refusal :=
  let s := s.elapse dt
  .next (s.when (s.hostUp && s.host.pollOut) fun s =>
    let s := s.modHost fun h => { h with pollOut := false }
    if gen != s.host.gen || s.pair.firstPoll then
      let s := if s.host.wdPeriod != 0 then s.wdRestart else s
      if s.host.indexOut then s else
      ((s.modPair fun p => { p with firstPoll := false }).modHost fun h => { h with genSeen := some gen, indexOut := true }).emit
        (.indexRead (s.host.dbBase + 0x40))
    else s)

/-- R429 on one queue: why its indices are impossible. -/
def Queue.badIndex (u : Queue) : Option QErr :=
  if 2 ^ u.sqlog < (u.sqp - u.f).toNat then some .sqidx
  else if 2 ^ u.cqlog < (u.w - u.cqc).toNat then some .cqidx else none
/-- INDEX_READ_COMPLETE: GEN is accepted, indices are taken and checked (R427, R429). -/
def execIndexReadComplete (dt : Nat) (sqp cqc : Vector Word32 64) (s : State) : Host.Outcome State Fault Refusal :=
  let s := s.elapse dt
  .next (s.when (s.hostUp && s.host.indexOut) fun s =>
    let s := s.modHost fun h => { h with gen := h.genSeen.getD h.gen, genSeen := none, indexOut := false }
    (List.finRange 64).foldl (fun s q =>
      if (s.queue q).st == .absent then s else
      let s := s.modQueue q fun u => { u with sqp := sqp[q], cqc := cqc[q] }
      match (s.queue q).badIndex with
      | some e =>
        if (s.queue q).st == .error then s else
        (s.modQueue q fun u => { u with st := .error, err := some e }).raiseCause 3
      | none => s) s)

/-! ## Fetching (R430–R432, R518, R519) -/

/-- Descriptors in flight, and room for one more in descriptor staging (R389, R430). -/
def State.dstgRoom (s : State) (count : Nat) : Bool :=
  ((s.queues.toList.map fun u => u.flight.length).foldl (· + ·) 0 + count) * 64 ≤ laDstg s.vault.layout * 65536
/-- The queue may fetch count descriptors (R430). -/
def State.mayFetch (s : State) (q : QueueId) (count : Nat) : Bool :=
  let u := s.queue q
  u.st == .active && count ≤ (u.sqp - u.f).toNat && (u.w - u.cqc).toNat + u.flight.length + count ≤ 2 ^ u.cqlog &&
  u.flight.length + count ≤ 64 && s.dstgRoom count
/-- The queue of a class whose turn it is (R431). -/
def State.turnOf (s : State) (cls : Fin 4) : Option QueueId :=
  let qs := (List.finRange 64).filter fun q => (s.queue q).cls == cls && (s.queue q).st != .absent
  let may := qs.filter fun q => s.mayFetch q 1
  match qs.find? fun q => 0 < (s.queue q).turn with
  | some p =>
    if s.mayFetch p 1 && (s.queue p).turn < (s.queue p).weight then some p
    else match may.find? fun q => p.val < q.val with
      | some q => some q
      | none => may.head?
  | none => may.head?
/-- Descriptors the queue may still fetch in its turn (R431). -/
def Queue.turnLeft (u : Queue) : Nat := if u.turn < u.weight then u.weight - u.turn else u.weight

/-- The index-log entry of a fetch read (R518). -/
def logEntry (f : Word32) (q : QueueId) (tag : Byte) : List Byte :=
  let bs := leBytes 4 f.toNat ++ [BitVec.ofNat 8 q.val, tag, 0]
  bs ++ [crc8 bs]
def logAddr (seq : Word32) (idx : Nat) : Word32 := BitVec.ofNat 32 (0x80000 + 0x6000 * (seq.toNat % 64) + 0x3000 + 8 * idx)

/-- DESCRIPTOR_FETCH: one fetch read of count descriptors of queue q, by class priority and turns (R430–R432); in a pair
its index-log entry is queued, and a full log makes fetching wait (R518, R519). -/
def execDescriptorFetch (dt : Nat) (q : QueueId) (count : Nat) (s : State) : Host.Outcome State Fault Refusal :=
  let s := s.elapse dt
  let u := s.queue q
  let classOk := (List.finRange 64).all fun p => !((s.queue p).cls.val < u.cls.val && s.mayFetch p 1)
  .next (s.when (s.pollRuns && s.pair.handover.isNone && !s.pair.handedOver && 1 ≤ count && count ≤ 8 && s.mayFetch q count && classOk &&
      s.turnOf u.cls == some q && count ≤ u.turnLeft && u.f.toNat % 2 ^ u.sqlog + count ≤ 2 ^ u.sqlog) fun s =>
    if s.journals && 1536 ≤ s.pair.logUsed then s.modPair fun p => { p with nLogFull := p.nLogFull + 1 }
    else
      let new : List Inflight := (List.range count).map fun i =>
        { num := u.f + BitVec.ofNat 32 i, desc := 0, stage := .fetching, logged := !s.journals, aresync := false, rdrop := false,
          ford := s.fetchSeq + i }
      let turn := if u.turn < u.weight then u.turn + count else count
      let f := u.f + BitVec.ofNat 32 count
      let s := { s with queues := s.queues.map fun (x : Queue) => if x.cls == u.cls then { x with turn := 0 } else x }
      let s := { s with fetchSeq := s.fetchSeq + count }.modQueue q fun u => { u with f := f, flight := u.flight ++ new, turn := turn }
      let s := s.emit (.fetchRead q (u.sqbase + BitVec.ofNat 64 (64 * (u.f.toNat % 2 ^ u.sqlog))) u.f count)
      if s.journals then
        s.modPair fun (p : Pair) =>
          { p with logUsed := p.logUsed + 1, logWait := p.logWait ++ [(logAddr p.seq p.logUsed, q, f)]
                   tx := p.tx ++ [ZFrame.log f (BitVec.ofNat 8 q.val) (p.seq.setWidth 8)] }
      else s)

/-! ## Staging (R543–R547, R598) -/

/-- The checks of R543 and R547 on a staged descriptor: the rejection, or the queue's new alive value and ARESYNC. -/
def profileCheck (u : Queue) (w : Word64) (d : Desc) : Except (Status × Nat) (Word16 × Bool) :=
  if dCheck d != crc32c (dBytes60 d) then .error (.rejCheck, 0xCD00) else
  let k := plWidth w
  let a := (dAlive d).toNat
  if 2 ^ k ≤ a then .error (.rejField, 56) else
  if k == 0 then .ok (u.alive, u.resync) else
  let step := (a + 2 ^ k - u.alive.toNat % 2 ^ k) % 2 ^ k
  let bad := step == 0 || (!u.resync && plStep w < step)
  if bad then .error (.rejAlive, (u.alive.toNat + 1) % 2 ^ k) else .ok (dAlive d, u.resync)

/-- A staged descriptor of a profiled queue is checked (R543). -/
def State.checkStaged (s : State) (q : QueueId) (n : Word32) (d : Desc) : Except (Status × Nat) State :=
  match (s.queue q).profile with
  | none => .ok s
  | some x => match profileCheck (s.queue q) s.plumb[x].word d with
    | .error e => .error e
    | .ok (v, re) => .ok (s.modQueue q fun u =>
        { u with alive := v, resync := false
                 flight := u.flight.map fun e => if e.num == n then { e with aresync := re } else e })

/-- DESCRIPTOR_STAGED: the last line of descriptor n is staged, in fetch order; ue: descriptor staging met an
uncorrectable error (R387, R408, R543, R598). -/
def execDescriptorStaged (dt : Nat) (q : QueueId) (n : Word32) (d : Desc) (ue : Bool) (s : State) : Host.Outcome State Fault Refusal :=
  let s := s.elapse dt
  let u := s.queue q
  let here := (u.flight.find? fun e => e.num == n).map (·.stage) == some .fetching
  .next (s.when (s.hostUp && here && (u.ahead n).all (fun e => e.stage != .fetching)) fun s =>
    let waiting := (u.flight.filter fun e => e.stage == .staged).length
    let s := s.modQueue q fun u =>
      { u with flight := u.flight.map fun e => if e.num == n then { e with desc := d, stage := .staged } else e }
    if ue then (s.vaultUe 0x120000).finish q n .rejCheck 0xECC0 else
    match s.checkStaged q n d with
    | .error (st, detail) => s.finish q n st detail
    | .ok s =>
      if (s.queue q).st == .draining then s.finish q n .abortedQuiesce 0
      else if q == 0 && s.mason.shed == 4 && 16 < waiting then s.finish q n .rejBusy 0
      else s)

/-! ## Opcodes that no command has (R422, R476, R580) -/

/-- FIDs with a FEATURE_SET (R477). -/
def settable (fid : Nat) : Bool := [1, 2, 3, 4, 5, 6, 7, 8, 9, 0xA, 0x20, 0x28, 0x30].contains fid
/-- The rejection's DETAIL of an admin descriptor that no row takes. -/
def unknownAdmin (d : Desc) : Option Nat :=
  let op := dOp d
  if !isAdminOp op then some 0
  else if op == 5 && !settable (dNum d 4 2) then some 4
  else if op == 9 && !(1 ≤ dNum d 4 1 && dNum d 4 1 ≤ 5) then some 4
  else if op == 0xD && !(1 ≤ dNum d 4 1 && dNum d 4 1 ≤ 2) then some 4
  else none
/-- The same on queues 1–63. -/
def unknownIo (d : Desc) : Option Nat :=
  let op := dOp d
  if !isIoOp op then some 0
  else if op == 0x49 && 1 < dNum d 4 1 then some 4
  else none
/-- UNKNOWN_OPCODE: an opcode that is unknown or not accepted on its queue, or an unknown feature or action, completes
with REJ_FIELD (R422, R476, R580, log entry 15). -/
def execUnknownOpcode (dt : Nat) (q : QueueId) (n : Word32) (s : State) : Host.Outcome State Fault Refusal :=
  let s := s.elapse dt
  .next (if q == 0 then s.adm n (fun d => (unknownAdmin d).isSome) (fun _ => []) unknownAdmin (fun _ s => s)
    else s.io q n (fun d => (unknownIo d).isSome) (fun _ => []) (fun d _ => unknownIo d) (fun _ s => s))

/-! ## Coalescing, record buffers (R444–R448) -/

/-- COALESCE_TIMEOUT (R448). -/
def execCoalesceTimeout (dt : Nat) (q : QueueId) (s : State) : Host.Outcome State Fault Refusal :=
  let s := s.elapse dt
  let u := s.queue q
  .next (s.when (s.hostUp && u.ctime != 0 && (match u.oldest with | some t => decide (t + u.ctime * 1000 ≤ s.now) | none => false))
    fun s => s.signalQueue q)

/-- RECORD_FLUSH_TIMEOUT (R444). -/
def execRecordFlushTimeout (dt : Nat) (q : QueueId) (s : State) : Host.Outcome State Fault Refusal :=
  let s := s.elapse dt
  .next (s.when s.hostUp fun s =>
    match (s.queue q).bufs with
    | b :: _ => match b.firstAt with
      | some t => if t + s.flush * 1000 ≤ s.now then s.retire q b .done else s
      | none => s
    | [] => s)

/-- The queue can take a record of len bytes: ACTIVE, with a posted buffer that has room (R445, R446). -/
def State.takes (s : State) (len : Nat) (q : QueueId) : Bool :=
  (s.queue q).st == .active && (s.queue q).bufs.any fun b => b.used + len ≤ b.len
/-- Where a record would be written now (R445). -/
def State.destOf (s : State) (r : Record) : Option QueueId :=
  match s.route r with
  | 0 => ((List.finRange 64).drop 1).find? (s.takes r.len)
  | d => if h : d < 64 then (if s.takes r.len ⟨d, h⟩ then some ⟨d, h⟩ else none) else none

/-- A record is dropped and counted as its own rules state (R132, R209, R298, R382, R387). -/
def State.countDrop (s : State) (r : Record) : State :=
  match r with
  | .inputEdge c .. => s.modQuad (quadOf c) fun x => { x with inDrop := x.inDrop + 1 }
  | .diag num _ fl .. =>
    let qd : QuadId := if h : num < 128 then (if bit fl 1 then ⟨num % 4, by omega⟩ else quadOf ⟨num, h⟩) else 0
    s.modQuad qd fun x => { x with diagDrop := x.diagDrop + 1 }
  | .courseMark .. => s.modCourse fun c => { c with markDrop := c.markDrop + 1 }
  | .filterOut k .. => s.modChain k fun c => { c with dropcnt := c.dropcnt + 1, dropped := c.dropped + 1 }
  | _ => s

/-- The command that produced a record completes once the record has been dealt with (R340, R447); ACC_SNAPSHOT's TIME
is the tick of the copy (R470). -/
def State.recordDone (s : State) (r : Record) (who : Option (QueueId × Word32)) : State :=
  s.completeWho who .done 0 (match r with | .acc _ _ t _ _ => t | _ => s.now) 0

/-- Write a record to the buffer that takes it; buffers before it retire (R443, R444, R447). -/
def State.writeRecord (s : State) (q : QueueId) (r : Record) (who : Option (QueueId × Word32)) : State :=
  let full := (s.queue q).bufs.takeWhile fun b => b.len < b.used + r.len
  let s := full.foldl (fun s b => s.retire q b .done) s
  match (s.queue q).bufs with
  | [] => s
  | b :: rest =>
    let b' := { b with used := b.used + r.len, firstAt := some (b.firstAt.getD s.now) }
    let s := (s.modQueue q fun u => { u with bufs := b' :: rest }).emit (.record q b.addr b.used r)
    if who.isSome then (s.retire q b' .done).recordDone r who else s

/-- The next record of q, the oldest one routed to it, does not fit in the buffer that q is filling (R444). -/
def State.overfull (s : State) (q : QueueId) : Bool :=
  q != 0 && (s.queue q).st == .active && match s.staging.find? (fun e => s.route e.1 == q.val), (s.queue q).bufs with
    | some e, b :: _ => b.used != 0 && decide (b.len < b.used + e.1.len)
    | _, _ => false
/-- A buffer being filled that has no room for its queue's next record retires (R444). -/
def State.retireFull (s : State) : State :=
  match (List.finRange 64).find? s.overfull with
  | some q => match (s.queue q).bufs with
    | b :: _ => s.retire q b .done
    | [] => s
  | none => s
/-- The staged record dealt with next: the oldest with a destination or with a route that discards it, no older one having
the same route (R446, R447, log entry 94). -/
def State.nextRecord (s : State) : Option Nat :=
  (List.range s.staging.length).find? fun i => match s.staging[i]? with
    | some e => (s.route e.1 == 0x40 || (s.destOf e.1).isSome) && (s.staging.take i).all fun x => s.route x.1 != s.route e.1
    | none => false

/-- RECORD_WRITE: a full buffer retires, and the next record is written; one whose route has become 0x40 is discarded;
ue: its line met an uncorrectable error, and it is dropped and counted (R387, R444–R447). -/
def execRecordWrite (dt : Nat) (ue : Bool) (s : State) : Host.Outcome State Fault Refusal :=
  let s := s.elapse dt
  .next (s.when (s.hostUp && s.holdsRole && s.host.bme && !s.host.d3hot) fun s =>
    let s := s.retireFull
    match s.nextRecord with
    | none => s
    | some i => match s.staging[i]? with
      | none => s
      | some (r, who) =>
        let s' := { s with staging := s.staging.eraseIdx i }.drainRx
        if s.route r == 0x40 then s'.recordDone r who
        else if ue then
          let s' := (s'.vaultUe (0x120000 + laDstg s.vault.layout * 65536)).countDrop r
          let s' := match who with
            | some (q, n) => s'.modQueue q fun (u : Queue) =>
              { u with flight := u.flight.map fun (e : Inflight) => if e.num == n then { e with rdrop := true } else e }
            | none => s'
          s'.recordDone r who
        else match s.destOf r with
          | some q => s'.writeRecord q r who
          | none => s)

end Sys2Proof.Machine
end

