-- ==== Sys2Proof/Machine/Admin.lean ====
section
/-!
DEFINITION. Admin commands that manage queues, identity, access tables, logs and the pair (R452–R457, R471–R475,
R516, R535, R536, R592–R596, R641).
-/
namespace Sys2Proof.Machine
open Sys2Proof


/-- ADMIN_COMMAND_START: Mason takes the next fetched admin command; before FW_READY the ROM loader completes those it
does not serve with REJ_STATE (R101, R422, R602, R641). -/
def execAdminCommandStart (dt : Nat) (n : Word32) (s : State) : Host.Outcome State Fault Refusal :=
  let s := s.elapse dt
  .next (s.when s.mason.busy.isNone fun s =>
    match s.startable 0 n with
    | none => s
    | some d =>
      let s := s.started 0 n
      if isAdminOp (dOp d) && !s.masonServes (dOp d) then s.finish 0 n .rejState 0
      else s.modMason fun m => { m with busy := some n })

/-- IDENTIFY (R3, R472). -/
def State.identifyResult (s : State) : Mask128 :=
  let im := s.mason.image
  resultOf ([0xB1, BitVec.ofNat 8 (if s.fwReady then im.vmaj.toNat else 0)] ++
    leBytes 2 (if s.fwReady then im.vmin.toNat else 0) ++
    [s.straps.setWidth 8, Config.romVer, BitVec.ofNat 8 codeByte, 0] ++ leBytes 8 Config.serial.toNat)
def execIdentify (dt : Nat) (n : Word32) (s : State) : Host.Outcome State Fault Refusal :=
  let s := s.elapse dt
  .next (s.adm n (isOp 1) (fun _ => []) (fun d => firstBad d false false [] [])
    fun _ s => s.complete 0 n .done 0 s.now s.identifyResult)

/-! ## Queues -/

def queueNeeds (_ : Desc) : List (Nat × Nat) := [(1, 4)]
def dQueue (d : Desc) : QueueId := ⟨dNum d 4 1 % 64, by omega⟩
def badQid (d : Desc) : Bool := dNum d 4 1 == 0 || 63 < dNum d 4 1
def createProfile (d : Desc) : Option CtxId :=
  if 0x80 ≤ dNum d 11 1 then some ⟨dNum d 11 1 % 8, by omega⟩ else none
/-- REJ_FIELD of QUEUE_CREATE (R420, R473). -/
def createBad (d : Desc) : Option Nat :=
  firstBad d false false [(4, 9), (14, 2), (16, 16)]
    [(badQid d, 4), (3 < dNum d 5 1, 5), (dNum d 6 1 == 0, 6), (63 < dNum d 7 1, 7),
     (dNum d 8 1 < 4 || 16 < dNum d 8 1, 8), (dNum d 9 1 < 4 || 16 < dNum d 9 1, 9),
     (dNum d 11 1 != 0 && !(0x80 ≤ dNum d 11 1 && dNum d 11 1 ≤ 0x87), 11), (7 < dNum d 12 1, 12),
     (dNum d 16 1 % 64 != 0, 16), (dNum d 24 1 % 64 != 0, 24)]
/-- The queue that QUEUE_CREATE makes (R420, R424, R545). -/
def createdQueue (d : Desc) : Queue :=
  { Reset.queue with
    st := .active, cls := ⟨dNum d 5 1 % 4, by omega⟩, weight := dNum d 6 1, vector := ⟨dNum d 7 1 % 64, by omega⟩
    sqlog := dNum d 8 1, cqlog := dNum d 9 1, ccnt := dNum d 10 1, ctime := dNum d 14 2, profile := createProfile d
    hctx := ⟨dNum d 12 1 % 8, by omega⟩, sqbase := d64 d 16, cqbase := d64 d 24 }
/-- QUEUE_CREATE (R421, R473, R542). -/
def execQueueCreate (dt : Nat) (n : Word32) (s : State) : Host.Outcome State Fault Refusal :=
  let s := s.elapse dt
  .next (s.adm n (isOp 2) queueNeeds createBad fun d s =>
    let polyBad := match createProfile d with | some x => plPoly s.plumb[x].word != 3 | none => false
    if (s.queue (dQueue d)).st != .absent || polyBad then s.finish 0 n .rejState 0
    else (s.modQueue (dQueue d) fun _ => createdQueue d).finish 0 n .done 0)

def qidBad (cspec : Bool) (d : Desc) : Option Nat := firstBad d false cspec [(4, 1)] [(badQid d, 4)]
/-- QUEUE_DELETE (R444, R457). -/
def execQueueDelete (dt : Nat) (n : Word32) (s : State) : Host.Outcome State Fault Refusal :=
  let s := s.elapse dt
  .next (s.adm n (isOp 3) queueNeeds (qidBad false) fun d s =>
    let t := dQueue d
    let u := s.queue t
    if u.st == .absent then s.finish 0 n .rejState 0 else
    let s := (s.addOp 0 n (.drain t true)).freeMason
    match u.st with
    | .active => s.beginDrain t
    | .error => (u.bufs.foldl (fun s b => s.retire t b (if b.used == 0 then .abortedQuiesce else .done)) s).finishDrains
    | _ => s.finishDrains)
/-- QUEUE_QUIESCE (R452, R453, R455). -/
def execQueueQuiesce (dt : Nat) (n : Word32) (s : State) : Host.Outcome State Fault Refusal :=
  let s := s.elapse dt
  .next (s.adm n (fun d => isOp 4 d && !dCspec d) queueNeeds (qidBad false) fun d s =>
    let t := dQueue d
    if (s.queue t).st != .active then s.finish 0 n .rejState 0
    else ((s.addOp 0 n (.drain t false)).freeMason).beginDrain t)
/-- QUEUE_RESUME: QUEUE_QUIESCE with RESUME (R454). -/
def execQueueResume (dt : Nat) (n : Word32) (s : State) : Host.Outcome State Fault Refusal :=
  let s := s.elapse dt
  .next (s.adm n (fun d => isOp 4 d && dCspec d) queueNeeds (qidBad true) fun d s =>
    let t := dQueue d
    if (s.queue t).st != .quiesced then s.finish 0 n .rejState 0
    else (s.modQueue t fun u => { u with st := .active }).finish 0 n .done 0)

/-! ## LOG_READ (R475) -/

/-- One event-log entry's 32 bytes. -/
def logBytes (e : Nat × Nat × Nat × Nat) : List Byte :=
  leBytes 8 e.1 ++ leBytes 2 (Config.logCode e.2.1) ++ leBytes 2 (Config.logSource e.2.1) ++ leBytes 20 e.2.2.1
/-- The counter log's values in their order. -/
def State.counters (s : State) : List Nat :=
  (s.quads.toList.flatMap fun q => [q.crcDown, q.crcUp]) ++ s.vault.corrected.toList ++
  [s.vault.uncorrected, s.mason.resetDiscards, s.mason.strapChanges]
/-- The entries LOG_READ copies from START on, each as bytes. -/
def State.logEntries (s : State) (d : Desc) : List (List Byte) :=
  let all := if dNum d 4 1 == 0 then s.mason.log.map logBytes else s.counters.map (leBytes 8)
  let size := if dNum d 4 1 == 0 then 32 else 8
  (all.drop (dNum d 8 4)).take (dNum d 24 4 / size)
def execLogRead (dt : Nat) (n : Word32) (s : State) : Host.Outcome State Fault Refusal :=
  let s := s.elapse dt
  .next (s.adm n (isOp 7) (fun _ => [(0x14, 1)])
    (fun d => firstBad d false false [(4, 1), (8, 4), (16, 8), (24, 4)] [(1 < dNum d 4 1, 4), (dNum d 24 4 % 32 != 0, 24)])
    fun d s =>
      let es := s.logEntries d
      let s := if es.isEmpty then s else s.emit (.data (d64 d 16) es.flatten)
      s.complete 0 n .done 0 s.now (resultOf (leBytes 4 es.length ++ leBytes 4 (dNum d 8 4 + es.length))))

/-! ## Access tables (R594–R596) -/

/-- ACCESS_LOAD: the fields, then the read of the rows (R475, R595, R596). -/
def execAccessLoad (dt : Nat) (n : Word32) (s : State) : Host.Outcome State Fault Refusal :=
  let s := s.elapse dt
  .next (s.adm n (isOp 0xB) (fun _ => [(2, 4)])
    (fun d =>
      let t := dNum d 4 1
      let len := dNum d 16 4
      firstBad d false false [(4, 1), (8, 8), (16, 4)]
        [(!(targets.contains t || t == 0xFF), 4), (len != (if t == 0xFF then 176 else 8), 16)])
    fun d s =>
      if s.locked then s.finish 0 n .rejState 0
      else (s.addOp 0 n .data).emit (.dataRead (d64 d 8) (dNum d 16 4)))

/-- A row's reserved bits are 0 and MASON and PARTNER keep everything (R591, R594). -/
def rowBad (w : Word64) : Bool :=
  fld w 56 8 != 0 || (List.range 14).any (fun m => bit w (4 * m + 3)) || fld w 32 4 != 7 || fld w 44 4 != 7
/-- A course entry of either bank acts on quadrant q (R594). -/
def State.courseActsOn (s : State) (q : QuadId) : Bool :=
  s.course.banks.toList.any fun b => b.entries.any fun e => (entryChans e).any fun c => quadOf c == q
/-- The new rows would take COURSE's or DSP's rights away while they are in use (R594). -/
def State.rowsInUse (s : State) (rows : Vector Word64 22) : Bool :=
  let lost (m t perm : Nat) : Bool := s.allowed m t perm && !{ s with rows := rows }.allowed m t perm
  (List.finRange 4).any (fun q => lost 9 (0x30 + q.val) 4 && s.courseActsOn q) ||
  ((lost 10 0x11 2 || lost 10 0x11 1 || lost 10 0x12 2) && s.chains.toList.any fun c => c.st == .running)
/-- The rows have been read (R594, R595, R587). -/
def State.accessData (s : State) (n : Word32) (d : Desc) (data : List Byte) : State :=
  if s.locked then s.finish 0 n .rejState 0 else
  let t := dNum d 4 1
  let new := (List.range (data.length / 8)).map fun i => (BitVec.ofNat 64 (fieldAt data (8 * i) 8) : Word64)
  if new.any rowBad then s.finish 0 n .rejField 8 else
  let rows : Vector Word64 22 := if t == 0xFF then Vector.ofFn fun i => new.getD i.val 0
    else Vector.ofFn fun i => if i.val == rowIndex t then new.getD 0 0 else s.rows[i]
  if s.rowsInUse rows then s.finish 0 n .rejState 0
  else ({ s with rows := rows }.configured none).finish 0 n .done 0
/-- ACCESS_LOCK (R596). -/
def execAccessLock (dt : Nat) (n : Word32) (s : State) : Host.Outcome State Fault Refusal :=
  let s := s.elapse dt
  .next (s.adm n (isOp 0xC) (fun _ => [(2, 4)]) (fun d => firstBad d false false [] []) fun _ s =>
    if s.locked then s.finish 0 n .rejState 0
    else ({ s with locked := true }.configured none).finish 0 n .done 0)

/-! ## The pair (R516, R533, R535, R536) -/

def pairNeeds (_ : Desc) : List (Nat × Nat) := [(0x20, 4)]
/-- CHECKPOINT_NOW: forces a capture and completes at its commit (R471, R516); without a partner there is none to commit
(log entry 16). -/
def execCheckpointNow (dt : Nat) (n : Word32) (s : State) : Host.Outcome State Fault Refusal :=
  let s := s.elapse dt
  .next (s.adm n (isOp 0xE) pairNeeds (fun d => firstBad d false false [] []) fun _ s =>
    if !s.journals then s.finish 0 n .rejState 0
    else ((s.addOp 0 n .checkpoint).freeMason).modPair fun p => { p with capNow := true, cpWaiters := p.cpWaiters ++ [n] })

/-- The partner's HEARTBEAT reports READY (R504). -/
def Pair.partnerReady (p : Pair) : Bool := match p.partner with | some x => bit x.state 2 | none => false
/-- A PAIR_CONTROL is running (R536). -/
def State.pairControlRuns (s : State) : Bool :=
  s.ops.any fun o => match o.kind with | .handover => true | .resync => true | _ => false
def actionBad (d : Desc) : Option Nat := firstBad d false false [(4, 1)] []
/-- PAIR_CONTROL HANDOVER (R536). -/
def execPairControlHandover (dt : Nat) (n : Word32) (s : State) : Host.Outcome State Fault Refusal :=
  let s := s.elapse dt
  .next (s.adm n (fun d => isOp 0xD d && dNum d 4 1 == 1) pairNeeds actionBad fun _ s =>
    if !s.pairActive || s.pair.degraded || s.pair.lone || !s.pair.partnerReady || s.pairControlRuns then s.finish 0 n .rejState 0
    else ((s.addOp 0 n .handover).freeMason).modPair fun p => { p with handover := some n, handoverAt := s.now })

/-- A full copy of the static area starts, under a new EPOCH; its bytes are free (R512, R533, log entry 6). -/
def State.startResync (s : State) (who : Option Word32) : State :=
  let e : Word32 := s.pair.epoch + 1 + BitVec.ofNat 32 (s.fresh % (2 ^ 32 - 1))
  let k := s.freeCtr + 1
  let frame (i : Nat) : ZFrame :=
    .delta (BitVec.ofNat 32 ((256 * i + 0x1000) % 0x80000)) ((List.range 256).map fun j => (Config.freeBytes (k + i)).getD j 0)
  { s with freeCtr := k + 2048 }.modPair fun p =>
    { p with epoch := e, resyncing := some who, resyncBytes := 0, resyncCp := false, needResync := false, tx := p.tx ++ (List.range 2048).map frame }
/-- PAIR_CONTROL RESYNC; one that comes while a copy runs starts the copy anew, which then serves both (R535). -/
def execPairControlResync (dt : Nat) (n : Word32) (s : State) : Host.Outcome State Fault Refusal :=
  let s := s.elapse dt
  .next (s.adm n (fun d => isOp 0xD d && dNum d 4 1 == 2) pairNeeds actionBad fun _ s =>
    if !s.pairActive || !s.pair.zaf.present || s.pair.lone then s.finish 0 n .rejState 0
    else ((s.addOp 0 n .resync).freeMason).startResync (some n))

end Sys2Proof.Machine
end

