-- ==== Sys2Proof/Machine/Engine.lean ====
section
/-!
DEFINITION. What the command engines and the Course engine share: a level or a generator asked of a channel's unit, its
admission at once or its request at Buttress (R38–R43, R107, R118, R198, R203, R221–R229, R241–R247).
-/
namespace Sys2Proof.Machine
open Sys2Proof

/-- What became of a level or generator that was asked of a unit. -/
inductive Verdict where
  | applied | waits | notApplied
deriving DecidableEq, Repr

/-- The owner's commands for a unit are applied: it is in OUTPUT mode, owned by the commander, armed, and no trigger acts
(R35, R39, R107, R118). -/
def State.accepts (s : State) (course : Bool) (l : ChanId) : Bool :=
  s.isOutput l && s.courseOwned l == course && (s.quad (quadOf l)).armed && !s.trigOn l
/-- UNDER, OVER, or the LATCH policy after them: references change and the drivers stay off (R203, R204). -/
def State.supplyHolds (s : State) (l : ChanId) : Bool := s.supplyOff (quadOf l) || (s.quad (quadOf l)).supLatch

/-- OVERBUDGET, with its count in the budget statistics (R240, R245): outcome 1 HARD, 2 ADMITTED, 3 REFUSED. -/
def State.overBudget (s : State) (r : Req) (outcome test : Nat) : State :=
  let s := s.modQuad (quadOf r.chan) fun x =>
    if outcome == 1 then { x with overHard := x.overHard + 1 }
    else if outcome == 2 then { x with forced := x.forced + 1 } else { x with refused := x.refused + 1 }
  s.eventDiag r.chan 0x11 (obInfo r.isHost outcome test)
/-- A request is admitted and its command told so (R241, R246). -/
def State.grant (s : State) (r : Req) (late : Bool) : State := (s.admitReq r).settleReq r (.applied late)
/-- A hard entry that may switch on is admitted at once, over budget or not (R43, R242). -/
def State.fireHard (s : State) (r : Req) : State :=
  let t := s.testReq r
  let s := if t != 0 then s.overBudget r 1 t else s
  s.grant r false
/-- File a request; a hard one that is ready is decided at once. -/
def State.ask (s : State) (l : ChanId) (src : ReqSrc) (k : ReqKind) : State × Verdict :=
  let s := s.request l src k
  match src with
  | .courseHard _ => match s.reqs.getLast? with
    | some r => if s.readyReq r then (s.fireHard r, .applied) else (s, .waits)
    | none => (s, .waits)
  | _ => (s, .waits)

/-- The unit takes a level at once, which stops its generator and ends a waiting switch-on (R223, R247). -/
def State.giveRef (s : State) (l : ChanId) (on : Bool) : State :=
  let t := s.now
  (s.modChan l fun x => { x.owned with gen := none, ref := on, chgAt := t }).supersede l
/-- A level of off is never deferred (R40). -/
def State.setOff (s : State) (l : ChanId) : State × Verdict := (s.giveRef l false, .applied)
/-- The reference changes and no switch-on happens now (R203, R241). -/
def State.setRef (s : State) (l : ChanId) : State × Verdict := (s.giveRef l true, .applied)
/-- A level of on: at once when the driver is on and no generator drives it, else a switch-on request (R198, R203, R223,
R241); a generator stops at the command (log entry 17). -/
def State.setOn (s : State) (l : ChanId) (src : ReqSrc) : State × Verdict :=
  let x := s.chan l
  if x.drv && x.gen.isNone && x.test == .idle then s.setRef l
  else if x.latch then (s, .notApplied)
  else if s.supplyHolds l then s.setRef l
  else
    let t := s.now
    (s.modChan l fun x => { x with gen := none, ref := x.cause != .none, chgAt := t }).ask l src .level
def State.setLevel (s : State) (l : ChanId) (on : Bool) (src : ReqSrc) : State × Verdict :=
  if on then s.setOn l src else s.setOff l

/-- A unit's latch is set and THERM_LATCH raised; a switch-on of its owner that waits is not applied from then on (R173, R196,
R198, log entry 98). -/
def State.latchUnit (s : State) (l : ChanId) : State :=
  let mine (r : Req) : Bool := r.chan == l && r.src != .restart && r.kind != .raise
  let gone := s.reqs.filter mine
  let s := ({ s with reqs := s.reqs.filter fun r => !mine r }).modChan l fun x => { x with latch := true }
  let s := gone.foldl (fun s r => s.settleReq r .notApplied) s
  if bit (s.chan l).standing 4 then s else s.raiseDiag l 4

/-- The stored pulse group of a unit is written (R217). -/
def State.storePulse (s : State) (l : ChanId) (w : Word64) : State :=
  (s.members l).foldl (fun s m => s.modChan m fun x => { x with pulw := w }) s
/-- A running generator gets the group w; old is the stored group that a refusal restores (R224). A group that raises the
charge waits for its admission beside a change that is admitted already; any other takes that change's place (log entry 99). -/
def State.updateGen (s : State) (l : ChanId) (w old : Word64) (src : ReqSrc) : State × Verdict :=
  match (s.chan l).gen with
  | none => (s, .applied)
  | some g =>
    let b := s.budOf l
    let old := match g.want with | some (_, o) => o | none => old
    let t := s.now
    if g.duty b < dutyOf (capDuty w b) && !s.supplyHolds l then
      (s.modChan l fun x => { x with gen := some { g with want := some (w, old) } }).ask l src .raise
    else
      ((s.modChan l fun x => { x with gen := some { g.change w t with want := none } }).supersede l .raise, .applied)
/-- A generator starts with group w, or changes to it when one runs (R222, R224, R468). -/
def State.startGen (s : State) (l : ChanId) (w old : Word64) (src : ReqSrc) : State × Verdict :=
  if (s.chan l).gen.isSome then s.updateGen l w old src
  else if (s.chan l).latch then (s, .notApplied)
  else if s.supplyHolds l then
    let g := s.newGen l w
    ((s.modChan l fun x => { x.owned with gen := some g, ref := false }).supersede l, .applied)
  else s.ask l src (.start w)
/-- A generator, or its waiting start, stops without a level; with neither nothing happens (R223). -/
def State.stopGen (s : State) (l : ChanId) : State × Verdict :=
  let starts := s.reqs.any fun r => r.chan == l && match r.kind with | .start _ => true | _ => false
  if (s.chan l).gen.isSome || starts then s.setOff l else (s, .applied)

/-! ## Host output commands (R35, R140, R155, R246) -/

/-- The channels of a mask that a command decides: a gang by its even channel alone (R155). -/
def State.maskLeads (s : State) (m : Mask128) : List ChanId := (maskChans m).filter fun c => !s.isOdd c
/-- What the status of R246 counts: an odd channel stands for itself only when its even channel is not named (R155). -/
def State.maskNamed (s : State) (m : Mask128) : Mask128 :=
  chanMask fun c => bit m c.val && !(s.isOdd c && bit m (prevChan c).val)
/-- Run an output command over its mask, channel by channel in ascending order (R241, R246). -/
def State.outCmd (s : State) (q : QueueId) (n : Word32) (mask : Mask128) (capped : Nat)
    (f : State → ChanId → State × Verdict) : State :=
  let leads := s.maskLeads mask
  let o : OutOp := { named := s.maskNamed mask, todo := leads.foldl (fun m c => m ||| bitOf c) 0, applied := 0, refused := 0
                     late := false, capped := capped, quads := 0, sentAt := 0 }
  let s := s.addOp q n (.out o)
  let s := leads.foldl (fun s c =>
    if !s.accepts false c then s.decided q n c .notApplied else
    match f s c with
    | (s, .applied) => s.decided q n c (.applied false)
    | (s, .waits) => s
    | (s, .notApplied) => s.decided q n c .notApplied) s
  s.outDecided q n

/-! ## Access needs of channel commands (R592) -/

/-- Quadrants that hold a channel of a mask. -/
def maskQuads (m : Mask128) : List Nat := (List.range 4).filter fun q => fld m (32 * q) 32 != 0
def bitsList (n v : Nat) : List Nat := (List.range n).filter v.testBit

end Sys2Proof.Machine
end

