-- ==== Sys2Proof/Machine/Angle.lean ====
section
/-!
DEFINITION. Shaft angle: decoder, tracking observer, reference marks, encoder faults, direction and firing fronts, and the
bank swap that all of them share (R253–R274, R283–R295, R394).
-/
namespace Sys2Proof.Machine
open Sys2Proof

/-! ## Decoded angle and the observer's segments (R259–R268) -/

def Ang.encoder (a : Ang) : Bool := srSrc a.srcw == 1
def Ang.tooth (a : Ang) : Bool := srSrc a.srcw == 2
/-- The reference mark is an index or a gap; without one the angle starts at ANGLE_CONFIG (R262). -/
def Ang.hasMark (a : Ang) : Bool := a.tooth || srZuse a.srcw
/-- Counts per revolution, or tooth positions (R259, R261). -/
def Ang.perRev (a : Ang) : Nat := if a.tooth then srTeeth a.srcw else srCpr a.srcw
/-- Teeth on the wheel (R260). -/
def Ang.wheelTeeth (a : Ang) : Nat := srTeeth a.srcw - srTmiss a.srcw
/-- The absolute angle of decoded count k, rounded to a unit (R259, R261). -/
def Ang.angleOf (a : Ang) (k : Int) : Rat := a.base + ((2 * k * 4294967296 + a.perRev) / (2 * a.perRev) : Int)
/-- Counts to the next edge ahead: the gap of a tooth wheel is predicted across (R261). -/
def Ang.ahead (a : Ang) : Int := if a.tooth && a.teeth + 1 == a.wheelTeeth then srTmiss a.srcw + 1 else 1
/-- A new segment of the estimate (R267). -/
def Ang.putSeg (a : Ang) (t : Nat) (th om : Rat) : Ang :=
  let lim := if 0 < om then a.angleOf (a.cnt + a.ahead) else a.angleOf (a.cnt - 1)
  { a with hist := a.seg :: a.hist.filter fun g => t ≤ g.t + 100000000, seg := { t := t, th := th, om := om, lim := lim } }
/-- BW_eff in Hz (R267). -/
def Ang.bwEff (a : Ang) : Rat :=
  match a.edges.getLast?, a.edges.head? with
  | some t0, some t1 =>
    if t0 < t1 then min (trBw a.trkw : Rat) ((a.edges.length - 1 : Nat) * 100000000 / ((t1 : Rat) - t0)) else 0
  | _, _ => 0
/-- Speed in units per ns of a number of rpm. -/
def rpmUnits (v : Nat) : Rat := (v : Rat) * 4294967296 / 60000000000
/-- An angle difference modulo 2^32, as a signed value (R267). -/
def signedAngle (d : Rat) : Rat := d - ((d + 2147483648) / 4294967296).floor * 4294967296
/-- The observer's step at a counted edge of time tk, the count already advanced. The decoded angle is known modulo 2^32
only: whole turns of the difference move its base (R267). -/
def Ang.observe (a : Ang) (tk : Nat) : Ang :=
  let dec := a.angleOf a.cnt
  match a.edges.head? with
  | none =>
    let a := { a with edges := [tk] }.putSeg tk dec 0
    { a with edgeSeg := a.seg }
  | some t0 =>
    let capped := 8 ≤ tk && a.seg.capped (tk - 8)
    let v := if capped then a.seg.theta (tk - 8) else a.seg.th + a.seg.om * ((tk : Rat) - a.seg.t)
    let om := if capped then 0 else a.seg.om
    let a := { a with edges := (tk :: a.edges).take 8 }
    let wn := Config.twoPi * a.bwEff
    let d := ((tk : Rat) - t0) / 1000000000
    let e := signedAngle (dec - v)
    let a := { a with base := a.base + (e - (dec - v)) }.putSeg tk (v + min 1 (1414 / 1000 * wn * d) * e) (om + wn * wn * d * e / 1000000000)
    { a with edgeSeg := a.seg }

/-! ## Firing fronts (R278, R283–R285, R288–R292) -/

def State.firing (s : State) : Bool := s.ang.st == .running || s.ang.st == .coasting
/-- What fires, as a start instant, an angle and a speed: the estimate's segment, or the extrapolation of COASTING (R271). -/
def State.motion (s : State) : Nat × Rat × Rat :=
  match s.ang.coast with
  | some c => if s.ang.st == .coasting then (c.t, c.theta, c.omega) else (s.ang.seg.t, s.ang.seg.th, s.ang.seg.om)
  | none => (s.ang.seg.t, s.ang.seg.th, s.ang.seg.om)
/-- The angle and speed that fire now (R271, R283). -/
def State.firePos (s : State) : Rat :=
  if s.ang.st == .coasting then s.motion.2.1 + s.motion.2.2 * ((s.now : Rat) - s.motion.1) else s.thetaNow
def State.fireSpeed (s : State) : Rat := if s.ang.st == .coasting then s.motion.2.2 else s.omegaNow
/-- The advance of a lead, limited to ±180° (R283, R284). -/
def advance (om : Rat) (lead : Nat) : Rat := max (-2147483648) (min 2147483648 (om * lead))
def State.lam (s : State) (lead : Nat) : Rat := s.firePos + advance s.fireSpeed lead
def State.cbank (s : State) (b : CBankId) : CBank := s.course.banks[b]
/-- The lead classes of a bank (R278). -/
def CBank.leads (b : CBank) : List Nat := (b.entries.map enLead).eraseDups
/-- The fronts of a bank's classes start at a λ, with 16 entries prefetched (R262, R290, R406). -/
def State.newFronts (s : State) (b : CBankId) (lam : Nat → Rat) : List Front :=
  (s.cbank b).leads.map fun l => { bank := b, lead := l, ext := lam l, clamped := false, changed := false, pre := 16 }
/-- The wrap of the pending swap as an absolute angle (R292). -/
def State.wrapAt (s : State) : Option Rat := s.course.swap.map fun w => (w.wrap : Rat) * 4294967296
/-- λ of the class has crossed the wrap at which the pending swap applies (R292). -/
def State.crossed (s : State) (f : Front) (lam : Rat) : Bool :=
  f.changed || (s.ang.fwd && match s.wrapAt with | some w => decide (w ≤ lam) | none => false)
/-- Every tracked class restarts at its λ: the active bank's, and a pending swap's (R290, R292). -/
def State.restartFronts (s : State) (lam : Nat → Rat) : State :=
  let old := s.course.fronts
  let fresh := s.newFronts s.course.active lam ++
    (if s.course.swap.isSome then s.newFronts (1 - s.course.active) lam else [])
  let keep (f : Front) : Front := match old.find? fun o => o.bank == f.bank && o.lead == f.lead with
    | some o => { f with clamped := o.clamped, pre := o.pre, changed := s.crossed o f.ext }
    | none => f
  s.modCourse fun c => { c with fronts := fresh.map keep }
/-- A class fires at a point: its bank is the active one, and in a pending swap its own side of the wrap (R291, R292). -/
def State.ownSide (s : State) (f : Front) (x : Rat) : Bool :=
  match s.wrapAt with
  | none => f.bank == s.course.active
  | some w => if f.bank == s.course.active then !f.changed && decide (x < w) else f.changed || decide (w ≤ x)
/-- The points of an entry that its class's front passes when λ reaches lam, in the direction of motion (R283, R289–R292). -/
def State.points (s : State) (f : Front) (lam : Rat) (e : Entry) : List Rat :=
  let a : Rat := e.angle.toNat
  let r : Rat := 4294967296
  let runs := enLead e == f.lead && (enDir e == 2 || (if s.ang.fwd then enDir e == 0 else enDir e == 1 && !s.ang.tooth))
  let lo : Int := if s.ang.fwd then ((f.ext - a) / r).floor + 1 else ((lam - a) / r).ceil
  let hi : Int := if s.ang.fwd then ((lam - a) / r).floor else ((f.ext - a) / r).ceil - 1
  if !runs then [] else
  ((List.range (hi - lo + 1).toNat).map fun k => a + ((lo + k : Int) : Rat) * r).filter (s.ownSide f)
/-- The ANGLE tick in which λ of a class reaches a point that it passes up to now (R283). -/
def State.reachTick (s : State) (lead : Nat) (x : Rat) : Nat :=
  let m := s.motion
  let t : Rat := if m.2.2 == 0 then m.1 else m.1 + (x - advance m.2.2 lead - m.2.1) / m.2.2
  (max (m.1 : Rat) (min s.now t) / 8).ceil.toNat
/-- The entries of a class that its front passes when λ reaches lam. -/
def State.passed (s : State) (f : Front) (lam : Rat) : List Due :=
  (s.cbank f.bank).entries.zipIdx.flatMap fun p =>
    (s.points f lam p.1).map fun x => { tick := s.reachTick f.lead x, bank := f.bank, idx := p.2 }
/-- Firing order: the tick in which λ reached the entry, then ascending table index, whatever the class (R285). -/
def Due.before (x y : Due) : Bool := x.tick < y.tick || (x.tick == y.tick && x.idx < y.idx)
def insertDue (x : Due) : List Due → List Due
  | [] => [x]
  | y :: ys => if x.before y then x :: y :: ys else y :: insertDue x ys
/-- Every front moves with its class's λ; the entries that it passes are due (R283, R285, R290, R292). -/
def State.sweep (s : State) (lam : Nat → Rat) : State :=
  let beyond (f : Front) : Rat := if s.ang.fwd then max f.ext (lam f.lead) else min f.ext (lam f.lead)
  let new := s.course.fronts.flatMap fun f => s.passed f (beyond f)
  s.modCourse fun c =>
    { c with due := new.foldl (fun l x => insertDue x l) c.due
             fronts := c.fronts.map fun (f : Front) => { f with ext := beyond f, changed := s.crossed f (beyond f) } }

/-- The result of COURSE_SWAP: the new bank and the revolution count (R470). -/
def State.swapResult (s : State) : Mask128 :=
  resultOf ([BitVec.ofNat 8 s.course.active.val, 0, 0, 0] ++ leBytes 4 (revWord s.thetaNow).toNat)
/-- A swap is complete: SWAP_DONE, then the completion (R293, R295). -/
def State.swapEnd (s : State) (w : Swap) (reversed : Bool) : State :=
  let s := s.modCourse fun c =>
    { c with active := 1 - c.active, swap := none
             fronts := (c.fronts.filter fun f => f.bank != c.active).map fun (f : Front) => { f with changed := false } }
  let s := s.mark 2 (BitVec.ofNat 8 (b2n reversed)) (BitVec.ofNat 32 s.course.active.val) 0 0
  match w.who with
  | some (q, n) => s.configDone q n .done 0 s.now s.swapResult false
  | none => s
/-- A swap takes effect on receipt: every front restarts from its class's present λ, and nothing that the shaft has already
passed fires (R295). -/
def State.swapNow (s : State) (w : Swap) (reversed : Bool) : State :=
  (s.modCourse fun c => { c with fronts := [], due := [] }).swapEnd w reversed |> fun s =>
    if s.firing then s.restartFronts s.lam else s

/-- A class has entered clamp: counted, with a LEAD_CLAMP record that names its first entry (R284). -/
def State.clampFront (s : State) (f : Front) : State :=
  let past := decide (2147483648 < s.fireSpeed * f.lead) || decide (s.fireSpeed * f.lead < -2147483648)
  let s := if past && !f.clamped then
      let first := (s.cbank f.bank).entries.findIdx fun e => enLead e == f.lead
      (s.modCourse fun c => { c with clamps := c.clamps + 1 }).mark 3 0 (BitVec.ofNat 32 f.lead) 0 first
    else s
  s.modCourse fun c => { c with fronts := c.fronts.map fun (x : Front) =>
    if x.bank == f.bank && x.lead == f.lead then { x with clamped := past } else x }
/-- The direction D has changed at angle v: a swap under way with some classes changed over and others not ends at once, and
the fronts restart from λ there (R290, R294). -/
def State.turned (s : State) (v : Rat) : State :=
  if !s.firing then s else
  let lam (l : Nat) : Rat := v + advance s.ang.seg.om l
  let mixed := s.course.fronts.any (·.changed) && s.course.fronts.any fun (f : Front) => !f.changed
  let s := match s.course.swap with
    | some w => if !s.ang.fwd && mixed then s.swapNow w true else s
    | none => s
  s.restartFronts lam
/-- Direction by hysteresis, held while COASTING. Within a segment the estimate moves steadily, so D changes where it passes the
hysteresis, or where the segment began beyond it (R271, R288). -/
def State.direction (s : State) : State :=
  if s.ang.st == .idle || s.ang.st == .coasting then s else
  let v := s.thetaNow
  let h : Rat := (trHyst s.ang.trkw : Rat) * 4294967296 / s.ang.perRev
  if s.ang.fwd then
    if v + h ≤ s.ang.hi then (s.modAng fun a => { a with fwd := false, lo := v }).turned (min (s.ang.hi - h) s.ang.seg.th)
    else s.modAng fun a => { a with hi := max a.hi v }
  else if s.ang.lo + h ≤ v then (s.modAng fun a => { a with fwd := true, hi := v }).turned (max (s.ang.lo + h) s.ang.seg.th)
  else s.modAng fun a => { a with lo := min a.lo v }
/-- Changes of the revolution count lower the archive's post count (R263, R394). -/
def State.revolve (s : State) : State :=
  let r := revInt s.thetaNow
  let n := (r - s.ang.rev).natAbs
  let s := s.modAng fun a => { a with rev := r }
  if n == 0 || s.arch.st != .post then s
  else
    let s := s.modArch fun a => { a with left := a.left - n }
    if s.arch.left == 0 then s.freezeNow.archDone else s
/-- The estimate has come to one unit short of the next count: the fronts have moved with it up to there, and it stands
still from now on (R267, R268). -/
def State.capNow (s : State) : State :=
  let g := s.ang.seg
  if !g.capped s.now then s else
  let s := if s.ang.st == .running then s.sweep fun l => g.theta s.now + advance g.om l else s
  s.modAng fun a => a.putSeg s.now (g.theta s.now) 0
/-- What the engine does up to an ANGLE tick beside firing: direction, the observer's cap, revolution count, clamps and the
fronts with the entries that they pass. -/
def State.angleTick (s : State) : State :=
  if s.ang.st == .idle then s else
  let s := s.direction.capNow.revolve
  if !s.firing then s else
  let s := s.course.fronts.foldl (fun s f => s.clampFront f) s
  s.sweep s.lam

/-! ## States of the engine (R262–R264, R269–R274, R295, R394) -/

/-- The engine enters a state; the state it leaves is kept for the stamps of R344. -/
def State.gotoState (s : State) (st : EState) : State :=
  let t := s.now
  s.modAng fun a => { a with st := st, was := (t, a.st) :: a.was.filter fun e => t ≤ e.1 + 100000000 }
/-- The engine leaves RUNNING and COASTING: a pending swap takes effect, and POST ends in FROZEN (R295, R394). -/
def State.stopFiring (s : State) (st : EState) : State :=
  let was := s.firing
  let s := s.gotoState st
  let s := s.modAng fun a => { a with coast := none }
  let s := s.modCourse fun c => { c with fronts := [], due := [] }
  let s := match s.course.swap with | some w => s.swapNow w false | none => s
  if was && s.arch.st == .post then s.freezeNow.archDone else s
/-- SAFE: every course-owned channel takes its safe value, those too that an earlier SAFE found in the host's hands (R38, R271). -/
def State.enterSafe (s : State) : State :=
  (s.stopFiring .safe).retrigger fun s =>
    { s with encSafe := true, chans := s.chans.map fun (x : Chan) => { x with encOut := false } }
/-- Soft course entries that wait at Buttress are withdrawn (R271). -/
def State.withdrawSoft (s : State) : State :=
  let soft (r : Req) : Bool := match r.src with | .courseSoft _ => true | _ => false
  let mine := s.reqs.filter soft
  let s := { s with reqs := s.reqs.filter fun r => !soft r }
  mine.foldl (fun s r => (s.dropChange r).settleReq r .notApplied) s
def EncFault.code : EncFault → Nat
  | .illegal => 1 | .index => 2 | .stall => 3
/-- An encoder fault: checked in UNREFERENCED and RUNNING, latched, and acted on by the active bank's policy (R269–R274). -/
def State.encFault (s : State) (k : EncFault) : State :=
  if !(s.ang.st == .running || s.ang.st == .unreferenced) then s else
  let b := s.cbank s.course.active
  let pol := if b.fpol == 2 && s.ang.st == .unreferenced then 1 else b.fpol.toNat
  let s := s.modCourse fun c => match k with
    | .illegal => { c with nIllegal := c.nIllegal + 1 }
    | .index => { c with nIndex := c.nIndex + 1 }
    | .stall => { c with nStall := c.nStall + 1 }
  let s := (s.modAng fun a => { a with fault := some k }).raiseCause 5
  let s := s.mark 4 0 (BitVec.ofNat 32 k.code) (BitVec.ofNat 32 pol) 0
  if pol == 2 then
    let e := s.ang.edgeSeg
    let co : Coast := { theta := e.th, omega := e.om, t := e.t, until_ := s.now + b.tcoast * 1000000 }
    let s := (s.gotoState .coasting).modAng fun a => { a with coast := some co }
    let n := (s.course.fronts.map fun (f : Front) => (s.passed f (s.lam f.lead)).length).foldl (· + ·) 0
    (s.modCourse fun c => { c with notApplied := c.notApplied + n }).restartFronts s.lam
  else if pol == 1 then s.enterSafe
  else (s.stopFiring .frozen).withdrawSoft
/-- The engine becomes RUNNING: the SAFE trigger clears, and the fronts of the classes and of the
chains start (R262, R273, R298, R369). -/
def State.becomeRunning (s : State) (source : Nat) : State :=
  let s := (s.gotoState .running).retrigger fun s => { s with encSafe := false }
  let s := { s with chains := s.chains.map fun (c : Chain) => { c with front := none } }
  (s.restartFronts s.lam).mark 5 0 (BitVec.ofNat 32 source) 0 0
/-- The absolute angle nearest to v that reads REFANG (R264). -/
def nearestRef (ref : Nat) (v : Rat) : Rat :=
  let d := (ref : Rat) - (v - (v / 4294967296).floor * 4294967296)
  v + (if 2147483648 ≤ d then d - 4294967296 else if d < -2147483648 then d + 4294967296 else d)
/-- A qualified reference mark: decoded angle and estimate are set to REFANG, the speed kept; it references an
UNREFERENCED engine and corrects a RUNNING one (R262–R264). -/
def State.reference (s : State) (source : Nat) : State :=
  let v := s.thetaNow
  let om := s.omegaNow
  let first := !s.ang.everRun
  let ref := rfAngle s.ang.refw
  let tgt : Rat := if first then ref else nearestRef ref v
  let t := s.now
  let s := s.modAng fun a =>
    let a := { a with cnt := 0, base := tgt, idxCnt := some 0, trustNext := false, everRun := true, teeth := 0
                      hi := if first then tgt else a.hi + (tgt - v), lo := if first then tgt else a.lo + (tgt - v)
                      fwd := first || a.fwd, rev := if first then 0 else a.rev
                      edgeSeg := { a.edgeSeg with th := a.edgeSeg.th + (tgt - v) } }
    a.putSeg t tgt om
  let s := if s.ang.st == .unreferenced then s.becomeRunning source else s
  s.angleTick
/-- The delta of generation g is committed: an ANGLE_CONFIG without a reference mark completes, and the engine, still
UNREFERENCED, becomes RUNNING (R262, R513). -/
def State.angleCommitted (s : State) (g : Word32) : State :=
  if s.ang.refWait != some g then s else
  let s := (s.modAng fun a => { a with refWait := none }).angleTick
  if s.ang.st == .unreferenced then s.reference 3 else s
/-- FAULT_CLEAR on the angle source in FROZEN or SAFE (R262, R273). -/
def State.clearAngle (s : State) : State :=
  let s := s.modAng fun a => { a with fault := none, trustNext := true, coast := none }
  if s.ang.encoder && !srZuse s.ang.srcw then s.becomeRunning 3
  else s.gotoState .unreferenced

/-! ## Events of the angle source -/

/-- A counted edge by step counts, of time tk; a gap that no check takes up ends the count of its teeth (R261, R267, R269). -/
def State.edge (s : State) (step : Int) : State :=
  let s := s.angleTick
  let tk := s.now - 8 * srFilt s.ang.srcw
  let a := s.ang
  let checking := a.st == .running || a.st == .unreferenced
  let int := match a.edges.head? with | some t => tk - t | none => 0
  let gap := a.tooth && 0 < a.lastInt && trGapr a.trkw * a.lastInt ≤ 4 * int
  let step : Int := if gap then srTmiss a.srcw + 1 else step
  let s := s.modAng fun a =>
    ({ a with cnt := a.cnt + step, teeth := if checking then a.teeth + 1 else if gap then 0 else if a.gap then 1 else a.teeth + 1
              lastInt := int
              gap := gap && checking }).observe tk
  let s := s.angleTick
  let a := s.ang
  let far := match a.idxCnt with
    | some k => a.encoder && srZuse a.srcw && !a.trustNext && srCpr a.srcw + srZtol a.srcw < (a.cnt - k).natAbs
    | none => false
  let noGap := a.tooth && !gap && !a.trustNext && a.wheelTeeth + 1 ≤ a.teeth
  if far || noGap then s.encFault .index else s
/-- The phase of the two encoder lines (R258). -/
def phase (a b : Bool) : Nat := match a, b with
  | false, false => 0 | true, false => 1 | true, true => 2 | false, true => 3
/-- A change of a line passes the glitch filter: the new level has held for FILT ticks, all of them since the line's last
change that passed, and a line changes once a tick at most (R253). -/
def Ang.passes (a : Ang) (last : Option Nat) (tick held : Nat) : Bool :=
  srFilt a.srcw ≤ held && match last with | some t => t < tick && t + held ≤ tick | none => true
/-- ENCODER_EDGE: the levels of ENC_A and ENC_B, those that changed held for held ANGLE ticks. A change of both lines in one
tick is a fault, and the count stays as it is (R253, R258, R260, R267, R269; log entry 108). -/
def execEncoderEdge (dt : Nat) (lv : Bool × Bool) (held : Nat) (s : State) : Host.Outcome State Fault Refusal :=
  let s := s.elapse dt
  let x := s.ang
  let tick := s.now / 8
  let dA := x.lvlA != lv.1 && x.passes x.chgA tick held
  let dB := x.lvlB != lv.2 && x.passes x.chgB tick held
  let t := s.modAng fun y => { y with lvlA := if dA then lv.1 else y.lvlA, lvlB := if dB then lv.2 else y.lvlB
                                      chgA := if dA then some tick else y.chgA, chgB := if dB then some tick else y.chgB }
  .next (s.when (s.up && (dA || dB)) fun _ =>
    if x.encoder then
      if (dA && dB) || (dA && x.chgB == some tick) || (dB && x.chgA == some tick) then t.angleTick.encFault .illegal
      else
        let fwd := (phase t.ang.lvlA t.ang.lvlB + 4 - phase x.lvlA x.lvlB) % 4 == 1
        t.edge (if fwd != srInv x.srcw then 1 else -1)
    else if x.tooth then (if dA && lv.1 then t.edge 1 else t)
    else t)

/-- Distance of a count from the nearest multiple of CPR (R269). -/
def indexError (cpr : Nat) (d : Int) : Nat :=
  let m := (d % cpr).toNat
  min m (cpr - m)
/-- REFERENCE_MARK: a qualified index, whose level has held for held ANGLE ticks, or the gap that the present tooth shows
(R253, R261, R262, R264, R269, R270). -/
def execReferenceMark (m : MarkEdge) (s : State) : Host.Outcome State Fault Refusal :=
  let s := s.elapse m.dt
  let a := s.ang
  let gate := srZgate a.srcw
  let gated := gate < 4 || (bit a.srcw 5 == a.lvlA && bit a.srcw 4 == a.lvlB)
  let checking := a.st == .running || a.st == .unreferenced
  .next (s.when (s.up && checking) fun s =>
    if a.encoder then
      if !srZuse a.srcw || !gated || m.held < srFilt a.srcw then s else
      let s := s.angleTick
      match a.idxCnt with
      | some k =>
        if !a.trustNext && srZtol a.srcw < indexError (srCpr a.srcw) (a.cnt - k) then s.encFault .index
        else s.reference 1
      | none => s.reference 1
    else if a.tooth && a.gap then
      let s := (s.modAng fun x => { x with gap := false }).angleTick
      if !a.trustNext && a.teeth != a.wheelTeeth then s.encFault .index else s.reference 2
    else s)

/-- ENC_STALL: no edge for STALL ms after one at VSTALL or more (R269). -/
def execEncStall (dt : Nat) (s : State) : Host.Outcome State Fault Refusal :=
  let s := s.elapse dt
  let a := s.ang
  let w := a.edgeSeg.om
  let fast := decide (rpmUnits (trVstall a.trkw) ≤ w) || decide (w ≤ -rpmUnits (trVstall a.trkw))
  let silent := match a.edges.head? with | some t => decide (t + trStall a.trkw * 1000000 ≤ s.now) | none => false
  .next (s.when (s.up && fast && silent) fun s => (s.angleTick).encFault .stall)

/-- COAST_TIMEOUT: TCOAST ends and the engine enters SAFE (R271). -/
def execCoastTimeout (dt : Nat) (s : State) : Host.Outcome State Fault Refusal :=
  let s := s.elapse dt
  let past := match s.ang.coast with | some c => decide (c.until_ ≤ s.now) | none => false
  .next (s.when (s.up && s.ang.st == .coasting && past) fun s => s.angleTick.enterSafe)

/-- OBSERVER_CAP: the estimate is held one unit short of the next count, and the speed becomes 0 (R267, R268). -/
def execObserverCap (dt : Nat) (s : State) : Host.Outcome State Fault Refusal :=
  let s := s.elapse dt
  .next (s.when (s.up && s.ang.st != .idle && s.ang.seg.capped s.now) State.angleTick)

/-! ## ANGLE_CONFIG (R253–R257, R262, R482) -/

def angNew (d : Desc) (i : Nat) (old : Word64) : Word64 := if (dNum d 4 1).testBit i then d64 d (8 + 8 * i) else old
/-- R256 on the words in force after the command. -/
def State.angleBad (s : State) (d : Desc) (p : Bool) : Option Nat :=
  let m := dNum d 4 1
  let w (i : Nat) (bad : Word64 → Bool) : Bool := if m.testBit i then bad (d64 d (8 + 8 * i)) else d64 d (8 + 8 * i) != 0
  let tooth := toothBad (angNew d 0 s.ang.srcw) (angNew d 1 s.ang.trkw)
  firstBad d p false [(4, 1), (8, 24)]
    [(m == 0 || 7 < m, 4), (w 0 srcwBad || (m.testBit 0 && tooth), 8), (w 1 trkwBad || (!m.testBit 0 && tooth), 16),
     (w 2 refwBad, 24)]
/-- SRC, CPRM1, TEETH, TMISS, INV, ZUSE, ZGATE or REFANG changes (R256, R257). -/
def State.angleStruct (s : State) (src ref : Word64) : Bool :=
  let o := s.ang.srcw
  srSrc src != srSrc o || srCpr src != srCpr o || srTeeth src != srTeeth o || srTmiss src != srTmiss o ||
  srInv src != srInv o || srZuse src != srZuse o || srZgate src != srZgate o || rfAngle ref != rfAngle s.ang.refw
/-- Angle, revolution count and observer are cleared (R257). -/
def State.angleClear (s : State) : State :=
  let st : EState := if srSrc s.ang.srcw == 0 then .idle else .unreferenced
  let s := s.stopFiring st
  s.modAng fun a => { Reset.ang with srcw := a.srcw, trkw := a.trkw, refw := a.refw, st := st, was := a.was, lvlA := a.lvlA, lvlB := a.lvlB
                                     chgA := a.chgA, chgB := a.chgB
                                     seg := { Reset.seg with t := s.now } }
/-- ANGLE_CONFIG. -/
def execAngleConfig (dt : Nat) (q : QueueId) (n : Word32) (s : State) : Host.Outcome State Fault Refusal :=
  let s := s.elapse dt
  .next (s.io q n (isOp 0x32) (fun _ => [(0x10, 4)]) s.angleBad fun d s =>
    let src := angNew d 0 s.ang.srcw
    let ref := angNew d 2 s.ang.refw
    let hard := s.angleStruct src ref
    if hard && allChans.any (fun c => s.courseOwned c && (s.quad (quadOf c)).armed) then s.finish q n .rejState 0 else
    let s := s.angleTick.modAng fun a => { a with srcw := src, trkw := angNew d 1 a.trkw, refw := ref }
    let s := if hard then s.angleClear else s
    let fresh := hard && s.ang.encoder && !srZuse src
    let s := s.configDone q n .done 0 s.now 0
    if !fresh then s
    else if s.journals then s.modAng fun a => { a with refWait := some s.pair.cfggen }
    else s.reference 3)

end Sys2Proof.Machine
end

