-- ==== Sys2Proof/Machine/ChanCmd.lean ====
section
/-!
DEFINITION. The channel commands: CH_CONFIG, OUT_WRITE, OUT_PULSE, SAFE_DEFINE, ARM, DISARM, FAULT_CLEAR and BUDGET_SET
(R104–R108, R121–R126, R200, R204, R217–R229, R237–R239, R246, R478–R481, R642).
-/
namespace Sys2Proof.Machine
open Sys2Proof

def maskNeeds (base perm : Nat) (d : Desc) : List (Nat × Nat) := (maskQuads (dMask d 4)).map fun q => (base + q, perm)
def qmaskNeeds (base perm off : Nat) (d : Desc) : List (Nat × Nat) := (bitsList 4 (dNum d off 1)).map fun q => (base + q, perm)
/-- Quadrants of a QMASK. -/
def dQuads (d : Desc) (off : Nat) : List QuadId := (List.finRange 4).filter fun q => (dNum d off 1).testBit q.val

/-! ## CH_CONFIG (R121–R126, R154, R172, R173, R218) -/

def cfgGroups (d : Desc) : Nat := dNum d 20 1
def cfgChw (d : Desc) : Bool := (cfgGroups d).testBit 0
def cfgProt (d : Desc) : Bool := (cfgGroups d).testBit 1
def cfgPul (d : Desc) : Bool := (cfgGroups d).testBit 2
/-- The descriptor's own fields (R469, R478, R642). -/
def chConfigBad (d : Desc) (p : Bool) : Option Nat :=
  firstBad d p false [(4, 17), (24, 24)]
    [(dMask d 4 == 0, 4), (cfgGroups d == 0 || 7 < cfgGroups d, 20), (!cfgChw d && d64 d 24 != 0, 24),
     (!cfgProt d && d64 d 32 != 0, 32), (!cfgPul d && d64 d 40 != 0, 40)]
/-- R121 step 1: the lowest offending channel. -/
def cfgFieldBad (d : Desc) : Option ChanId :=
  (maskChans (dMask d 4)).find? fun c =>
    (cfgChw d && chwBad (d64 d 24) c.val) || (cfgProt d && protwBad (d64 d 32)) || (cfgPul d && pulwBad (d64 d 40))
/-- A bank holds an entry on channel c that R119 checks, or any that targets it. -/
def State.bankTargets (s : State) (c : ChanId) (writes : Bool) : Bool :=
  s.course.banks.toList.any fun b => b.entries.any fun e => (writes || enChanAction e) && (entryChans e).contains c
/-- R37 and R122 on one channel that gets the channel group w. -/
def State.cfgChanBad (s : State) (c : ChanId) (w : Word64) : Bool :=
  let o := s.lastChw c
  (chCourse o && !chCourse w && s.bankTargets c true) ||
  ((s.quad (quadOf c)).armed && chIsOutput o != chIsOutput w) ||
  (chIsOutput o && !chIsOutput w && s.bankTargets c false)
/-- R121 step 2 on a channel of the mask: R37, R122, R123. -/
def State.cfgStateBad (s : State) (d : Desc) (c : ChanId) : Bool :=
  let w := d64 d 24
  let o := c.val % 2 == 0 && chGang (s.lastChw c)
  s.lastOdd c ||
  (cfgChw d && (s.cfgChanBad c w || ((s.quad (quadOf c)).armed && o != chGang w) ||
    ((chGang w || o) && s.cfgChanBad (nextChan c) w) || (chGang w && s.bankTargets (nextChan c) false)))
/-- c is the odd channel of a gang that the command writes, declares or dissolves by its even channel (R123, R154). -/
def State.cfgOdd (s : State) (d : Desc) (c : ChanId) : Bool :=
  c.val % 2 == 1 && bit (dMask d 4) (prevChan c).val && (s.lastOdd c || (cfgChw d && chGang (d64 d 24)))
/-- The channel group that each channel would have (R123, R154). -/
def State.cfgChwOf (s : State) (d : Desc) (c : ChanId) : Word64 :=
  if cfgChw d && s.cfgOdd d c then putFld (d64 d 24) 10 1 0
  else if cfgChw d && bit (dMask d 4) c.val then d64 d 24 else s.lastChw c
def isType2 (w : Word64) : Bool := chIsInput w && chItype w == 1
/-- R121 step 3: the lowest channel of the mask in a quadrant with more than eight type 2 inputs (R126). -/
def State.cfgCapacity (s : State) (d : Desc) : Option ChanId :=
  let after := Vector.ofFn fun c : ChanId => isType2 (s.cfgChwOf d c)
  if !cfgChw d || !isType2 (d64 d 24) then none else
  (maskChans (dMask d 4)).find? fun c =>
    8 < ((quadChans (quadOf c)).filter fun x => after[x]).length
/-- The mailbox words that carry a channel's groups (R124). -/
def cfgWords (d : Desc) (c : ChanId) : List MboxWord :=
  (if cfgChw d then (List.finRange 4).map (.chanGroup c) else []) ++
  (if cfgProt d then (List.finRange 4).map (.protGroup c) else [])
/-- The channels that CH_CONFIG writes: the mask, with the odd channel of each gang it names, declares or dissolves (R123,
R154). -/
def State.cfgWrites (s : State) (d : Desc) : List ChanId := allChans.filter fun c => bit (dMask d 4) c.val || s.cfgOdd d c
/-- The groups for one channel are on their way: the pulse group in its place in the order of fetching, the others by the
mailbox (R42, R124). -/
def State.cfgFile (s : State) (d : Desc) (chw : Word64) (ord : Nat) (c : ChanId) : State :=
  let ws := cfgWords d c
  let s := s.modChan c fun x =>
    { x with chwNew := if cfgChw d then some chw else x.chwNew
             protNew := if cfgProt d then some (d64 d 32) else x.protNew
             pulNew := if cfgPul d then some (d64 d 40) else x.pulNew
             pulOrd := if cfgPul d then ord else x.pulOrd }
  s.modQuad (quadOf c) fun x => { x with mbox := x.mbox ++ ws, mboxFiled := x.mboxFiled + ws.length }
/-- CH_CONFIG (R121–R126, R478). -/
def execChConfig (dt : Nat) (q : QueueId) (n : Word32) (s : State) : Host.Outcome State Fault Refusal :=
  let s := s.elapse dt
  .next (s.io q n (isOp 0x20) (maskNeeds 0x30 2) chConfigBad fun d s =>
    match cfgFieldBad d with
    | some c => s.finish q n .rejField c.val
    | none => match (maskChans (dMask d 4)).find? (s.cfgStateBad d) with
      | some c => s.finish q n .rejState c.val
      | none => match s.cfgCapacity d with
        | some c => s.finish q n .rejCapacity c.val
        | none =>
          let cs := s.cfgWrites d
          let chws := Vector.ofFn fun c : ChanId => s.cfgChwOf d c
          let ord := s.reqKey (.host q n)
          let s := cs.foldl (fun s c => s.cfgFile d chws[c] ord c) s
          let at_ (k : QuadId) : Bool := cs.any fun c => quadOf c == k
          s.addOp q n (.chConfig (quadMask fun k => cfgPul d && at_ k) (quadMask fun k => (cfgChw d || cfgProt d) && at_ k)
            ((List.finRange 4).map fun k => (s.quad k).mboxFiled)))

/-! ## OUT_WRITE, OUT_PULSE (R140, R155, R222–R225, R246, R468, R479) -/

/-- OUT_WRITE. -/
def execOutWrite (dt : Nat) (q : QueueId) (n : Word32) (s : State) : Host.Outcome State Fault Refusal :=
  let s := s.elapse dt
  .next (s.io q n (isOp 0x21) (maskNeeds 0x30 4) (fun d p => firstBad d p false [(4, 32)] [(dMask d 4 == 0, 4)]) fun d s =>
    s.outCmd q n (dMask d 4) 0 fun s c => s.setLevel c (bit (dMask d 20) c.val) (.host q n))

def dPvalid (d : Desc) : Bool := dNum d 21 1 == 1
/-- OUT_PULSE with operation op; an OP above 2 belongs to no operation (R478, R479, log entry 15). -/
def isPulse (op : Nat) (d : Desc) : Bool :=
  isOp 0x22 d && (dNum d 20 1 == op || (op == 0 && 2 < dNum d 20 1))
def pulseBad (d : Desc) (p : Bool) : Option Nat :=
  firstBad d p false [(4, 18), (24, 8)]
    [(dMask d 4 == 0, 4), (2 < dNum d 20 1, 20), (1 < dNum d 21 1 || (dNum d 20 1 == 2 && dNum d 21 1 == 0), 21),
     (if dNum d 21 1 == 0 then d64 d 24 != 0 else pulwBad (d64 d 24), 24)]
/-- The group that an OUT_PULSE runs with on a channel. -/
def State.pulseGroup (s : State) (d : Desc) (c : ChanId) : Word64 := if dPvalid d then d64 d 24 else (s.chan c).pulw
/-- The number of channels that the command's duty is capped on (R225). -/
def State.cappedCount (s : State) (d : Desc) : Nat :=
  ((s.maskLeads (dMask d 4)).filter fun c =>
    s.accepts false c && buDcap (s.chan c).budw < puDuty (s.pulseGroup d c)).length
/-- Write the pulse group of a channel that the command is applied to (R478). -/
def State.pulseWrite (s : State) (d : Desc) (c : ChanId) : State := if dPvalid d then s.storePulse c (d64 d 24) else s
/-- OUT_PULSE START. -/
def execOutPulseStart (dt : Nat) (q : QueueId) (n : Word32) (s : State) : Host.Outcome State Fault Refusal :=
  let s := s.elapse dt
  .next (s.io q n (isPulse 0) (maskNeeds 0x30 4) pulseBad fun d s =>
    s.outCmd q n (dMask d 4) (s.cappedCount d) fun s c =>
      let old := (s.chan c).pulw
      let w := s.pulseGroup d c
      if (s.chan c).latch && (s.chan c).gen.isNone then (s, .notApplied)
      else (s.pulseWrite d c).startGen c w old (.host q n))
/-- OUT_PULSE STOP. -/
def execOutPulseStop (dt : Nat) (q : QueueId) (n : Word32) (s : State) : Host.Outcome State Fault Refusal :=
  let s := s.elapse dt
  .next (s.io q n (isPulse 1) (maskNeeds 0x30 4) pulseBad fun d s =>
    s.outCmd q n (dMask d 4) 0 fun s c => (s.pulseWrite d c).stopGen c)
/-- OUT_PULSE UPDATE. -/
def execOutPulseUpdate (dt : Nat) (q : QueueId) (n : Word32) (s : State) : Host.Outcome State Fault Refusal :=
  let s := s.elapse dt
  .next (s.io q n (isPulse 2) (maskNeeds 0x30 4) pulseBad fun d s =>
    s.outCmd q n (dMask d 4) (s.cappedCount d) fun s c =>
      let old := (s.chan c).pulw
      (s.pulseWrite d c).updateGen c (d64 d 24) old (.host q n))

/-! ## SAFE_DEFINE (R163, R479, R480) -/

def safeValOf (v : Nat) : SafeVal := if v == 1 then .on else if v == 2 then .hold else if v == 3 then .pulse else .off
def safeBad (d : Desc) (p : Bool) : Option Nat :=
  let per := dNum d 24 4
  let duty := dNum d 28 2
  firstBad d p false [(4, 17), (24, 6)]
    [(dMask d 4 == 0, 4), (3 < dNum d 20 1, 20),
     (if dNum d 20 1 == 3 then per < 250 || 1000000 < per else per != 0, 24),
     (if dNum d 20 1 == 3 then 1024 < duty else duty != 0, 28)]
/-- SAFE_DEFINE: under a safe level the new value waits for the next trigger (R480), and on a die that has kept its power
through a reset for its synchronisation (R85, R94). -/
def execSafeDefine (dt : Nat) (q : QueueId) (n : Word32) (s : State) : Host.Outcome State Fault Refusal :=
  let s := s.elapse dt
  .next (s.io q n (isOp 0x23) (maskNeeds 0x38 2) safeBad fun d s =>
    match (maskChans (dMask d 4)).find? s.lastOdd with
    | some c => s.finish q n .rejState c.val
    | none =>
      let v := safeValOf (dNum d 20 1)
      let per := if v == .pulse then dNum d 24 4 else 250
      let duty := if v == .pulse then dNum d 28 2 else 0
      let s := (maskChans (dMask d 4)).foldl (fun s c =>
        let waits := s.safeRules c || s.staleChan c
        s.modChan c fun x => if waits then { x with safeNew := some (v, per, duty) }
          else { x with safe := v, safePer := per, safeDuty := duty, safeNew := none }) s
      s.configDone q n .done 0 s.now 0)

/-! ## ARM, DISARM (R104–R108, R481) -/

def qmaskBad (d : Desc) (p : Bool) : Option Nat :=
  firstBad d p false [(4, 1)] [(dNum d 4 1 == 0 || 15 < dNum d 4 1, 4)]
/-- ARM of a quadrant is rejected (R105). -/
def State.armBad (s : State) (q : QuadId) : Bool := !(s.quad q).sync || s.redmode == 3 || !s.holdsRole
/-- A quadrant will be armed from the next frame on, its first with ARMED = 1 (R106). -/
def State.armQuad (s : State) (q : QuadId) : State := s.modQuad q fun x => { x with armReq := true }
/-- The frame that carries ARMED = 1 first: the quadrant is armed, and its safe values of a DISARM end (R106–R108, R168). -/
def State.takeArm (s : State) (q : QuadId) : State :=
  if (s.quad q).armReq then
    s.retrigger fun s => s.modQuad q fun x => { x with armed := true, armReq := false, disTrig := false, disWait := false }
  else s
/-- ARM: completes after the first frame with ARMED = 1 of the last quadrant (R106). -/
def execArm (dt : Nat) (q : QueueId) (n : Word32) (s : State) : Host.Outcome State Fault Refusal :=
  let s := s.elapse dt
  .next (s.io q n (isOp 0x24) (qmaskNeeds 0x38 4 4) qmaskBad fun d s =>
    let ok := (dQuads d 4).filter fun k => !s.armBad k
    if ok.isEmpty then s.finish q n .rejState 0
    else
      let m : BitVec 4 := quadMask fun k => ok.contains k
      let partial_ := ok.length < (dQuads d 4).length
      (ok.foldl (fun s k => s.armQuad k) s).addOp q n (.arm m m partial_))
/-- DISARM: completes after the first frame with ARMED = 0 of the last quadrant (R108, R470, R481). -/
def execDisarm (dt : Nat) (q : QueueId) (n : Word32) (s : State) : Host.Outcome State Fault Refusal :=
  let s := s.elapse dt
  .next (s.io q n (isOp 0x25) (qmaskNeeds 0x38 4 4) qmaskBad fun d s =>
    let m : BitVec 4 := quadMask fun k => (dQuads d 4).contains k
    ((dQuads d 4).foldl (fun s k => s.disarmQuad k) s).addOp q n (.disarm m m))

/-! ## FAULT_CLEAR (R200, R204, R273, R479) -/

/-- FAULT_CLEAR on one channel: latch, retry counter, fault level and standing PROTECT diagnostics but REVERSE (R200);
a gang is cleared by either channel (R158). -/
def State.clearFault (s : State) (c : ChanId) : State :=
  let l := s.lead c
  let s := s.modChan l fun x => { x with latch := false, retry := 0 }
  (s.members l).foldl (fun s m =>
    let s := s.modChan m fun x => { x with fault := false }
    [1, 2, 3, 4].foldl (fun s k => s.clearDiag m k) s) s
/-- A safe level returns with its first on-edge, two a frame under R165 (R178); one of HOLD that was lost on a disarmed
quadrant is not switched on anew (R22, R137, log entry 100). -/
def State.safeAgain (s : State) (l : ChanId) : State :=
  let armed := (s.quad (quadOf l)).armed
  let s := (s.members l).foldl (fun s m => s.modChan m fun x => { x with cause := .none }) s
  s.modChan l fun x => { x with safeGate := false, safeEdged := false, held := x.held && (armed || x.drv) }
/-- A unit whose level is wanted returns: a safe level without admission, but for HOLD after UNDER or OVER, another level as an
automatic restart (R152, R165, R197, R204, R216). -/
def State.comeBack (s : State) (l : ChanId) (supply : Bool) : State :=
  if !s.isOutput l || !s.wanted l then s
  else if s.safeRules l then
    if !(supply && (s.chan l).safe == .hold && (s.quad (quadOf l)).armed) then s.safeAgain l
    else if s.reqs.any fun r => r.chan == l && r.src == .restart then s
    else s.request l .restart .held
  else if s.reqs.any fun r => r.chan == l && r.kind != .raise then s
  else s.request l .restart (if (s.chan l).gen.isSome then .rejoin else .level)
/-- A protective cause or REVERSE holds the unit off. -/
def State.heldOff (s : State) (l : ChanId) : Bool := (s.members l).any fun m => (s.chan m).cause != .none || (s.chan m).reverse
/-- The outputs of a quadrant return after UNDER, OVER or LATCH (R204); a unit that protection holds off waits on R197. -/
def State.supplyReturn (s : State) (q : QuadId) : State :=
  (s.leads q).foldl (fun s l => if s.heldOff l then s else s.comeBack l true) s
/-- FAULT_CLEAR names a quadrant's supply (R204). -/
def State.clearSupply (s : State) (q : QuadId) : State :=
  if (s.quad q).supLatch then (s.modQuad q fun x => { x with supLatch := false }).supplyReturn q else s
def faultClearBad (d : Desc) (p : Bool) : Option Nat :=
  firstBad d p false [(4, 18)]
    [(dMask d 4 == 0 && dNum d 20 1 == 0 && dNum d 21 1 == 0, 4), (15 < dNum d 20 1, 20), (1 < dNum d 21 1, 21)]
/-- FAULT_CLEAR. -/
def execFaultClear (dt : Nat) (q : QueueId) (n : Word32) (s : State) : Host.Outcome State Fault Refusal :=
  let s := s.elapse dt
  .next (s.io q n (isOp 0x26)
    (fun d => maskNeeds 0x30 2 d ++ qmaskNeeds 0x30 2 20 d ++ (if (dNum d 21 1).testBit 0 then [(0x10, 4)] else []))
    faultClearBad fun d s =>
      let asrc := dNum d 21 1 == 1
      if asrc && !(s.ang.st == .frozen || s.ang.st == .safe) then s.finish q n .rejState 0 else
      let s := (maskChans (dMask d 4)).foldl (fun s c => s.clearFault c) s
      let s := (dQuads d 20).foldl (fun s k => s.clearSupply k) s
      let s := if asrc then s.clearAngle else s
      s.configDone q n .done 0 s.now 0 false)

/-! ## BUDGET_SET (R237–R239) -/

def budgetNeeds (d : Desc) : List (Nat × Nat) :=
  if dNum d 4 1 == 2 then [(0, 2)]
  else (bitsList 4 (dNum d 5 1) ++ maskQuads (dMask d 8)).map fun q => (0x30 + q, 2)
def budgetBad (d : Desc) (p : Bool) : Option Nat :=
  let k := dNum d 4 1
  let w := d64 d 24
  firstBad d p false [(4, 2), (8, 24)]
    [(2 < k, 4), (if k == 1 then dNum d 5 1 == 0 || 15 < dNum d 5 1 else dNum d 5 1 != 0, 5),
     (if k == 0 then dMask d 8 == 0 else dMask d 8 != 0, 8),
     (if k == 0 then budwBad w else if k == 1 then qbudwBad w else devwBad Config.codeAE w, 24)]
/-- BUDGET_SET: the word applies from the next frame (R239). -/
def execBudgetSet (dt : Nat) (q : QueueId) (n : Word32) (s : State) : Host.Outcome State Fault Refusal :=
  let s := s.elapse dt
  .next (s.io q n (isOp 0x27) budgetNeeds budgetBad fun d s =>
    let w := d64 d 24
    if dNum d 4 1 == 0 then
      match (maskChans (dMask d 8)).find? s.lastOdd with
      | some c => s.finish q n .rejState c.val
      | none =>
        let s := (maskChans (dMask d 8)).foldl (fun s c => s.modChan c fun x => { x with budwNew := some w }) s
        s.configDone q n .done 0 s.now 0
    else
      let s := if dNum d 4 1 == 1 then (dQuads d 5).foldl (fun s k => s.modQuad k fun x => { x with qbudwNew := some w }) s
        else { s with devwNew := some w }
      s.configDone q n .done 0 s.now 0)

end Sys2Proof.Machine
end

