-- ==== Sys2Proof/Machine/Field.lean ====
section
/-!
DEFINITION. What a field die does by itself and reports: debounced inputs, current limit, protection, inrush windows,
REVERSE, readback, open load, wire-break and the L+ classes (R125–R134, R144–R162, R174–R206).
-/
namespace Sys2Proof.Machine
open Sys2Proof

/-- The field die of q is powered; it needs neither L+ nor the logic die (R79, R83, R85). -/
def State.powered (s : State) (q : QuadId) : Bool :=
  s.viso && !s.dormant && ((s.quad q).started.isSome || (s.quad q).stale)
/-- The die's reports reach the logic die (R81). -/
def State.linked (s : State) (q : QuadId) : Bool := s.up && (s.quad q).sync
/-- The logic die, if its link to the die of q runs, acts on what the die reports (R81, R85). -/
def State.whenLinked (s : State) (q : QuadId) (f : State → State) : State := s.when (s.linked q) f
/-- The dies bring the channels that hold p to the levels of R212, without a downlink frame. -/
def State.driveSelf (s : State) (p : ChanId → Bool) : State :=
  let cs := allChans.filter fun c => p c && s.powered (quadOf c)
  s.setDrvs (cs.map fun c => (c, s.dieLevel c, s.dieNow))

/-! ## Debounced inputs (R127–R130) -/

/-- A new state is accepted at a sample; what the frame's uplink needs of the states before is kept (R23, R25, R127). -/
def Chan.accept (x : Chan) (level atLock : Bool) (t : Nat) (lock : Option Nat) : Chan :=
  let first := t / 1000 != x.accAt / 1000
  { x with acc := level, accAt := t, accWas := if first then x.acc else x.accWas, accWasAt := if first then x.accAt else x.accWasAt
           accLock := atLock, lockUntil := lock, filtAt := t }
/-- INPUT_ACCEPT: every sample of the last run ns has shown the level, a run of DEBOUNCE in STABLE mode; in EDGE mode a first
differing sample outside a lockout (R125, R128–R130). -/
def execInputAccept (dt : Nat) (c : ChanId) (r : Held Bool) (s : State) : Host.Outcome State Fault Refusal :=
  let s := s.elapse dt
  let w := s.chwOf c
  let x := s.chan c
  let t := floor125 s.dieNow
  let d := chDebounce w * 1000
  let free := match x.lockUntil with | some u => decide (u ≤ t) | none => true
  let due := d == 0 || (if chEdgeMode w then free else decide (d ≤ r.run && x.filtAt + r.run ≤ t))
  .next (s.when (s.powered (quadOf c) && chIsInput w && (x.acc != r.val || x.inTake.isSome) && due) fun s =>
    s.modChan c fun x => x.accept r.val false t (if chEdgeMode w && d != 0 then some (t + d) else none))
/-- EDGE_LOCKOUT_END: a differing sample is accepted and starts a new lockout (R129). -/
def execEdgeLockoutEnd (dt : Nat) (c : ChanId) (sample : Bool) (s : State) : Host.Outcome State Fault Refusal :=
  let s := s.elapse dt
  let w := s.chwOf c
  let x := s.chan c
  let t := floor125 s.dieNow
  let over_ := match x.lockUntil with | some u => decide (u ≤ t) | none => false
  .next (s.when (s.powered (quadOf c) && chIsInput w && chEdgeMode w && over_) fun s =>
    s.modChan c fun x =>
      if sample == x.acc then { x with lockUntil := none } else x.accept sample true t (some (t + chDebounce w * 1000)))

/-! ## Protective switch-offs (R158, R173–R177, R185, R192, R193, R195, R196) -/

/-- Both drivers of a unit go off at once (R158). -/
def State.dropUnit (s : State) (c : ChanId) : State :=
  let t := s.dieNow
  (s.members c).foldl (fun s m => (s.setDrv m false t).modChan m fun x => { x with test := .idle, testEnd := none }) s
/-- A thermal event: counted, and the latch due at RLIM or under LATCH; true when it is newly due (R195, R196). -/
def State.thermalEvent (s : State) (l : ChanId) : State × Bool :=
  let x := s.chan l
  let w := s.protOf l
  let n := x.retry + 1
  let hit := prLatch w || (prRlim w != 0 && prRlim w ≤ n)
  let t := s.dieNow
  (s.modChan l fun x => { x with retry := n, lastThermal := t }, hit && !x.latch)
/-- Which of two causes of one eighth is reported, and its code (R177, R210). -/
def OffCause.order : OffCause → Nat
  | .short => 3 | .therm => 2 | .overload => 1 | _ => 0
def OffCause.code : OffCause → Nat
  | .short => 2 | .therm => 3 | .overload => 1 | _ => 0
/-- The report of a cause gives way to one that comes first in R177 and arose in the same eighth (log entry 57). -/
def State.unreport (s : State) (l : ChanId) (code : Nat) : State :=
  let ms := s.members l
  let t := s.frameStart
  let mine (r : Record) : Bool := match r with
    | .diag num k fl _ time _ _ _ _ => ms.any (fun m => m.val == num) && k.toNat == code && fl == 1 && time == t
    | _ => false
  let s := { s with staging := s.staging.filter fun x => !mine x.1 }
  ms.foldl (fun s m => s.modChan m fun x => { x with standing := x.standing &&& ~~~BitVec.ofNat 32 (2 ^ code) }) s
/-- A unit's drivers off, with the cause, where it is one to mark, and the cool-down (R185, R195). -/
def State.offUnit (s : State) (c : ChanId) (cause : OffCause) (cool mark : Bool) : State :=
  let t := s.dieNow
  let drv := (s.members c).any fun m => (s.chan m).drv
  let until_ := if cool then t + prTcool (s.protOf c) * 1000000 else 0
  (s.members c).foldl (fun s m => s.modChan m fun x =>
    { x with cause := if mark then cause else x.cause, causeAt := if mark then t / 125 else x.causeAt
             fault := x.fault || drv, coolUntil := max x.coolUntil until_ }) (s.dropUnit c)
/-- The diagnostic of a switch-off, the thermal event where the reference was on, and the latch that this one brings (R195,
R196). -/
def State.offReport (s : State) (l : ChanId) (refOn : Bool) (diag : Option (ChanId × Nat)) : State :=
  let r := if refOn then s.thermalEvent l else (s, false)
  let s := match diag with | some d => r.1.whenLinked (quadOf l) fun s => s.raiseDiag d.1 d.2 | none => r.1
  if r.2 then s.latchUnit l else s
/-- Protection switches a unit off; one whose reference was on has a thermal event, and the cause holds it off (R158, R185,
R195). A test pulse is no reference (R191). A second cause of the same eighth is no second switch-off, and one of the two is
reported (R177). diag: the channel diagnostic it raises. -/
def State.protectOff (s : State) (c : ChanId) (cause : OffCause) (cool : Bool) (diag : Option (ChanId × Nat)) : State :=
  let l := s.lead c
  let x := s.chan l
  let drv := (s.members c).any fun m => (s.chan m).drv
  let refOn := x.drv && x.test == .idle
  let second := !drv && x.cause.order != 0 && cause.order != 0 && x.causeAt == s.dieNow / 125
  if second && cause.order ≤ x.cause.order then s else
  let s := s.offUnit c cause cool (refOn || second)
  (if second then s.unreport l x.cause.code else s).offReport l refOn diag

/-- The unit is in current limit. -/
def State.unitLimit (s : State) (c : ChanId) : Bool := (s.members c).any fun m => (s.chan m).inLimit
/-- No inrush window of the unit runs; one that INRUSH_CUT ended still holds the timers (R179, R181). -/
def State.noWindow (s : State) (c : ChanId) : Bool := (s.members c).all fun m => (s.chan m).inrush.isNone
/-- A current lies in the ±20 % band of the limit in force, a gang's twice one channel's (R157, R174, R179, R181). -/
def State.atLimit (s : State) (c : ChanId) (ma : Nat) : Bool :=
  let k := (s.members c).length
  if (s.members c).any fun m => (s.chan m).windowOn then decide (2080 * k ≤ ma && ma ≤ 3120 * k)
  else decide (960 * k ≤ ma && ma ≤ 1440 * k)
/-- CURRENT_LIMIT: the unit reaches its limit, with a current of ma (R174, R179). -/
def execCurrentLimit (dt : Nat) (r : Sensed ChanId Nat) (s : State) : Host.Outcome State Fault Refusal :=
  let s := s.elapse dt
  let x := s.chan r.unit
  .next (s.when (s.powered (quadOf r.unit) && x.drv && !x.inLimit && s.atLimit r.unit r.val) fun s =>
    let t := s.dieNow
    (s.members r.unit).foldl (fun s m => s.modChan m fun x => { x with inLimit := true, limFrom := t, limitSince := t }) s)
/-- CURRENT_LIMIT_EXIT stops the 100 µs timer (R175, R206). -/
def execCurrentLimitExit (dt : Nat) (c : ChanId) (s : State) : Host.Outcome State Fault Refusal :=
  let s := s.elapse dt
  .next (s.when (s.powered (quadOf c) && (s.chan c).inLimit) fun s =>
    let t := s.dieNow
    (s.members c).foldl (fun s m => s.modChan m fun x => { x with inLimit := false, limTo := some t, ovFrom := t }) s)
/-- The unit has been in limit for 100 µs outside an inrush window (R175, R180). -/
def State.shorted (s : State) (l : ChanId) : Bool :=
  s.unitLimit l && s.noWindow l && decide ((s.chan l).limitSince + 100000 ≤ s.dieNow)
/-- SHORT_LIMIT: a gang's is raised on its even channel (R158, R175, R180). -/
def execShortLimit (dt : Nat) (c : ChanId) (s : State) : Host.Outcome State Fault Refusal :=
  let s := s.elapse dt
  let l := s.lead c
  .next (s.when (s.powered (quadOf c) && s.shorted l) fun s => s.protectOff l .short true (some (l, 2)))
/-- OVERLOAD: ma has been at least 0.75 A, a gang's sum 1.5 A, for run ns of OVTIME or more, outside a window and without the
limit (R158, R176). -/
def execOverload (dt : Nat) (r : Lasting ChanId Nat) (s : State) : Host.Outcome State Fault Refusal :=
  let s := s.elapse dt
  let l := s.lead r.unit
  let x := s.chan l
  .next (s.when (s.powered (quadOf r.unit) && x.drv && !s.unitLimit l && s.noWindow l && decide (750 * (s.members l).length ≤ r.val) &&
      decide (prOvtime (s.protOf l) * 10000000 ≤ r.run && x.ovFrom + r.run ≤ s.dieNow)) fun s =>
    s.protectOff l .overload true (some (l, 1)))
/-- THERM_OFF: the slice sensor reaches 170 °C; raised on the channel that sees it, unless the unit is shorted in the same
eighth (R158, R177, R192). -/
def execThermOff (dt : Nat) (r : Sensed ChanId Int) (s : State) : Host.Outcome State Fault Refusal :=
  let s := s.elapse dt
  let l := s.lead r.unit
  .next (s.when (s.powered (quadOf r.unit) && decide (170 ≤ r.val)) fun s =>
    let s := s.modChan r.unit fun x => { x with sliceHot := true }
    if !s.isOutput r.unit then s
    else if s.shorted l then s.protectOff l .short true (some (l, 2))
    else s.protectOff r.unit .therm false (some (r.unit, 3)))
/-- DIE_HOT: the die sensor reaches 150 °C and all 32 outputs go off (R193, R195). -/
def execDieHot (dt : Nat) (r : Sensed QuadId Int) (s : State) : Host.Outcome State Fault Refusal :=
  let s := s.elapse dt
  .next (s.when (s.powered r.unit && !(s.quad r.unit).hot && decide (150 ≤ r.val)) fun s =>
    let s := (s.leads r.unit).foldl (fun s l => if (s.chan l).drv then s.protectOff l .dieHot false none else s) s
    let s := s.modQuad r.unit fun x => { x with hot := true }
    s.whenLinked r.unit fun s => s.raiseQuadDiag r.unit 0xF)
/-- A generator whose off-phase met DIE_HOT is admitted again like one that was switched off (R226). -/
def State.hotReturn (s : State) (q : QuadId) : State :=
  (s.leads q).foldl (fun s l => if (s.chan l).gen.isNone || s.heldOff l then s else s.comeBack l false) s
/-- DIE_HOT_CLEAR at 135 °C: each channel then follows its own restart policy (R193, R197). -/
def execDieHotClear (dt : Nat) (r : Sensed QuadId Int) (s : State) : Host.Outcome State Fault Refusal :=
  let s := s.elapse dt
  .next (s.when (s.powered r.unit && (s.quad r.unit).hot && decide (r.val ≤ 135)) fun s =>
    (s.modQuad r.unit fun x => { x with hot := false }).whenLinked r.unit fun s => (s.clearQuadDiag r.unit 0xF).hotReturn r.unit)
/-- INRUSH_WINDOW_END: the normal limit, and the timers of R175 and R176 start (R180, R181). -/
def execInrushWindowEnd (dt : Nat) (c : ChanId) (s : State) : Host.Outcome State Fault Refusal :=
  let s := s.elapse dt
  let ends := match (s.chan c).inrush with | some t => decide (t ≤ s.dieNow) | none => false
  .next (s.when (s.powered (quadOf c) && ends) fun s =>
    let t := s.dieNow
    (s.members c).foldl (fun s m => s.modChan m fun x =>
      { x with inrush := none, inrushCut := false, inrTo := if x.windowOn then some t else x.inrTo, limitSince := t, ovFrom := t }) s)
/-- RETRY_WINDOW_EXPIRY: RWIN without a thermal event; the latch stays (R199). -/
def execRetryWindowExpiry (dt : Nat) (c : ChanId) (s : State) : Host.Outcome State Fault Refusal :=
  let s := s.elapse dt
  let l := s.lead c
  let x := s.chan l
  .next (s.when (s.up && x.retry != 0 && x.lastThermal + prRwin (s.protOf c) * 1000000000 ≤ s.dieNow) fun s =>
    s.modChan l fun x => { x with retry := 0 })

/-! ## REVERSE (R151–R153) -/

/-- REVERSE: in NORMAL or LOW a land of any mode has been more than 1.0 V (above, in mV) over L+ for 10 µs, and the unit's
drivers go off (R151, R153, R158). -/
def execReverse (dt : Nat) (r : Lasting ChanId Int) (s : State) : Host.Outcome State Fault Refusal :=
  let s := s.elapse dt
  let q := quadOf r.unit
  .next (s.when (s.powered q && !s.supplyOff q && !(s.chan r.unit).reverse && decide (1000 < r.val && 10000 ≤ r.run)) fun s =>
    let t := s.dieNow
    let s := (s.dropUnit r.unit).modChan r.unit fun x => { x with reverse := true, revAt := t }
    s.whenLinked q fun s => s.raiseDiag r.unit 8)
/-- REVERSE_CLEAR: at or below L+ + 0.5 V for a settle time, with the automatic restart of an on channel (R152). -/
def execReverseClear (dt : Nat) (r : Lasting ChanId Int) (s : State) : Host.Outcome State Fault Refusal :=
  let s := s.elapse dt
  let q := quadOf r.unit
  let x := s.chan r.unit
  let settled := decide (r.val ≤ 500 && chSettle (s.chwOf r.unit) * 1000 ≤ r.run && x.revAt + r.run ≤ s.dieNow)
  .next (s.when (s.powered q && x.reverse && !s.supplyOff q && settled) fun s =>
    let s := s.modChan r.unit fun x => { x with reverse := false }
    s.whenLinked q fun s =>
      let s := s.clearDiag r.unit 8
      let l := s.lead r.unit
      if s.heldOff l then s else s.comeBack l false)

/-! ## Readback (R143–R149) -/

/-- The settle time has ended (R145). -/
def State.settled (s : State) (c : ChanId) : Bool := match (s.chan c).settle with | some t => decide (t ≤ s.dieNow) | none => true
/-- The channel's generator drives it: no safe level rules (R148). -/
def State.genDrives (s : State) (c : ChanId) : Option Gen := if s.safeRules c then none else (s.chan (s.lead c)).gen
/-- The readback is compared with the driven level (R146, R147, R149, R151). -/
def State.readCheck (s : State) (c : ChanId) (land : Bool) : State :=
  let x := s.chan c
  if x.reverse || x.test != .idle then s
  else if x.drv then
    if !land && !x.inLimit && !x.windowOn && !bit x.standing 9 then s.raiseDiag c 9 else s
  else if land && !bit x.standing 7 then s.raiseDiag c 7 else s
/-- Time left of a generator's present phase at device time t. -/
def Gen.phaseLeft (g : Gen) (budw : Word64) (t : Nat) : Nat :=
  let on := genOn (g.runs budw)
  if t < g.onUntil then g.onUntil - t
  else if t < g.hold then g.hold - t
  else if g.pos t < on then on - g.pos t else genPeriod g.pulw - g.pos t
/-- Frame f is the one whose readback is compared: the last one in a generator's phase, or any without a generator (R148). -/
def State.checkFrame (s : State) (c : ChanId) (f : Nat) : Bool :=
  match s.genDrives c with
  | some g => decide (g.phaseLeft (s.budOf c) (1000 * f + 999) ≤ 1000)
  | none => true
/-- The comparison that a settled channel's readback in frame f is due for (R146–R149). -/
def State.readFrame (s : State) (c : ChanId) (land : Bool) (f : Nat) : State :=
  if (s.chan c).settle.isSome || !s.checkFrame c f || ((s.genDrives c).isSome && !(s.chan c).checkDue) then s
  else (s.readCheck c land).modChan c fun x => { x with checkDue := false }
/-- A switch-on has lasted a full settle time: SHORT_LIMIT, OVERLOAD, THERM_OFF and the fault level end (R185, R210). -/
def State.settledOn (s : State) (c : ChanId) : State :=
  if !(s.chan c).drv || (s.chan c).test != .idle then s else
  let s := s.modChan c fun x => { x with fault := false }
  [1, 2, 3].foldl (fun s k => s.clearDiag c k) s
/-- SETTLE_END: land is the readback. Under a generator the check waits for the last frame of the phase (R145–R149). -/
def execSettleEnd (dt : Nat) (c : ChanId) (land : Bool) (s : State) : Host.Outcome State Fault Refusal :=
  let s := s.elapse dt
  .next (s.when (s.linked (quadOf c) && s.isOutput c && (s.chan c).settle.isSome && s.settled c) fun s =>
    let s := (s.settledOn c).modChan c fun x => { x with settle := none }
    s.readFrame c land s.frameNo)
/-- The land has read back a level for a full settle time (R146, R149). -/
def State.landHeld (s : State) (c : ChanId) (level : Bool) : Bool :=
  let x := s.chan c
  s.linked (quadOf c) && s.isOutput c && x.inSt == level && decide (x.inAt + chSettle (s.chwOf c) * 1000 ≤ s.now)
/-- READBACK_MISMATCH_CLEAR (R146). -/
def execReadbackMismatchClear (dt : Nat) (c : ChanId) (s : State) : Host.Outcome State Fault Refusal :=
  let s := s.elapse dt
  .next (s.when (s.landHeld c true) fun s => s.clearDiag c 9)
/-- SHORT_LPLUS_CLEAR (R149). -/
def execShortLplusClear (dt : Nat) (c : ChanId) (s : State) : Host.Outcome State Fault Refusal :=
  let s := s.elapse dt
  .next (s.when (s.landHeld c false) fun s => s.clearDiag c 7)

/-! ## Open load (R187–R190) -/

/-- No suspension of open-load detection (R190). -/
def State.olRuns (s : State) (q : QuadId) : Bool := (s.quad q).lclass == .normal && (s.quad q).olResume == 0
/-- The driven level is off because of the owner's command or a safe value (R144, R187). -/
def State.offByOwner (s : State) (c : ChanId) : Bool :=
  let q := s.quad (quadOf c)
  !(s.chan c).drv && (s.chan c).test == .idle && !s.fieldOff c && !q.released && !(q.fwTrig && s.inPair) &&
  (s.safeUnder c q.dieArmed || q.dieArmed)
/-- Off-state detection runs, and the die sources its diagnostic pull into the land (R143, R187). -/
def State.pull (s : State) (c : ChanId) : Bool :=
  s.powered (quadOf c) && s.isOutput c && prOloff (s.protOf c) && s.offByOwner c && s.olRuns (quadOf c) && (s.genDrives c).isNone
/-- Off-state detection has run with a settled land for run ns (R187, R188, R190). -/
def State.offDetects (s : State) (c : ChanId) (run : Nat) : Bool :=
  let x := s.chan c
  let from_ := max (max (s.quad (quadOf c)).olFrom x.grpAt) (x.drvAt + chSettle (s.chwOf c) * 1000)
  s.linked (quadOf c) && s.pull c && s.settled c && decide (10000000 ≤ run && from_ + run ≤ s.dieNow)
/-- On-state detection has run for run ns of on-time (R189, R190). -/
def State.onDetects (s : State) (c : ChanId) (run : Nat) : Bool :=
  let x := s.chan c
  let from_ := max (max (s.quad (quadOf c)).olFrom x.grpAt)
    (max (x.drvAt + chSettle (s.chwOf c) * 1000) (max (x.inrTo.getD 0) (x.limTo.getD 0)))
  s.linked (quadOf c) && s.isOutput c && prOlon (s.protOf c) && x.drv && x.test == .idle && s.olRuns (quadOf c) && s.settled c &&
  !x.windowOn && !x.inLimit && decide (10000000 ≤ run && run ≤ x.onAcc + (s.dieNow - from_))
/-- The on-state threshold in µA, by the range in use (R159, R189). -/
def State.olThreshold (s : State) (c : ChanId) : Nat :=
  if s.fineRange c then 20 * prOlthf (s.protOf c) else 200 * prOlthn (s.protOf c)
/-- OPEN_OFF: the land, at mv, has been above 4.0 V for 10 ms (R188). -/
def execOpenOff (dt : Nat) (r : Lasting ChanId Nat) (s : State) : Host.Outcome State Fault Refusal :=
  let s := s.elapse dt
  .next (s.when (s.offDetects r.unit r.run && decide (4000 < r.val) && !bit (s.chan r.unit).standing 5) fun s => s.raiseDiag r.unit 5)
/-- OPEN_OFF_CLEAR: 10 ms at or below 3.0 V (R188). -/
def execOpenOffClear (dt : Nat) (r : Lasting ChanId Nat) (s : State) : Host.Outcome State Fault Refusal :=
  let s := s.elapse dt
  .next (s.when (s.offDetects r.unit r.run && decide (r.val ≤ 3000)) fun s => s.clearDiag r.unit 5)
/-- OPEN_ON: the current, ua, has been below the threshold for 10 ms of on-time (R189). -/
def execOpenOn (dt : Nat) (r : Lasting ChanId Nat) (s : State) : Host.Outcome State Fault Refusal :=
  let s := s.elapse dt
  .next (s.when (s.onDetects r.unit r.run && decide (r.val < s.olThreshold r.unit) && !bit (s.chan r.unit).standing 6) fun s => s.raiseDiag r.unit 6)
/-- OPEN_ON_CLEAR: 10 ms of on-time at 1.25 times the threshold (R189). -/
def execOpenOnClear (dt : Nat) (r : Lasting ChanId Nat) (s : State) : Host.Outcome State Fault Refusal :=
  let s := s.elapse dt
  .next (s.when (s.onDetects r.unit r.run && decide (5 * s.olThreshold r.unit ≤ 4 * r.val)) fun s => s.clearDiag r.unit 6)
/-- OPEN_LOAD_RESUME: 10 ms after the return to NORMAL (R190). -/
def execOpenLoadResume (dt : Nat) (q : QuadId) (s : State) : Host.Outcome State Fault Refusal :=
  let s := s.elapse dt
  let x := s.quad q
  .next (s.when (s.powered q && x.lclass == .normal && x.olResume != 0 && x.olResume ≤ s.dieNow) fun s =>
    let t := s.dieNow
    s.modQuad q fun x => { x with olResume := 0, olFrom := t })

/-! ## Wire-break (R133, R134) -/

/-- Wire-break detection has run for run ns. -/
def State.wbRuns (s : State) (c : ChanId) (run : Nat) : Bool :=
  s.linked (quadOf c) && chIsInput (s.chwOf c) && chWben (s.chwOf c) && !s.supplyOff (quadOf c) &&
  (s.quad (quadOf c)).wbResume == 0 && decide (10000000 ≤ run && max (s.quad (quadOf c)).wbFrom (s.chan c).grpAt + run ≤ s.dieNow)
/-- WIRE_BREAK: the input current, ua, has been below 0.25 mA for 10 ms. -/
def execWireBreak (dt : Nat) (r : Lasting ChanId Nat) (s : State) : Host.Outcome State Fault Refusal :=
  let s := s.elapse dt
  .next (s.when (s.wbRuns r.unit r.run && decide (r.val < 250) && !bit (s.chan r.unit).standing 0xA) fun s => s.raiseDiag r.unit 0xA)
/-- WIRE_BREAK_CLEAR: 10 ms at or above 0.35 mA. -/
def execWireBreakClear (dt : Nat) (r : Lasting ChanId Nat) (s : State) : Host.Outcome State Fault Refusal :=
  let s := s.elapse dt
  .next (s.when (s.wbRuns r.unit r.run && decide (350 ≤ r.val)) fun s => s.clearDiag r.unit 0xA)
/-- WIRE_BREAK_RESUME: 10 ms after UNDER or OVER was left. -/
def execWireBreakResume (dt : Nat) (q : QuadId) (s : State) : Host.Outcome State Fault Refusal :=
  let s := s.elapse dt
  let x := s.quad q
  .next (s.when (s.powered q && !s.supplyOff q && x.wbResume != 0 && x.wbResume ≤ s.dieNow) fun s =>
    let t := s.dieNow
    s.modQuad q fun x => { x with wbResume := 0, wbFrom := t })

/-! ## L+ classes (R201–R205) -/

/-- The diagnostics of a class, as the logic die knows it (R205). -/
def State.reportClass (s : State) (q : QuadId) (k : LClass) : State :=
  let s := if k == .under then s else s.clearQuadDiag q 0xD
  let s := if k == .over then s else s.clearQuadDiag q 0xE
  match k with
  | .normal => s.clearQuadDiag q 0xC
  | .low => s.raiseQuadDiag q 0xC
  | .under => (s.raiseQuadDiag q 0xC).raiseQuadDiag q 0xD
  | .over => (s.clearQuadDiag q 0xC).raiseQuadDiag q 0xE
/-- A quadrant's die enters a class, with its detection's resumption and diagnostics (R134, R190, R205). -/
def State.enterClass (s : State) (q : QuadId) (k : LClass) : State :=
  let o := (s.quad q).lclass
  let t := s.dieNow
  let s := s.modQuad q fun x => { x with lclass := k, classAt := t, olResume := if k == .normal then t + 10000000 else x.olResume
                                         wbResume := if o == .under || o == .over then t + 10000000 else x.wbResume }
  let s := (quadChans q).foldl (fun s c => s.modChan c fun x => { x with onAcc := 0 }) s
  s.whenLinked q fun s => s.reportClass q k
/-- The outputs of a quadrant go off with UNDER or OVER (R202). -/
def State.quadOff (s : State) (q : QuadId) : State := (s.leads q).foldl (fun s l => s.dropUnit l) s
/-- UNDER or OVER has been left, for NORMAL when L+ was at or above 19.6 V for the 10 ms: AUTO brings the outputs back, LATCH
keeps them off (R201, R204). -/
def State.leaveSupply (s : State) (q : QuadId) (full : Nat) : State :=
  let s := s.enterClass q (if 10000000 ≤ full then .normal else .low)
  s.whenLinked q fun s =>
    if (s.quad q).supLatchPol then s.modQuad q fun x => { x with supLatch := true } else s.supplyReturn q
/-- A transition between classes, from those that hold p, on the die's measurement. -/
def State.lplus (s : State) (q : QuadId) (p : LClass → Bool) (measured : Bool) (f : State → State) : State :=
  s.when (s.powered q && p (s.quad q).lclass && measured) f
/-- The class has lasted for run ns. -/
def State.inClass (s : State) (q : QuadId) (run : Nat) : Bool := decide ((s.quad q).classAt + run ≤ s.dieNow)
/-- LPLUS_LOW: 100 µs below 19.2 V. -/
def execLplusLow (dt : Nat) (r : Lasting QuadId Nat) (s : State) : Host.Outcome State Fault Refusal :=
  let s := s.elapse dt
  .next (s.lplus r.unit (· == .normal) (decide (r.val < 19200 && 100000 ≤ r.run) && s.inClass r.unit r.run) fun s => s.enterClass r.unit .low)
/-- LPLUS_NORMAL: 10 ms at or above 19.6 V, which may have begun in UNDER. -/
def execLplusNormal (dt : Nat) (r : Lasting QuadId Nat) (s : State) : Host.Outcome State Fault Refusal :=
  let s := s.elapse dt
  .next (s.lplus r.unit (· == .low) (decide (19600 ≤ r.val && 10000000 ≤ r.run)) fun s => s.enterClass r.unit .normal)
/-- LPLUS_UNDER: 1 ms below 16.0 V. -/
def execLplusUnder (dt : Nat) (r : Lasting QuadId Nat) (s : State) : Host.Outcome State Fault Refusal :=
  let s := s.elapse dt
  .next (s.lplus r.unit (· != .under) (decide (r.val < 16000 && 1000000 ≤ r.run)) fun s => (s.quadOff r.unit).enterClass r.unit .under)
/-- LPLUS_UNDER_EXIT: 10 ms above 16.5 V; full: the ns for which L+ has been at or above 19.6 V. -/
def execLplusUnderExit (dt : Nat) (r : Lasting QuadId Nat) (full : Nat) (s : State) : Host.Outcome State Fault Refusal :=
  let s := s.elapse dt
  .next (s.lplus r.unit (· == .under) (decide (16500 < r.val && 10000000 ≤ r.run && full ≤ r.run) && s.inClass r.unit r.run) fun s =>
    s.leaveSupply r.unit full)
/-- LPLUS_OVER: 10 µs above 35.0 V. -/
def execLplusOver (dt : Nat) (r : Lasting QuadId Nat) (s : State) : Host.Outcome State Fault Refusal :=
  let s := s.elapse dt
  .next (s.lplus r.unit (· != .over) (decide (35000 < r.val && 10000 ≤ r.run)) fun s => (s.quadOff r.unit).enterClass r.unit .over)
/-- LPLUS_OVER_EXIT: 10 ms at or below 34.0 V; full as for UNDER. -/
def execLplusOverExit (dt : Nat) (r : Lasting QuadId Nat) (full : Nat) (s : State) : Host.Outcome State Fault Refusal :=
  let s := s.elapse dt
  .next (s.lplus r.unit (· == .over) (decide (r.val ≤ 34000 && 10000000 ≤ r.run && full ≤ r.run) && s.inClass r.unit r.run) fun s =>
    s.leaveSupply r.unit full)

end Sys2Proof.Machine
end

