-- ==== Sys2Proof/Machine/Chains.lean ====
section
/-!
DEFINITION. The filter chains: CIC, FIR with fade, resampler, group delay and stamps, batches, resets and the
multiply-accumulate budget (R342–R382).
-/
namespace Sys2Proof.Machine
open Sys2Proof

/-! ## Arithmetic (R355–R359) -/

/-- v / 2^s rounded to the nearest integer, ties to even (R355). -/
def roundEven (v : Int) (s : Nat) : Int :=
  let m : Int := 2 ^ s
  let q := v / m
  let r := v % m
  if m < 2 * r || (2 * r == m && q % 2 == 1) then q + 1 else q
/-- n / d rounded to the nearest integer, ties to even. -/
def divEven (n : Int) (d : Nat) : Int :=
  let q := n / d
  let r := n % d
  if (d : Int) < 2 * r || (2 * r == (d : Int) && q % 2 == 1) then q + 1 else q
/-- Two's complement in n bits, wrapping (R356). -/
def wrapS (n : Nat) (v : Int) : Int := (v + 2 ^ (n - 1)) % 2 ^ n - 2 ^ (n - 1)
/-- Clamp to a signed range of n bits, and whether it clamped (R357–R359). -/
def satS (n : Nat) (v : Int) : Int × Bool :=
  if v < -2 ^ (n - 1) then (-2 ^ (n - 1), true)
  else if 2 ^ (n - 1) ≤ v then (2 ^ (n - 1) - 1, true) else (v, false)
/-- Smallest g with 2^g ≥ v (R356). -/
def log2Up (v : Nat) : Nat := if v ≤ 1 then 0 else (v - 1).log2 + 1
/-- Quotient rounded up. -/
def ceilDiv (n d : Nat) : Nat := (n + d - 1) / d

/-- CIC integrators (R356). -/
def cicInteg : List Int → Int → List Int
  | [], _ => []
  | i :: is, x => let y := wrapS 72 (i + x); y :: cicInteg is y
/-- CIC combs: new registers and the output (R356). -/
def cicComb : List Int → Int → List Int × Int
  | [], c => ([], c)
  | z :: zs, c => let r := cicComb zs (wrapS 72 (c - z)); (c :: r.1, r.2)
/-- The FIR sum (R357). -/
def firSum (h : List (BitVec 24)) (d : List Int) : Int := (List.zipWith (fun (a : BitVec 24) b => a.toInt * b) h d).foldl (· + ·) 0
/-- c[p][m] of R358; each phase sums to 2^22, and c[64][m] is c[0][m + 1]. -/
def protoCoef (p m : Nat) : Int :=
  let c (p m : Nat) : Int :=
    if m < 15 then Config.proto p m
    else if m == 15 then 2 ^ 22 - ((List.range 15).map (Config.proto p)).foldl (· + ·) 0 else 0
  if p == 64 then c 0 (m + 1) else c p m
/-- h[m] at the resampler's phase q (R358). -/
def phaseCoef (q m : Nat) : Int :=
  let a := protoCoef (q / 1024) m
  a + roundEven ((protoCoef (q / 1024 + 1) m - a) * (q % 1024 : Nat)) 10

/-! ## Flags of R381 -/

def fBank : Word16 := 0x0001
def fOvr : Word16 := 0x0002
def fRecovery : Word16 := 0x0004
def fLate : Word16 := 0x0008
def fGap : Word16 := 0x0010
def fFade : Word16 := 0x0020
def fSettling : Word16 := 0x0040
def fSat : Word16 := 0x0080
def fReconf : Word16 := 0x0100
def fNoAngle : Word16 := 0x0200
def fCoast : Word16 := 0x0400
def fUnder : Word16 := 0x0800
def fTb : Word16 := 0x1000
def setIf (b : Bool) (f : Word16) : Word16 := if b then f else 0
/-- The flags that every input within a window passes on (R381). -/
def fInput : Word16 := fOvr ||| fRecovery ||| fLate ||| fGap ||| fTb

/-! ## Delays and settling (R371, R377) -/

/-- Stage 3 is bypassed (R368). -/
def Chain.bypass (c : Chain) : Bool := !oAngle c.c1 && oRatio c.c1 == 2 ^ 24
/-- R × GD2 and the whole of G, in 1/256 chain-input samples (R371). -/
def Chain.gd2 (c : Chain) : Nat := if cUser c.c0 then cR c.c0 * cGd c.c0 else cR c.c0 * (cT c.c0 - 1) * 128
def Chain.gd1 (c : Chain) : Nat := cN c.c0 * (cR c.c0 - 1) * 128
def Chain.gdelay (c : Chain) : Nat := c.gd1 + c.gd2 + if c.bypass then 0 else cR c.c0 * cD c.c0 * 1920
/-- M2 of R377. -/
def Chain.m2 (c : Chain) : Nat :=
  let m1 := ceilDiv ((cN c.c0 - 1) * (cR c.c0 - 1)) (cR c.c0)
  ceilDiv (m1 + cT c.c0 - cD c.c0) (cD c.c0)
/-- M in TIME mode (R377). -/
def Chain.settleCount (c : Chain) : Nat := if c.bypass then c.m2 else ceilDiv ((c.m2 + 7) * 2 ^ 24) (oRatio c.c1)
/-- Inputs that one stage-2 output's window spans, beyond its newest (R356, R357). -/
def Chain.window (c : Chain) : Nat := (cT c.c0 - 1) * cR c.c0 + cN c.c0 * (cR c.c0 - 1)

/-! ## Stage 2's stamps (R372) -/

/-- Input i since the reset. -/
def Chain.inAt (c : Chain) (i : Nat) : Option CIn := if i < c.nIn then c.ins[c.nIn - 1 - i]? else none
/-- Time stamp, absolute angle and COAST of the stage-2 output whose newest input is the last one. Before a second input
the stamp of an earlier position is free: R372 extrapolates it from an input that has not come (log entry 6). -/
def Chain.stampNow (c : Chain) (free : Nat) : Rat × Option Rat × Bool :=
  let p : Rat := ((c.nIn : Rat) - 1) - ((c.gd1 + c.gd2 : Nat) : Rat) / 256
  let i := if p < 0 then 0 else p.floor.toNat
  let mu := p - i
  match c.inAt i, c.inAt (i + 1) with
  | some a, some b =>
    if mu == 0 then (a.stamp, a.angle, a.flags &&& fCoast != 0)
    else ((a.stamp : Rat) + ((b.stamp : Rat) - a.stamp) * mu,
          (match a.angle, b.angle with | some x, some y => some (x + (y - x) * mu) | _, _ => none),
          (a.flags ||| b.flags) &&& fCoast != 0)
  | some a, none => if mu == 0 then (a.stamp, a.angle, a.flags &&& fCoast != 0) else (free, none, false)
  | none, _ => (free, none, false)

/-! ## Stage 3 (R358, R359, R368–R370) -/

def Chain.s2At (c : Chain) (i : Nat) : Option S2 := if i < c.nS2 then c.hist[c.nS2 - 1 - i]? else none
/-- s[k − 7 + m]; 0 before the reset (R358, R374). -/
def Chain.tap (c : Chain) (k m : Nat) : Int := if k + m < 7 then 0 else ((c.s2At (k + m - 7)).map (·.y)).getD 0
/-- The resampler's sum and whether it clamped (R358). -/
def Chain.resample (c : Chain) (k q : Nat) : Int × Bool :=
  satS 48 (roundEven (((List.range 16).map fun m => phaseCoef q m * c.tap k m).foldl (· + ·) 0) 22)
/-- The phase of a 24-bit fraction, 65,536 for the next position (R358). -/
def phaseOf (mu : Nat) : Nat := (roundEven mu 8).toNat
/-- The flags of the stage-2 outputs that an output's window spans. -/
def Chain.tapFlags (c : Chain) (k : Nat) : Word16 :=
  ((List.range 16).map fun m => if k + m < 7 then (0 : Word16) else ((c.s2At (k + m - 7)).map (·.flags)).getD 0).foldl (· ||| ·) 0
/-- A finished output: the 32-bit word, its stamps and its flags (R359, R372, R381). -/
def Chain.finishOut (c : Chain) (y : Int) (stamp : Rat) (ang : Option Rat) (k settleAt : Nat) (fl : Word16) : FOut :=
  let v := satS 32 y
  let now := match c.hist with | x :: _ => x.flags &&& (fBank ||| fFade) | [] => 0
  let settling := decide (k < c.m2 + settleAt)
  { value := v.1, angle := (ang.map angleWord).getD 0, rev := (ang.map revWord).getD 0
    stamp := (if stamp.den = 1 then stamp.num else Config.roundStamp stamp).toNat
    flags := fl ||| now ||| setIf v.2 fSat ||| setIf ang.isNone fNoAngle ||| setIf settling fSettling |||
      setIf (settling && c.reconf) fReconf }
/-- The output at stage-2 position k + mu / 2^24; grid: its grid point in ANGLE mode (R358, R372). -/
def Chain.outputAt (c : Chain) (k mu : Nat) (grid : Option Rat) (fl : Word16) : FOut :=
  let q := phaseOf mu
  let (k', q) := if q == 65536 then (k + 1, 0) else (k, q)
  let r := c.resample k' q
  let m : Rat := (mu : Rat) / 16777216
  let (st, ang, coast) := match c.s2At k, c.s2At (k + 1) with
    | some a, some b =>
      (a.stamp + (b.stamp - a.stamp) * m,
       (match a.angle, b.angle with | some x, some y => some (x + (y - x) * m) | _, _ => none),
       (a.flags ||| b.flags) &&& fCoast)
    | _, _ => (0, none, 0)
  c.finishOut r.1 st (grid.orElse fun _ => ang) k 7
    (fl ||| (c.tapFlags k' &&& (fInput ||| fSat)) ||| coast ||| setIf r.2 fSat)
/-- The grid point of index i, counted over all revolutions (R369). -/
def gridPoint (p : Nat) (i : Int) : Rat :=
  ((i / p) * 4294967296 + (2 * (i % p) * 4294967296 + p) / (2 * p) : Int)
/-- Grid points in [a, b), with their fractions in 24 bits (R369). -/
def gridIn (p : Nat) (a b : Rat) : List (Rat × Nat) :=
  if b ≤ a then [] else
  let i0 := (a * p / 4294967296).floor - 1
  let n := ((b * p / 4294967296).floor + 2 - i0).toNat
  (((List.range n).map fun j => gridPoint p (i0 + j)).filter fun g => decide (a ≤ g) && decide (g < b)).map fun g =>
    (g, ((g - a) / (b - a) * 16777216).floor.toNat)
/-- The outputs of ANGLE mode between stage-2 outputs k and k + 1 whose window is complete, those whose phase rounds to
the next position one stage-2 output later (R358, R369, R370). -/
def Chain.angleOuts (c : Chain) (k : Nat) (tail : Bool) : Chain × List FOut :=
  match c.s2At k, c.s2At (k + 1) with
  | some x, some y => match x.angle, y.angle with
    | some a, some b =>
      let all := gridIn (oPoints c.c1) a b
      let mine := all.filter fun g => (phaseOf g.2 == 65536) == tail
      mine.foldl (fun (st : Chain × List FOut) g =>
        let c := st.1
        let ok := match c.front with | some f => decide (f < g.1) | none => true
        if !ok then st else
        let fl := setIf (1 < all.length) fUnder ||| setIf c.angGap fGap
        ({ c with front := some g.1, angGap := false, undersampled := c.undersampled + b2n (1 < all.length) },
         st.2 ++ [c.outputAt k g.2 (some g.1) fl])) (c, [])
    | _, _ => ({ c with angGap := true }, [])
  | _, _ => (c, [])
/-- The chain outputs that the newest stage-2 output completes (R358, R368, R369). -/
def Chain.outputs (c : Chain) : Chain × List FOut :=
  let j := c.nS2 - 1
  if c.bypass then
    match c.hist with
    | x :: _ => (c, [c.finishOut x.y x.stamp x.angle j 0 (x.flags &&& (fInput ||| fSat ||| fCoast))])
    | [] => (c, [])
  else if oAngle c.c1 then
    let (c, a) := if 9 ≤ j then c.angleOuts (j - 9) true else (c, [])
    let (c, b) := if 8 ≤ j then c.angleOuts (j - 8) false else (c, [])
    (c, a ++ b)
  else
    let k := c.pos / 2 ^ 24
    let mu := c.pos % 2 ^ 24
    let need := if phaseOf mu == 65536 then k + 9 else k + 8
    if need ≤ j then ({ c with pos := c.pos + oRatio c.c1 }, [c.outputAt k mu none 0]) else (c, [])

/-! ## Stages 1 and 2, and the fade (R356, R357, R365, R366) -/

def Chain.coefs (c : Chain) (b : Bool) : List (BitVec 24) := (if b then c.coefB else c.coefA).take (cT c.c0)
/-- A pending swap starts its fade, or is done when its target is active (R366). -/
def Chain.nextFade (c : Chain) : Chain × List (Option (QueueId × Word32)) :=
  match c.pend with
  | some p => if p.toB == c.bankB then ({ c with pend := none }, [p.who]) else ({ c with pend := none, fade := some p }, [])
  | none => (c, [])
/-- The FIR's output under a fade, and the completions it brings (R357, R365). -/
def Chain.fir (c : Chain) : Chain × Int × Word16 × List (Option (QueueId × Word32)) :=
  let y (b : Bool) : Int × Bool := satS 48 (roundEven (firSum (c.coefs b) c.line) 22)
  match c.fade with
  | none => (c, (y c.bankB).1, setIf (y c.bankB).2 fSat ||| setIf c.bankB fBank, [])
  | some f =>
    let j := f.j + 1
    let o := y (!f.toB)
    let n := y f.toB
    let v := o.1 + roundEven ((n.1 - o.1) * divEven (65536 * j) f.k) 16
    let fl := setIf (o.2 || n.2) fSat ||| setIf f.toB fBank ||| fFade
    if f.k ≤ j then
      let (c, done) := { c with fade := none, bankB := f.toB }.nextFade
      (c, v, fl, f.who :: done)
    else ({ c with fade := some { f with j := j } }, v, fl, [])
/-- The inputs that stamps and windows still need (R372, R377, R381). -/
def Chain.keepIns (c : Chain) (stamp : Nat) (ins : List CIn) : List CIn :=
  let k := c.window + (c.gd1 + c.gd2) / 256 + 3
  ins.take k ++ (ins.drop k).takeWhile fun i => stamp ≤ i.stamp + 1000000
/-- One input through the chain: the outputs it completes and the commands that a fade's end completes (R356–R373). -/
def Chain.step (c : Chain) (i : CIn) (free : Nat) : Chain × List FOut × List (Option (QueueId × Word32)) :=
  let c := { c with ins := c.keepIns i.stamp (i :: c.ins), nIn := c.nIn + 1, integ := cicInteg c.integ i.x, cicPhase := c.cicPhase + 1 }
  if c.cicPhase != cR c.c0 then (c, [], []) else
  let r := cicComb c.comb (c.integ.getLast?.getD 0)
  let u := roundEven r.2 (log2Up (cR c.c0 ^ cN c.c0))
  let c := { c with cicPhase := 0, comb := r.1, line := (u :: c.line).take (cT c.c0), firCount := c.firCount + 1 }
  if c.firCount != cD c.c0 then (c, [], []) else
  let (c, y, fl, done) := { c with firCount := 0 }.fir
  let (st, ang, coast) := c.stampNow free
  let win := ((c.ins.take (c.window + 1)).map (·.flags)).foldl (· ||| ·) 0 &&& fInput
  let x : S2 := { y := y, stamp := st, angle := ang, flags := fl ||| win ||| setIf coast fCoast }
  let (c, outs) := { c with hist := (x :: c.hist).take 17, nS2 := c.nS2 + 1 }.outputs
  (c, outs, done)

/-! ## Records of a chain (R378–R382) -/

/-- Stage a FILTER_OUT record, or drop and count it (R380, R382). -/
def State.chainRecord (s : State) (k : ChainId) (rflags : Word16) (t0 : Nat) (rev0 : Word32) (m : Nat) (outs : List FOut) : State :=
  let c := s.chains[k]
  let r : Record := .filterOut k (rflags ||| setIf (oAngle c.c1) 0x20) t0 rev0 m c.dropcnt c.gdelay outs
  s.stageCount r (fun s => s.modChain k fun c => { c with dropcnt := 0 })
    fun s => s.modChain k fun c => { c with dropcnt := min 0xFFFF (c.dropcnt + 1), dropped := c.dropped + 1 }
/-- Write the batch collected so far, or a record with flags and no outputs (R379). -/
def State.closeBatch (s : State) (k : ChainId) (rflags : Word16) : State :=
  let c := s.chains[k]
  let s := s.modChain k fun c => { c with batch := [] }
  match c.batch with
  | [] => if rflags == 0 then s else s.chainRecord k rflags s.now (revWord s.thetaNow) 0 []
  | o :: _ =>
    let rev := if bit o.flags 9 then revWord (s.ang.thetaHat o.stamp) else o.rev
    s.chainRecord k rflags o.stamp rev 0 c.batch
/-- A chain output enters the batch, or is suppressed while settling (R378, R379). -/
def State.chainOut (s : State) (k : ChainId) (o : FOut) : State :=
  let settling := bit o.flags 6
  let s := if settling then s.modChain k fun c => { c with settled := c.settled + 1 } else s
  if settling && oSuppress s.chains[k].c1 then s.modChain k fun c => { c with suppressed := c.suppressed + 1 } else
  let t := s.now
  let s := s.modChain k fun c => { c with batchAt := if c.batch.isEmpty then t else c.batchAt, batch := c.batch ++ [o] }
  if oBatch s.chains[k].c1 ≤ s.chains[k].batch.length then s.closeBatch k 0 else s

/-! ## Inputs (R342–R346) -/

/-- Take the oldest result of the input FIFO through the chain (R346, R373). -/
def State.chainTake (s : State) (k : ChainId) : State :=
  match s.chains[k].fifo with
  | [] => s
  | i :: rest =>
    let r := { s.chains[k] with fifo := rest }.step i s.fresh
    let s := (s.modChain k fun _ => r.1).useFresh
    let s := r.2.1.foldl (fun s o => s.chainOut k o) s
    r.2.2.foldl (fun s w => s.configWho w .done 0 0) s
/-- A result or gap reaches a chain: it enters the FIFO, which the chain serves at once (R346, log entry 26). -/
def State.chainIn (s : State) (k : ChainId) (i : CIn) : State :=
  let c := s.chains[k]
  if c.st != .running || i.stamp < c.startAt then s
  else if 64 ≤ c.fifo.length then s.modChain k fun c => { c with overruns := c.overruns + 1 }
  else (s.modChain k fun c => { c with fifo := c.fifo ++ [i] }).chainTake k
/-- The observer angle at a stamp, and COAST (R344). -/
def State.angleAt (s : State) (t : Nat) : Option Rat × Word16 :=
  match s.ang.stateAt t with
  | .running => (some (s.ang.thetaHat t), 0)
  | .coasting => (some (s.ang.thetaHat t), fCoast)
  | _ => (none, 0)
/-- The chains that take a slot's results (R308, R342); slot 64 has no TRIG (R320, R323). -/
def State.takers (s : State) (q : QuadId) (slot : SlotId) : List ChainId :=
  let w := s.meas[q].slots[slot]
  if !s1Chains w.w1 || (slTrig w.w0 == 0 && slot.val != 64) then [] else
  (List.finRange 16).filter fun k => cQsrc s.chains[k].c0 == q.val && cSsrc s.chains[k].c0 == slot.val
/-- A slot's result reaches its chains (R343, R344). -/
def State.feed (s : State) (q : QuadId) (slot : SlotId) (x : Int) (stamp : Nat) (fl : Word16) : State :=
  let a := s.angleAt stamp
  (s.takers q slot).foldl (fun s k => s.chainIn k { x := x, stamp := stamp, angle := a.1, flags := fl ||| a.2 }) s
/-- A missed trigger or result reaches the chains as a gap: a copy of the input before it (R345). -/
def State.gap (s : State) (q : QuadId) (slot : SlotId) (stamp : Nat) : State :=
  let a := s.angleAt stamp
  (s.takers q slot).foldl (fun s k =>
    let c := s.chains[k]
    let x := match c.ins with | i :: _ => i.x | [] => 0
    if c.st == .running && c.startAt ≤ stamp then
      (s.modChain k fun c => { c with gaps := c.gaps + 1 }).chainIn k { x := x, stamp := stamp, angle := a.1, flags := fGap ||| a.2 }
    else s) s

/-! ## Resets, start, stop (R351–R353, R374–R378) -/

/-- The first DSP tick at or after device time t: 200 MHz, half of it while throttled (R15, R194). -/
def State.dspTick (s : State) (t : Nat) : Nat := let p := if s.throttled then 10 else 5; ceilDiv t p * p
/-- A chain with empty history (R351, R374). -/
def Chain.cleared (c : Chain) (tick : Nat) (reconf : Bool) : Chain :=
  { c with integ := List.replicate (cN c.c0) 0, comb := List.replicate (cN c.c0) 0, cicPhase := 0
           line := List.replicate (cT c.c0) 0, firCount := 0, ins := [], nIn := 0, hist := [], nS2 := 0, pos := 0
           front := none, angGap := false, fifo := [], startAt := max tick c.startAt, reconf := reconf, settled := 0 }
/-- M of the SYNCED record and ESTIMATE: in ANGLE mode an estimate from the speed and the input rate of the last 1 ms; free
when no input came in it (R377, log entry 6). -/
def State.syncedM (s : State) (c : Chain) (tick : Nat) : Nat × Bool :=
  if !oAngle c.c1 then (c.settleCount, false) else
  let n := (c.ins.filter fun i => tick < i.stamp + 1000000).length
  let om := s.omegaNow
  let revs : Rat := (if om < 0 then -om else om) * 1000000000 / 4294967296
  if n == 0 then (s.fresh % 65536, true)
  else ((((c.m2 + 7) * cR c.c0 * cD c.c0 * oPoints c.c1 : Nat) : Rat) * revs / (1000 * n)).ceil.toNat |> fun m => (m, true)
/-- Write the SYNCED record of a reset, a start or a resumption (R378). -/
def State.synced (s : State) (k : ChainId) (tick : Nat) (m : Nat × Bool) (extra : Word16) : State :=
  let s := s.useFresh.modChain k fun c => { c with mLast := m.1 }
  s.chainRecord k (0x01 ||| extra ||| setIf m.2 0x02) tick (revWord (s.ang.thetaHat tick)) m.1 []
/-- A running chain is reset at a tick (R353, R374). -/
def State.chainReset (s : State) (k : ChainId) (tick : Nat) (reconf : Bool) : State :=
  if s.chains[k].st != .running then s else
  let s := s.closeBatch k 0
  let m := s.syncedM s.chains[k] tick
  (s.modChain k fun c => c.cleared tick reconf).synced k tick m 0
/-- All chains are reset at a tick; one less than 1.0 µs after the last merges into it. SYNC_OUT answers a reset that it
follows (R374–R376). -/
def State.syncAll (s : State) (tick : Nat) (fromPin : Bool) : State :=
  if (match s.syncTick with | some t => decide (tick < t + 1000 ∧ t < tick + 1000) | none => false) then
    { s with syncMerged := s.syncMerged + 1 } else
  let s := { s with syncTick := some (max tick (s.syncTick.getD 0)) }
  let mode := fld s.syncw 2 2
  let s := if mode == 2 || (mode == 1 && !fromPin) then { s with syncOut := tick + 1000 } else s
  (List.finRange 16).foldl (fun s k => s.chainReset k tick false) s
/-- A chain starts at a tick (R351, R378). -/
def State.chainStart (s : State) (k : ChainId) (tick : Nat) (extra : Word16) : State :=
  let s := s.modChain k fun c => { c.cleared tick false with st := .running, batch := [] }
  s.synced k tick (s.syncedM s.chains[k] tick) extra
/-- A chain stops: history dropped, fade and pending swap applied, the outputs formed written (R352, R362). -/
def State.chainStop (s : State) (k : ChainId) (st : CState) (rflags : Word16) : State :=
  let c := s.chains[k]
  let done := (c.fade.toList ++ c.pend.toList).map (·.who)
  let bank := match c.pend, c.fade with | some p, _ => p.toB | none, some f => f.toB | none, none => c.bankB
  let s := (s.closeBatch k rflags).modChain k fun c =>
    { c.cleared c.startAt false with st := st, bankB := bank, fade := none, pend := none, settled := c.settled }
  done.foldl (fun s w => s.configWho w .done 0 0) s

/-! ## The multiply-accumulate budget (R360–R362) -/

/-- FIR demand in multiply-accumulates per second (R360). -/
def chainDemand (c0 c2 : Word64) (twice : Bool) : Rat :=
  ((cT c0 * cFsmax c2 * (if twice then 2 else 1) : Nat) : Rat) / (cR c0 * cD c0 : Nat)
def Chain.demand (c : Chain) : Rat := chainDemand c.c0 c.c2 (c.fade.isSome || c.pend.isSome)
/-- Sum of the demands of the chains in some states but k. -/
def State.demandBut (s : State) (k : Option ChainId) (sts : List CState) : Rat :=
  (List.finRange 16).foldl (fun a i => if some i != k && sts.contains s.chains[i].st then a + s.chains[i].demand else a) 0
def macFull : Rat := 3200000000
def macHalf : Rat := 1600000000
/-- While throttled, running chains are suspended from the highest number down until the rest fits (R362). -/
def State.refit (s : State) : State :=
  if !s.throttled then s else
  (List.finRange 16).reverse.foldl (fun s k =>
    if s.chains[k].st == .running && macHalf < s.demandBut none [.running] then s.chainStop k .suspended 0x04 else s) s

end Sys2Proof.Machine
end

