-- ==== Sys2Proof/Machine/MeasOps.lean ====
section
/-!
DEFINITION. What the measurement commands and the barrier frames share: slots, triggers and misses, converter orders and
codes, results and accumulator blocks (R301–R329, R334–R337).
-/
namespace Sys2Proof.Machine
open Sys2Proof

/-! ## Slots and blocks -/

def State.slot (s : State) (q : QuadId) (i : SlotId) : Slot := s.meas[q].slots[i]
def State.modSlot (s : State) (q : QuadId) (i : SlotId) (f : Slot → Slot) : State :=
  s.modMeas q fun m => { m with slots := m.slots.set i (f m.slots[i]) }
def State.modAcc (s : State) (q : QuadId) (i : SlotId) (f : Acc → Acc) : State :=
  s.modSlot q i fun x => { x with acc := f x.acc }
/-- A cleared block keeps its RANGE (R337). -/
def Acc.cleared (a : Acc) : Acc := { Reset.acc with flags := a.flags &&& 0x300 }
def injSlot : SlotId := 64
def regSlot (i : Fin 64) : SlotId := ⟨i.val, by omega⟩
/-- Count a missed trigger or result of a slot and set flags (R327, R335). -/
def State.countMiss (s : State) (q : QuadId) (i : SlotId) (extra : Word16 := 0) : State :=
  s.modAcc q i fun a => { a with miss := min 0xFFFF (a.miss + 1), flags := a.flags ||| 8 ||| extra }
/-- The same, with the gap that the chains get (R345). -/
def State.slotMiss (s : State) (q : QuadId) (i : SlotId) (stamp : Nat) (extra : Word16 := 0) : State :=
  (s.countMiss q i extra).gap q i stamp
/-- A trigger of INJECT number tag of the quadrant has come to its end; with the last one that command completes (R321, R322). -/
def State.injectDone (s : State) (q : QuadId) (i : SlotId) (tag : Option Nat) : State :=
  let b : BitVec 65 := BitVec.ofNat 65 (2 ^ i.val)
  s.ops.foldl (fun s o =>
    match o.kind with
    | .inject k id left hit all t =>
      if k != q || tag != some id || left &&& b == 0 then s else
      let left := left &&& ~~~b
      if left == 0 then s.completeOp o (if all then .done else .partialDone) 0 t (hit.setWidth 128)
      else { s with ops := s.ops.map fun x => if x == o then { o with kind := .inject k id left hit all t } else x }
    | _ => s) s

/-! ## Triggers (R252, R312–R314, R331) -/

/-- The slot's conversions are under way (R314). -/
def State.slotBusy (s : State) (q : QuadId) (i : SlotId) : Bool :=
  let m := s.meas[q]
  let is (b : Option Burst) : Bool := match b with | some b => b.slot == i | none => false
  is m.burst || is m.inj || m.wait.any fun b => b.slot == i && b.convs.any fun c => s.now < c.fin
/-- Deferrable slots of the quadrant are paused: the headroom has not stayed at 10 % or more for 1 ms (R252). -/
def State.deferPaused (s : State) (q : QuadId) : Bool :=
  match (s.quad q).headSince with | some t => decide (s.now < t + 1000000) | none => true
/-- A trigger, of INJECT number tag or another, reaches a slot with its requested instant (R252, R312, R314). -/
def State.trigSlot (s : State) (q : QuadId) (i : SlotId) (req : Nat) (tag : Option Nat := none) : State :=
  let x := s.slot q i
  if x.trig.isSome || s.slotBusy q i || (s1Defer x.w1 && s.deferPaused q) then s.slotMiss q i req
  else s.modSlot q i fun x => { x with trig := some req, tag := tag }
/-- A calibration has ended at device time t: a trigger that came due in it was held (R331). -/
def Slot.hold (t : Nat) (x : Slot) : Slot :=
  { x with held := match x.trig with | some r => decide (r ≤ t) | none => false }
/-- DELAY in ns (R307). -/
def delayNs (w0 : Word64) : Nat := slDelay w0 * 8
/-- A generator's edge of the driver at device time t triggers the PWM slots that name its channel (R312, R313). -/
def State.pwmTrigger (s : State) (c : ChanId) (rising : Bool) (t : Nat) : State :=
  let q := quadOf c
  (List.finRange 64).foldl (fun s i =>
    let w := (s.slot q (regSlot i)).w0
    let edge := slTedge w == 2 || (slTedge w == if rising then 0 else 1)
    if slTrig w == 2 && s.lead (chanAt q ⟨slTch w % 32, by omega⟩) == c && edge then s.trigSlot q (regSlot i) (t + delayNs w)
    else s) s

/-! ## Conversions (R305, R315–R317, R325, R328, R329) -/

/-- The channels whose ANALOGUE mode an input and range need (R310, R305). -/
def analogueNeeds (q : QuadId) (w1 : Word64) : List ChanId :=
  let i := s1Insel w1
  if h : i < 32 then
    if s1Range w1 == 3 then [chanAt q ⟨i, h⟩]
    else if s1Range w1 == 2 then [chanAt q ⟨i, h⟩, chanAt q ⟨(i + 1) % 32, by omega⟩] else []
  else []
def State.modeBad (s : State) (q : QuadId) (w1 : Word64) : Bool :=
  (analogueNeeds q w1).any fun c => !chIsAnalogue (s.chwOf c)
/-- The 50 Ω shunt of a channel is connected: an enabled regular slot, or the injected slot, selects it in I20 (R304). -/
def State.shunt (s : State) (c : ChanId) : Bool :=
  chIsAnalogue (s.chwOf c) && s.meas[quadOf c].slots.toList.zipIdx.any fun x =>
    (slTrig x.1.w0 != 0 || x.2 == injSlot.val) && s1Range x.1.w1 == 3 && s1Insel x.1.w1 == (localOf c).val
/-! ### What a conversion reads (R301–R303, R324, R328, R329, R332) -/

/-- The test bus voltage in µV (R328). -/
def Meas.busUv (m : Meas) : Rat := (m.tdac.toNat : Rat) * 10000000 / 4096
/-- The test bus settles after a change of TDAC (R328). -/
def Meas.busSettles (m : Meas) (t : Nat) : Bool := decide (m.tdacAt ≤ t && t < m.tdacAt + 10000)
/-- An input voltage in µV as a fraction of 2^18 codes in a range; I20 in terms of its 1.2 V across the shunt (R302, R329). -/
def spanOf (range : Nat) (uv : Rat) : Rat :=
  uv * 262144 / (match range with | 0 => 30000000 | 1 => 10000000 | 2 => 20000000 | _ => 1200000)
/-- The current in nA that the 50 Ω shunt lets through, held at 30 mA (R304). -/
def shuntNa (na : Int) : Int := min na 30000000
/-- The ideal code of a conversion (R301, R302, R328, R329): the land, L+ through its 2:1 divider, the die temperature sensor
(va: µ°C), the test bus (va while it settles) or Mq; in a path check the test bus in place of the land. -/
def Meas.ideal (m : Meas) (w1 : Word64) (a : Analog) (t : Nat) : Rat :=
  let r := s1Range w1
  let i := s1Insel w1
  if i < 0x20 then
    if s1Test w1 then spanOf r (if m.busSettles t then a.va else m.busUv)
    else if r == 3 then (shuntNa a.ia : Rat) * 262144 / 24000000
    else if r == 2 then spanOf r ((a.va : Rat) - a.vb)
    else spanOf r a.va
  else if i == 0x20 then spanOf r ((a.va : Rat) / 2)
  else if i == 0x21 then spanOf r (2730000 + (a.va : Rat) / 100)
  else if i == 0x22 then spanOf r (if m.busSettles t then a.va else m.busUv)
  else 0
/-- The nearest code (DEDUCED from the table of R306, log entry 104). -/
def nearest (v : Rat) : Int :=
  let f := v - v.floor
  if f < 1 / 2 then v.floor else if f == 1 / 2 then v.floor + b2n (Config.codeTie v.floor) else v.floor + 1
/-- The code that the die sends: the raw path's offset (ppm of span) and gain error corrected with the range's coefficients
(R332, R333), an input below an unsigned range as 0 (R303), and one beyond the range clamped (R324). -/
def Meas.codeOf (m : Meas) (w1 : Word64) (a : Analog) (t : Nat) : Nat :=
  let c := m.coef.toList.getD (s1Range w1) { off := 0, gain := 0 }
  let ppm : Rat := 262144 / 1000000
  let raw := m.ideal w1 a t * (1 + (a.gain : Rat) / 1000000) + a.off * ppm
  let v := nearest ((raw - c.off * ppm) / (1 + (c.gain : Rat) / 1000000))
  if s1Range w1 == 2 then (max (-131072) (min 131071 v) % 262144).toNat else (max 0 (min 262143 v)).toNat
/-- The code is one of the clamped codes of its range (R324). -/
def isClamp (w1 : Word64) (code : Nat) : Bool :=
  if s1Range w1 == 2 then code == 0x1FFFF || code == 0x20000 else code == 0x3FFFF

/-- A turn of the converter is taken from the eighth that begins at t: the first conversion of a path check samples at the end
of its 2.0 µs, others at once (R315, R329). Sampling instant and end. -/
def Burst.turn (b : Burst) (t : Nat) : Nat × Nat :=
  if s1Test b.w1 && b.convs.isEmpty then (t + 2000, t + 2000) else (t, t + 500)
/-- A burst has one conversion fewer to start; after its last it waits for its codes (R317, R319). -/
def Meas.advance (m : Meas) (b : Burst) (fin : Nat) : Meas :=
  let b := { b with left := b.left - 1 }
  let m := { m with busyUntil := fin }
  let rest := if b.left == 0 then none else some b
  let m := if b.slot == injSlot then { m with inj := rest } else { m with burst := rest }
  if b.left == 0 then { m with wait := m.wait ++ [b] } else m
/-- A conversion of a burst starts in the eighth that begins at t, with RECOVERY as R325 judges it. -/
def Meas.convert (m : Meas) (b : Burst) (a : Analog) (t : Nat) : Meas :=
  let (at_, fin) := b.turn t
  let i := s1Insel b.w1
  let code := m.codeOf b.w1 a at_
  let clamped := isClamp b.w1 code
  let rec_ := (m.ovrs.any fun o => o.1 != i && at_ < o.2 + 4000) || (match m.prevOvr with | some j => j != i | none => false)
  let tb := i == 0x22 && m.busSettles at_
  let c : Conv := { at_ := at_, fin := fin, die := code, code := none, recovery := rec_, settleTb := tb }
  let recent := m.ovrs.filter fun o => at_ < o.2 + 4000
  let m := { m with prevOvr := if clamped then some i else none, ovrs := if clamped then (i, at_) :: recent else recent }
  m.advance { b with convs := b.convs ++ [c] } fin
/-- A burst begins with its slot's words (R317). -/
def Meas.newBurst (m : Meas) (i : SlotId) (req : Nat) : Burst :=
  let x := m.slots[i]
  { id := m.nextId, slot := i, w1 := x.w1, req := req, left := slOsr x.w0 + 1, convs := [], lost := false, held := x.held, tag := x.tag }
/-- The due conversion that R316 takes first in the eighth that begins at t: a burst under way, or the slot of a pending
trigger. -/
def Meas.nextDue (m : Meas) (t : Nat) : Option (Burst ⊕ (SlotId × Nat)) :=
  let due (i : SlotId) : Option Nat := match m.slots[i].trig with
    | some r => if r / 125 * 125 ≤ t then some r else none
    | none => none
  match m.inj, due injSlot, m.burst with
  | some b, _, _ => some (.inl b)
  | none, some r, _ => some (.inr (injSlot, r))
  | none, none, some b => some (.inl b)
  | none, none, none =>
    ((List.finRange 64).filterMap fun i => (due (regSlot i)).map fun r => (regSlot i, r)).foldl (fun best x =>
      match best with
      | some (.inr y) => if x.2 < y.2 then some (.inr x) else best
      | _ => some (.inr x)) none

/-! ### Conversion orders (R22, R315) -/

/-- One eighth of the plan for a frame: the converter's state as the plan goes on, and the orders found. -/
def Meas.planEighth (p : Meas × List (Word64 × Nat)) (t : Nat) : Meas × List (Word64 × Nat) :=
  let m := p.1
  if m.cal || t < m.busyUntil then p else
  let run (m : Meas) (b : Burst) : Meas × List (Word64 × Nat) :=
    (m.advance { b with convs := b.convs ++ [{ at_ := t, fin := t, die := 0, code := none, recovery := false, settleTb := false }] }
      (b.turn t).2, p.2 ++ [(b.w1, (b.turn t).1)])
  match m.nextDue t with
  | none => p
  | some (.inl b) => run m b
  | some (.inr (i, r)) => run { m with slots := m.slots.set i { m.slots[i] with trig := none, held := false } } (m.newBurst i r)
/-- The conversions ordered for a frame by what is pending when the frame before it is formed. -/
def Meas.plan (m : Meas) (frame : Nat) : List (Word64 × Nat) :=
  ((List.range 8).foldl (fun p e => Meas.planEighth p (1000 * frame + 125 * e)) (m, [])).2
/-- CONV0 or CONV1: valid, input, range, sampling eighth (R22, R301, R302). -/
def convOrder (o : Option (Word64 × Nat)) : Nat :=
  match o with
  | some (w1, at_) => 2048 + s1Insel w1 * 32 + s1Range w1 * 8 + at_ / 125 % 8
  | none => 0

/-! ### Codes that come back (R23, R27, R327) -/

/-- Replace a burst wherever it stands. -/
def Meas.putBurst (m : Meas) (b : Burst) : Meas :=
  let f (x : Burst) : Burst := if x.id == b.id then b else x
  { m with burst := m.burst.map f, inj := m.inj.map f, wait := m.wait.map f }
/-- Every burst whose result has not entered. -/
def Meas.bursts (m : Meas) : List Burst := m.burst.toList ++ m.inj.toList ++ m.wait
/-- The conversions that ended in frame f and have no code yet, by their end: end, burst and the die's code (R23). -/
def Meas.doneIn (m : Meas) (f : Nat) : List (Nat × Nat × Nat) :=
  let all := m.bursts.flatMap fun b =>
    (b.convs.filter fun c => c.code.isNone && c.fin / 1000 == f).map fun c => (c.fin, b.id, c.die)
  all.mergeSort fun a b => a.1 ≤ b.1
/-- A result field brings the code of the conversion of burst id that ended at fin. -/
def Meas.codeIn (m : Meas) (fin id code : Nat) : Meas :=
  match m.bursts.find? fun b => b.id == id with
  | some b => m.putBurst { b with convs := b.convs.map fun c => if c.fin == fin && c.code.isNone then { c with code := some code } else c }
  | none => m

/-- A burst's result is lost: counted as missed once; a flag of a later conversion is still set (R27, R305, R327). -/
def State.loseBurst (s : State) (q : QuadId) (b : Burst) (extra : Word16 := 0) : State :=
  if b.lost then s.modAcc q b.slot fun a => { a with flags := a.flags ||| extra }
  else (s.modMeas q fun m => m.putBurst { b with lost := true }).slotMiss q b.slot b.req extra
/-- Lost bursts with nothing outstanding leave the converter (R322). -/
def State.reap (s : State) (q : QuadId) : State :=
  let gone := s.meas[q].wait.filter fun b => b.lost && b.convs.all fun c => c.code.isSome
  let s := s.modMeas q fun m => { m with wait := m.wait.filter fun b => !(gone.contains b) }
  gone.foldl (fun s b => s.injectDone q b.slot b.tag) s
/-- The conversions that ended before device time t, and whose codes have not come, are lost with their uplink frames (R27). -/
def State.loseFrame (s : State) (q : QuadId) (t : Nat) : State :=
  let gone (c : Conv) : Bool := c.code.isNone && decide (c.fin < t)
  let s := (s.meas[q].bursts.filter fun b => b.convs.any gone).foldl (fun s b =>
    let b' := { b with convs := b.convs.map fun c => if gone c then { c with code := some 0 } else c }
    (s.modMeas q fun m => m.putBurst b').loseBurst q b') s
  s.reap q
/-- The result fields of a good uplink frame f, none where a field is not valid (R23, R27): conversions that ended in frames
never received are lost. -/
def State.results (s : State) (q : QuadId) (f : Nat) (res : List (Option Nat)) : State :=
  let s := s.loseFrame q (1000 * f)
  let s := ((s.meas[q].doneIn f).zip res).foldl (fun s p => match p.2 with
    | some v => s.modMeas q fun m => m.codeIn p.1.1 p.1.2.1 v
    | none => s) s
  s.loseFrame q (1000 * f + 1000)
/-- A quadrant reset takes the bursts with it (R94, R327). -/
def State.dropBursts (s : State) (q : QuadId) : State :=
  let s := s.meas[q].bursts.foldl (fun s b => (s.loseBurst q b).injectDone q b.slot b.tag) s
  s.modMeas q fun m => { m with burst := none, inj := none, wait := [], busyUntil := 0, prevOvr := none, ovrs := [] }

/-! ## Results (R306, R317, R318, R323–R326, R334–R337, R343) -/

/-- A code as a right-aligned number (R306). -/
def rightCode (w1 : Word64) (code : Nat) : Int := if s1Range w1 == 2 then wrapS 18 code else code
/-- What a chain takes in (R343). -/
def chainValue (w1 : Word64) (v : Int) : Int :=
  if !s1Align w1 then v else if s1Range w1 == 2 then v * 2 ^ 14 else v * 2 ^ 13
/-- A result's value, stamp and flags as R381 places them (R317, R318, R324, R325, R331). -/
def Burst.result (b : Burst) : Int × Nat × Word16 :=
  let codes := b.convs.map fun c => c.code.getD 0
  let vals := codes.map (rightCode b.w1)
  let n := b.convs.length
  let stamp := (b.convs.map (·.at_)).foldl (· + ·) 0 / n
  let first := match b.convs with | c :: _ => c.at_ | [] => 0
  let clamp := codes.find? (isClamp b.w1)
  let v := match clamp with | some c => rightCode b.w1 c | none => divEven (vals.foldl (· + ·) 0) n
  (v, stamp, setIf clamp.isSome fOvr ||| setIf (b.convs.any (·.recovery)) fRecovery |||
    setIf (b.held || b.req / 125 * 125 + 1000 < first) fLate ||| setIf (b.convs.any (·.settleTb)) fTb)
/-- A result enters its accumulator block (R324, R326, R334–R337). -/
def enterAcc (a : Acc) (w1 : Word64) (v : Int) (stamp : Nat) (fl : Word16) : Acc :=
  let ovr := fl &&& fOvr != 0
  let out := s1Recx w1 && fl &&& fRecovery != 0
  let acc := s1Acc w1
  let stick := a.flags ||| setIf ovr 1 ||| setIf (fl &&& fRecovery != 0 && !out) 2 ||| setIf (fl &&& fLate != 0) 4 |||
    setIf (fl &&& fTb != 0) 16
  let a := { a with flags := stick, ovr := if ovr && acc then min 0xFFFF (a.ovr + 1) else a.ovr }
  if out then { a with miss := min 0xFFFF (a.miss + 1), flags := a.flags ||| 8 } else
  let a := { a with last := stamp, flags := (a.flags &&& ~~~(0x300 : Word16)) ||| BitVec.ofNat 16 (s1Range w1 * 256) }
  let a := if !acc || bit a.flags 5 then a
    else if (satS 48 (a.sum + v)).2 || a.count == 0xFFFFFFFF then { a with flags := a.flags ||| 32 }
    else { a with sum := a.sum + v, count := a.count + 1 }
  if !s1Mm w1 then a
  else if bit a.flags 6 then { a with min := min a.min v, max := max a.max v }
  else { a with min := v, max := v, flags := a.flags ||| 64 }

/-! ## Loading slots (R310, R311, R320, R353) -/

/-- A channel is selected by enabled slots both in I20 and in another range (R310); own counts as enabled. -/
def rangeClash (slots : List (SlotId × Word64 × Word64)) (own : SlotId) : Bool :=
  let en := slots.filter fun x => slTrig x.2.1 != 0 || x.1 == own
  let chans (w : Word64) : List Nat :=
    let i := s1Insel w
    if 32 ≤ i then [] else if s1Range w == 2 then [i, i + 1] else [i]
  match slots.find? fun x => x.1 == own with
  | none => false
  | some x => (slTrig x.2.1 != 0 || own == injSlot) && en.any fun y => y.1 != x.1 && (s1Range y.2.2 == 3) != (s1Range x.2.2 == 3) &&
      (chans x.2.2).any fun i => (chans y.2.2).contains i
/-- The words that the quadrant's slots would have. -/
def State.slotsAfter (s : State) (q : QuadId) (new : List (SlotId × Word64 × Word64)) : List (SlotId × Word64 × Word64) :=
  (List.finRange 65).map fun i => match new.find? fun x => x.1 == i with
    | some x => x
    | none => (i, (s.slot q i).w0, (s.slot q i).w1)
/-- Timer demand of a slot in conversions per µs (R310). -/
def timerDemand (w0 w1 : Word64) : Rat :=
  if slTrig w0 == 3 then ((slOsr w0 + 1 + (if s1Test w1 then 3 else 0) : Nat) : Rat) / slTper w0 else 0
/-- A slot's words take effect: a pending trigger of a slot turned OFF is missed, the block of one whose input changes is
cleared, and running chains that take it are reset (R311, R353). -/
def State.slotApply (s : State) (q : QuadId) (i : SlotId) (w0 w1 : Word64) : State :=
  let o := s.slot q i
  let input := fld w1 0 8 != fld o.w1 0 8 || s1Test w1 != s1Test o.w1
  let off := slTrig w0 == 0 && slTrig o.w0 != 0 && o.trig.isSome
  let s := if off then ((s.modSlot q i fun x => { x with trig := none, held := false, tag := none }).countMiss q i).injectDone q i o.tag else s
  let s := if input then s.modAcc q i Acc.cleared else s
  let s := s.modSlot q i fun x => { x with w0 := w0, w1 := w1 }
  if input || s1Align w1 != s1Align o.w1 then
    (List.finRange 16).foldl (fun s k =>
      if cQsrc s.chains[k].c0 == q.val && cSsrc s.chains[k].c0 == i.val then s.chainReset k s.frameStart true else s) s
  else s
/-- A TDAC value, unless a calibration has the test bus: then it is held (R328, R331). -/
def Meas.setTdac (m : Meas) (v : BitVec 12) (t : Nat) : Meas :=
  if m.cal then { m with tdacHeld := some v } else { m with tdac := v, tdacAt := t }
/-- A SEQ_LOAD takes effect at a frame boundary (R309, R311, R328, R331). -/
def State.seqApply (s : State) (q : QuadId) (slots : List (SlotId × Word64 × Word64)) (qw : Word64) : State :=
  let s := slots.foldl (fun s x => s.slotApply q x.1 x.2.1 x.2.2) s
  let t := s.frameStart
  if bit qw 12 then s.modMeas q fun m => m.setTdac (qw.extractLsb' 0 12) t else s
/-- The injected slot's words of an INJECT take effect at the frame boundary, and its trigger is pending from then on (R311,
R320). -/
def State.injApply (s : State) (q : QuadId) : State :=
  match s.meas[q].injNew with
  | some (w0, w1, req, id) =>
    ((s.modMeas q fun m => { m with injNew := none }).slotApply q injSlot w0 w1).modSlot q injSlot fun x =>
      { x with trig := some req, tag := some id }
  | none => s

end Sys2Proof.Machine
end

