-- ==== Sys2Proof/Machine/Barrier.lean ====
section
/-!
DEFINITION. The barrier frames and the field watchdog: what each downlink and uplink frame brings (R20–R30, R106, R108,
R124–R126, R131, R132, R140, R160, R161, R173, R181, R184, R197, R214, R225, R232, R239, R252, R311, R643).
-/
namespace Sys2Proof.Machine
open Sys2Proof

/-! ## What applies at a frame boundary -/

/-- The frame's measurements (R193, R197, R234, R236). -/
def State.takeReadings (s : State) (q : QuadId) (r : Readings) : State :=
  let s := { s with logicMw := r.logicMw, visoMw := r.visoMw }
  if !(s.quad q).sync then s else
  let s := s.modQuad q fun x => { x with lplus := r.lplus, dieT := (r.dieT : Rat) }
  (quadChans q).foldl (fun s c => s.modChan c fun x => { x with sliceHot := !bit r.cool (localOf c).val }) s
/-- New budget words (R239). -/
def State.takeBudgets (s : State) (q : QuadId) : State :=
  let s := { s with devw := s.devwNew.getD s.devw, devwNew := none }
  let s := s.modQuad q fun x => { x with qbudw := x.qbudwNew.getD x.qbudw, qbudwNew := none }
  (quadChans q).foldl (fun s c => s.modChan c fun x => { x with budw := x.budwNew.getD x.budw, budwNew := none }) s
/-- A waiting pulse group of a channel is taken; it changes the unit's generator (R124, R224). -/
def State.takePulse (s : State) (c : ChanId) : State :=
  let x := s.chan c
  match x.pulNew with
  | some w =>
    let s := s.modChan c fun x => { x with pulw := w, pulNew := none }
    if s.isOdd c then s else (s.updateGen c w x.pulw (.config x.pulOrd)).1
  | none => s
/-- New pulse groups, which stay in CORE, in the order in which their commands were fetched (R42, R124, R224). -/
def State.takePulses (s : State) (q : QuadId) : State :=
  let cs := ((quadChans q).filter fun c => (s.chan c).pulNew.isSome).mergeSort fun a b => (s.chan a).pulOrd ≤ (s.chan b).pulOrd
  cs.foldl (fun s c => s.takePulse c) s
/-- The sense range of a channel has changed from an earlier state (R183, R186). -/
def State.noteRange (s old : State) (c : ChanId) : State :=
  if s.fineRange c == old.fineRange c then s else
  let t := s.frameStart
  s.modChan c fun x => { x with rangeAt := t }
/-- The die takes a whole channel group: R125 on the input, R643 on the output, R190 on open-load detection. A channel that
becomes course-owned under an encoder fault's SAFE keeps its level (R38, log entry 95). -/
def State.takeChan (s : State) (c : ChanId) : State :=
  match (s.chan c).chwNew with
  | none => s
  | some w =>
    let t := s.frameStart
    let f := s.frameNo
    let old := s
    let s := s.modChan c fun x =>
      let mode := chMode w != chMode x.chw
      let filt := chItype w != chItype x.chw || chEdgeMode w != chEdgeMode x.chw || chDebounce w != chDebounce x.chw
      let leaves := chIsOutput x.chw && !chIsOutput w
      { x with chw := w, chwNew := none, grpAt := t, inTake := if mode then some f else x.inTake
               filtAt := if mode || filt then t else x.filtAt, lockUntil := if mode || filt then none else x.lockUntil
               encOut := if chCourse w then x.encOut || (old.encSafe && !chCourse x.chw) else false
               ref := x.ref && !leaves, gen := if leaves then none else x.gen, held := x.held && !leaves
               safeStart := if leaves then none else x.safeStart, safeGate := x.safeGate && !leaves
               safeEdged := x.safeEdged && !leaves, test := if leaves then .idle else x.test }
    (s.noteRange old (prevChan (nextChan c))).noteRange old (nextChan c)
/-- The die takes a whole protection group; a retry counter at or above a new RLIM sets the latch (R173). -/
def State.takeProt (s : State) (c : ChanId) : State :=
  match (s.chan c).protNew with
  | some w =>
    let t := s.frameStart
    let old := s
    let s := (s.modChan c fun x => { x with protw := w, protNew := none, grpAt := t }).noteRange old c
    let x := s.chan c
    if s.lead c == c && prRlim w != 0 && prRlim w ≤ x.retry && !x.latch then s.latchUnit c else s
  | none => s
/-- One mailbox word crosses; the last of four brings its group into force (R22, R124). -/
def State.mailbox (s : State) (q : QuadId) : State :=
  match (s.quad q).mbox with
  | [] => s
  | w :: rest =>
    let s := s.modQuad q fun x => { x with mbox := rest, mboxDone := x.mboxDone + 1 }
    match w with
    | .chanGroup c part => if part == 3 then s.takeChan c else s
    | .protGroup c part => if part == 3 then s.takeProt c else s
/-- The mailbox's 32 bits of the next word (R22, log entry 86). -/
def State.mailboxBits (s : State) (q : QuadId) : Word32 :=
  match (s.quad q).mbox with
  | .chanGroup c part :: _ => Config.mailbox 0 (localOf c).val part.val ((s.chan c).chwNew.getD (s.chan c).chw)
  | .protGroup c part :: _ => Config.mailbox 1 (localOf c).val part.val ((s.chan c).protNew.getD (s.chan c).protw)
  | [] => Config.mailbox 2 0 0 0
/-- Progress of the waiting CH_CONFIGs: core are the quadrants whose pulse groups have been taken, and each command looks at
the words acknowledged of its own (R124). -/
def State.configStep (s : State) (core : BitVec 4) : State :=
  s.ops.foldl (fun s o => match o.kind with
    | .chConfig c todo upto =>
      let c' := c &&& ~~~core
      let todo' := quadMask fun k => bit todo k.val && (s.quad k).mboxAcked < upto.getD k.val 0
      if c' == 0 && todo' == 0 then s.configOp o .done 0 s.now 0
      else { s with ops := s.ops.map fun x => if x == o then { o with kind := .chConfig c' todo' upto } else x }
    | _ => s) s
/-- Loaded slots, and an INJECT's, take effect at the frame boundary (R311, R320). -/
def State.takeSlots (s : State) (q : QuadId) : State :=
  let s := s.ops.foldl (fun s o => match o.kind with
    | .seqFrame k slots qw => if k == q then (s.seqApply q slots qw).configOp o .done 0 s.frameStart 0 else s
    | _ => s) s
  s.injApply q

/-! ## Temperature and restarts (R181, R197, R232) -/

/-- ΔT of a channel after one frame (R232); R gives no rounding. -/
def State.newRise (s : State) (c : ChanId) : Rat :=
  let x := s.chan c
  let i := s.sensedMa c
  let mw : Rat := if x.dstate == 2 then i * (s.quad (quadOf c)).lplus / 1000 else i * i * s.rModel c / 1000000
  x.dT + (mw / 1000 * ((x.rth : Rat) / 1024) - x.dT) * (1000 / (x.tau : Rat))
def State.thermalFrame (s : State) (q : QuadId) : State :=
  ((quadChans q).map fun c => (c, s.newRise c)).foldl (fun s p => s.modChan p.1 fun x => { x with dT := p.2 }) s
/-- INRUSH_CUT: the modelled junction reaches the ceiling while the window runs (R158, R181). One that lies at or above the
ceiling already when the window opens counts as crossing it (log entry 106). -/
def State.cutFrame (s : State) (q : QuadId) : State :=
  (s.leads q).foldl (fun s l =>
    let ms := s.members l
    let hot := ms.any fun m => decide (100 + ((s.chan l).inceil : Rat) ≤ s.tj m)
    if ms.any (fun m => (s.chan m).windowOn) && hot then
      let t := s.now
      (ms.foldl (fun s m => s.modChan m fun x =>
        { x with inrushCut := x.inrush.isSome, inrTo := if x.windowOn then some t else x.inrTo }) s).eventDiag l 0xB 0
    else s) s
/-- The evaluation of a unit that is off after a protective switch-off (R197, R216). -/
def State.restartFrame (s : State) (q : QuadId) : State :=
  (s.leads q).foldl (fun s l =>
    let x := s.chan l
    let w := s.protOf l
    if !(s.members l).any (fun m => (s.chan m).cause != .none) || !s.wanted l || x.latch then s
    else if prRlim w != 0 && prRlim w ≤ x.retry then s.latchUnit l
    else if s.coolEnough l && s.supplyGood q then s.comeBack l false
    else s) s

/-! ## Test pulses that are due (R191, R250–R252) -/

/-- A channel that takes test pulses and whose next one is due. -/
def State.testDue (s : State) (c : ChanId) : Bool :=
  let x := s.chan c
  let q := s.quad (quadOf c)
  s.isOutput c && !s.isOdd c && prTpen (s.protOf c) && !x.drv && x.test == .idle && !s.demand c && (s.genDrives c).isNone &&
  !s.fieldOff c && q.armed && q.sync && !s.trigOn c &&
  (match x.testLast with | some t => decide (t + 1000000000 ≤ s.now) | none => true)
/-- Since when the channels of a quadrant have had a test pulse due (R252). -/
def State.testFrame (s : State) (q : QuadId) : State :=
  let t := s.now
  ((quadChans q).filter fun c => !s.testDue c).foldl (fun s c => s.modChan c fun x => { x with testFrom := t }) s

/-! ## What a sent frame completes (R106, R108, R140, R481) -/

def State.replaceOp (s : State) (o : Op) (k : OpKind) : State :=
  { s with ops := s.ops.map fun x => if x == o then { o with kind := k } else x }
/-- ARM: the quadrants whose first frame with ARMED = 1 has been sent. -/
def State.armSent (s : State) (q : QuadId) (o : Op) (todo done : BitVec 4) (part : Bool) : State :=
  let b : BitVec 4 := BitVec.ofNat 4 (2 ^ q.val)
  if todo &&& b == 0 then s else
  let todo := todo &&& ~~~b
  let armed := (s.quad q).armed
  let done := if armed then done else done &&& ~~~b
  let part := part || !armed
  if todo != 0 then s.replaceOp o (.arm todo done part)
  else s.configOp o (if done == 0 then .rejState else if part then .partialDone else .done) 0 s.frameStart (done.setWidth 128)
def State.disarmSent (s : State) (q : QuadId) (o : Op) (todo done : BitVec 4) : State :=
  let b : BitVec 4 := BitVec.ofNat 4 (2 ^ q.val)
  if todo &&& b == 0 then s else
  let todo := todo &&& ~~~b
  if todo != 0 then s.replaceOp o (.disarm todo done) else s.configOp o .done 0 s.frameStart (done.setWidth 128)
/-- A frame that carries a level of an output command has been sent (R140). -/
def State.outSent (s : State) (q : QuadId) (o : Op) (x : OutOp) : State :=
  let b : BitVec 4 := BitVec.ofNat 4 (2 ^ q.val)
  if x.quads &&& b == 0 then s
  else (s.setOut o { x with quads := x.quads &&& ~~~b, sentAt := s.frameStart }).outDecided o.q o.n
def State.frameSent (s : State) (q : QuadId) : State :=
  s.ops.foldl (fun s o => match o.kind with
    | .arm todo done part => s.armSent q o todo done part
    | .disarm todo done => s.disarmSent q o todo done
    | .out x => s.outSent q o x
    | _ => s) s

/-! ## DOWNLINK_FRAME -/

/-- The unit sends barrier frames (R498, R529). -/
def State.sendsFrames (s : State) : Bool := s.up && (s.holdsRole || s.pair.st == .releasing)
/-- A takeover switches channels on, at most two a frame in ascending local index (R165, R525). -/
def State.takeoverOns (s : State) (q : QuadId) : State :=
  let go := match s.pair.ons.filter fun l => quadOf l == q with
    | a :: b :: _ => if s.ganged a || s.ganged b then [a] else [a, b]
    | l => l
  let t := s.now
  let s := go.foldl (fun s l => s.modChan l fun x => { x with chgAt := t }) s
  s.modPair fun p => { p with ons := p.ons.filter fun l => !go.contains l }
/-- A frame's check bits over its other 192 (R22, R23). -/
def withCrc (hi : Nat) : BitVec 200 :=
  let f : BitVec 200 := BitVec.ofNat 200 (256 * hi)
  f ||| (crc8 (frameBytes f)).setWidth 200
/-- SYNC and CRC of a received frame are right (R22, R23). -/
def frameGood (f : BitVec 200) : Bool := fld f 198 2 == 2 && frameCrcOk f
/-- The instant at which a channel's driver takes CORE's level (R26, R31). -/
def State.outAt (s : State) (c : ChanId) : Nat := (s.quad (quadOf c)).takesAt (s.chan (s.lead c)).chgAt s.frameNo
/-- The downlink frame that CORE forms for a quadrant (R22); its orders are those known when it is formed (log entry 86). -/
def State.coreWord (s : State) (q : QuadId) : BitVec 200 :=
  let outs := (quadChans q).foldl (fun a c =>
    a + (b2n (s.level c) * 8 + s.outAt c / 125 % 8) * 2 ^ (65 + 4 * (localOf c).val)) 0
  let plan := s.meas[q].plan (s.frameNo + 1)
  let all := 2 * 2 ^ 198 + s.frameNo % 32 * 2 ^ 193 + outs + convOrder plan[0]? * 2 ^ 53 + convOrder plan[1]? * 2 ^ 41 +
    (s.mailboxBits q).toNat * 2 ^ 9 + b2n (s.quad q).armed * 2 ^ 8
  withCrc (all / 256)
/-- A good frame reaches the die: levels, ARMED, mailbox, watchdog (R22, R26, R30, R214). -/
def State.goodFrame (s : State) (q : QuadId) (w : BitVec 200) : State :=
  let out (c : ChanId) : Nat := fld w (65 + 4 * (localOf c).val) 4
  let s := (quadChans q).foldl (fun s c => s.modChan c fun x => { x with cmd := (out c).testBit 3 }) s
  let at_ (s : State) (c : ChanId) : Nat := s.outAt c / 1000 * 1000 + 125 * (out c % 8)
  let ats := (quadChans q).map fun c => (c, at_ s c)
  let t := s.zero + s.frameStart + 1000
  let s := s.modQuad q fun x => { x with dieArmed := bit w 8, lastGood := some t, lostRun := 0 }
  let s := s.mailbox q
  let s := if (s.quad q).fwTrig then s.retrigger fun s => s.modQuad q fun x => { x with fwTrig := false } else s
  let s := s.setDrvs (ats.map fun p => (p.1, s.dieLevel p.1, p.2))
  (quadChans q).foldl (fun s c =>
    if (s.chan c).test == .ending then s.modChan c fun x => { x with test := .idle, testEnd := none } else s) s
/-- A frame fails its check at the die and is discarded, with its conversion orders (R26, R29, R315). -/
def State.badFrame (s : State) (q : QuadId) : State :=
  let f := s.frameNo
  s.modQuad q fun x => { x with crcDown := x.crcDown + 1, lostRun := x.lostRun + 1, lostFrame := some f }
/-- What CORE does for a quadrant at the frame boundary. -/
def State.coreFrame (s : State) (q : QuadId) (r : Readings) : State :=
  let s := (((s.takeArm q).takeReadings q r).takeBudgets q).takePulses q
  let s := s.configStep (BitVec.ofNat 4 (2 ^ q.val))
  let s := (((s.takeSlots q).thermalFrame q).cutFrame q).respread q
  let s := if s.holdsRole then s.restartFrame q else s
  let s := (s.takeoverOns q).testFrame q
  let ok := decide (1 / 10 ≤ s.headroom q 0)
  let t := s.now
  s.modQuad q fun x => { x with headSince := if ok then some (x.headSince.getD t) else none }
/-- DOWNLINK_FRAME: the frame of quadrant q, received with the bits of err inverted (R20–R22, R26, R29). -/
def execDownlinkFrame (dt : Nat) (q : QuadId) (err : BitVec 200) (r : Readings) (s : State) : Host.Outcome State Fault Refusal :=
  let s := s.elapse dt
  let x := s.quad q
  .next (s.when (s.sendsFrames && !(x.frameSent && x.frame == s.frameNo)) fun s =>
    let s := s.coreFrame q r
    let w := s.coreWord q
    let got := w ^^^ err
    let s := if !(s.quad q).sync then s
      else if frameGood got then s.goodFrame q got
      else s.badFrame q
    let n := s.frameNo
    (s.frameSent q).modQuad q fun x => { x with frame := n, frameSent := true })

/-! ## UPLINK_FRAME -/

/-- The device-time frame of an uplink frame: the last one complete with its COUNT (R23). -/
def State.uplinkNo (s : State) (count : Nat) : Nat :=
  let last := s.frameNo - 1
  last - (last % 32 + 32 - count) % 32
/-- An edge report (R28, R129, R131, R132, R485). -/
def State.edgeRecord (s : State) (c : ChanId) (level : Bool) (f eighth : Nat) (lost : Option Nat) : State :=
  let w := s.chwOf c
  let q := quadOf c
  let x := s.chan c
  let stable := chIsInput w && !chEdgeMode w
  let stamp := match lost with
    | some t => t
    | none => 1000 * f + 125 * eighth - (if stable then chDebounce w * 1000 else 0)
  let st := s.ang.stateAt stamp
  let valid := st != .idle && st != .unreferenced
  let th := s.ang.thetaHat stamp
  let lock := chIsInput w && chEdgeMode w && x.accLock
  let fl : Byte := BitVec.ofNat 8 (b2n level + 2 * b2n lost.isSome + 4 * b2n lock + 8 * b2n (chIsOutput w) + 16 * b2n (!valid))
  let r : Record := .inputEdge c fl (s.quad q).inDrop stamp (if valid then angleWord th else 0) (if valid then revWord th else 0)
  s.stageCount r (fun s => s.modQuad q fun x => { x with inDrop := 0 })
    fun s => s.modQuad q fun x => { x with inDrop := x.inDrop + 1 }
/-- The field die takes the pin state of the first sample after a change of mode (R125). -/
def State.firstSample (s : State) (c : ChanId) (pin : Bool) (f : Nat) : State :=
  match (s.chan c).inTake with
  | some f0 =>
    if f0 ≤ f && chIsInput (s.chwOf c) && (s.chan c).accAt < 1000 * f0 then
      s.modChan c fun x => { x with acc := pin, accWas := pin, accAt := 1000 * f0, accWasAt := 1000 * f0 }
    else s
  | none => s
/-- The four IN bits of a channel in frame f: the debounced state, the readback, or 0 (R23, R116). -/
def State.inBits (s : State) (c : ChanId) (u : UpSamples) (f : Nat) : Nat :=
  let w := s.chwOf c
  let x := s.chan c
  let i := (localOf c).val
  let later := 1000 * f + 1000 ≤ x.accAt
  let at_ := if later then x.accWasAt else x.accAt
  if chIsInput w then
    b2n (if later then x.accWas else x.acc) * 8 + (if at_ / 1000 == f then at_ % 1000 / 125 else 0)
  else if chIsOutput w then b2n (bit u.readback i) * 8 + fld u.eighths (3 * i) 3
  else 0
/-- One IN field: the state, its edge, and in OUTPUT mode the readback (R116, R125, R132, R146, R149). Of the frame in which a
change of mode took effect only a change after the boundary is reported. -/
def State.inputField (s : State) (c : ChanId) (v f : Nat) (lost : Option Nat) : State :=
  let w := s.chwOf c
  let x := s.chan c
  let level := v.testBit 3
  let stamp := 1000 * f + 125 * (v % 8)
  let f0 := x.inTake.getD 0
  if !(chIsInput w || chIsOutput w) then s.modChan c fun x => { x with inSt := false, inTake := if f0 ≤ f then none else x.inTake }
  else if x.inTake.isSome && f < f0 then s
  else
    let moved := chIsInput w && f == f0 && 1000 * f0 < x.accAt && x.accAt < 1000 * f0 + 1000
    let s :=
      if x.inTake.isSome then
        let s := s.modChan c fun x => { x with inSt := level, inAt := stamp, inTake := none }
        if moved && (chEdgerep w).testBit (if level then 0 else 1) then s.edgeRecord c level f (v % 8) lost else s
      else if x.inSt == level then s
      else
        let s := s.modChan c fun x => { x with inSt := level, inAt := stamp }
        if (chEdgerep w).testBit (if level then 0 else 1) then s.edgeRecord c level f (v % 8) lost else s
    if chIsOutput w then s.readFrame c level f else s
/-- The gang comparison, once both codes are fresh (R160, R161). -/
def State.gangCompare (s : State) (l : ChanId) : State :=
  let o := nextChan l
  let x := s.chan l
  let y := s.chan o
  if !(s.gangAt l && x.gFresh && y.gFresh) then s else
  let s := (s.modChan l fun x => { x with gFresh := false }).modChan o fun x => { x with gFresh := false }
  let off := x.windowOn || y.windowOn || (x.drv && x.settle.isSome) || x.sense == 0xFFF || y.sense == 0xFFF
  if off then s else
  let a := max x.sense.toNat y.sense.toNat
  let b := min x.sense.toNat y.sense.toNat
  if 0x50 ≤ a && 3 * a < 10 * (a - b) then
    let s := s.modChan l fun x => { x with gFail := x.gFail + 1, gClear := 0 }
    if 8 ≤ (s.chan l).gFail && !bit x.standing 0x10 then s.raiseDiag l 0x10 else s
  else if a < 0x50 || 4 * (a - b) ≤ a then
    let s := s.modChan l fun x => { x with gClear := x.gClear + 1, gFail := 0 }
    if 8 ≤ (s.chan l).gClear then s.clearDiag l 0x10 else s
  else s.modChan l fun x => { x with gFail := 0, gClear := 0 }
/-- A condition with its beginning, whether it lasts, and the end of the one before held in frame f. -/
def heldIn (now : Bool) (from_ : Nat) (to_ : Option Nat) (f : Nat) : Bool :=
  (now && from_ < 1000 * f + 1000) || match to_ with
    | some e => 1000 * f < e && (now || from_ < 1000 * f + 1000)
    | none => false
/-- The sense range in use in frame f (R183, R186). -/
def State.fineIn (s : State) (c : ChanId) (f : Nat) : Bool :=
  if (s.chan c).rangeAt ≤ 1000 * f then s.fineRange c else !s.fineRange c
/-- The sense code that the die sends in frame f: the fault level, or the mean of the eight samples of the frame before in the
range of that frame, held at 0xFFE; R183 gives no rounding (R183–R185, log entry 7). -/
def State.senseCode (s : State) (c : ChanId) (amps : List Nat) (f : Nat) : Nat :=
  if (s.chan c).fault then 0xFFF else
  let sum : Nat := (amps.take 8).foldl (· + ·) 0
  let v : Rat := (sum : Rat) / 8 / (if s.fineIn c (f - 1) then 20 else 625)
  let k := v.floor.toNat
  min 0xFFE (if v == (k : Rat) then k else k + Config.roundSense v % 2)
/-- SENSE and DIAG of the channel whose local index is COUNT, with range, limit and window of the measured frame (R23, R184,
R186). -/
def State.senseField (s : State) (c : ChanId) (code : BitVec 12) (diag : BitVec 4) (f : Nat) : State :=
  let fine := s.fineIn c (f - 1)
  let s := s.modChan c fun x =>
    { x with sense := code, dstate := diag, senseAt := 1000 * (f - 1), senseFine := fine
             senseLim := heldIn x.inLimit x.limFrom x.limTo (f - 1)
             senseInr := heldIn x.windowOn x.inrFrom x.inrTo (f - 1), gFresh := true }
  s.gangCompare (s.lead c)
/-- The snapshots that this frame completes: IN bits of the quadrant, DIAG of the channel it reports (R296). -/
def State.archField (s : State) (q : QuadId) (c : ChanId) (f : Nat) : State :=
  let ins := Vector.ofFn fun k : ChanId => (s.chan k).inSt
  let ds := (s.chan c).dstate
  s.modArch fun a => { a with slots := a.slots.map fun x =>
    if x.time / 1000 != f then x else
    { x with chans := x.chans.mapFinIdx fun i y h =>
        let y := if i / 32 == q.val then { y with levels := putFld y.levels 2 1 (b2n ins[i]) } else y
        if i == c.val then { y with dstate := ds.setWidth 8 } else y } }
/-- The channel that frame f reports in SENSE and DIAG (R23). -/
def sensed (q : QuadId) (f : Nat) : ChanId := chanAt q ⟨f % 32, by omega⟩
/-- The uplink frame f that the die forms (R23). -/
def State.dieWord (s : State) (q : QuadId) (u : UpSamples) (f : Nat) : BitVec 200 :=
  let ins := (quadChans q).foldl (fun a c => a + s.inBits c u f * 2 ^ (65 + 4 * (localOf c).val)) 0
  let res := (s.meas[q].doneIn f).map fun r => r.2.2
  let c := sensed q f
  let x := s.quad q
  let all := 2 * 2 ^ 198 + f % 32 * 2 ^ 193 + ins + res.getD 0 0 * 2 ^ 47 + res.getD 1 0 * 2 ^ 29 +
    b2n (decide (0 < res.length)) * 2 ^ 28 + b2n (decide (1 < res.length)) * 2 ^ 27 + s.senseCode c u.amps f * 2 ^ 15 +
    (s.dieState c).toNat * 2 ^ 11 + x.lclass.code * 2 ^ 9 + b2n x.hot * 2 ^ 8
  withCrc (all / 256)
/-- The class and the DIE_HOT state that a good uplink frame gives (R23, R193, R205). -/
def State.reportDie (s : State) (q : QuadId) (k : LClass) (hot : Bool) : State :=
  let s := (s.modQuad q fun x => { x with lclassUp := k, hotUp := hot }).reportClass q k
  if hot then s.raiseQuadDiag q 0xF else s.clearQuadDiag q 0xF
/-- A good uplink frame (R23–R25, R28). -/
def State.goodUplink (s : State) (q : QuadId) (w : BitVec 200) : State :=
  let f := s.uplinkNo (fld w 193 5)
  let lost := (s.quad q).lostFrom
  let c := sensed q f
  let s := s.modQuad q fun x => { x with lostFrom := none, statusMiss := false, mboxAcked := x.mboxDone }
  let s := (List.finRange 32).foldl (fun s i => s.inputField (chanAt q i) (fld w (65 + 4 * i.val) 4) f lost) s
  let s := s.senseField c (w.extractLsb' 15 12) (w.extractLsb' 11 4) f
  let s := s.results q f [if bit w 28 then some (fld w 47 18) else none, if bit w 27 then some (fld w 29 18) else none]
  let s := (s.reportDie q (LClass.ofCode (fld w 9 2)) (bit w 8)).archField q c f
  s.configStep 0
/-- An uplink frame is lost with its results (R27–R29). -/
def State.lostUplink (s : State) (q : QuadId) (f : Nat) : State :=
  (s.modQuad q fun x => { x with crcUp := x.crcUp + 1, lostFrom := some (x.lostFrom.getD (1000 * f)) }).loseFrame q (1000 * f + 1000)
/-- UPLINK_FRAME: the last complete frame as the die forms it from what its comparators and amplifiers show, received with the
bits of err inverted; one whose SYNC or CRC is wrong is discarded with its results (R23, R27–R29). -/
def execUplinkFrame (dt : Nat) (q : QuadId) (f : UpFrame) (s : State) : Host.Outcome State Fault Refusal :=
  let s := s.elapse dt
  let n := s.frameNo - 1
  .next (s.when (s.linked q && s.sendsFrames && 1 ≤ s.frameNo && (s.quad q).upFrame != some n) fun s =>
    let s := s.modQuad q fun x => { x with upFrame := some n }
    let s := (quadChans q).foldl (fun s c => s.firstSample c (bit f.sent.pins (localOf c).val) n) s
    let w := s.dieWord q f.sent n ^^^ f.err
    if frameGood w then s.goodUplink q w else s.lostUplink q n)

/-! ## FIELD_WATCHDOG_EXPIRY (R30, R85, R214, R511) -/

/-- The silence time has passed: safe values in single mode, off and released in a pair. Silence counts from the end of a good
frame (R30), so none is counted before the first one after a synchronisation (log entry 107). -/
def execFieldWatchdogExpiry (dt : Nat) (q : QuadId) (s : State) : Host.Outcome State Fault Refusal :=
  let s := s.elapse dt
  let x := s.quad q
  let silent := match x.lastGood with | some t => decide (t + x.silence * 1000 ≤ s.clock) | none => false
  .next (s.when (s.powered q && silent && !x.fwTrig && !x.released) fun s =>
    let s := s.retrigger fun s => s.modQuad q fun x => { x with fwTrig := true, released := s.inPair }
    s.driveSelf fun c => quadOf c == q)

end Sys2Proof.Machine
end

