-- ==== Sys2Proof/Machine/Buttress.lean ====
section
/-!
DEFINITION. Buttress and what runs in time beside the frames: admission, deferral, test pulses, generator edges, the safe
levels of the field dies, SAFE_N and the host watchdog (R109–R111, R163–R170, R191, R213, R219–R228, R241–R252).
-/
namespace Sys2Proof.Machine
open Sys2Proof

/-! ## Admission (R42, R43, R241–R247) -/

/-- Requests whose unit may not switch on yet have not reached Buttress; one that has been tested counts its deferral on (R197,
R198, R243). -/
def State.holdBack (s : State) (q : QuadId) : State :=
  let f := s.frameNo
  { s with reqs := s.reqs.map fun r => if quadOf r.chan == q && !s.readyReq r && r.tested.isNone then { r with frame := f } else r }
/-- The request that is tested next in this frame (R42, R241). -/
def State.nextReq (s : State) (q : QuadId) : Option Req :=
  (s.reqs.filter fun r => quadOf r.chan == q && s.readyReq r && r.tested != some s.frameNo).foldl (fun best r =>
    match best with
    | some b => if r.before b then some r else best
    | none => some r) none
/-- SWITCH_ON_ADMIT: the next request is tested; one that fails waits (R241). A frame whose channel status was lost admits
nothing (R387). -/
def execSwitchOnAdmit (dt : Nat) (q : QuadId) (s : State) : Host.Outcome State Fault Refusal :=
  let s := s.elapse dt
  .next (s.when (s.up && s.holdsRole && !(s.quad q).statusMiss) fun s =>
    let s := s.holdBack q
    match s.nextReq q with
    | none => s
    | some r =>
      if r.rank == 0 then s.fireHard r else
      let n := s.testReq r
      if n == 0 then s.grant r (r.frame < s.frameNo)
      else
        let f := s.frameNo
        let s := { s with reqs := s.reqs.map fun x => if x.seq == r.seq then { x with tested := some f, failed := n } else x }
        if r.failed == 0 && r.src != .restart then s.modQuad q fun x => { x with deferred := x.deferred + 1 } else s)
/-- A request is refused (R224, R243, R246). -/
def State.refuse (s : State) (r : Req) (test : Nat) : State :=
  let s := (s.overBudget r 3 test).dropChange r
  let s := { s with reqs := s.reqs.filter fun x => x.seq != r.seq }
  let s := if r.kind == .level then s.modChan r.chan fun x => { x with ref := false } else s
  s.settleReq r .refused
/-- DEFERRAL_LIMIT: a request has waited D_max and still fails a test; DPOL decides, and an ADMIT waits for a freeze to end
(R43, R243–R245). -/
def execDeferralLimit (dt : Nat) (c : ChanId) (s : State) : Host.Outcome State Fault Refusal :=
  let s := s.elapse dt
  let l := s.lead c
  .next (s.when (s.up && s.holdsRole && !(s.quad (quadOf l)).statusMiss) fun s =>
    let s := s.holdBack (quadOf l)
    match s.reqs.find? fun r => r.chan == l && r.rank != 0 && r.rank != 3 with
    | none => s
    | some r =>
      let n := s.testReq r
      let w := (s.chan l).budw
      if !s.readyReq r || s.frameNo < r.frame + 100 * buDmax w || n == 0 then s
      else if buRefuse w then s.refuse r n
      else if n == 1 then s
      else (s.overBudget r 2 n).grant r (r.frame < s.frameNo))

/-! ## Test pulses (R191, R250–R252) -/

/-- Device time of the last pulse, for the rotation. -/
def Chan.testKey (x : Chan) : Nat := match x.testLast with | some t => t + 1 | none => 0
/-- TEST_PULSE_START: into headroom, one at a time in a quadrant, in rotation over the channels that are due; one that has
waited over a second counts as delayed (R252). The driver follows with the next frames. -/
def execTestPulseStart (dt : Nat) (c : ChanId) (s : State) : Host.Outcome State Fault Refusal :=
  let s := s.elapse dt
  let q := quadOf c
  let turn := (quadChans q).all fun d => !(s.testDue d && (s.chan d).testKey < (s.chan c).testKey)
  let one := (quadChans q).all fun d => (s.chan d).test == .idle
  .next (s.when (s.up && s.holdsRole && s.testDue c && turn && one && decide (1 / 10 ≤ s.headroom q (s.inom c))) fun s =>
    let t := s.now
    let late := decide ((s.chan c).testFrom + 1000000000 < t)
    let s := s.modQuad q fun x => { x with testDelays := x.testDelays + b2n late }
    (s.members c).foldl (fun s m => s.modChan m fun x => { x with test := .running, testEnd := none, chgAt := t, testLast := some t }) s)
/-- What the land of one member showed at the end of a pulse (R158, R191). -/
def State.testSeen (s : State) (m : ChanId) (rose : Bool) : State :=
  if rose then s.clearDiag m 9 else if bit (s.chan m).standing 9 then s else s.raiseDiag m 9
/-- TEST_PULSE_END, 200 µs after the driver switched on: rose, and roseOdd for a gang's odd channel, tell whether the land came
above the readback threshold; the driver goes off with the next good frame, unless the channel has been switched on meanwhile
(R26, R158, R191). -/
def execTestPulseEnd (dt : Nat) (c : ChanId) (rose : Bool × Bool) (s : State) : Host.Outcome State Fault Refusal :=
  let s := s.elapse dt
  let l := s.lead c
  let x := s.chan l
  let ends := x.test == .running && match x.testEnd with | some t => decide (t ≤ s.dieNow) | none => false
  .next (s.when (s.linked (quadOf c) && ends) fun s =>
    let stays := s.demand l && !s.fieldOff l
    let t := s.now
    (s.members l).foldl (fun s m =>
      let w := chSettle (s.chwOf m) * 1000
      (s.testSeen m (if m == l then rose.1 else rose.2)).modChan m fun x =>
        if stays then { x with test := .idle, testEnd := none, settle := some (t + w), checkDue := true, ovFrom := t }
        else { x with test := .ending, testEnd := none, chgAt := t }) s)

/-! ## Generator edges (R219–R228, R230, R313) -/

/-- The generator with a due change carried out, at the end of its period or at the first new-grid period start after that, or
with the offset that the spread now gives it (R224, R228). -/
def State.genNext (s : State) (c : ChanId) (g : Gen) : Gen :=
  match g.next with
  | some (w, e) =>
    let ph := s.spreadPhase c w
    let at_ := if genStartAnchored w then e else gridStart w ph e
    if at_ ≤ s.now then { g with pulw := w, start := at_, phase := ph, next := none, hold := 0, onUntil := 0 } else s.respreadGen c g
  | none => s.respreadGen c g
/-- The instant of the last level change, the end of the old period while a change waits for its grid (R219, R224, R313). -/
def Gen.lastEdge (g : Gen) (budw : Word64) (t : Nat) : Nat :=
  match g.next with
  | some (_, e) => if e ≤ t then e else g.edgeAt budw t
  | none => g.edgeAt budw t
/-- Currents of a unit in µA by the latest sense codes, its channel's and a gang's odd one's (R230, R231). -/
def State.unitUa (s : State) (l : ChanId) : Nat × Nat :=
  let ua (c : ChanId) : Nat := (s.sensedMa c * 1000).floor.toNat
  (ua l, if s.ganged l then ua (nextChan l) else 0)
/-- PULSE_EDGE: the generator's level follows its phase, from the instant of its edge; the current of a finished on-phase is
measured, of one without an off-phase at each new period (R219, R220, R230). -/
def execPulseEdge (dt : Nat) (c : ChanId) (s : State) : Host.Outcome State Fault Refusal :=
  let s := s.elapse dt
  .next (s.when (s.up && s.holdsRole) fun s =>
    match (s.chan c).gen with
    | none => s
    | some g =>
      let t := s.now
      let x := s.chan c
      let h := s.genNext c g
      let lvl := h.levelAt x.budw t
      let edge := h.lastEdge x.budw t
      let on := genOn (g.runs x.budw)
      let over_ := g.lvl && (!lvl || on == genPeriod g.pulw)
      let fresh := over_ && x.drv && decide (edge ≤ x.senseAt + on && x.senseAt < edge)
      let h := { h with lvl := lvl, measured := if fresh then some (s.unitUa c) else g.measured }
      let s := s.modChan c fun x => { x with gen := some h, chgAt := if lvl == g.lvl then x.chgAt else edge - 1600 }
      if lvl == g.lvl then s else s.pwmTrigger c lvl edge)

/-! ## Safe levels in the field dies (R163–R168) -/

/-- SAFE_PULSE_EDGE: a safe train changes its channel's level (R163). -/
def execSafePulseEdge (dt : Nat) (c : ChanId) (s : State) : Host.Outcome State Fault Refusal :=
  let s := s.elapse dt
  let l := s.lead c
  .next (s.when (s.powered (quadOf c) && (s.chan l).safe == .pulse && (s.chan l).safeGate) fun s =>
    let ms := s.members l
    s.driveSelf fun m => ms.contains m)
/-- Units that a safe ON or PULSE is still to switch on in the die, through steps 1 to 4 of R197 and not in a hold (R165, R212,
R214, R216). -/
def State.safeWaits (s : State) (q : QuadId) : List ChanId :=
  let k := s.quad q
  (s.leads q).filter fun l =>
    let x := s.chan l
    s.safeUnder l k.dieArmed && (x.safe == .on || x.safe == .pulse) && !x.safeGate && !s.fieldOff l && s.coolEnough l &&
    !s.holding q && !k.released && !(k.fwTrig && s.inPair)
/-- SAFE_SWITCH_ON: at most two channels a frame in ascending local index; a train that returns keeps its phase (R165, R168). -/
def execSafeSwitchOn (dt : Nat) (q : QuadId) (s : State) : Host.Outcome State Fault Refusal :=
  let s := s.elapse dt
  let f := s.dieNow / 1000
  .next (s.when (s.powered q && (s.quad q).safeFrame != some f) fun s =>
    let go := match s.safeWaits q with
      | a :: b :: _ => if s.ganged a || s.ganged b then [a] else [a, b]
      | l => l
    let k := s.clock
    let s := go.foldl (fun s l => s.modChan l fun x => { x with safeGate := true, safeStart := some (x.safeStart.getD k) }) s
    let s := if go.isEmpty then s else s.modQuad q fun x => { x with safeFrame := some f }
    let ms := go.flatMap s.members
    s.driveSelf fun c => ms.contains c)
/-- SAFE_N_LOW: low for 1 µs; it acts on every quadrant, armed or not, and starts the 1 ms of R170 again (R31, R169). -/
def execSafeNLow (dt : Nat) (s : State) : Host.Outcome State Fault Refusal :=
  let s := s.elapse dt
  let s := { s with safeNAt := s.clock }
  .next (s.when (!s.safeN) fun s => (s.retrigger fun s => { s with safeN := true }).driveSelf fun _ => true)
/-- SAFE_N_CLEAR: 1 ms without a low (R168, R170). -/
def execSafeNClear (dt : Nat) (s : State) : Host.Outcome State Fault Refusal :=
  let s := s.elapse dt
  .next (s.when (s.safeN && decide (s.safeNAt + 1000000 ≤ s.clock)) fun s =>
    (s.retrigger fun s => { s with safeN := false }).driveSelf fun _ => true)

/-! ## Host watchdog (R109–R112, R115) -/

/-- HOST_WATCHDOG_EXPIRY: PERIOD without a restart; each quadrant's action, a DISARM with the delta of its command (R106, R110,
R513). -/
def execHostWatchdogExpiry (dt : Nat) (s : State) : Host.Outcome State Fault Refusal :=
  let s := s.elapse dt
  let h := s.host
  .next (s.when (s.up && s.holdsRole && h.wdPeriod != 0 && !h.wdFired && h.wdLast + h.wdNs ≤ s.now) fun s =>
    let s := ((s.modHost fun h => { h with wdExpired := true, wdFired := true }).noteSet 12).raiseCause 0
    let act (q : QuadId) : Nat := fld h.wdAct (2 * q.val) 2
    let s := (List.finRange 4).foldl (fun s q =>
      if act q == 0 then s
      else if act q == 2 then s.disarmQuad q
      else s.retrigger fun s => s.modQuad q fun x => { x with hwTrig := true }) s
    if (List.finRange 4).any fun q => act q == 2 then s.configured none else s)

end Sys2Proof.Machine
end

