-- ==== Sys2Proof/Machine/CourseCmd.lean ====
section
/-!
DEFINITION. COURSE_LOAD and COURSE_SWAP, the wrap that ends a swap, and the prefetch refill (R36, R119, R156, R275–R282,
R291–R295, R387, R406, R482, R513, R551, R552).
-/
namespace Sys2Proof.Machine
open Sys2Proof

/-! ## COURSE_LOAD -/

def dBankWord (d : Desc) : Word64 := d64 d 16
def dCBank (d : Desc) : CBankId := ⟨dNum d 4 1 % 2, by omega⟩
/-- R280 step 1 on the descriptor; a load of no entries does not use its address, which must be 0 then (R469). -/
def courseBad (d : Desc) (p : Bool) : Option Nat :=
  firstBad d p false [(4, 1), (8, 16)]
    [(1 < dNum d 4 1, 4), (bwCount (dBankWord d) == 0 && d64 d 8 != 0, 8), (bankwBad (dBankWord d), 16)]
/-- The entries of a table. -/
def tableOf (count : Nat) (bs : List Byte) : List (Entry × Bool) := (List.range count).map (entryAt bs)
/-- R280 step 1 on the entries: the lowest offending index. -/
def tableFieldBad (t : List (Entry × Bool)) : Option Nat :=
  let prev : List (Option Nat) := none :: t.map fun e => some e.1.angle.toNat
  (t.zip prev).findIdx? fun p => entryBad p.1.1 p.1.2 || (match p.2 with | some a => decide (p.1.1.angle.toNat < a) | none => false)
/-- R36, R119, R156 on an entry. A gang is declared, and a channel is taken out of OUTPUT mode, from the acceptance of its
CH_CONFIG on, so that no entry that R122 keeps out can be loaded while one crosses to the field. -/
def State.entryStateBad (s : State) (e : Entry) : Bool :=
  (entryChans e).any fun c => !s.courseOwned c ||
    (enChanAction e && (!chIsOutput (s.chwOf c) || !chIsOutput (s.lastChw c) || s.isOdd c || s.lastOdd c))
/-- R280 step 3: the first entry of the seventeenth lead class. -/
def leadsBad (t : List Entry) : Option Nat :=
  let ls := (t.map enLead).eraseDups
  if ls.length ≤ 16 then none else t.findIdx? fun e => enLead e == ls.getD 16 0
/-- Write a bank with its check value (R279, R281, R551, R554). -/
def State.putBank (s : State) (b : CBankId) (es : List Entry) (w : Word64) : State :=
  let k : CBank := { entries := es, tcoast := bwTcoast w, fpol := bwFpol w, suspect := false }
  let s := s.modCourse fun c =>
    { c with banks := c.banks.set b k
             bad := c.bad.filter fun x => x.1 != b
             due := c.due.filter fun x => x.bank != b }
  { s with vault := { s.vault with cb := s.vault.cb.set b (bankCrc k) }, cfgGen := s.cfgGen + 1 }
def courseRegion (b : CBankId) : Nat := 0x10000 + 0x20000 * b.val
/-- The whole of R280 and R281 has passed: the bank is written and the load completes. -/
def State.courseDone (s : State) (q : QueueId) (n : Word32) (d : Desc) (es : List Entry) (crc : Word32) : State :=
  let b := dCBank d
  (((s.putBank b es (dBankWord d)).configured none false).copyDelta (courseRegion b) (es.flatMap entryBytes)).complete q n .done 0 s.now (crc.setWidth 128)
/-- The checks on a table, then f (R280). -/
def State.courseChecks (s : State) (q : QueueId) (n : Word32) (d : Desc) (bs : List Byte) (f : State → State) : State :=
  let t := tableOf (bwCount (dBankWord d)) bs
  match tableFieldBad t with
  | some i => s.finish q n .rejField i
  | none =>
    if s.course.active == dCBank d || s.course.swap.isSome then s.finish q n .rejState 0 else
    match t.findIdx? fun e => s.entryStateBad e.1 with
    | some i => s.finish q n .rejState i
    | none => match leadsBad (t.map (·.1)) with
      | some i => s.finish q n .rejCapacity i
      | none => f s
/-- COURSE_LOAD: the descriptor's fields, then the first read of the table; COUNT 0 reads nothing. -/
def execCourseLoad (dt : Nat) (q : QueueId) (n : Word32) (s : State) : Host.Outcome State Fault Refusal :=
  let s := s.elapse dt
  .next (s.io q n (isOp 0x30) (fun _ => [(0x10, 2)]) courseBad fun d s =>
    let len := 16 * bwCount (dBankWord d)
    if len == 0 then
      s.courseChecks q n d [] fun s => (s.overtake 1 (dCBank d).val).courseDone q n d [] (crc32c [])
    else (s.addOp q n .data).emit (.dataRead (d64 d 8) len))
/-- The first pass has been read and is checked; the second pass is read again, and overwrites the bank (R280, R552). -/
def State.coursePass1 (s : State) (q : QueueId) (n : Word32) (d : Desc) (bs : List Byte) : State :=
  s.courseChecks q n d bs fun s =>
    let s := { s with ops := s.ops.filter fun o => !(o.live && o.q == q && o.n == n) }
    ((s.addOp q n (.coursePass2 (crc32c bs))).overtake 1 (dCBank d).val).emit (.dataRead (d64 d 8) bs.length)
/-- The second pass has been read: the entries are written, or the bank is left empty (R281). -/
def State.coursePass2 (s : State) (q : QueueId) (n : Word32) (d : Desc) (crc : Word32) (bs : List Byte) : State :=
  if crc32c bs == crc then s.courseDone q n d ((tableOf (bwCount (dBankWord d)) bs).map (·.1)) crc
  else ((s.putBank (dCBank d) [] (dBankWord d)).configured none false).finish q n .rejCheck 0xCC00

/-! ## COURSE_SWAP (R292–R295) -/

/-- The wrap at which a swap requested now applies, as an absolute revolution number (R292). -/
def State.swapWrap (s : State) : Int :=
  let v := s.firePos
  let next := (v / 4294967296).floor + 1
  if !s.ang.fwd then next else
  let leads := (s.cbank 0).leads ++ (s.cbank 1).leads
  let most := (leads.map (advance s.fireSpeed)).foldl max 0
  let edge : Rat := (next : Rat) * 4294967296
  if edge ≤ v + most || s.course.fronts.any fun (f : Front) => decide (edge ≤ f.ext) then next + 1 else next
/-- A swap is requested (R292, R295). -/
def State.courseSwapRun (s : State) (immediate : Bool) (who : Option (QueueId × Word32)) : State :=
  let w : Swap := { wrap := s.swapWrap, who := who }
  let v := rpmUnits (trVstall s.ang.trkw)
  if s.course.swap.isSome then s.completeWho who .rejState 0 s.now 0
  else if !s.firing then s.swapNow w false
  else if immediate then
    if -v < s.omegaNow && s.omegaNow < v then s.swapNow w false else s.completeWho who .rejState 0 s.now 0
  else s.modCourse fun c => { c with swap := some w, fronts := c.fronts ++ s.newFronts (1 - c.active) s.lam }
/-- In a pair a swap starts once the bank's copy is committed (R513). -/
def State.courseSwap (s : State) (q : QueueId) (n : Word32) (immediate : Bool) : State :=
  if s.copyWaits (courseRegion (1 - s.course.active)) 0x20000 then s.addOp q n (.swapWait immediate)
  else s.courseSwapRun immediate (some (q, n))
/-- COURSE_SWAP. -/
def execCourseSwap (dt : Nat) (q : QueueId) (n : Word32) (s : State) : Host.Outcome State Fault Refusal :=
  let s := s.elapse dt
  .next (s.io q n (fun d => isOp 0x31 d && !dCspec d) (fun _ => [(0x10, 4)]) (fun d p => firstBad d p true [] []) fun _ s =>
    s.angleTick.courseSwap q n false)
/-- COURSE_SWAP with IMMEDIATE. -/
def execCourseSwapImmediate (dt : Nat) (q : QueueId) (n : Word32) (s : State) : Host.Outcome State Fault Refusal :=
  let s := s.elapse dt
  .next (s.io q n (fun d => isOp 0x31 d && dCspec d) (fun _ => [(0x10, 4)]) (fun d p => firstBad d p true [] []) fun _ s =>
    s.angleTick.courseSwap q n true)
/-- SWAP_DONE: θ̂ crosses the wrap in forward motion; the extrapolation of COASTING serves for firing alone (R271, R293). -/
def execSwapDone (dt : Nat) (s : State) : Host.Outcome State Fault Refusal :=
  let s := s.elapse dt
  .next (s.when (s.up && s.firing) fun s =>
    let s := s.angleTick
    match s.course.swap with
    | some w => if s.ang.fwd && (w.wrap : Rat) * 4294967296 ≤ s.thetaNow then s.swapEnd w false else s
    | none => s)

/-- COURSE_REFILL: a class gets its next 16 entries once 8 remain; bad: an entry whose read met an uncorrectable error,
which will not fire (R387, R406). -/
def execCourseRefill (dt : Nat) (b : CBankId) (lead : Nat) (bad : Option Nat) (s : State) : Host.Outcome State Fault Refusal :=
  let s := s.elapse dt
  let mine (f : Front) : Bool := f.bank == b && f.lead == lead && f.pre ≤ 8
  .next (s.when (s.up && s.course.fronts.any mine) fun s =>
    let s := s.modCourse fun c => { c with fronts := c.fronts.map fun (f : Front) => if mine f then { f with pre := f.pre + 16 } else f }
    match bad with
    | some i => (s.modCourse fun c => { c with bad := (b, i) :: c.bad }).vaultUe (0x20000 * b.val + 16 * i)
    | none => s)

end Sys2Proof.Machine
end

