-- ==== Sys2Proof/Machine/CourseEntry.lean ====
section
/-!
DEFINITION. The firing of a course entry, one command for each action (R39, R107, R119, R155, R198, R203, R222–R224,
R283–R291, R296–R298, R387, R391, R395, R406, R554).
-/
namespace Sys2Proof.Machine
open Sys2Proof

/-- The class of an entry has it prefetched (R406). -/
def State.prefetched (s : State) (x : Due) : Bool :=
  match (s.cbank x.bank).entries[x.idx]? with
  | some e => s.course.fronts.all fun (f : Front) => !(f.bank == x.bank && f.lead == enLead e) || f.pre != 0
  | none => false
/-- The entry that fires next: the first of those reached, one per ANGLE tick; an entry whose class waits for a refill lets
others pass (R285, R406). -/
def State.nextDue (s : State) : Option Due :=
  if !s.firing || s.course.lastFire == some (s.now / 8) then none else s.course.due.find? s.prefetched
/-- An entry that does not act, counted once whatever number of its channels it concerns (R299). -/
def State.notApplied (s : State) : State :=
  if s.course.counted.contains s.course.firing then s else
  s.modCourse fun c => { c with notApplied := c.notApplied + 1, counted := s.countedWith c.firing }
/-- The entry that fires next, if it is entry i of bank b with this action, fires: an entry of a SUSPECT bank, or one that
its read found damaged, does not act (R285, R387, R554). -/
def State.fireEntry (s : State) (b : CBankId) (i : Nat) (action : Nat) (f : State → Entry → State) : State :=
  if !(s.up && s.holdsRole) then s else
  let s := s.angleTick
  match s.nextDue, (s.cbank b).entries[i]? with
  | some x, some e =>
    if x.bank != b || x.idx != i || e.action.toNat != action then s else
    let tick := s.now / 8
    let s := s.modCourse fun c =>
      { c with lastFire := some tick, firing := c.firing + 1, due := c.due.erase x
               fronts := c.fronts.map fun (g : Front) =>
                 if g.bank == b && g.lead == enLead e then { g with pre := g.pre - 1 } else g }
    if (s.cbank b).suspect || s.course.bad.contains (b, i) then s.notApplied
    else f (s.modCourse fun c => { c with fired := c.fired + 1 }) e
  | _, _ => s
/-- The Course engine's right to act on a quadrant (R592, R593). -/
def State.courseMay (s : State) (q : QuadId) (f : State → State) : State :=
  if s.allowed 9 (0x30 + q.val) 4 then f s else s.deny 9 (0x30 + q.val) 4
def enChan (e : Entry) : ChanId := ⟨e.target.toNat % 128, by omega⟩
def srcOf (e : Entry) (i : Nat) : ReqSrc := if enHard e then .courseHard i else .courseSoft i
/-- An action on one channel: applied by f, or counted as not applied (R39, R107, R198). -/
def State.courseChan (s : State) (e : Entry) (f : State → ChanId → State × Verdict) : State :=
  let l := s.lead (enChan e)
  s.courseMay (quadOf l) fun s =>
    if !s.accepts true l then s.notApplied else
    match f s l with
    | (s, .notApplied) => s.notApplied
    | (s, _) => s
/-- The reference of a channel's unit: its generator's level, or the level its owner set (R38, R203). -/
def State.refLevel (s : State) (c : ChanId) : Bool :=
  let x := s.chan (s.lead c)
  match x.gen with | some g => g.lvl | none => x.ref

/-- OUT_ON (R43, R242, R286). -/
def execOutOn (dt : Nat) (b : CBankId) (i : Nat) (s : State) : Host.Outcome State Fault Refusal :=
  let s := s.elapse dt
  .next (s.fireEntry b i 1 fun s e => s.courseChan e fun s l => s.setLevel l true (srcOf e i))
/-- OUT_OFF (R40, R286). -/
def execOutOff (dt : Nat) (b : CBankId) (i : Nat) (s : State) : Host.Outcome State Fault Refusal :=
  let s := s.elapse dt
  .next (s.fireEntry b i 2 fun s e => s.courseChan e fun s l => s.setLevel l false (srcOf e i))
/-- OUT_TOGGLE (R287). -/
def execOutToggle (dt : Nat) (b : CBankId) (i : Nat) (s : State) : Host.Outcome State Fault Refusal :=
  let s := s.elapse dt
  .next (s.fireEntry b i 3 fun s e => s.courseChan e fun s l => s.setLevel l (!s.refLevel l) (srcOf e i))
/-- PULSE_START, with its duty override (R222, R277). -/
def execPulseStart (dt : Nat) (b : CBankId) (i : Nat) (s : State) : Host.Outcome State Fault Refusal :=
  let s := s.elapse dt
  .next (s.fireEntry b i 4 fun s e => s.courseChan e fun s l =>
    let w := (s.chan l).pulw
    s.startGen l (if bit e.param 31 then putFld w 20 11 (fld e.param 0 11) else w) w (srcOf e i))
/-- PULSE_STOP (R223). -/
def execPulseStop (dt : Nat) (b : CBankId) (i : Nat) (s : State) : Host.Outcome State Fault Refusal :=
  let s := s.elapse dt
  .next (s.fireEntry b i 5 fun s e => s.courseChan e fun s l => s.stopGen l)
/-- BANK_WRITE: the channels of the bank in OUTPUT mode; a gang by its even channel (R119, R155). An entry with a channel
that its level is not applied to counts once. -/
def execBankWrite (dt : Nat) (b : CBankId) (i : Nat) (s : State) : Host.Outcome State Fault Refusal :=
  let s := s.elapse dt
  .next (s.fireEntry b i 6 fun s e =>
    let cs := allChans.filter fun c => c.val / 8 == e.target.toNat % 16 && s.isOutput c && !s.isOdd c
    let qd : QuadId := ⟨e.target.toNat % 16 / 4, by omega⟩
    s.courseMay qd fun s =>
      let r := cs.foldl (fun (r : State × Bool) c =>
        if !r.1.accepts true c then (r.1, true) else
        match r.1.setLevel c (bit e.param (c.val % 8)) (srcOf e i) with
        | (s, .notApplied) => (s, true)
        | (s, _) => (s, r.2)) (s, false)
      if r.2 then r.1.notApplied else r.1)
/-- ADC_TRIGGER (R287, R312). -/
def execAdcTrigger (dt : Nat) (b : CBankId) (i : Nat) (s : State) : Host.Outcome State Fault Refusal :=
  let s := s.elapse dt
  .next (s.fireEntry b i 0x10 fun s e =>
    let q : QuadId := ⟨e.target.toNat / 64 % 4, by omega⟩
    let k : SlotId := ⟨e.target.toNat % 64, by omega⟩
    let w := (s.slot q k).w0
    if slTrig w == 1 then s.trigSlot q k (s.now + 1600 + delayNs w)
    else s.modCourse fun c => { c with adcIgnored := c.adcIgnored + 1 })

/-- What a snapshot holds of a channel: its levels now, and inputs and states as last received (R296, R489). -/
def State.snapChan (s : State) (c : ChanId) : SnapChan :=
  let x := s.chan c
  { levels := BitVec.ofNat 8 (b2n (s.refLevel c) + 2 * b2n x.drv + 4 * b2n x.inSt + 8 * chMode (s.chwOf c) + 64 * b2n (s.courseOwned c))
    dstate := x.dstate.setWidth 8, sense := s.senseWord c, sage := min 32 ((s.now - x.senseAt) / 1000) }
/-- Slots that the archive holds (R391). -/
def State.archCap (s : State) : Nat := laArch s.vault.layout * 65536 / 1152
/-- SNAPSHOT: at most one a frame, none while FROZEN or without an archive (R296, R297, R391, R395). -/
def execSnapshot (dt : Nat) (b : CBankId) (i : Nat) (s : State) : Host.Outcome State Fault Refusal :=
  let s := s.elapse dt
  .next (s.fireEntry b i 0x11 fun s e =>
    let drop (s : State) : State := s.modCourse fun c => { c with snapDrop := c.snapDrop + 1 }
    if s.arch.st == .frozen || s.archCap == 0 then drop (s.modArch fun a => { a with dropped := a.dropped + 1 })
    else if s.course.lastSnap == some s.frameNo then drop s
    else
      let qs : Byte := BitVec.ofNat 8 (s.armedByte.toNat + 16 * s.safeActByte.toNat)
      let x : ArchSlot :=
        { seq := s.arch.nextSeq, time := s.now, angle := e.angle, rev := revWord s.thetaNow, speed := speedOf s.omegaNow
          entry := i, coasting := s.ang.st == .coasting, lclass := s.lclassByte, qstate := qs, chans := Vector.ofFn s.snapChan }
      let f := s.frameNo
      let cap := s.archCap
      (s.modArch fun a => { a with slots := x :: a.slots.filter (fun y => (x.seq - y.seq).toNat < cap), nextSeq := a.nextSeq + 1 }).modCourse fun c =>
        { c with lastSnap := some f })
/-- MARK (R298). -/
def execMark (dt : Nat) (b : CBankId) (i : Nat) (s : State) : Host.Outcome State Fault Refusal :=
  let s := s.elapse dt
  .next (s.fireEntry b i 0x12 fun s e => s.mark 1 0 e.param e.angle i)
/-- SYNC_FIRE (R374, R375). -/
def execSyncFire (dt : Nat) (b : CBankId) (i : Nat) (s : State) : Host.Outcome State Fault Refusal :=
  let s := s.elapse dt
  .next (s.fireEntry b i 0x13 fun s _ => s.syncAll (s.dspTick (s.now + 16)) false)

end Sys2Proof.Machine
end

