-- ==== Sys2Proof/Machine/DataCmd.lean ====
section
/-!
DEFINITION. The data commands RECORD_BUFFER, ARCHIVE_FREEZE, ARCHIVE_READ, PLUMB_SCAN and SIDEBAND_SEND, and Plumb's scans
and background passes with the scrubber (R97, R385–R387, R391–R400, R442, R483, R548–R555, R569, R571).
-/
namespace Sys2Proof.Machine
open Sys2Proof

/-! ## RECORD_BUFFER (R97, R442) -/

def bufBad (d : Desc) (p : Bool) : Option Nat :=
  let len := dNum d 16 4
  firstBad d p false [(8, 8), (16, 4)]
    [(dNum d 8 1 % 64 != 0, 8), (len % 64 != 0 || len < 4096 || 16777216 < len, 16)]
/-- A FIELD_STATE record that is due goes ahead of every staged record (R97, R467). -/
def State.stageField (s : State) : State :=
  match s.fieldDue with
  | none => s
  | some cause =>
    let r := s.fieldRecord cause
    let s := { s with fieldDue := none }
    if s.route r == 0x40 then s else { s with staging := (r, none) :: s.staging }
/-- RECORD_BUFFER: the buffer is posted; its completion waits for its retirement. -/
def execRecordBuffer (dt : Nat) (q : QueueId) (n : Word32) (s : State) : Host.Outcome State Fault Refusal :=
  let s := s.elapse dt
  .next (s.io q n (isOp 0x48) (fun _ => [(0x16, 1)]) bufBad fun d s =>
    let b : RecBuf := { num := n, addr := d64 d 8, len := dNum d 16 4, used := 0, firstAt := none }
    (s.modQueue q fun u => { u with bufs := u.bufs ++ [b] }).stageField)

/-! ## The archive (R391–R400) -/

/-- ARCHIVE_FREEZE FREEZE: completes once the archive is FROZEN (R393, R394). -/
def execArchiveFreeze (dt : Nat) (q : QueueId) (n : Word32) (s : State) : Host.Outcome State Fault Refusal :=
  let s := s.elapse dt
  .next (s.io q n (fun d => isOp 0x49 d && dNum d 4 1 == 0) (fun _ => [(0x17, 4)])
    (fun d p => firstBad d p false [(4, 2)] []) fun d s =>
      let was := s.arch.st
      let s := s.archTrigger 0 0 (dNum d 5 1) (some (q, n))
      if was != .recording then s.finish q n .rejState 0 else s.archDone)
/-- ARCHIVE_FREEZE RELEASE; an ARCHIVE_FREEZE that still waits for FROZEN completes with it (R396, log entry 27). -/
def execArchiveRelease (dt : Nat) (q : QueueId) (n : Word32) (s : State) : Host.Outcome State Fault Refusal :=
  let s := s.elapse dt
  .next (s.io q n (fun d => isOp 0x49 d && dNum d 4 1 == 1) (fun _ => [(0x17, 4)])
    (fun d p => firstBad d p false [(4, 1)] []) fun _ s =>
      let w := s.arch.waiter
      let s := (s.modArch fun a => { a with st := .recording, left := 0, waiter := none }).completeWho w .done 0 s.now
        (BitVec.setWidth 128 s.arch.trigSeq)
      s.finish q n .done 0)
/-- ARCHIVE_READ: one ARCHIVE record for each slot named that is valid and that staging has room for (R399, R446). -/
def execArchiveRead (dt : Nat) (q : QueueId) (n : Word32) (s : State) : Host.Outcome State Fault Refusal :=
  let s := s.elapse dt
  .next (s.io q n (isOp 0x4A) (fun _ => [(0x17, 1)])
    (fun d p => firstBad d p false [(4, 6)] [(dNum d 8 2 < 1 || 4096 < dNum d 8 2, 8)]) fun d s =>
      let seqs := (List.range (dNum d 8 2)).map fun i => d32 d 4 + BitVec.ofNat 32 i
      let r := seqs.foldl (fun (r : State × List Word32) sq =>
        match r.1.arch.slots.find? fun x => x.seq == sq with
        | none => r
        | some x => match r.1.stage (.archive x) with
          | (s, true) => (s, r.2 ++ [sq])
          | (s, false) => (s, r.2)) (s, [])
      let first := (r.2.head?.getD 0).toNat
      let last := (r.2.getLast?.getD 0).toNat
      r.1.complete q n .done 0 s.now (resultOf (leBytes 4 first ++ leBytes 4 last ++ leBytes 4 (seqs.length - r.2.length))))

/-! ## PLUMB_SCAN (R548–R550) -/

def dCtx (d : Desc) : CtxId := ⟨dNum d 4 1 % 8, by omega⟩
def scanStart (d : Desc) : Nat := dNum d 8 8
def scanLen (d : Desc) : Nat := dNum d 16 4
/-- The region targets that a Vault range touches (R388, R592). -/
def State.rangeTargets (s : State) (a len : Nat) : List Nat :=
  let d := 0x120000 + laDstg s.vault.layout * 65536
  let r := d + laRstg s.vault.layout * 65536
  let e := r + laArch s.vault.layout * 65536
  let starts := [0x40000, 0x80000, 0x90000, 0xA0000, 0x120000, d, r, e].filter fun x => a < x && x < a + len
  ((a :: starts).map s.vaultTarget).eraseDups
def State.scanNeeds (s : State) (d : Desc) : List (Nat × Nat) :=
  if dNum d 5 1 == 0 then (s.rangeTargets (scanStart d) (scanLen d)).map fun t => (t, 1) else []
def State.ctxParams (s : State) (x : CtxId) : CrcParams := (polyParams (plPoly s.plumb[x].word)).getD ⟨32, 0x1EDC6F41, 0xFFFFFFFF, true, 0xFFFFFFFF⟩
def State.scanBad (s : State) (d : Desc) (p : Bool) : Option Nat :=
  firstBad d p false [(4, 3), (8, 12), (24, 8)]
    [(7 < dNum d 4 1, 4), (1 < dNum d 5 1, 5), (1 < dNum d 6 1, 6),
     (dNum d 5 1 == 0 && 0x1000000 < scanStart d + scanLen d, 8), (scanLen d < 1 || 16777216 < scanLen d, 16),
     (if dNum d 6 1 == 1 then 2 ^ (s.ctxParams (dCtx d)).width ≤ dNum d 24 8 else dNum d 24 8 != 0, 24)]
/-- A scan of a context starts: a host range is read (R550). -/
def State.scanStarts (s : State) (x : CtxId) (q : QueueId) (n : Word32) : State :=
  let s := s.modPlumb x fun p => { p with scan := some (q, n) }
  match (s.queue q).flight.find? fun e => e.num == n with
  | some e => if dNum e.desc 5 1 == 1 then s.emit (.dataRead (d64 e.desc 8) (scanLen e.desc)) else s
  | none => s
/-- PLUMB_SCAN: one scan or pass of a context at a time; it waits for the one that runs (R549). -/
def execPlumbScan (dt : Nat) (q : QueueId) (n : Word32) (s : State) : Host.Outcome State Fault Refusal :=
  let s := s.elapse dt
  .next (s.io q n (isOp 0x50) s.scanNeeds s.scanBad fun d s =>
    let p := s.plumb[dCtx d]
    if p.pass || p.scan.isSome || !p.scanWait.isEmpty then s.modPlumb (dCtx d) fun p => { p with scanWait := p.scanWait ++ [(q, n)] }
    else s.scanStarts (dCtx d) q n)
/-- A background pass starts (R549, R552). -/
def State.passStarts (s : State) (x : CtxId) : State :=
  let t := s.now
  let first := if plTarget s.plumb[x].word == 1 then s.course.active.val else 0
  s.modPlumb x fun p => { p with pass := true, passAt := t, passDue := false, obj := first, skip := [] }
/-- The context's scan or pass has ended: a due pass starts, or else the next scan that waits (R549). -/
def State.nextScan (s : State) (x : CtxId) : State :=
  let p := s.plumb[x]
  if p.passDue && plTarget p.word != 0 then s.passStarts x
  else match p.scanWait with
    | (q, n) :: rest => (s.modPlumb x fun p => { p with scanWait := rest }).scanStarts x q n
    | [] => s
/-- A byte of the Vault that the manual lets the model know; other bytes are as the scan read them. -/
def State.vaultByte (s : State) (a : Nat) (read : Byte) : Byte :=
  match s.vaultWord (a / 8 * 8) with | some w => w.extractLsb' (8 * (a % 8)) 8 | none => read
/-- PLUMB_SCAN_COMPLETE: data are the bytes read; ue: a Vault line had an uncorrectable error (R548–R550). -/
def execPlumbScanComplete (dt : Nat) (x : CtxId) (data : List Byte) (ue : Bool) (s : State) : Host.Outcome State Fault Refusal :=
  let s := s.elapse dt
  .next (s.when s.hostUp fun s =>
    match s.plumb[x].scan with
    | none => s
    | some (q, n) => match (s.queue q).flight.find? fun e => e.num == n with
      | none => (s.modPlumb x fun p => { p with scan := none }).nextScan x
      | some e =>
        let d := e.desc
        if data.length != scanLen d then s else
        let vault := dNum d 5 1 == 0
        let bytes := if vault then data.zipIdx.map fun b => s.vaultByte (scanStart d + b.2) b.1 else data
        let v := crc (s.ctxParams x) bytes
        let s := s.modPlumb x fun p => { p with scan := none }
        let s := if vault && ue then (s.vaultUe (scanStart d)).finish q n .rejCheck 0xECC0
          else if dNum d 6 1 == 1 && v != dNum d 24 8 then s.complete q n .rejCheck 0xCE00 s.now (BitVec.ofNat 128 v)
          else s.complete q n .done 0 s.now (BitVec.ofNat 128 v)
        s.nextScan x)

/-! ## Background passes and the scrubber (R386, R387, R549–R555) -/

/-- PLUMB_PASS_DUE (R549). -/
def execPlumbPassDue (dt : Nat) (x : CtxId) (s : State) : Host.Outcome State Fault Refusal :=
  let s := s.elapse dt
  let p := s.plumb[x]
  .next (s.when (s.up && plTarget p.word != 0 && !p.pass && !p.passDue && p.passAt + plSper p.word * 1000000 ≤ s.now) fun s =>
    if p.scan.isSome then s.modPlumb x fun p => { p with passDue := true } else s.passStarts x)
def sat8 (n : Nat) : Nat := min 255 (n + 1)
/-- The Vault addresses of a pass object and of its stored value (R388, R551). The coefficient region's layout gives a bank
256 words of 4 B in chain and bank order (log entry 28). -/
def objAddr (target obj : Nat) : Nat := if target == 1 then 0x20000 * obj else 0x40000 + 1024 * obj
def tableAddr (target obj : Nat) : Nat := 0x7FF00 + if target == 1 then 4 * obj else 0x80 + 4 * obj
/-- The stored value of an object (R551). -/
def State.stored (s : State) (target obj : Nat) : Word32 :=
  if target == 1 then s.vault.cb.toList.getD obj 0
  else if obj % 2 == 0 then s.vault.cfA.toList.getD (obj / 2) 0 else s.vault.cfB.toList.getD (obj / 2) 0
def State.setStored (s : State) (target obj : Nat) (v : Word32) : State :=
  let w := s.vault
  { s with vault :=
    if target == 1 then { w with cb := w.cb.mapIdx fun i x => if i == obj then v else x }
    else if obj % 2 == 0 then { w with cfA := w.cfA.mapIdx fun i x => if i == obj / 2 then v else x }
    else { w with cfB := w.cfB.mapIdx fun i x => if i == obj / 2 then v else x } }
/-- An object is marked SUSPECT (R554). -/
def State.suspect (s : State) (target obj : Nat) : State :=
  if target == 1 then s.modCourse fun c => { c with banks := c.banks.mapIdx fun i b => if i == obj then { b with suspect := true } else b }
  else { s with chains := s.chains.mapIdx fun i c =>
    if i != obj / 2 then c else if obj % 2 == 0 then { c with suspectA := true } else { c with suspectB := true } }
/-- An object of the pass ends and is compared (R552–R555). -/
def State.objectEnd (s : State) (x : CtxId) (value : Word32) (storedUe : Bool) : State :=
  let p := s.plumb[x]
  let t := plTarget p.word
  if p.skip.contains p.obj then s
  else if storedUe then
    let s := (s.setStored t p.obj value).vaultUe (tableAddr t p.obj)
    (s.modPlumb x fun p => { p with eccCnt := sat8 p.eccCnt }).logEvent 4 (objAddr t p.obj) true
  else if s.stored t p.obj != value then
    ((s.vaultUe (objAddr t p.obj)).suspect t p.obj).modPlumb x fun p => { p with misCnt := sat8 p.misCnt }
  else s
/-- PLUMB_PASS_END: an object of the background pass has been read; value is what the scan computed, storedUe an
uncorrectable error in its stored value. The pass ends with its last object (R549, R552–R555). -/
def execPlumbPassEnd (dt : Nat) (x : CtxId) (value : Word32) (storedUe : Bool) (s : State) : Host.Outcome State Fault Refusal :=
  let s := s.elapse dt
  .next (s.when (s.up && s.plumb[x].pass) fun s =>
    let p := s.plumb[x]
    let s := s.objectEnd x value storedUe
    if plTarget p.word == 2 && p.obj < 31 then s.modPlumb x fun p => { p with obj := p.obj + 1 }
    else (s.modPlumb x fun p => { p with pass := false, passCnt := sat8 p.passCnt }).nextScan x)

/-- An uncorrectable error that the scrubber finds acts by region, as R387 states. Descriptors and records in staging meet
theirs when they are read (R387). -/
def State.scrubUe (s : State) (status : Option QuadId) (a : Nat) : State :=
  let s := s.vaultUe a
  let t := s.vaultTarget a
  if t == 0x10 then
    let b : CBankId := if a < 0x20000 then 0 else 1
    let i := a % 0x20000 / 16
    s.modCourse fun c => { c with bad := (b, i) :: (b, i + 1) :: c.bad }
  else if t == 0x12 then
    let i := (a - 0x80000) / 32
    if h : i < 260 then
      let q : QuadId := ⟨i / 65, by omega⟩
      let k : SlotId := ⟨i % 65, by omega⟩
      s.modMeas q fun m =>
        let x := m.slots[k]
        let acc : Acc := { Reset.acc with miss := 1, flags := (x.acc.flags &&& 0x300) ||| 8 }
        { m with slots := m.slots.set k { x with acc := acc } }
    else s
  else if t == 0x13 then
    s.abandon
  else if t == 0x16 then
    match status with | some q => s.modQuad q fun x => { x with statusMiss := true } | none => s
  else if t == 0x17 then
    let cap := laArch s.vault.layout * 65536 / 1152
    let pos := (a - (0x120000 + (laDstg s.vault.layout + laRstg s.vault.layout) * 65536)) / 1152
    s.modArch fun r => { r with slots := r.slots.filter fun x => x.seq.toNat % cap != pos }
  else s
/-- SCRUB_REQUEST: the next line of a bank; a single-bit error is corrected and counted (R385–R387). -/
def execScrubRequest (dt : Nat) (bank : Fin 4) (e : Ecc) (s : State) : Host.Outcome State Fault Refusal :=
  let s := s.elapse dt
  .next (s.when s.up fun s =>
    let line := s.vault.scrub[bank]
    let addr := 128 * line + 32 * bank.val
    let v := s.vault
    let s := { s with vault := { v with scrub := v.scrub.set bank ((line + 1) % 131072) } }
    match e with
    | .clean => s
    | .single => { s with vault := { s.vault with corrected := s.vault.corrected.set bank (s.vault.corrected[bank] + 1) } }
    | .double status => s.scrubUe status addr)

/-! ## SIDEBAND_SEND (R571) -/

def sendWords (d : Desc) : List Word32 := (List.range (min 8 (dNum d 4 1))).map fun i => d32 d (8 + 4 * i)
/-- R571: the first word with bits above SWID, or beyond COUNT (R469). -/
def State.sendBad (s : State) (d : Desc) (p : Bool) : Option Nat :=
  let n := dNum d 4 1
  let word (i : Nat) : Bool × Nat :=
    (if i < n then 2 ^ spBits s.serial.word ≤ (d32 d (8 + 4 * i)).toNat else d32 d (8 + 4 * i) != 0, 8 + 4 * i)
  firstBad d p false [(4, 1), (8, 32)] ((n < 1 || 8 < n, 4) :: (List.range 8).map word)
/-- SIDEBAND_SEND: all words or none. -/
def execSidebandSend (dt : Nat) (q : QueueId) (n : Word32) (s : State) : Host.Outcome State Fault Refusal :=
  let s := s.elapse dt
  .next (s.io q n (isOp 0x58) (fun _ => [(0x16, 2)]) s.sendBad fun d s =>
    let ws := sendWords d
    if !spSen s.serial.word then s.finish q n .rejState 0
    else if 64 < s.serial.tx.length + ws.length then s.finish q n .rejBusy 0
    else (s.modSerial fun p => { p with tx := p.tx ++ ws }).complete q n .done 0 s.now (BitVec.ofNat 128 ws.length))

end Sys2Proof.Machine
end

