-- ==== Sys2Proof/Machine/FilterCmd.lean ====
section
/-!
DEFINITION. The filter commands FILTER_CONFIG, COEF_LOAD, COEF_SWAP and SYNC, the batch time-out and SYNC_IN (R350–R352,
R360–R367, R374–R379, R483).
-/
namespace Sys2Proof.Machine
open Sys2Proof

def dChain (d : Desc) : ChainId := ⟨dNum d 4 1 % 16, by omega⟩

/-! ## FILTER_CONFIG -/

/-- The first T coefficients are symmetric or antisymmetric (R350). -/
def symmetric (h : List (BitVec 24)) : Bool :=
  h.map (·.toInt) == h.reverse.map (·.toInt) || h.map (·.toInt) == h.reverse.map fun v => -v.toInt
/-- The lowest offending field of FILTER_CONFIG (R350 step 1, R465). -/
def filterBad (d : Desc) (p : Bool) : Option Nat :=
  let c0 := d64 d 8
  let c1 := d64 d 16
  let c2 := d64 d 24
  firstBad d p false [(4, 1), (8, 24)]
    [(15 < dNum d 4 1, 4), (fld c0 50 14 != 0 || cN c0 == 0 || 6 ≤ cN c0 || 64 < cSsrc c0, 8),
     (2 ≤ fld c1 62 2 || fld c1 48 7 != 0 || (if oAngle c1 then fld c1 12 36 != 0 else oRatio c1 < 2 ^ 24), 16),
     (fld c2 21 43 != 0 || 2000000 < cFsmax c2 || (cEnable c0 && cFsmax c2 == 0), 24)]
/-- Only ENABLE, SPOL and BATCH differ (R350). -/
def softChange (c : Chain) (c0 c1 c2 : Word64) : Bool :=
  putFld c0 0 1 0 == putFld c.c0 0 1 0 && putFld c1 55 7 0 == putFld c.c1 55 7 0 && c2 == c.c2
/-- An accepted FILTER_CONFIG (R351, R352, R362). -/
def State.filterApply (s : State) (k : ChainId) (c0 c1 c2 : Word64) : State :=
  let c := s.chains[k]
  let s := if c.st == .running && oBatch c.c1 != oBatch c1 then s.closeBatch k 0 else s
  let s := if cEnable c0 then s
    else if c.st == .running then s.chainStop k .quiesced 0x10
    else s.modChain k fun c => { c with st := .quiesced }
  let s := s.modChain k fun c => { c with c0 := c0, c1 := c1, c2 := c2 }
  if !cEnable c0 || c.st != .quiesced then s
  else if s.throttled && macHalf < s.demandBut (some k) [.running] + chainDemand c0 c2 false then
    (s.modChain k fun c => { c.cleared s.now false with st := .suspended, batch := [] }).chainRecord k 0x04 s.now (revWord s.thetaNow) 0 []
  else s.chainStart k (s.dspTick s.now) 0
/-- FILTER_CONFIG (R350–R352, R360, R362). -/
def execFilterConfig (dt : Nat) (q : QueueId) (n : Word32) (s : State) : Host.Outcome State Fault Refusal :=
  let s := s.elapse dt
  .next (s.io q n (isOp 0x40) (fun _ => [(0x11, 4)]) filterBad fun d s =>
    let k := dChain d
    let c := s.chains[k]
    let c0 := d64 d 8
    let c1 := d64 d 16
    let c2 := d64 d 24
    let busy := c.st == .running || c.st == .suspended
    let asym := cEnable c0 && !cUser c0 && !symmetric ((if c.bankB then c.coefB else c.coefA).take (cT c0))
    if (busy && !softChange c c0 c1 c2) || c.st == .draining || asym then s.finish q n .rejState 0
    else if cEnable c0 && macFull < s.demandBut (some k) [.running, .suspended] + chainDemand c0 c2 (c.fade.isSome || c.pend.isSome)
    then s.finish q n .rejCapacity 0
    else (s.filterApply k c0 c1 c2).configDone q n .done 0 s.now 0)

/-! ## COEF_LOAD (R363, R513, R551, R552) -/

def dBankB (d : Desc) : Bool := dNum d 5 1 == 1
def coefBad (d : Desc) (p : Bool) : Option Nat :=
  firstBad d p false [(4, 4), (8, 8)] [(15 < dNum d 4 1, 4), (1 < dNum d 5 1, 5), (dNum d 6 2 < 1 || 256 < dNum d 6 2, 6)]
/-- The bank is in use (R363). -/
def Chain.bankBusy (c : Chain) (b : Bool) : Bool :=
  c.bankB == b || c.fade.isSome || (match c.pend with | some p => p.toB == b | none => false)
/-- COEF_LOAD: checks, then the read of the words. -/
def execCoefLoad (dt : Nat) (q : QueueId) (n : Word32) (s : State) : Host.Outcome State Fault Refusal :=
  let s := s.elapse dt
  .next (s.io q n (isOp 0x41) (fun _ => [(0x11, 2)]) coefBad fun d s =>
    if s.chains[dChain d].bankBusy (dBankB d) then s.finish q n .rejState 0
    else (s.addOp q n .data).emit (.dataRead (d64 d 8) (4 * dNum d 6 2)))
/-- The words have been read: the bank, its check value, and the copy in the Plinth. -/
def State.coefData (s : State) (q : QueueId) (n : Word32) (d : Desc) (data : List Byte) : State :=
  let k := dChain d
  let b := dBankB d
  let ws := (List.range (dNum d 6 2)).map fun i => fieldAt data (4 * i) 4
  if ws.any fun w => 2 ^ 24 ≤ w then s.finish q n .rejField 8
  else if s.chains[k].bankBusy b then s.finish q n .rejState 0
  else
    let h : List (BitVec 24) := (ws.map (BitVec.ofNat 24)) ++ List.replicate (256 - ws.length) 0
    let s := s.overtake 2 (2 * k.val + b2n b)
    let s := s.modChain k fun c => if b then { c with coefB := h, suspectB := false } else { c with coefA := h, suspectA := false }
    let v := s.vault
    let s := { s with vault := if b then { v with cfB := v.cfB.set k (coefCrc h) } else { v with cfA := v.cfA.set k (coefCrc h) }
                      cfgGen := s.cfgGen + 1 }
    (s.copyDelta (0x50000 + 1024 * (2 * k.val + b2n b)) (h.flatMap fun v => leBytes 4 v.toNat)).finish q n .done 0

/-! ## COEF_SWAP (R364–R367, R513) -/

def coefSwapBad (d : Desc) (p : Bool) : Option Nat :=
  firstBad d p false [(4, 4)] [(15 < dNum d 4 1, 4), (1 < dNum d 5 1, 5), (dNum d 6 2 < 1 || 256 < dNum d 6 2, 6)]
/-- COEF_SWAP runs on chain k, its bank's copy being committed. -/
def State.coefSwapRun (s : State) (k : ChainId) (f : Fade) : State :=
  let c := s.chains[k]
  if !cUser c.c0 && !symmetric (c.coefs f.toB) then s.completeWho f.who .rejState 0 s.now 0
  else if c.fade.isNone && c.bankB == f.toB then s.configWho f.who .done 0 0
  else if c.st != .running then (s.modChain k fun c => { c with bankB := f.toB }).configWho f.who .done 0 0
  else if macFull < s.demandBut (some k) [.running, .suspended] + chainDemand c.c0 c.c2 true then
    s.completeWho f.who .rejCapacity 0 s.now 0
  else if c.fade.isNone then (s.modChain k fun c => { c with fade := some f }).refit
  else
    let s := s.modChain k fun c => { c with pend := some f, swapCollide := c.swapCollide + b2n c.pend.isSome }
    match c.pend with
    | some p => s.configWho p.who .done 1 0
    | none => s
/-- COEF_SWAP. -/
def execCoefSwap (dt : Nat) (q : QueueId) (n : Word32) (s : State) : Host.Outcome State Fault Refusal :=
  let s := s.elapse dt
  .next (s.io q n (isOp 0x42) (fun _ => [(0x11, 4)]) coefSwapBad fun d s =>
    let f : Fade := { toB := dBankB d, k := dNum d 6 2, j := 0, who := some (q, n) }
    if s.copyWaits 0x50000 0x8000 then s.addOp q n (.fadeWait (dChain d) f) else s.coefSwapRun (dChain d) f)

/-! ## Resets and batches (R374–R379) -/

/-- SYNC: its TIME is the reset tick (R375, R470). -/
def execSync (dt : Nat) (q : QueueId) (n : Word32) (s : State) : Host.Outcome State Fault Refusal :=
  let s := s.elapse dt
  .next (s.io q n (isOp 0x43) (fun _ => [(0x11, 4)]) (fun d p => firstBad d p false [] []) fun _ s =>
    let s := s.syncAll (s.dspTick (s.now + 1600)) false
    s.complete q n .done 0 (s.syncTick.getD s.now) 0)
/-- FILTER_BATCH_TIMEOUT: 1 ms after the batch's first output (R379). -/
def execFilterBatchTimeout (dt : Nat) (ch : ChainId) (s : State) : Host.Outcome State Fault Refusal :=
  let s := s.elapse dt
  let c := s.chains[ch]
  .next (s.when (s.up && !c.batch.isEmpty && c.batchAt + 1000000 ≤ s.now) fun s => s.closeBatch ch 0)
/-- SYNC_IN_EDGE: an edge of the enabled direction that has held (R375). -/
def execSyncInEdge (dt : Nat) (rising : Bool) (s : State) : Host.Outcome State Fault Refusal :=
  let s := s.elapse dt
  .next (s.when (s.up && fld s.syncw 0 2 == (if rising then 1 else 2)) fun s => s.syncAll (s.dspTick s.now) true)

end Sys2Proof.Machine
end

