-- ==== Sys2Proof/Machine/Measure.lean ====
section
/-!
DEFINITION. The measurement commands and events: SEQ_LOAD, INJECT, CALIBRATE, ACC_SNAPSHOT, timer triggers, conversions,
results and calibrations (R301–R341, R482, R642).
-/
namespace Sys2Proof.Machine
open Sys2Proof

def dQuad (d : Desc) : QuadId := ⟨dNum d 4 1 % 4, by omega⟩

/-! ## SEQ_LOAD (R309–R311) -/

def seqBad (d : Desc) (p : Bool) : Option Nat :=
  firstBad d p false [(4, 1), (8, 24)]
    [(3 < dNum d 4 1, 4), (d64 d 8 == 0 && d64 d 16 != 0, 16), (qwBad (d64 d 24), 24)]
def seqSlots (d : Desc) : List (Fin 64) := (List.finRange 64).filter fun i => bit (d64 d 8) i.val
/-- A load is accepted and waits for its frame boundary; a TDAC value accepted during a calibration is held from here (R311,
R331). -/
def State.seqAccept (s : State) (q : QueueId) (n : Word32) (k : QuadId) (slots : List (SlotId × Word64 × Word64)) (qw : Word64) : State :=
  if s.meas[k].cal && bit qw 12 then
    (s.modMeas k fun m => m.setTdac (qw.extractLsb' 0 12) 0).addOp q n (.seqFrame k slots 0)
  else s.addOp q n (.seqFrame k slots qw)
/-- SEQ_LOAD: with slots named, their words are read first. -/
def execSeqLoad (dt : Nat) (q : QueueId) (n : Word32) (s : State) : Host.Outcome State Fault Refusal :=
  let s := s.elapse dt
  .next (s.io q n (isOp 0x38) (fun _ => [(0x12, 2)]) seqBad fun d s =>
    if (seqSlots d).isEmpty then s.seqAccept q n (dQuad d) [] (d64 d 24)
    else (s.addOp q n .data).emit (.dataRead (d64 d 16) (16 * (seqSlots d).length)))
/-- The words have been read and are checked in the order of R310; an accepted load waits for its frame boundary. -/
def State.seqData (s : State) (q : QueueId) (n : Word32) (d : Desc) (data : List Byte) : State :=
  let k := dQuad d
  let new : List (SlotId × Word64 × Word64) := (seqSlots d).zipIdx.map fun p =>
    (regSlot p.1, BitVec.ofNat 64 (fieldAt data (16 * p.2) 8), BitVec.ofNat 64 (fieldAt data (16 * p.2 + 8) 8))
  let after := s.slotsAfter k new
  let sum := (after.map fun x => timerDemand x.2.1 x.2.2).foldl (· + ·) 0
  match new.find? fun x => slotBad x.2.1 x.2.2 with
  | some x => s.finish q n .rejField x.1.val
  | none => match new.find? fun x => s.modeBad k x.2.2 || rangeClash after x.1 with
    | some x => s.finish q n .rejState x.1.val
    | none => match new.find? fun x => 2 < timerDemand x.2.1 x.2.2 || (slTrig x.2.1 == 3 && 8 / 5 < sum) with
      | some x => s.finish q n .rejCapacity x.1.val
      | none =>
        let s := { s with ops := s.ops.filter fun o => !(o.live && o.q == q && o.n == n) }
        s.seqAccept q n k new (d64 d 24)

/-! ## INJECT (R320–R322) -/

def injBad (d : Desc) (p : Bool) : Option Nat :=
  let v := dNum d 5 1
  let w0 := d64 d 16
  let w1 := d64 d 24
  firstBad d p false [(4, 2), (8, 24)]
    [(3 < dNum d 4 1, 4), (1 < v, 5), (d64 d 8 == 0 && v == 0, 8),
     (if v == 0 then w0 != 0 else fld w0 6 30 != 0, 16), (if v == 0 then w1 != 0 else s1Defer w1, 24)]
/-- INJECT: a deferrable slot that is paused is triggered and its trigger dropped and counted (R252, R321); the injected slot's
words wait for the frame boundary (R311, R320). -/
def execInject (dt : Nat) (q : QueueId) (n : Word32) (s : State) : Host.Outcome State Fault Refusal :=
  let s := s.elapse dt
  .next (s.io q n (isOp 0x39) (fun _ => [(0x12, 4)]) injBad fun d s =>
    let k := dQuad d
    let valid := dNum d 5 1 == 1
    let w0 := d64 d 16
    let w1 := d64 d 24
    if valid && slotBad w0 w1 then s.finish q n .rejField 64
    else if valid && (s.modeBad k w1 || rangeClash (s.slotsAfter k [(injSlot, w0, w1)]) injSlot) then s.finish q n .rejState 64
    else
      let t := s.now
      let id := s.meas[k].nextId
      let free (i : SlotId) : Bool := (s.slot k i).trig.isNone && !s.slotBusy k i
      let regs := (List.finRange 64).filter fun i => bit (d64 d 8) i.val && slTrig (s.slot k (regSlot i)).w0 == 4 && free (regSlot i)
      let inj := valid && free injSlot && s.meas[k].injNew.isNone
      let named := (seqSlots d).length + b2n valid
      let s := s.modMeas k fun m => { m with nextId := id + 1 }
      let s := regs.foldl (fun s i => s.trigSlot k (regSlot i) (t + 1600 + delayNs (s.slot k (regSlot i)).w0) (some id)) s
      let s := if inj then s.modMeas k fun m => { m with injNew := some (w0, w1, t + 1600 + delayNs w0, id) } else s
      let hit : BitVec 65 := maskOf 65 fun i => if i == 64 then inj else regs.any fun (r : Fin 64) => r.val == i
      let left : BitVec 65 := maskOf 65 fun i =>
        if i == 64 then inj else regs.any fun (r : Fin 64) => r.val == i && (s.slot k (regSlot r)).trig.isSome
      let all := regs.length + b2n inj == named
      if hit == 0 then s.finish q n .rejState 0
      else if left == 0 then s.complete q n (if all then .done else .partialDone) 0 t (hit.setWidth 128)
      else s.addOp q n (.inject k id left hit all t))

/-! ## CALIBRATE (R330–R333) -/

def State.calRuns (s : State) : Bool := s.ops.any fun o => match o.kind with | .cal .. => true | _ => false
def calBad (d : Desc) (p : Bool) : Option Nat :=
  firstBad d p false [(4, 1)] [(dNum d 4 1 == 0 || 15 < dNum d 4 1, 4)]
/-- CALIBRATE: rejected while Mason sheds it (R330, R597). -/
def execCalibrate (dt : Nat) (q : QueueId) (n : Word32) (s : State) : Host.Outcome State Fault Refusal :=
  let s := s.elapse dt
  .next (s.io q n (isOp 0x3A) (fun _ => [(0x12, 4)]) calBad fun d s =>
    let qs := (List.finRange 4).filter fun k => (dNum d 4 1).testBit k.val
    if s.calRuns || qs.any (fun k => !(s.quad k).sync) then s.finish q n .rejState 0
    else if 3 ≤ s.mason.shed.val then s.finish q n .rejBusy 0
    else s.addOp q n (.cal qs 0))
/-- The calibration under way and whose turn it is. -/
def State.calOp (s : State) : Option (Op × List QuadId × BitVec 16) :=
  s.ops.findSome? fun o => match o.kind with | .cal todo f => some (o, todo, f) | _ => none
/-- CALIBRATION_START: the quadrant's converter is idle (R331). -/
def execCalibrationStart (dt : Nat) (q : QuadId) (s : State) : Host.Outcome State Fault Refusal :=
  let s := s.elapse dt
  let m := s.meas[q]
  let turn := match s.calOp with | some (_, k :: _, _) => k == q | _ => false
  .next (s.when (s.up && turn && !m.cal && m.burst.isNone && m.inj.isNone && m.injNew.isNone && m.slots[injSlot].trig.isNone && m.busyUntil ≤ s.now)
    fun s => s.modMeas q fun m => { m with cal := true, calSaved := m.tdac, tdacHeld := none })
/-- The thermal model's parameters of a quadrant, as its calibration gives them (R233, log entry 11). -/
def State.newThermal (s : State) (q : QuadId) : State :=
  let k := s.freeCtr
  let s := (quadChans q).foldl (fun s c => s.modChan c fun x => { x with rth := Config.calRth k c, tau := max 1 (Config.calTau k c) }) s
  (s.modQuad q fun x => { x with kappa := Config.calKappa k q }).useFresh
/-- A measured offset within 0.2 % of span and a gain within 0.5 % of the factory value (R332). -/
def coefPasses (c : Coef) : Bool := decide (-2000 ≤ c.off && c.off ≤ 2000 && -5000 ≤ c.gain && c.gain ≤ 5000)
/-- The CALIBRATE that a quadrant's calibration belongs to: further quadrants, or its completion (R332). -/
def State.calNext (s : State) (q : QuadId) (failed : BitVec 4) : State :=
  match s.calOp with
  | none => s
  | some (o, todo, f) =>
    let f := f ||| (failed.setWidth 16 <<< (4 * q.val))
    let rest := todo.filter fun k => k != q
    if !rest.isEmpty then { s with ops := s.ops.map fun x => if x == o then { o with kind := .cal rest f } else x }
    else
      let s := { s with ops := s.ops.filter fun x => x != o }
      if o.live then s.configDone o.q o.n (if f == 0 then .done else .partialDone) 0 s.now (f.setWidth 128) false else s
/-- CALIBRATION_END: what Mason measured of each range; a range that fails keeps its coefficients (R331–R333). -/
def execCalibrationEnd (dt : Nat) (q : QuadId) (found : Vector Coef 4) (s : State) : Host.Outcome State Fault Refusal :=
  let s := s.elapse dt
  let failed : BitVec 4 := maskOf 4 fun i => match found.toList[i]? with | some c => !coefPasses c | none => false
  .next (s.when (s.up && s.meas[q].cal) fun s =>
    let t := s.now
    let s := s.modMeas q fun m =>
      { m with cal := false, tdac := m.tdacHeld.getD m.calSaved, tdacHeld := none, tdacAt := t, slots := m.slots.map (Slot.hold t)
               coef := Vector.ofFn fun i => if coefPasses found[i] then found[i] else m.coef[i] }
    (s.newThermal q).calNext q failed)

/-! ## ACC_SNAPSHOT (R339–R341, R447) -/

def snapBad (d : Desc) (p : Bool) : Option Nat :=
  firstBad d p true [(4, 1), (8, 9)] [(3 < dNum d 4 1, 4), (d64 d 8 == 0 && dNum d 16 1 == 0, 8), (1 < dNum d 16 1, 16)]
/-- ACC_SNAPSHOT: the copy and the clear in one DSP tick. -/
def execAccSnapshot (dt : Nat) (q : QueueId) (n : Word32) (s : State) : Host.Outcome State Fault Refusal :=
  let s := s.elapse dt
  .next (s.io q n (isOp 0x3B) (fun _ => [(0x12, 1)]) snapBad fun d s =>
    let k := dQuad d
    let m : BitVec 65 := BitVec.ofNat 65 (dNum d 8 8 + dNum d 16 1 * 2 ^ 64)
    let slots := (List.finRange 65).filter fun i => bit m i.val
    let tick := s.dspTick s.now
    let r : Record := .acc k (dCspec d) tick m (slots.map fun i => (s.slot k i).acc.bytes)
    let gone := s.route r == 0x40
    match s.stage r (some (q, n)) with
    | (s, false) => s.finish q n .rejBusy 0
    | (s, true) =>
      let s := if dCspec d then slots.foldl (fun s i => s.modAcc k i Acc.cleared) s else s
      if gone then s.complete q n .done 0 tick 0 else s)

/-! ## Events -/

/-- TIMER_TRIGGER: device time is a multiple of TPER (R312). -/
def execTimerTrigger (dt : Nat) (q : QuadId) (i : Fin 64) (s : State) : Host.Outcome State Fault Refusal :=
  let s := s.elapse dt
  let w := (s.slot q (regSlot i)).w0
  .next (s.when (s.up && slTrig w == 3 && slTper w != 0 && s.now % (slTper w * 1000) == 0) fun s =>
    s.trigSlot q (regSlot i) (s.now + delayNs w))

/-- A conversion of a burst starts, unless its channel has left ANALOGUE mode (R305, R315), or its order was lost with a
downlink frame: then the burst's result is lost (log entry 105). -/
def State.convertNow (s : State) (q : QuadId) (b : Burst) (a : Analog) (t : Nat) : State :=
  if s.modeBad q b.w1 then
    let s := s.loseBurst q b 0x80
    (s.modMeas q fun m =>
      let b := { b with lost := true, left := 0 }
      let m := if b.slot == injSlot then { m with inj := none } else { m with burst := none }
      { m with wait := m.wait ++ [b] }).reap q
  else if (s.quad q).lostFrame == some (t / 1000 - 1) && 1000 ≤ t then
    ((s.loseBurst q b).modMeas q fun m => m.advance { b with lost := true } (b.turn t).2).reap q
  else s.modMeas q fun m => m.convert b a t
/-- CONVERSION_START: the converter is free; a conversion that comes due while the die is not synchronised is missed (R94,
R252, R305, R315–R317, R327, R331). -/
def execConversionStart (dt : Nat) (p : Sensed QuadId Analog) (s : State) : Host.Outcome State Fault Refusal :=
  let s := s.elapse dt
  let t := s.now / 125 * 125
  .next (s.when (s.up && !s.meas[p.unit].cal && s.meas[p.unit].busyUntil ≤ t) fun s =>
    match s.meas[p.unit].nextDue t with
    | none => s
    | some (.inl b) => s.convertNow p.unit b p.val t
    | some (.inr (i, r)) =>
      let w1 := (s.slot p.unit i).w1
      let b := s.meas[p.unit].newBurst i r
      let s := s.modSlot p.unit i fun x => { x with trig := none, held := false, tag := none }
      if !(s.quad p.unit).sync || (s1Defer w1 && s.deferPaused p.unit) then (s.slotMiss p.unit i r).injectDone p.unit i b.tag
      else if s.modeBad p.unit w1 then (s.slotMiss p.unit i r 0x80).injectDone p.unit i b.tag
      else (s.modMeas p.unit fun m => { m with nextId := m.nextId + 1 }).convertNow p.unit b p.val t)

/-- CONVERSION_RESULT: the oldest complete burst of its kind enters its destinations (R308, R319, R322–R326, R342). -/
def execConversionResult (dt : Nat) (q : QuadId) (injected : Bool) (s : State) : Host.Outcome State Fault Refusal :=
  let s := s.elapse dt
  .next (s.when s.up fun s =>
    match s.meas[q].wait.find? fun b => (b.slot == injSlot) == injected && !b.lost && b.convs.all (fun c => c.code.isSome) with
    | none => s
    | some b =>
      let r := b.result
      let s := s.modMeas q fun m => { m with wait := m.wait.filter fun x => x.id != b.id }
      let s := if s.allowed 10 0x12 2 then s.modAcc q b.slot fun a => enterAcc a b.w1 r.1 r.2.1 r.2.2 else s.deny 10 0x12 2
      let s := if s1Chains b.w1 then s.feed q b.slot (chainValue b.w1 r.1) r.2.1 r.2.2 else s
      s.injectDone q b.slot b.tag)

end Sys2Proof.Machine
end

