-- ==== Sys2Proof/Machine/Features.lean ====
section
/-!
DEFINITION. FEATURE_SET, one command for each settable feature (R89, R98, R204, R211, R214, R375, R389, R390, R392, R444,
R445, R476, R477, R509, R510, R540, R541, R557, R558).
-/
namespace Sys2Proof.Machine
open Sys2Proof

def fsetNeeds (_ : Desc) : List (Nat × Nat) := [(0, 2)]
def dSel (d : Desc) : Nat := dNum d 6 2
def dVal (d : Desc) : Word64 := d64 d 8
/-- A FEATURE_SET of feature fid; bad gives the SEL check and the word check. -/
def State.fset (s : State) (n : Word32) (fid : Nat) (selBad valBad : Desc → Bool) (body : Desc → State → State) : State :=
  s.adm n (fun d => isOp 5 d && dNum d 4 2 == fid) fsetNeeds
    (fun d => firstBad d false false [(4, 2), (6, 2), (8, 8)] [(selBad d, 6), (valBad d, 8)]) body
def selZero (d : Desc) : Bool := dSel d != 0
/-- Quadrants that SEL names; 0xFFFF names all (R477). -/
def selQuads (d : Desc) : List QuadId :=
  if dSel d == 0xFFFF then List.finRange 4 else (List.finRange 4).filter fun q => q.val == dSel d
def selQuadBad (d : Desc) : Bool := (selQuads d).isEmpty
/-- Done without anything that CFGMEAS covers, and with it (R587). -/
def State.setDone (s : State) (n : Word32) : State := s.finish 0 n .done 0
def State.setCfgDone (s : State) (n : Word32) : State := (s.configured none).finish 0 n .done 0

/-- SET_POWER_TARGET (R89, R90). -/
def execSetPowerTarget (dt : Nat) (n : Word32) (s : State) : Host.Outcome State Fault Refusal :=
  let s := s.elapse dt
  .next (s.fset n 1 selZero (fun d => dVal d != 1) fun _ s =>
    if s.armedByte != 0 || s.anyIoQueue || s.redmode != 0 then s.finish 0 n .rejState 0
    else { s with dormantReq := true }.setDone n)

/-! ## Quadrant reset (R94, R98) -/

/-- What a channel loses with its die's power; its settings, input state and REVERSE condition stay (R83, R94, R98). -/
def Chan.unpowered (x : Chan) (t : Nat) : Chan :=
  { x with ref := false, cmd := false, drv := false, drvAt := t, gen := none, cause := .none, fault := false, inLimit := false
           limTo := none, inrush := none, inrushCut := false, settle := none, checkDue := false, lockUntil := none
           safeOn := false, safeStart := none, safeGate := false, safeEdged := false, test := .idle, testEnd := none }
/-- What a quadrant loses with its die's power (R83, R94, R98). -/
def Quad.unpowered (x : Quad) : Quad :=
  { x with armed := false, armReq := false, dieArmed := false, fwTrig := false, sync := false, stale := false, released := false
           lastGood := none, lostRun := 0, lostFrame := none, lostFrom := none, safeFrame := none }

/-- A quadrant reset takes the field die of q down and up again; its channels lose output level, latches, retry counters
and temperature rise, and keep their configuration (R94). -/
def State.quadResetStart (s : State) (q : QuadId) : State :=
  let t := s.now
  let s := (quadChans q).foldl (fun s c => [1, 2, 3, 4].foldl (fun s k => s.clearDiag c k) s) s
  let s := (quadChans q).foldl (fun s c => s.modChan c fun x =>
    { x.unpowered t with retry := 0, latch := false, coolUntil := 0, dT := 0, gFail := 0, gClear := 0 }) s
  let s := s.dropBursts q
  s.modQuad q fun x => { x.unpowered with disTrig := false, disWait := false, started := some t, supLatch := false }
/-- A quadrant reset of q is in progress (R98). -/
def State.resetRuns (s : State) (q : QuadId) : Bool :=
  s.ops.any fun o => match o.kind with | .quadReset todo => todo.contains q | _ => false
/-- SET_QUADRANT_RESET (R98, R477). -/
def execSetQuadrantReset (dt : Nat) (n : Word32) (s : State) : Host.Outcome State Fault Refusal :=
  let s := s.elapse dt
  .next (s.fset n 2 selQuadBad (fun d => dVal d != 1) fun d s =>
    let qs := selQuads d
    if qs.any fun q => (s.quad q).armed || s.visoLost || s.resetRuns q then s.finish 0 n .rejState 0
    else match qs with
      | q :: _ => ((s.addOp 0 n (.quadReset qs)).freeMason).quadResetStart q
      | [] => s)

/-! ## Words of single features -/

/-- SET_SUPPLY_POLICY (R204). -/
def execSetSupplyPolicy (dt : Nat) (n : Word32) (s : State) : Host.Outcome State Fault Refusal :=
  let s := s.elapse dt
  .next (s.fset n 3 selQuadBad (fun d => fld (dVal d) 1 63 != 0) fun d s =>
    ((selQuads d).foldl (fun s q => s.modQuad q fun x => { x with supLatchPol := bit (dVal d) 0 }) s).setCfgDone n)
/-- SET_FAULT_N_CLASS_MASK (R211). -/
def execSetFaultNClassMask (dt : Nat) (n : Word32) (s : State) : Host.Outcome State Fault Refusal :=
  let s := s.elapse dt
  .next (s.fset n 4 selZero (fun d => fld (dVal d) 5 59 != 0) fun d s =>
    { s with faultMask := (dVal d).extractLsb' 0 5 }.setCfgDone n)
/-- A silence time is set; a die that still runs on its settings from before a reset takes it when it synchronises (R85, R214). -/
def Quad.setSilence (x : Quad) (us : Nat) : Quad := { x with silenceSet := us, silence := if x.stale then x.silence else us }
/-- SET_FIELD_WATCHDOG, rejected in the pair modes (R214, R511). -/
def execSetFieldWatchdog (dt : Nat) (n : Word32) (s : State) : Host.Outcome State Fault Refusal :=
  let s := s.elapse dt
  .next (s.fset n 5 selQuadBad (fun d => (dVal d).toNat < 100 || 10000000 < (dVal d).toNat) fun d s =>
    if s.inPair then s.finish 0 n .rejState 0
    else ((selQuads d).foldl (fun s q => s.modQuad q fun x => x.setSilence (dVal d).toNat) s).setCfgDone n)
/-- SET_SYNC (R375). -/
def execSetSync (dt : Nat) (n : Word32) (s : State) : Host.Outcome State Fault Refusal :=
  let s := s.elapse dt
  .next (s.fset n 6 selZero (fun d => fld (dVal d) 4 60 != 0 || fld (dVal d) 0 2 == 3 || fld (dVal d) 2 2 == 3) fun d s =>
    { s with syncw := (dVal d).extractLsb' 0 4 }.setCfgDone n)
/-- SET_RECORD_FLUSH (R444). -/
def execSetRecordFlush (dt : Nat) (n : Word32) (s : State) : Host.Outcome State Fault Refusal :=
  let s := s.elapse dt
  .next (s.fset n 7 selZero (fun d => (dVal d).toNat < 10 || 100000 < (dVal d).toNat) fun d s =>
    { s with flush := (dVal d).toNat }.setCfgDone n)
/-- SET_RECORD_ROUTE (R445). -/
def routeBad (w : Word64) : Bool :=
  fld w 16 48 != 0 || fld w 0 8 == 0 || 10 < fld w 0 8 || (63 < fld w 8 8 && fld w 8 8 != 0x40)
def execSetRecordRoute (dt : Nat) (n : Word32) (s : State) : Host.Outcome State Fault Refusal :=
  let s := s.elapse dt
  .next (s.fset n 8 selZero (fun d => routeBad (dVal d)) fun d s =>
    let i : Fin 10 := ⟨(fld (dVal d) 0 8 - 1) % 10, by omega⟩
    { s with routes := s.routes.set i ((dVal d).extractLsb' 8 8) }.setCfgDone n)

/-! ## Vault layout, archive -/

/-- Every stored check value is computed afresh (R551). -/
def State.recheck (s : State) : State :=
  { s with vault := { s.vault with cb := s.course.banks.map bankCrc
                                   cfA := s.chains.map fun c => coefCrc c.coefA
                                   cfB := s.chains.map fun c => coefCrc c.coefB } }
/-- A record that a layout change discards is counted (R390). -/
def State.discardRecord (s : State) (r : Record) : State :=
  match r with
  | .inputEdge .. | .diag .. | .courseMark .. | .filterOut .. =>
    match r with
    | .inputEdge c .. => s.modQuad (quadOf c) fun x => { x with inDrop := x.inDrop + 1 }
    | _ => s.countDrop r
  | _ => s.modMason fun m => { m with resetDiscards := m.resetDiscards + 1 }
/-- SET_VAULT_LAYOUT (R389–R391, R551). -/
def execSetVaultLayout (dt : Nat) (n : Word32) (s : State) : Host.Outcome State Fault Refusal :=
  let s := s.elapse dt
  .next (s.fset n 9 selZero (fun d => laBad (dVal d)) fun d s =>
    if s.anyIoQueue then s.finish 0 n .rejState 0 else
    let s := s.staging.foldl (fun s r => s.discardRecord r.1) s
    let openRecs := if s.serial.openRec.isEmpty then 0 else 1
    let s := (s.modMason fun m => { m with resetDiscards := m.resetDiscards + openRecs }).modSerial fun p => { p with openRec := [] }
    let s := { s with vault := { s.vault with layout := dVal d }, staging := [] }.drainRx
    let s := s.modArch fun a => { a with st := .recording, left := 0, slots := [], nextSeq := 0, waiter := none }
    s.recheck.setCfgDone n)
/-- SET_ARCHIVE (R392). -/
def execSetArchive (dt : Nat) (n : Word32) (s : State) : Host.Outcome State Fault Refusal :=
  let s := s.elapse dt
  .next (s.fset n 0xA selZero (fun d => arBad (dVal d)) fun d s =>
    (s.modArch fun a => { a with word := dVal d }).setCfgDone n)

/-! ## Pair timing, Plumb schedule, serial port -/

/-- A pair-timing word applies; every field watchdog's silence is TREL (R510, R511). -/
def State.applyTiming (s : State) (w : Word64) : State :=
  { s with quads := s.quads.map fun x => x.setSilence (1000 * ptTrel w)
           pair := { s.pair with timing := w, timingNew := none } }
/-- SET_PAIR_TIMING: both units apply the word once its delta is committed (R510). -/
def execSetPairTiming (dt : Nat) (n : Word32) (s : State) : Host.Outcome State Fault Refusal :=
  let s := s.elapse dt
  .next (s.fset n 0x20 selZero (fun d => ptBad (dVal d)) fun d s =>
    if !s.inPair then s.finish 0 n .rejState 0
    else
      let s := if s.journals then s.modPair fun p => { p with timingNew := some (dVal d, p.cfggen + 1) }
        else s.applyTiming (dVal d)
      s.setCfgDone n)

/-- The RW fields of the Plumb schedule word (R540). -/
def plumbRw (w : Word64) : Word64 := w &&& 0x7FFFFFFFFF
/-- REJ_STATE of R541. -/
def State.plumbInUse (s : State) (x : CtxId) (w : Word64) : Bool :=
  (plTarget w != 0 && (List.finRange 8).any fun y => y != x && plTarget s.plumb[y].word == plTarget w) ||
  ((plPoly w != plPoly s.plumb[x].word || plAwid w != plAwid s.plumb[x].word || plStep w != plStep s.plumb[x].word) &&
    s.queues.toList.any fun u => u.st != .absent && u.profile == some x)
/-- SET_PLUMB_SCHEDULE (R540, R541). -/
def execSetPlumbSchedule (dt : Nat) (n : Word32) (s : State) : Host.Outcome State Fault Refusal :=
  let s := s.elapse dt
  .next (s.fset n 0x28 (fun d => 8 ≤ dSel d) (fun d => plBad (dVal d)) fun d s =>
    let x : CtxId := ⟨dSel d % 8, by omega⟩
    if s.plumbInUse x (dVal d) then s.finish 0 n .rejState 0
    else (s.modPlumb x fun p => { p with word := plumbRw (dVal d) }).setCfgDone n)

/-- The RW fields of the serial-port word (R557). -/
def serialRw (w : Word64) : Word64 := w &&& 0xFFFFFFFF
/-- The continuous-read mode of the flash ends with its exit sequence, before any other command (R564). -/
def Serial.leaveCont (p : Serial) : Serial :=
  if !p.cont then p
  else { p with cont := false, bus := [.cmd 0 1 (match p.flash[0] with | some d => d.exit | none => [])] }
/-- SET_SERIAL_PORT (R557, R558). With MMEN = 1 the flash always expects a command, so its continuous-read mode ends (R564). -/
def execSetSerialPort (dt : Nat) (n : Word32) (s : State) : Host.Outcome State Fault Refusal :=
  let s := s.elapse dt
  .next (s.fset n 0x30 selZero (fun d => spBad (dVal d)) fun d s =>
    let w := dVal d
    let o := s.serial.word
    let changes := spSwid w != spSwid o || bit w 3 != bit o 3 || spSen w != spSen o
    if changes && (!s.serial.scs || !s.serial.tx.isEmpty) then s.finish 0 n .rejState 0
    else (s.modSerial fun p => { (if spMmen w then p.leaveCont else p) with word := serialRw w }).setCfgDone n)

end Sys2Proof.Machine
end

