-- ==== Sys2Proof/Machine/Boot.lean ====
section
/-!
DEFINITION. What a power-on reset, a wake and the power-gating of COLD leave, and the ROM loader's start (R76, R86, R94,
R99, R640, R644).
-/
namespace Sys2Proof.Machine
open Sys2Proof

/-- Everything that loses power is at its reset value; silence is the field watchdogs' time in µs (R86, R94, R214, R511).
Kept: what the model adds, running time, the levels of the lands, and the non-volatile stores. VISO below its threshold is lost
(R83). -/
def State.cold (s : State) (silence : Nat) : State :=
  let serial : Serial := { Reset.serial with scs := s.serial.scs }
  { State.reset with
    pending := s.pending, clock := s.clock, zero := s.zero, freeCtr := s.freeCtr, por := s.por, rails := s.rails
    viso := s.viso, clk25 := s.clk25, dormant := s.dormant, wokeDormant := s.wokeDormant, straps := s.straps
    strapsNow := s.strapsNow, throttled := s.throttled, safeN := s.safeN, safeNAt := s.safeNAt, visoLost := !s.viso, out := s.out, plinth := s.plinth
    host := { Reset.host with jtag := s.host.jtag, perst := s.host.perst, link := s.host.link }
    quads := .replicate 4 (Reset.quad silence)
    ang := { Reset.ang with lvlA := s.ang.lvlA, lvlB := s.ang.lvlB }
    serial := serial
    mason := { Reset.mason with arcc := s.mason.arcc }
    pair := s.pair }

/-- The ROM loader waits for FW_LOAD, with the reason in FAULT (R100, R644). -/
def State.romWait (s : State) (fault : BitVec 4) : State := s.modMason fun m => { m with stage := 4, fault := fault }
/-- The ROM loader starts: BOOTSRC decides; from flash, STAGE is 0x1 until discovery ends (R99, R560, R644). -/
def State.romStart (s : State) : State :=
  match s.bootsrc with
  | 0 => s.romWait 0
  | 3 => s.modMason fun m => { m with stage := 15 }
  | _ => s.modMason fun m => { m with stage := 1 }

end Sys2Proof.Machine
end

