-- ==== Sys2Proof/Machine/Journal.lean ====
section
/-!
DEFINITION. The journal between the units of a pair: checkpoints, deltas and index-log entries as the active unit sends
them and as the standby's Plinth takes them (R503, R512–R519, R533).
-/
namespace Sys2Proof.Machine
open Sys2Proof

/-- HBPER in ns, and the loss time TMISS × HBPER (R507, R509). -/
def Pair.per (p : Pair) : Nat := 1000 * ptHbper p.timing
def Pair.missNs (p : Pair) : Nat := ptTmiss p.timing * p.per
/-- A frame leaves on the Zafifa link (R503). -/
def State.zsend (s : State) (f : ZFrame) : State := s.modPair fun p => { p with tx := p.tx ++ [f] }
/-- Plinth address of a journal slot (R512). -/
def slotBase (j : Nat) : Nat := 0x80000 + 0x6000 * (j % 64)

/-! ## Capture and commit at the active unit (R515, R516) -/

/-- Bytes of a checkpoint body from 0x0040 to the end of CHANNELS (R514). -/
def bodyLen : Nat := 0x1BC0
/-- A slot header's bytes 0–59 (R515). -/
def headerBytes (seq epoch cfggen : Word32) (time : Nat) (final : Bool) : List Byte :=
  leBytes 4 seq.toNat ++ leBytes 4 epoch.toNat ++ leBytes 4 cfggen.toNat ++ leBytes 4 bodyLen ++ leBytes 8 time ++
  leBytes 1 (b2n final) ++ leBytes 35 0
/-- COMMIT follows the acknowledgement of every earlier delta (R516). -/
def State.sendCommit (s : State) : State :=
  match s.pair.cap with
  | some c =>
    if c.sent || s.pair.deltas.any fun d => (c.cfggen - d.2.1).toNat < 2 ^ 31 then s
    else (s.modPair fun p => { p with cap := some { c with sent := true } }).zsend (.commit c.header)
  | none => s
/-- A capture: the body leaves as BODY frames; its bytes are free, since R514 lays out no item (log entry 6). -/
def State.capture (s : State) (final : Bool) : State :=
  let p := s.pair
  let seq := p.seq + 1
  let k := s.freeCtr
  let body := (List.range bodyLen).map fun i => (Config.freeBytes k).getD i 0
  let h := headerBytes seq p.epoch p.cfggen s.frameStart final
  let c : Capture := { seq := seq, cfggen := p.cfggen, final := final, header := h ++ leBytes 4 (crc32c (h ++ body)).toNat
                       sent := false, who := p.cpWaiters, logs := p.logWait }
  let frames := (List.range 28).map fun i =>
    ZFrame.body (BitVec.ofNat 32 (slotBase seq.toNat + 0x40 + 256 * i)) ((body.drop (256 * i)).take 256)
  let t := s.now
  let s := s.useFresh.modPair fun p =>
    { p with seq := seq, cap := some c, capAt := t, capNow := false, logUsed := 0, cpWaiters := []
             finalDue := p.finalDue && !final, tx := p.tx ++ frames }
  s.sendCommit
/-- A final checkpoint that is due is captured as soon as none is being committed (R530, R536). -/
def State.finalCapture (s : State) : State :=
  if s.pair.finalDue && s.pair.cap.isNone then s.capture true else s

/-- The index-log entry of a fetch, or a checkpoint that holds its index, is committed: the descriptors may start (R518). -/
def State.logged (s : State) (q : QueueId) (f : Word32) : State :=
  s.modQueue q fun u => { u with flight := u.flight.map fun e =>
    if 0 < (f - e.num).toNat && (f - e.num).toNat < 2 ^ 31 then { e with logged := true } else e }

/-- CHECKPOINT_CAPTURE: every CPINT, or earlier when asked for or when the log is three-quarters full, at least 1 ms after
the last one; one at a time (R516). A final one that was abandoned follows at once (R530). -/
def execCheckpointCapture (dt : Nat) (s : State) : Host.Outcome State Fault Refusal :=
  let s := s.elapse dt
  let p := s.pair
  let due := p.capAt + ptCpint p.timing * 1000000 ≤ s.now ||
    ((p.capNow || 1152 ≤ p.logUsed) && decide (p.capAt + 1000000 ≤ s.now))
  .next (s.when (s.up && p.cap.isNone && (p.finalDue || (s.journals && due))) fun s => s.capture p.finalDue)

/-! ## Deltas (R510, R513) -/

/-- Commands that waited for a copy start once it is committed (R513). -/
def State.copyRetry (s : State) : State :=
  s.ops.foldl (fun s o => match o.kind with
    | .swapWait imm =>
      if s.copyWaits (courseRegion (1 - s.course.active)) 0x20000 then s else
      let s := { s with ops := s.ops.filter fun x => x != o }
      s.angleTick.courseSwapRun imm (if o.live then some (o.q, o.n) else none)
    | .fadeWait k f =>
      if s.copyWaits 0x50000 0x8000 then s
      else { s with ops := s.ops.filter fun x => x != o }.coefSwapRun k f
    | _ => s) s
/-- The delta of a generation is committed: the command that waits completes (R513). -/
def State.deltaDone (s : State) (gen : Word32) : State :=
  let s := s.ops.foldl (fun s o => match o.kind with
    | .delta g st detail time result => if g == gen then s.completeOp o st detail.toNat time result else s
    | _ => s) s
  let s := match s.pair.timingNew with
    | some (w, g) => if g == gen then s.applyTiming w else s
    | none => s
  (s.angleCommitted gen).copyRetry

/-- With the Zafifa path lost nothing waits for the partner any more: the checkpoint is abandoned, and what waited for a
delta or a log entry goes on (R508, log entry 29). -/
def State.dropJournal (s : State) : State :=
  let p := s.pair
  let s := s.modPair fun p =>
    { p with deltas := [], logWait := [], cap := none, nAbandoned := p.nAbandoned + b2n p.cap.isSome
             cpWaiters := (p.cap.map (·.who)).getD [] ++ p.cpWaiters }
  let s := p.logWait.foldl (fun s e => s.logged e.2.1 e.2.2) s
  let s := match p.cap with | some c => c.logs.foldl (fun s e => s.logged e.2.1 e.2.2) s | none => s
  p.deltas.foldl (fun s d => s.deltaDone d.2.1) s

/-! ## The Plinth of the standby (R512, R513, R515, R518) -/

/-- The standby takes a journal frame's data, 1 to 256 bytes (R503), into its Plinth, or the bytes lie outside it. -/
def State.plinthPut (s : State) (addr : Nat) (data : List Byte) (f : State → State) : Host.Outcome State Fault Refusal :=
  if !(s.up && s.pair.st == .standby) || data.isEmpty || 256 < data.length then .next s
  else if plinthSize < addr + data.length then .fault (.outsidePlinth addr)
  else .next (f { s with plinth := memWriteAll s.plinth addr data })
/-- BODY (R503, R516). -/
def execBody (dt : Nat) (addr : Word32) (data : List Byte) (s : State) : Host.Outcome State Fault Refusal :=
  (s.elapse dt).plinthPut addr.toNat data id
/-- An item of the static configuration, of the static features, or of a slot, as the Plinth holds it (log entry 6). -/
def State.item (s : State) (base kind i : Nat) : Nat := Config.plinthItem s.plinth base kind i
def State.itemW (s : State) (base kind i : Nat) : Word64 := BitVec.ofNat 64 (s.item base kind i)
def State.itemB (s : State) (base kind i : Nat) : Bool := s.item base kind i % 2 == 1
/-- The standby applies the pair-timing word of its static area; R512 gives the word no place, so any delta to the
configuration may bring a new one (R510, log entry 6). -/
def State.retime (s : State) : State :=
  let w := s.itemW 0x1000 27 0
  if ptBad w then s else s.applyTiming w
/-- DELTA: the redo copy, then the place, then the header, whose generation counts up; the copy of R533 ends with the static
header, which brings the partner's epoch and generation (R512, R513, R533). -/
def execDelta (dt : Nat) (addr : Word32) (data : List Byte) (s : State) : Host.Outcome State Fault Refusal :=
  let s := s.elapse dt
  s.plinthPut addr.toNat data fun s =>
    let s := { s with plinth := memWriteAll s.plinth 0x58000 data }
    let s := s.modPair fun p => match p.partner with
      | some x => if addr == 0xF00 then { p with epoch := x.epoch, cfggen := x.cfggen, staticOk := true }
        else if p.staticOk then { p with cfggen := p.cfggen + 1 } else p
      | none => { p with cfggen := p.cfggen + 1 }
    let s := if addr.toNat == 0xF00 || (0x1000 ≤ addr.toNat && addr.toNat < 0x10000) then s.retime else s
    s.zsend (.ack addr)
/-- LOG: an entry goes behind the last one of its slot; the first of a TAG goes to the slot's first place (R518). -/
def execLog (dt : Nat) (e : Word64) (s : State) : Host.Outcome State Fault Refusal :=
  let s := s.elapse dt
  let tag : Byte := e.extractLsb' 40 8
  let i := if s.pair.logTag == some tag then s.pair.logUsed else 0
  let a := slotBase tag.toNat + 0x3000 + 8 * i
  if 1536 ≤ i then .next s else
  s.plinthPut a (leBytes 8 e.toNat) fun s =>
    (s.modPair fun p => { p with logTag := some tag, logUsed := i + 1 }).zsend (.ack (BitVec.ofNat 32 a))
/-- COMMIT: the slot's header is written last (R514–R516). -/
def execCommit (dt : Nat) (header : List Byte) (s : State) : Host.Outcome State Fault Refusal :=
  let s := s.elapse dt
  if header.length != 64 then .next s else
  let h := header
  let seq : Word32 := BitVec.ofNat 32 (fieldAt h 0 4)
  let j := seq.toNat % 64
  s.plinthPut (slotBase j) h fun s =>
    let t := s.now
    (s.modPair fun p => { p with committedSeq := some seq, commitAt := some t
                                 slotTimes := (j, t) :: p.slotTimes.filter fun x => x.1 != j }).zsend (.ack seq)

/-! ## Full copies (R533, R535) -/

/-- Address of the copy's next frame: the static area from 0x1000 on, its header last (R533). -/
def Pair.resyncNext (p : Pair) : Nat := (p.resyncBytes + 0x1000) % 0x80000
/-- A copy's frame is committed; after the last one a checkpoint is to be committed (R533). -/
def State.resyncAck (s : State) : State :=
  s.modPair fun p => { p with resyncBytes := p.resyncBytes + 256, capNow := p.capNow || p.resyncBytes + 256 == 0x80000 }
/-- RESYNC_COMPLETE: the copy and its checkpoint are committed (R533, R535, R537). -/
def execResyncComplete (dt : Nat) (s : State) : Host.Outcome State Fault Refusal :=
  let s := s.elapse dt
  .next (s.when (s.up && s.pairActive && s.pair.resyncCp) fun s =>
    match s.pair.resyncing with
    | none => s
    | some _ =>
      let s := s.modPair fun p => { p with resyncing := none, resyncCp := false, needResync := false }
      let s := s.pairEvent 6 (s.pair.epoch.setWidth 64)
      (s.ops.filter fun o => o.kind == .resync).foldl (fun s o => s.completeOp o .done 0 s.now 0) s)

end Sys2Proof.Machine
end

