-- ==== Sys2Proof/Machine/Takeover.lean ====
section
/-!
DEFINITION. Taking and losing the role: roles at start-up, heartbeats and their paths, restoring from the Plinth, setting
references, resuming the host interface, and the release (R467, R496–R508, R517, R521–R531, R536).
-/
namespace Sys2Proof.Machine
open Sys2Proof

/-! ## Losing the role (R528–R531) -/

/-- The unit enters RELEASING at t_L: no command, no host write, generators at their present levels (R529). -/
def State.roleLoss (s : State) (tl : Nat) : State :=
  let s := orphan s
  { s with
    ops := [], reqs := [], staging := [], outWait := []
    queues := s.queues.map fun u => { u with flight := [], bufs := [] }
    chans := s.chans.map fun x => match x.gen with
      | some g => { x with gen := none, ref := g.lvl }
      | none => x
    pair := { s.pair with st := .releasing, tl := tl, t1 := none, handover := none, resyncing := none, ons := [] } }

/-- A final checkpoint has been committed: HANDOVER completes and yields, or a unit that lost VISO yields. In an arbiter pair
ACT_REQ_N is released instead of YIELD (R530, R536). -/
def State.finalDone (s : State) : State :=
  if s.pair.st == .releasing then (if s.redmode == 1 then s.zsend (.yield 2) else s)
  else
    let s := match s.ops.find? fun o => o.kind == .handover with
      | some o => s.completeOp o .done 0 s.now 0
      | none => s
    if s.redmode == 1 then (s.zsend (.yield 1)).roleLoss s.now
    else s.modPair fun p => { p with handedOver := true, handover := none }
/-- A checkpoint is committed (R516, R533). -/
def State.checkpointDone (s : State) (c : Capture) : State :=
  let t := s.now
  let s := s.modPair fun p =>
    { p with cap := none, nCommitted := p.nCommitted + 1, committedSeq := some c.seq, commitAt := some t
             logWait := p.logWait.filter fun x => !c.logs.contains x
             resyncCp := p.resyncCp || (p.resyncing.isSome && p.resyncBytes == 0x80000) }
  let s := c.logs.foldl (fun s e => s.logged e.2.1 e.2.2) s
  let s := c.who.foldl (fun s n =>
    match s.ops.find? fun o => o.live && o.q == 0 && o.n == n && o.kind == .checkpoint with
    | some o => s.completeOp o .done 0 s.now 0
    | none => s) s
  if c.final then s.finalDone else s.finalCapture
/-- ACK: a committed slot's SEQ, or the Plinth address of a delta, of a copy's frame or of a log entry, the oldest one that
waits under it (R503, R513, R516, R518, R533). -/
def execAck (dt : Nat) (v : Word32) (s : State) : Host.Outcome State Fault Refusal :=
  let s := s.elapse dt
  let p := s.pair
  .next (s.when (s.up && (s.pairActive || p.st == .releasing)) fun s =>
    match p.cap.filter fun c => c.sent && c.seq == v with
    | some c => s.checkpointDone c
    | none =>
      if p.resyncing.isSome && p.resyncBytes < 0x80000 && v.toNat == p.resyncNext then s.resyncAck else
      match p.deltas.find? fun d => d.1 == v with
      | some d => ((s.modPair fun p => { p with deltas := p.deltas.erase d, acked := d.2.1 }).deltaDone d.2.1).sendCommit
      | none => match p.logWait.find? fun e => e.1 == v with
        | some e => (s.modPair fun p => { p with logWait := p.logWait.erase e }).logged e.2.1 e.2.2
        | none => s)

/-- HANDOVER_DRAINED: nothing but record buffers and the HANDOVER itself is in flight, or 10 ms have passed; buffers retire,
and the final checkpoint is captured (R455, R536, R537). -/
def execHandoverDrained (dt : Nat) (s : State) : Host.Outcome State Fault Refusal :=
  let s := s.elapse dt
  .next (s.when (s.up && s.pairActive && !s.pair.handedOver) fun s =>
    match s.pair.handover with
    | none => s
    | some n =>
      let mine (q : QueueId) (e : Inflight) : Bool :=
        (q == 0 && e.num == n) || (s.queue q).bufs.any fun b => b.num == e.num
      let idle := (List.finRange 64).all fun q => (s.queue q).flight.all (mine q)
      if s.pair.finalDue || (match s.pair.cap with | some c => c.final | none => false) ||
        !(idle || decide (s.pair.handoverAt + 10000000 ≤ s.now)) then s else
      let s := (List.finRange 64).foldl (fun s q =>
        (s.queue q).bufs.foldl (fun s b => s.retire q b (if b.used == 0 then .abortedQuiesce else .done)) s) s
      let seq := s.pair.seq + 1
      let s := s.pairEvent 4 (seq.setWidth 64)
      (s.modPair fun p => { p with finalDue := true }).finalCapture)

/-- The unit enters STANDBY in COLD: everything but the Plinth, the link and the heartbeat monitor is power-gated (R86, R88,
R498). -/
def State.enterStandby (s : State) (fresh : Bool) : State :=
  let h := s.host
  let s := s.cold (1000 * ptTrel s.pair.timing)
  { s with
    host := { s.host with bme := h.bme, mse := h.mse, msixEn := h.msixEn, d3hot := h.d3hot, link := if h.perst then 0 else 2 }
    pair := { s.pair with
      st := .standby, staticOk := s.pair.staticOk && fresh, gate := true, mute := false, handedOver := false, lone := false
      zaf := { s.pair.zaf with ever := s.pair.zaf.present }, hb := { s.pair.hb with ever := s.pair.hb.present }
      deltas := [], logWait := [], cap := none, finalDue := false, capNow := false, cpWaiters := [], t1 := none, slot := none
      driven := false, ons := [], resyncing := none, resyncCp := false, needResync := false, handover := none
      timingNew := none, firstPoll := false, logTag := none, logUsed := 0 } }
/-- RELEASE_EXPIRY: TREL after t_L the outputs are off and the transformers stop (R529). -/
def execReleaseExpiry (dt : Nat) (s : State) : Host.Outcome State Fault Refusal :=
  let s := s.elapse dt
  .next (s.when (s.up && s.pair.st == .releasing && decide (s.pair.tl + 1000000 * ptTrel s.pair.timing ≤ s.now)) fun s =>
    s.enterStandby false)

/-! ## Taking the role (R498–R502, R521–R526) -/

/-- The partner's HEARTBEAT frames report ACT or REL (R500). -/
def State.partnerHolds (s : State) : Bool :=
  s.now < s.pair.zaf.last + s.pair.missNs &&
  match s.pair.partner with | some x => bit x.state 0 || bit x.state 1 | none => false
/-- The role is taken: paths count anew, captures start from now (R516, R531). -/
def State.hold (s : State) (cause : Nat) : State :=
  let t := s.now
  (s.modPair fun p =>
    { p with st := .active, cause := cause, lone := p.peerAbsent, capAt := t, capNow := false, cap := none, logUsed := 0
             zaf := { p.zaf with ever := p.zaf.present }, hb := { p.hb with ever := p.hb.present }, firstPoll := true
             needResync := p.zaf.present }).modHost fun h => { h with link := if h.perst then 0 else 1, wakeLow := false }
/-- The role at start-up: nothing to restore (R499, R502, R537). -/
def State.startRole (s : State) (cause : Nat) : State :=
  ((s.hold cause).modPair fun p => { p with driven := true, t1 := none, firstPoll := false }).pairEvent 3 (BitVec.ofNat 64 cause)

/-! ### Slots and the static area (R514, R517, R522) -/

/-- The slot in place j is valid: CRC, EPOCH and CFGGEN (R517). -/
def State.slotOk (s : State) (j : Nat) : Bool :=
  let b := slotBase j
  let h := memReadN s.plinth b 64
  let len := fieldAt h 12 4
  let seq := fieldAt h 0 4
  seq % 64 == j && len ≤ 0x6000 - 0x40 &&
  BitVec.ofNat 32 (fieldAt h 60 4) == crc32c (h.take 60 ++ memReadN s.plinth (b + 0x40) len) &&
  BitVec.ofNat 32 (fieldAt h 4 4) == s.pair.epoch &&
  (s.pair.cfggen - BitVec.ofNat 32 (fieldAt h 8 4)).toNat < 2 ^ 31
def State.slotSeq (s : State) (j : Nat) : Word32 := BitVec.ofNat 32 (fieldAt (memReadN s.plinth (slotBase j) 4) 0 4)
/-- The newest valid slot by SEQ in serial order (R522). -/
def State.newestSlot (s : State) : Option Nat :=
  ((List.range 64).filter s.slotOk).foldl (fun best j => match best with
    | none => some j
    | some k => if 0 < (s.slotSeq j - s.slotSeq k).toNat && (s.slotSeq j - s.slotSeq k).toNat < 2 ^ 31 then some j else some k) none
/-- The queue and F of a log entry that carries TAG and a correct CRC (R518). -/
def logOf (e : List Byte) (tag : Byte) : Option (QueueId × Word32) :=
  if e.getD 5 0 == tag && e.getD 7 0 == crc8 (e.take 7) then
    some (⟨(e.getD 4 0).toNat % 64, by omega⟩, BitVec.ofNat 32 (fieldAt e 0 4))
  else none
/-- The log entries of slot k and of the later slots, in SEQ order (R522). -/
def State.replay (s : State) (k : Nat) : List (QueueId × Word32) :=
  (List.range 64).flatMap fun d =>
    let seq := s.slotSeq k + BitVec.ofNat 32 d
    (List.range 1536).filterMap fun i =>
      logOf (memReadN s.plinth (slotBase seq.toNat + 0x3000 + 8 * i) 8) (seq.setWidth 8)

/-- A course bank from its region, in the Vault's layout (R275, R279, R512). -/
def State.plinthBank (s : State) (b : CBankId) : CBank :=
  let w := s.itemW 0x1000 20 b.val
  let n := min 8192 (bwCount w)
  let bs := memReadN s.plinth (courseRegion b) (16 * n)
  { entries := (List.range n).map fun i => (entryAt bs i).1, tcoast := bwTcoast w, fpol := bwFpol w, suspect := false }
/-- A coefficient bank from its region (R363, R512, log entry 28). -/
def State.plinthCoefs (s : State) (k : ChainId) (b : Bool) : List (BitVec 24) :=
  let bs := memReadN s.plinth (0x50000 + 1024 * (2 * k.val + b2n b)) 1024
  (List.range 256).map fun i => BitVec.ofNat 24 (fieldAt bs (4 * i) 4)
def plinthSafe (n : Nat) : SafeVal := if n % 4 == 1 then .on else if n % 4 == 2 then .hold else if n % 4 == 3 then .pulse else .off

/-- Channels as the static area holds them (R512). -/
def State.staticChan (s : State) (c : ChanId) : Chan :=
  let x := Reset.chan
  { x with chw := s.itemW 0x1000 0 c.val, protw := s.itemW 0x1000 1 c.val, pulw := s.itemW 0x1000 2 c.val
           safe := plinthSafe (s.item 0x1000 3 c.val), safePer := s.item 0x1000 4 c.val, safeDuty := s.item 0x1000 5 c.val
           budw := s.itemW 0x1000 6 c.val }
/-- A quadrant's sequence slots, their blocks cleared with MISSED set (R512, R526). -/
def State.staticMeas (s : State) (q : QuadId) : Meas :=
  let x := Reset.meas
  let acc : Acc := { Reset.acc with flags := 8 }
  let slots : Vector Slot 65 := Vector.ofFn fun i =>
    { w0 := s.itemW 0x1000 9 (65 * q.val + i.val), w1 := s.itemW 0x1000 10 (65 * q.val + i.val), trig := none, held := false, tag := none, acc := acc }
  { x with slots := slots, tdac := BitVec.ofNat 12 (s.item 0x1000 11 q.val) }
def State.staticChain (s : State) (k : ChainId) : Chain :=
  let x := Reset.chain
  { x with c0 := s.itemW 0x1000 12 k.val, c1 := s.itemW 0x1000 13 k.val, c2 := s.itemW 0x1000 14 k.val
           coefA := s.plinthCoefs k false, coefB := s.plinthCoefs k true, bankB := s.itemB 0x1000 15 k.val }
/-- BAR0 set-up registers; the host watchdog restarts (R497, R512, R526). -/
def State.staticHost (s : State) : HostRegs :=
  let h := s.host
  let w (i : Nat) : Word64 := s.itemW 0x1000 31 i
  let v (i : Nat) : Word32 := (w i).setWidth 32
  { h with aqSq := w 0, aqCq := w 1, aqSize := v 2, dbBase := w 3, poll := v 4, aqen := s.itemB 0x1000 31 5, devEn := v 6
           wdLock := s.itemB 0x1000 31 7, wdAct := (w 8).setWidth 8, wdPeriod := s.item 0x1000 31 9 % 16384
           wdLast := s.now, wdFired := false }
/-- The static area is restored (R512, R522, R526). -/
def State.restoreStatic (s : State) : State :=
  let trel := 1000 * ptTrel s.pair.timing
  let quads := Vector.ofFn fun q : QuadId =>
    let x := Reset.quad trel
    { x with qbudw := s.itemW 0x1000 7 q.val, supLatchPol := s.itemB 0x1000 22 q.val }
  let msix : Vector MsixEntry 68 := Vector.ofFn fun v =>
    { addr := s.itemW 0x1000 32 v.val, data := (s.itemW 0x1000 33 v.val).setWidth 32, mask := s.itemB 0x1000 34 v.val, pend := false }
  let course := { s.course with banks := Vector.ofFn s.plinthBank }
  let srcw := s.itemW 0x1000 16 0
  let ang := { s.ang with srcw := srcw, trkw := s.itemW 0x1000 17 0, refw := s.itemW 0x1000 18 0
                          st := if srSrc srcw == 0 then .idle else .unreferenced }
  let plumb := Vector.ofFn fun x : CtxId =>
    let p := Reset.plumb x
    { p with word := plumbRw (s.itemW 0x1000 25 x.val) }
  let t : State :=
    { s with
      chans := Vector.ofFn s.staticChan, quads := quads, meas := Vector.ofFn s.staticMeas, chains := Vector.ofFn s.staticChain
      course := course, ang := ang, plumb := plumb, msix := msix, host := s.staticHost
      devw := s.itemW 0x1000 8 0, faultMask := BitVec.ofNat 5 (s.item 0x1000 19 0), syncw := BitVec.ofNat 4 (s.item 0x1000 19 1)
      flush := s.item 0x1000 19 2, routes := Vector.ofFn fun i => BitVec.ofNat 8 (s.item 0x1000 21 i.val)
      vault := { s.vault with layout := s.itemW 0x1000 23 0 }
      arch := { Reset.arch with word := s.itemW 0x1000 24 0 }
      serial := { s.serial with word := serialRw (s.itemW 0x1000 26 0) }
      rows := Vector.ofFn fun i => s.itemW 0x1000 29 i.val, locked := s.itemB 0x1000 30 0, cfgGen := s.pair.cfggen }
  t.recheck

/-- A queue as slot k holds it, with F from the logs (R514, R522). The rings' indices are read again at the first poll. -/
def State.slotQueue (s : State) (b : Nat) (q : QueueId) (f : Option Word32) : Queue :=
  let n (k : Nat) : Nat := s.item b (40 + k) q.val
  let st : QState := match n 0 % 5 with | 1 => .active | 2 => .draining | 3 => .quiesced | 4 => .error | _ => .absent
  let f := f.getD (BitVec.ofNat 32 (n 1))
  let w := BitVec.ofNat 32 (n 2)
  let u := Reset.queue
  if st == .absent then u else
  { u with st := st, f := f, w := w, sqp := f, cqc := w, cls := Fin.ofNat 4 (n 3), weight := max 1 (n 4 % 256)
           vector := Fin.ofNat 64 (n 5), sqlog := 4 + n 6 % 13, cqlog := 4 + n 7 % 13, ccnt := n 8 % 256, ctime := n 9 % 65536
           profile := if n 10 % 9 == 0 then none else some (Fin.ofNat 8 (n 10 % 9 - 1)), hctx := Fin.ofNat 8 (n 11)
           sqbase := BitVec.ofNat 64 (n 12), cqbase := BitVec.ofNat 64 (n 13), alive := BitVec.ofNat 16 (n 14)
           unsig := n 15 % 256, oldest := if n 15 % 256 == 0 then none else some s.now
           err := if st == .error then some .fetch else none }
/-- Slot k is restored but for arm state and references (R514, R522, R525, R526). -/
def State.restoreSlot (s : State) (k : Nat) : State :=
  let b := slotBase k
  let logs := s.replay k
  let lastF (q : QueueId) : Option Word32 := ((logs.filter fun e => e.1 == q).getLast?).map (·.2)
  let active : CBankId := if s.itemB b 1 0 != s.itemB b 1 1 then 1 else 0
  let t := s.now
  { s with
    host := { s.host with devCause := (s.itemW b 2 0).setWidth 32, gen := s.itemW b 2 1, wdExpired := s.itemB b 2 2, wdLast := t }
    course := { s.course with active := active }
    queues := Vector.ofFn fun q => s.slotQueue b q (lastF q)
    quads := s.quads.mapFinIdx fun i x _ =>
      { x with hwTrig := s.itemB b 3 i, disTrig := s.itemB b 4 i, supLatch := s.itemB b 5 i }
    chans := s.chans.mapFinIdx fun i x _ =>
      { x with latch := s.itemB b 10 i, retry := s.item b 11 i, standing := (s.itemW b 12 i).setWidth 32
               fault := s.itemB b 13 i, dT := (s.item b 14 i : Rat), reverse := bit (s.itemW b 12 i) 8 }
    pair := { s.pair with seq := s.slotSeq k } }
/-- Every quadrant comes up disarmed, with its safe values from the synchronisation of its die on (R108, R523). -/
def State.safeStart (s : State) : State :=
  { s with quads := s.quads.map fun x => { x with disWait := true } }
/-- Chains that are enabled start (R351, R526). -/
def State.startChains (s : State) : State :=
  (List.finRange 16).foldl (fun s k => if cEnable s.chains[k].c0 then s.chainStart k (s.dspTick s.now) 0 else s) s

/-- A takeover: recognition t1 and what is restored from the Plinth (R521–R523, R526). Cause 1 paths, 2 grant, 3 YIELD. -/
def State.takeover (s : State) (cause : Nat) : State :=
  if s.pair.mismatch then s else
  let t := s.now
  let s := ((s.hold cause).modPair fun p => { p with t1 := some t, driven := false, slot := none }).romStart
  if !s.pair.staticOk then
    (s.modPair fun p => { p with driven := true }).pairEvent 7 (BitVec.ofNat 64 (3 + 0xFFFFFFFF * 2 ^ 32))
  else
    let s := s.restoreStatic
    match s.newestSlot with
    | none => (s.safeStart.startChains).pairEvent 7 (BitVec.ofNat 64 (2 + 0xFFFFFFFF * 2 ^ 32))
    | some k =>
      let s := (s.restoreSlot k).startChains
      let age := match s.pair.slotTimes.find? fun x => x.1 == k with | some x => some (t - x.2) | none => none
      let stale := match age with | some a => decide (ptStale s.pair.timing * 1000000 < a) | none => true
      if stale then
        let ms := match age with | some a => min 0xFFFFFFFF (a / 1000000) | none => 0xFFFFFFFF
        s.safeStart.pairEvent 7 (BitVec.ofNat 64 (1 + ms * 2 ^ 32))
      else s.modPair fun p => { p with slot := some k }

/-- PAIR_ROLE_DECISION: the role at start-up, or STANDBY (R496, R499–R502). -/
def execPairRoleDecision (dt : Nat) (s : State) : Host.Outcome State Fault Refusal :=
  let s := s.elapse dt
  .next (s.when (s.up && s.pair.st == .starting && !s.pair.mismatch) fun s =>
    if s.pair.peerAbsent then s.startRole 4
    else if s.redmode == 2 then (if !s.pair.gntN && !s.partnerHolds then s.startRole 2 else s.enterStandby true)
    else if s.partnerHolds then s.enterStandby true
    else if !s.roleB then s.startRole 4
    else if s.pair.zaf.seen || s.pair.hb.seen then s.enterStandby true
    else if 500000000 ≤ s.now then s.startRole 4 else s)

/-- The arbiter's grant is taken when R500 does not stop it (R501, R521). -/
def State.grantTake (s : State) : State :=
  if s.redmode == 2 && s.pair.st == .standby && !s.pair.gntN && !s.partnerHolds then s.takeover 2 else s
/-- ACT_GNT_LOW: low for 10 µs (R501). -/
def execActGntLow (dt : Nat) (s : State) : Host.Outcome State Fault Refusal :=
  let s := s.elapse dt
  .next (s.when (s.up && s.redmode == 2) fun s => (s.modPair fun p => { p with gntN := false }).grantTake)
/-- ACT_GNT_HIGH: high for 10 µs; the role is lost (R501, R528). -/
def execActGntHigh (dt : Nat) (s : State) : Host.Outcome State Fault Refusal :=
  let s := s.elapse dt
  .next (s.when (s.up && s.redmode == 2) fun s =>
    let s := s.modPair fun p => { p with gntN := true }
    if s.pairActive then s.roleLoss s.now else s)
/-- YIELD: the active unit hands over; another cause is discarded (R503, R521). -/
def execYield (dt : Nat) (cause : Byte) (s : State) : Host.Outcome State Fault Refusal :=
  let s := s.elapse dt
  .next (s.when (s.up && s.pair.st == .standby && (cause == 1 || cause == 2)) fun s =>
    let seq : Word64 := (s.pair.committedSeq.getD 0).setWidth 64
    let s := s.takeover 3
    if cause == 1 then s.pairEvent 5 seq else s)

/-! ## Heartbeats (R503–R508) -/

/-- ACT_REQ_N is asserted, never in power-on reset (R63, R78, R501, R506, R530, R536). -/
def State.actReq (s : State) : Bool :=
  let p := s.pair
  let fin := p.finalDue || (match p.cap with | some c => c.final | none => false)
  s.up && s.redmode == 2 && p.gate && !p.mute && !p.handedOver &&
  (p.st == .active || (p.st == .standby && p.staticOk) || (p.st == .releasing && fin))
/-- STATE of the HEARTBEAT frames (R498, R504). -/
def State.hbState (s : State) : Byte :=
  let p := s.pair
  BitVec.ofNat 8 (b2n (p.st == .active) + 2 * b2n (p.st == .releasing) + 4 * b2n (p.st == .standby && p.staticOk) +
    8 * b2n (p.st == .standby && !p.staticOk) + 16 * b2n p.lone)
/-- HEARTBEAT_SEND: every HBPER while the liveness gate passes (R504, R506). -/
def execHeartbeatSend (dt : Nat) (s : State) : Host.Outcome State Fault Refusal :=
  let s := s.elapse dt
  let p := s.pair
  .next (s.when (s.up && s.inPair && p.gate && !p.mute && decide (p.hbLast + p.per ≤ s.now)) fun s =>
    let t := s.now
    let gen := if p.st == .active then p.acked else p.cfggen
    let seq := if p.st == .active then p.seq else p.committedSeq.getD 0
    (s.zsend (.heartbeat s.hbState (s.straps.setWidth 8) p.hbcnt p.epoch gen seq)).modPair fun p =>
      { p with hbcnt := p.hbcnt + 1, hbLast := t })
/-- HB_OUT_TOGGLE (R505, R506). -/
def execHbOutToggle (dt : Nat) (s : State) : Host.Outcome State Fault Refusal :=
  let s := s.elapse dt
  .next (s.when (s.up && s.inPair && s.pair.gate && !s.pair.mute) fun s => s.modPair fun p => { p with hbOut := !p.hbOut })
/-- LIVENESS_GATE_FAIL: both heartbeats stop, and ACT_REQ_N is released (R506). -/
def execLivenessGateFail (dt : Nat) (s : State) : Host.Outcome State Fault Refusal :=
  let s := s.elapse dt
  .next (s.when (s.up && s.inPair) fun s => s.modPair fun p => { p with gate := false })
/-- LIVENESS_GATE_PASS (R506). -/
def execLivenessGatePass (dt : Nat) (s : State) : Host.Outcome State Fault Refusal :=
  let s := s.elapse dt
  .next (s.when (s.up && s.inPair) fun s => s.modPair fun p => { p with gate := true })

/-- An arrival on a path: a lost one is present again after 10 × HBPER without a gap longer than HBPER (R507). -/
def HPath.arrive (p : HPath) (per t : Nat) : HPath :=
  let since := match p.goodSince with | some g => if t ≤ p.last + per then g else t | none => t
  if !p.lost || since + 10 * per ≤ t then { p with last := t, seen := true, present := true, lost := false, goodSince := none, ever := true }
  else { p with last := t, seen := true, goodSince := some since }
/-- DEGRADED follows the paths, with PAIR_EVENT 0x01 or 0x02 (R508, R537). -/
def State.degrade (s : State) : State :=
  let p := s.pair
  let d := p.zaf.lost != p.hb.lost
  if d == p.degraded then s
  else (s.modPair fun p => { p with degraded := d }).pairEvent (if d then 1 else 2)
    (BitVec.ofNat 64 (b2n p.zaf.lost + 2 * b2n p.hb.lost))
/-- The contents of a HEARTBEAT frame (R504). -/
def partnerOf (b : List Byte) : Partner :=
  { state := b.getD 0 0, straps := b.getD 1 0, hbcnt := BitVec.ofNat 16 (fieldAt b 2 2), epoch := BitVec.ofNat 32 (fieldAt b 4 4)
    cfggen := BitVec.ofNat 32 (fieldAt b 8 4), cpseq := BitVec.ofNat 32 (fieldAt b 12 4) }
/-- HEARTBEAT: a good frame arrives: partner, mismatch, path; a standby under another EPOCH is not current; the active unit
starts a full copy when one is due (R496, R504, R507, R533). -/
def execHeartbeat (dt : Nat) (b : List Byte) (s : State) : Host.Outcome State Fault Refusal :=
  let s := s.elapse dt
  .next (s.when (s.up && s.inPair && b.length == 16) fun s =>
    let x := partnerOf b
    let t := s.now
    let back := !s.pair.zaf.present
    let bad := fld x.straps 1 2 != s.redmode || bit x.straps 0 == s.roleB
    let s := s.modPair fun p =>
      { p with partner := some x, mismatch := bad, zaf := p.zaf.arrive p.per t
               staticOk := p.staticOk && !(p.st == .standby && bit x.state 0 && x.epoch != p.epoch) }
    let s := s.modPair fun p => { p with needResync := p.needResync || (back && p.zaf.present) }
    let s := s.degrade
    let p := s.pair
    let takes := bit x.state 2 || bit x.state 3
    let differs := p.resyncing.isNone && (x.epoch != p.epoch || bit x.state 3)
    let s := if s.journals && takes && (p.needResync || differs) then s.startResync (p.resyncing.getD none) else s
    s.grantTake)
/-- HB_IN_EDGE (R507). -/
def execHbInEdge (dt : Nat) (s : State) : Host.Outcome State Fault Refusal :=
  let s := s.elapse dt
  .next (s.when (s.up && s.inPair) fun s =>
    let t := s.now
    (s.modPair fun p => { p with hb := p.hb.arrive p.per t }).degrade)

/-- A path is lost (R507). -/
def HPath.lose (p : HPath) : HPath :=
  { p with present := false, lost := true, goodSince := none, losses := p.losses + b2n p.present }
/-- Both paths of a heartbeat pair are lost: the standby takes over, the active unit loses the role (R521, R528, R531). -/
def State.bothLost (s : State) : State :=
  let p := s.pair
  if !(s.redmode == 1 && p.zaf.lost && p.hb.lost && (p.zaf.ever || p.hb.ever)) then s
  else if p.st == .standby then s.takeover 1
  else if p.st == .active && !p.peerAbsent then s.roleLoss (max p.zaf.last p.hb.last)
  else s
/-- PATH_LOSS: nothing on a path for TMISS × HBPER (R507, R508, R521, R530, R531). -/
def execPathLoss (dt : Nat) (zafifa : Bool) (s : State) : Host.Outcome State Fault Refusal :=
  let s := s.elapse dt
  let x := if zafifa then s.pair.zaf else s.pair.hb
  .next (s.when (s.up && s.inPair && !x.lost && decide (x.last + s.pair.missNs ≤ s.now)) fun s =>
    let fin := s.pair.finalDue || (match s.pair.cap with | some c => c.final | none => false)
    let s := s.modPair fun p => if zafifa then { p with zaf := p.zaf.lose } else { p with hb := p.hb.lose }
    let s := if zafifa && s.pairActive then s.dropJournal else s
    let s := if zafifa && s.pair.st == .releasing && fin then
        s.modPair fun p => { p with mute := true, finalDue := false, cap := none }
      else s
    (s.degrade.bothLost).grantTake)

/-! ## TAKEOVER_DRIVE (R524–R526) -/

/-- The reference or generator of a unit (R525). -/
def State.takeRef (s : State) (k : Nat) (final : Bool) (readback : Mask128) (l : ChanId) : State :=
  let b := slotBase k
  let x := s.chan l
  let slotRef := s.itemB b 15 l.val
  let r := if final || bit x.standing 7 || x.reverse then slotRef else bit readback l.val
  if s.itemB b 16 l.val then
    let g := s.newGen l (s.itemW b 17 l.val)
    s.modChan l fun x => { x with gen := some g, ref := false, held := r }
  else s.modChan l fun x => { x with ref := r, held := r }
/-- TAKEOVER_DRIVE: all dies are synchronised; readback is that of the first good uplink frames. References are set, armed
quadrants get ARMED = 1, and channels that are on will switch on two a frame (R165, R524, R525). -/
def execTakeoverDrive (dt : Nat) (readback : Mask128) (s : State) : Host.Outcome State Fault Refusal :=
  let s := s.elapse dt
  let ready := s.up && s.pairActive && s.pair.t1.isSome && !s.pair.driven && (List.finRange 4).all fun q => (s.quad q).sync
  .next (s.when ready fun s =>
    let s := match s.pair.slot with
      | none => s
      | some k =>
        let b := slotBase k
        let final := bit (memRead s.plinth (b + 24)) 0
        let units := allChans.filter fun c => s.isOutput c && !s.isOdd c
        let s := units.foldl (fun (s : State) l => s.takeRef k final readback l) s
        let arm (i : Nat) : Bool := s.itemB b 6 i
        let s := { s with quads := s.quads.mapFinIdx fun i x _ => { x with armed := arm i } }
        let s := allChans.foldl (fun (s : State) c => if s.trigOn c then s.modChan c fun x => { x with safeOn := true } else s) s
        let ons := units.filter fun l => s.demand l
        s.modPair fun p => { p with ons := ons }
    s.modPair fun p => { p with driven := true })

/-! ## HOST_RESUME (R467, R527) -/

/-- INDOUBT for the descriptors W ≤ n < F of a queue, whose CIDs are those of the ring (R467). -/
def State.indoubt (s : State) (q : QueueId) (cids : List Word16) (k : Nat) : State :=
  match k with
  | 0 => s
  | k + 1 =>
    let u := s.queue q
    let cid : Word16 := match cids with | c :: _ => c | [] => BitVec.ofNat 16 s.fresh
    let c : Completion := { cid := cid, status := .indoubt, aresync := false, rdrop := false, phase := !u.w.getLsbD u.cqlog
                            detail := u.w, time := s.now, result := 0 }
    let s := s.useFresh.modQueue q fun u => { u with w := u.w + 1 }
    (s.emit (.completion q u.cqSlot c)).indoubt q cids.tail k
/-- A queue's completion ring tells how far W has come; what is left is in doubt (R467, R527, R547). -/
def State.resumeQueue (s : State) (q : QueueId) (phases : Nat) (cids : List Word16) : State :=
  if (s.queue q).st == .absent then s else
  let s := s.modQueue q fun u =>
    { u with w := u.w + BitVec.ofNat 32 (min phases (u.f - u.w).toNat), resync := u.profile.isSome }
  let k := ((s.queue q).f - (s.queue q).w).toNat
  let s := s.indoubt q cids k
  ((if k == 0 then s else s.signalQueue q).drained q)
/-- Descriptors of a queue that HOST_RESUME will find in doubt. -/
def Queue.doubts (u : Queue) (phases : Nat) : Nat :=
  if u.st == .absent then 0 else (u.f - u.w).toNat - min phases (u.f - u.w).toNat
/-- HOST_RESUME: the completion rings, INDOUBT, FIELD_STATE, PAIR_EVENT; polling starts (R467, R524, R527, R537). phases: the
entries found of the expected phase, by queue; cids: the CIDs of the descriptors in doubt, by queue and number. -/
def execHostResume (dt : Nat) (phases : Vector Nat 64) (cids : List Word16) (s : State) : Host.Outcome State Fault Refusal :=
  let s := s.elapse dt
  let ready := s.up && s.pairActive && s.pair.driven && s.pair.ons.isEmpty &&
    match s.pair.t1 with | some t => decide (t + 2 * s.pair.per ≤ s.now) | none => false
  .next (s.when ready fun s =>
    let r := (List.finRange 64).foldl (fun (r : State × List Word16 × Nat) q =>
      let k := (r.1.queue q).doubts phases[q]
      (r.1.resumeQueue q phases[q] (r.2.1.take k), r.2.1.drop k, r.2.2 + k)) (s, cids, 0)
    let s := r.1.stageAny (r.1.fieldRecord 2)
    let s := s.pairEvent 3 (BitVec.ofNat 64 (s.pair.cause + r.2.2 % 2 ^ 32 * 2 ^ 32))
    s.modPair fun p => { p with t1 := none, firstPoll := true })

end Sys2Proof.Machine
end

