-- ==== Sys2Proof/Machine/Power.lean ====
section
/-!
DEFINITION. Rails, power-on reset, DORMANT, VISO, the clock, the start of the field dies, straps and throttling (R57–R60,
R76, R80–R98, R194, R362, R528–R530, R633).
-/
namespace Sys2Proof.Machine
open Sys2Proof

/-! ## Power-on reset and wake (R76, R85, R92–R94, R633) -/

def railBit : Rail → Nat | .vaon => 0 | .vio => 1 | .vcore => 2 | .vser => 3
/-- Such a channel's safe value while CORE's is OFF again and its die has not heard of it (R94). -/
def safeReset : SafeVal × Nat × Nat := (.off, 250, 0)
/-- A quadrant whose die keeps its power through the reset acts on by its last good frame and its watchdog, with its supply
class and temperature state, until it synchronises again; d is the die time that the device clock loses (R85). -/
def keepQuad (d : Nat) (old new : Quad) : Quad :=
  let later (t : Nat) : Nat := if t == 0 then 0 else max 1 (t - d)
  { new with stale := true, dieArmed := old.dieArmed, lastGood := old.lastGood, fwTrig := old.fwTrig, released := old.released
             silence := old.silence, lclass := old.lclass, hot := old.hot, olResume := later old.olResume
             wbResume := later old.wbResume }
/-- What such a die still holds of a channel: its groups, safe value, input state, level and protection (R85; log entry 110). -/
def keepChan (d : Nat) (x : Chan) : Chan :=
  { Reset.chan with
    chw := x.chw, protw := x.protw, safe := x.safe, safePer := x.safePer, safeDuty := x.safeDuty, safeNew := some safeReset
    acc := x.acc, accLock := x.accLock, lockUntil := x.lockUntil.map (· - d), cmd := x.cmd, drv := x.drv, held := x.held
    safeOn := x.safeOn, safeStart := x.safeStart, safeGate := x.safeGate, safeEdged := x.safeEdged
    settle := x.settle.map (· - d), checkDue := x.checkDue, cause := x.cause, fault := x.fault, coolUntil := x.coolUntil - d
    sliceHot := x.sliceHot, inLimit := x.inLimit, inrush := x.inrush.map (· - d), inrushCut := x.inrushCut, inceil := x.inceil
    reverse := x.reverse }
/-- The die takes what CORE holds since the reset: the reset groups, before any that cross after the synchronisation, and the
safe value (R85, R94, R98). -/
def syncChan (t : Nat) (x : Chan) : Chan :=
  let v := x.safeNew.getD (x.safe, x.safePer, x.safeDuty)
  { x with chw := Reset.chw, protw := Reset.protw, safe := v.1, safePer := v.2.1, safeDuty := v.2.2, safeNew := none, filtAt := t
           lockUntil := none, grpAt := t, rangeAt := t, held := false, safeOn := false, safeStart := none, safeGate := false
           safeEdged := false, cause := .none, fault := false }
/-- The FIELD_STATE record of a lost VISO, once there is room for it (R83). -/
def State.visoReport (s : State) : State :=
  let s := ({ s with visoLost := true }).raiseCause 1
  match s.stage (s.fieldRecord 3) with
  | (s, true) => s
  | (s, false) => { s with fieldDue := some 3 }
/-- The power-on reset is released: straps sampled, device time 0, everything reset but the Plinth, ROM loader started; a VISO
that is not there is lost (R57, R83, R94, R99, R498, R502, R512). -/
def State.boot (s : State) (pins : StartPins) : State :=
  let keeps (q : QuadId) : Bool := s.powered q && pins.viso
  let p := s.pair
  let d := s.dieNow
  let pairMode := fld pins.straps 1 2 == 1 || fld pins.straps 1 2 == 2
  let t := { s with por := false, dormant := false, straps := pins.straps, strapsNow := pins.straps, viso := pins.viso
                    zero := s.clock }.cold (if pairMode then 20000 else 1000)
  let quads := t.quads.mapFinIdx fun i x h => if keeps ⟨i, h⟩ then keepQuad d s.quads[i] x else x
  let chans := t.chans.mapFinIdx fun i x h => if keeps (quadOf ⟨i, h⟩) then keepChan d s.chans[i] else x
  let pair := { Reset.pair with
    st := if pairMode then .starting else .single, peerAbsent := pins.peerPresN, epoch := p.epoch, cfggen := p.cfggen
    staticOk := p.staticOk, gntN := p.gntN }
  let t := { t with quads := quads, chans := chans, pair := pair
                    host := { t.host with link := if t.host.perst then 0 else 1 } }.romStart
  if pins.viso then t else t.visoReport

/-- POWER_ON_RESET_ASSERT: a logic rail falls; DORMANT needs VAON alone (R76, R78, R90, R93). -/
def execPowerOnResetAssert (dt : Nat) (rail : Rail) (s : State) : Host.Outcome State Fault Refusal :=
  let s := s.elapse dt
  let s := { s with rails := s.rails &&& ~~~BitVec.ofNat 4 (2 ^ railBit rail) }
  .next <|
    if s.dormant && rail != .vaon then s
    else { s with por := true, dormant := false, wokeDormant := false }
/-- POWER_ON_RESET_RELEASE: all four rails are above their thresholds, and the clock is there (R76, R633). -/
def execPowerOnResetRelease (dt : Nat) (pins : StartPins) (s : State) : Host.Outcome State Fault Refusal :=
  let s := s.elapse dt
  .next (s.when s.por fun s =>
    let s := { s with rails := 0xF }
    if s.clk25 then s.boot pins else s)
/-- CLK25_LOSS: the logic die is held in power-on reset (R633). -/
def execClk25Loss (dt : Nat) (s : State) : Host.Outcome State Fault Refusal :=
  let s := s.elapse dt
  .next (s.when s.clk25 fun s =>
    let s := { s with clk25 := false }
    if s.dormant || s.por then s else { s with por := true, wokeDormant := false })
/-- CLK25_RETURN: the reset is released 1 ms later, if the rails are there (R633). -/
def execClk25Return (dt : Nat) (pins : StartPins) (s : State) : Host.Outcome State Fault Refusal :=
  let s := s.elapse dt
  .next (s.when (!s.clk25) fun s =>
    let s := { s with clk25 := true }
    if s.por && s.rails == 0xF then s.boot pins else s)
/-- WAKE: as after a power-on reset, with the cause DORMANT (R92). -/
def execWake (dt : Nat) (pins : StartPins) (s : State) : Host.Outcome State Fault Refusal :=
  let s := s.elapse dt
  .next (s.when s.dormant fun s =>
    let s := { s with rails := 0xF, wokeDormant := true }
    if s.clk25 then s.boot pins else { s with dormant := false, por := true })

/-! ## Loss of the field dies' supply (R83, R84, R90) -/

/-- All field dies lose their power: every land is high-impedance, and no safe value is applied (R83). -/
def State.diesLost (s : State) : State :=
  let s := (List.finRange 4).foldl (fun s q => s.dropBursts q) s
  let s := allChans.foldl (fun s c => if s.isOdd c then s else s.withdraw c) s
  let t := s.now
  s.retrigger fun s =>
    { s with
      chans := s.chans.mapFinIdx fun i x h => (if s.staleChan ⟨i, h⟩ then syncChan t x else x).unpowered t
      quads := s.quads.map fun x =>
        { x.unpowered with started := none, silence := x.silenceSet } }
/-- What the loss of VISO brings: all quadrants are lost; an active unit of a pair hands the field over (R83, R528–R530). -/
def State.visoGone (s : State) : State :=
  if !s.up then s.diesLost
  else if s.pairActive then
    let zaf := s.pair.zaf.present
    let s := (s.roleLoss s.now).diesLost
    let s := { s with visoLost := true }
    if zaf then (s.modPair fun p => { p with finalDue := true }).finalCapture
    else s.modPair fun p => { p with mute := true, cap := none }
  else
    s.diesLost.visoReport
/-- VISO_LOST (R83, R528–R530). -/
def execVisoLost (dt : Nat) (s : State) : Host.Outcome State Fault Refusal :=
  let s := s.elapse dt
  .next (s.when s.viso fun s => { s with viso := false }.visoGone)
/-- VISO_RESTORED (R84). -/
def execVisoRestored (dt : Nat) (s : State) : Host.Outcome State Fault Refusal :=
  let s := s.elapse dt
  .next (s.when (!s.viso) fun s => { s with viso := true, visoLost := false })
/-- ENTER_DORMANT: polling stops; only the wake logic goes on (R90, R91). -/
def execEnterDormant (dt : Nat) (s : State) : Host.Outcome State Fault Refusal :=
  let s := s.elapse dt
  .next (s.when (s.up && s.dormantReq) fun s => { s.diesLost with dormant := true, dormantReq := false })

/-! ## Starting the field dies (R80–R82, R85, R98, R108) -/

/-- TRANSFORMER_START: in quadrant order, once the die before has synchronised or 1 ms after its start; in a pair only with
the role (R80, R82). -/
def execTransformerStart (dt : Nat) (q : QuadId) (s : State) : Host.Outcome State Fault Refusal :=
  let s := s.elapse dt
  let before : Bool := if h : 0 < q.val then
      let p := s.quad ⟨q.val - 1, by omega⟩
      p.sync || (match p.started with | some t => decide (t + 1000000 ≤ s.now) | none => false)
    else true
  .next (s.when (s.up && s.viso && s.holdsRole && (s.quad q).started.isNone && before) fun s =>
    let t := s.now
    s.modQuad q fun x => { x with started := some t })
/-- A quadrant reset goes on with its next quadrant, or completes with its last (R98). -/
def State.resetDone (s : State) (q : QuadId) : State :=
  s.ops.foldl (fun s o => match o.kind with
    | .quadReset (h :: rest) =>
      if h != q then s else
      match rest with
      | [] => s.completeOp o .done 0 s.now 0
      | r :: _ => ({ s with ops := s.ops.map fun x => if x == o then { o with kind := .quadReset rest } else x }).quadResetStart r
    | _ => s) s
/-- FIELD_DIE_SYNC: the die synchronises, receives ARMED = 0, and takes a DISARM that waited (R81, R85, R98, R108). -/
def execFieldDieSync (dt : Nat) (q : QuadId) (s : State) : Host.Outcome State Fault Refusal :=
  let s := s.elapse dt
  .next (s.when (s.up && s.viso && s.sendsFrames && (s.quad q).started.isSome && !(s.quad q).sync) fun s =>
    let t := s.now
    let stale := (s.quad q).stale
    let s := (quadChans q).foldl (fun s c => s.modChan c fun x =>
      { (if stale then syncChan t x else x) with cmd := false, filtAt := t }) s
    let s := s.retrigger fun s => s.modQuad q fun x =>
      { x with sync := true, stale := false, released := false, fwTrig := false, dieArmed := false, lastGood := none, lostRun := 0
               lostFrom := none, silence := if s.inPair then 1000 * ptTrel s.pair.timing else x.silenceSet }
    let s := if (s.quad q).disWait then s.disarmQuad q else s
    (s.driveSelf fun c => quadOf c == q).resetDone q)

/-! ## Straps and throttling (R59, R194, R362, R597) -/

/-- Mason records a strap change in the log (R59). -/
def State.recordStraps (s : State) (straps : BitVec 5) : State :=
  (s.modMason fun m => { m with strapChanges := m.strapChanges + 1 }).logEvent 1 straps.toNat false
/-- STRAP_CHANGE: no effect until the next sampling. Mason records it at once, or, when its firmware does not run, once it runs
(log entry 111); the check may be shed (R59, R597). -/
def execStrapChange (dt : Nat) (straps : BitVec 5) (s : State) : Host.Outcome State Fault Refusal :=
  let s := s.elapse dt
  let changes := straps != s.strapsNow
  let s := { s with strapsNow := straps }
  .next (s.when (s.up && changes) fun s =>
    if !s.fwReady then s.modMason fun m => { m with strapWait := m.strapWait ++ [straps] }
    else if s.mason.shed.val < 2 then s.recordStraps straps
    else s)
/-- THROTTLE_ENTER: 125 °C; chains are suspended until the rest fits (R194, R362). -/
def execThrottleEnter (dt : Nat) (s : State) : Host.Outcome State Fault Refusal :=
  let s := s.elapse dt
  .next (s.when (s.up && !s.throttled) fun s => ((({ s with throttled := true }).raiseCause 9).logEvent 5 1 true).refit)
/-- THROTTLE_EXIT: 115 °C; suspended chains start again and write RESUMED (R194, R362, R378). -/
def execThrottleExit (dt : Nat) (s : State) : Host.Outcome State Fault Refusal :=
  let s := s.elapse dt
  .next (s.when (s.up && s.throttled) fun s =>
    let s := (({ s with throttled := false }).raiseCause 9).logEvent 5 0 true
    (List.finRange 16).foldl (fun s k => if s.chains[k].st == .suspended then s.chainStart k (s.dspTick s.now) 0x08 else s) s)

end Sys2Proof.Machine
end

