-- ==== Sys2Proof/Machine/Serial.lean ====
section
/-!
DEFINITION. The serial port: collisions and retries, the XIP window, and the slave port (R556–R572, R594).
-/
namespace Sys2Proof.Machine
open Sys2Proof

def bump8 (n : Nat) : Nat := min 255 (n + 1)
/-- The port has power: a COLD standby's has none (R572). -/
def State.serialUp (s : State) : Bool := s.up && s.pair.st != .standby
/-- The bus is free for a transfer of the DN128: with MMEN = 1 the three selects have been high for TBUS (R565). -/
def State.busFree (s : State) : Bool :=
  let p := s.serial
  !spMmen p.word || (p.scs && p.cs0 && p.cs1 && decide (p.freeSince + 1000 * spTbus p.word ≤ s.now))
/-- SP_RDY (R569). -/
def State.spRdy (s : State) : Bool := s.serialUp && spSen s.serial.word && decide (16 < 64 - s.serial.rx.length)

/-! ## The DN128 as master: discovery and transfers (R559–R561, R564) -/

/-- Lines that carry command, address and data (R559). -/
def protoLanes : Proto → Nat × Nat × Nat
  | .p111 => (1, 1, 1) | .p114 => (1, 1, 4) | .p144 => (1, 4, 4) | .p444 => (4, 4, 4)
/-- The protocols by speed (R559, R560). -/
def protoRank : Proto → Nat
  | .p111 => 0 | .p114 => 1 | .p144 => 2 | .p444 => 3
/-- The fastest read protocol of a table (R560). -/
def fastestRead (t : FlashTable) : ReadMode :=
  t.more.foldl (fun a b => if protoRank a.proto < protoRank b.proto then b else a) t.base
/-- A byte, most significant bit first (R559). -/
def msbFirst (b : Byte) : List Bool := (List.range 8).map fun i => bit b (7 - i)
/-- The address bytes of a transfer, most significant first. -/
def Xfer.addrList (x : Xfer) : List Byte := (leBytes x.addrBytes x.addr).reverse
/-- The bits that a read sends, in order: command, address, continuous-read mode bits (R559, R564). -/
def Xfer.sent (x : Xfer) : List Bool := (x.cmd.toList ++ x.addrList ++ x.contBits.toList).flatMap msbFirst
/-- Clocks of a read: command, address, mode and dummy cycles, data (R559, R563). -/
def Xfer.clocks (x : Xfer) : Nat :=
  let l := protoLanes x.proto
  (if x.cmd.isSome then 8 / l.1 else 0) + 8 * x.addrBytes / l.2.1 + x.modeClks + x.dummy + 8 * x.data / l.2.2
/-- SP_SCK idles high, SPI mode 3; R559 names modes 0 and 3 and says of no transfer which (log entry 112). -/
def Xfer.mode3 (x : Xfer) : Bool := Config.spiMode3 x.sel.val x.addr
/-- A device as its tables describe it: 4-byte addressing above 16 MiB, by 4-byte commands or by 4-byte mode (R560). -/
def deviceOf (t : FlashTable) : FlashDev :=
  { density := t.density, wide := decide (0x1000000 < t.density), read := fastestRead t, clock := 100, contBits := t.contBits, exit := t.exit }
/-- Steps 1 to 4 of R560 on a select: the reset pair in 4-4-4 and in 1-1-1, the SFDP header at 25 MHz, and what the tables ask
for before the chosen protocol. -/
def discovery (sel : Fin 2) (t : FlashTable) : List BusOp :=
  let sfdp : Xfer := { sel := sel, clock := 25, proto := .p111, cmd := some 0x5A, addr := 0, addrBytes := 3, contBits := none
                       modeClks := 0, dummy := 8, data := 8 }
  [.cmd sel 4 [0x66], .cmd sel 4 [0x99], .cmd sel 1 [0x66], .cmd sel 1 [0x99], .read sfdp] ++
  (if (deviceOf t).wide && !t.wideCmds then [.cmd sel 1 [0xB7]] else []) ++
  (if t.entry.isEmpty then [] else [.cmd sel 1 t.entry])
/-- The device on a select is discovered; Mason takes the same steps on SP_CS1_N (R560, R561). -/
def Serial.discover (p : Serial) (sel : Fin 2) (t : FlashTable) : Serial :=
  { p with flash := p.flash.set sel (some (deviceOf t)), cont := p.cont && sel != 0, bus := discovery sel t }
/-- The clock at which a device's header has been read (R560, R561). -/
def Serial.clocked (p : Serial) (sel : Fin 2) (mhz : Nat) : Serial :=
  { p with flash := p.flash.set sel (p.flash[sel].map fun d => { d with clock := mhz }) }
/-- Master clock limit in MHz (R557). -/
def mclkMhz (w : Word64) : Nat := 100 / 2 ^ spMclk w
/-- A read of a device by its discovered protocol: 3- or 4-byte address; cont: continuous-read mode is used, and on: the
device is in it, so that the command is omitted (R559, R561, R564). -/
def FlashDev.xfer (d : FlashDev) (sel : Fin 2) (clock addr data : Nat) (cont on : Bool) : Xfer :=
  { sel := sel, clock := min d.clock clock, proto := d.read.proto, cmd := if on then none else some d.read.cmd, addr := addr
    addrBytes := if d.wide then 4 else 3, contBits := if cont then some d.contBits else none, modeClks := d.read.mode
    dummy := d.read.dummy, data := data }
/-- The ROM loader reads the flash on SP_CS0_N, every access with its command (R560, R564). -/
def Serial.flashRead (p : Serial) (addr data : Nat) : Serial :=
  match p.flash[0] with
  | some d => { p with bus := [.read (d.xfer 0 100 addr data false false)] }
  | none => p
/-- Mason reads a device under the serial-port word: at the clock found or MCLK; in continuous-read mode only with MMEN = 0 and
CRM = 1 on a device with mode bits, and with the exit sequence before any other command (R561, R564). -/
def Serial.masonRead (p : Serial) (addr data : Nat) : Serial :=
  match p.flash[0] with
  | some d =>
    let cont := !spMmen p.word && spCrm p.word && d.read.mode != 0
    let out : List BusOp := if p.cont && !cont then [.cmd 0 1 d.exit] else []
    { p with cont := cont, bus := out ++ [.read (d.xfer 0 (mclkMhz p.word) addr data cont (p.cont && cont))] }
  | none => p

/-! ## Collisions and the XIP window (R562, R563, R565, R566) -/

/-- SP_COLLIDE: during a transfer of the DN128 with select own, another select falls (0 SP_CS0_N, 1 SP_CS1_N, 2 SP_SCS_N), and
the transfer is aborted; it cannot see a master that asserts its own select (R565, R566). -/
def execSpCollide (dt : Nat) (sel : Fin 2 × Fin 3) (s : State) : Host.Outcome State Fault Refusal :=
  let s := s.elapse dt
  .next (s.when (s.serialUp && spMmen s.serial.word && !s.serial.aborted && s.serial.scs && sel.2.val != sel.1.val) fun s =>
    (s.modSerial fun p => { p with aborted := true, colCnt := bump8 p.colCnt, cs0 := p.cs0 && sel.2 != 0
                                   cs1 := p.cs1 && sel.2 != 1, scs := sel.2 != 2, freeSince := s.now }).raiseCause 10)
/-- SERIAL_RETRY: the selects have been high for TBUS, and the aborted transfer starts again (R565, R566). -/
def execSerialRetry (dt : Nat) (s : State) : Host.Outcome State Fault Refusal :=
  let s := s.elapse dt
  let p := s.serial
  .next (s.when (s.serialUp && p.aborted && p.scs && decide (p.freeSince + 1000 * spTbus p.word ≤ s.now)) fun s =>
    s.modSerial fun p => { p with aborted := false, cs0 := true, cs1 := true })

/-- The prefetch lines with line k of these bytes as the one used most recently (R563). -/
def useLine (lines : List (Nat × List Byte)) (k : Nat) (data : List Byte) : List (Nat × List Byte) :=
  ((k, data) :: lines.filter fun l => l.1 != k).take 32
def xipSize : Nat := 0x4000000
/-- Line k is read from the flash into the prefetch buffer (R562, R563). -/
def Serial.fill (p : Serial) (k : Nat) (data : List Byte) : Serial :=
  let p := p.masonRead (256 * k) 256
  { p with lines := useLine p.lines k data }
/-- Size of the part of the window that reads the flash; without a discovered flash there is none (R562). -/
def Serial.xipEnd (p : Serial) : Nat := match p.flash[0] with | some d => min xipSize d.density | none => 0
/-- XIP_READ at an offset of the window: line is what flash returns for the line, next for its successor, which a hit in
the second half fills (R562, R563). -/
def execXipRead (dt addr : Nat) (line next : List Byte) (s : State) : Host.Outcome State Fault Refusal :=
  let s := s.elapse dt
  if xipSize ≤ addr then .fault (.outsideXip addr) else
  .next (s.when (s.serialUp && decide (addr < s.serial.xipEnd) && line.length == 256 && next.length == 256) fun s =>
    let k := addr / 256
    let p := s.serial
    let ready := s.busFree && !p.aborted
    match p.lines.find? fun l => l.1 == k with
    | some l =>
      let fills := 128 ≤ addr % 256 && 256 * (k + 1) < p.xipEnd && !(p.lines.any fun x => x.1 == k + 1) && ready
      s.modSerial fun p =>
        let p := if fills then p.fill (k + 1) next else p
        { p with lines := useLine p.lines k l.2 }
    | none => if ready then s.modSerial fun p => p.fill k line else s)

/-! ## The slave port (R567–R570) -/

/-- SLAVE_SELECT_FALL (R565, R567). -/
def execSlaveSelectFall (dt : Nat) (s : State) : Host.Outcome State Fault Refusal :=
  let s := s.elapse dt
  .next (s.modSerial fun p => { p with scs := false })
/-- FILL repeated to the word width (R557, R567). -/
def fillWord (w : Word64) : Word32 :=
  let f := (spFill w).toNat
  BitVec.ofNat 32 (leNat (List.replicate (spBits w / 8) (BitVec.ofNat 8 f)))
/-- A word is sent: from the transmit FIFO, or FILL, counted (R567). -/
def Serial.send (p : Serial) : Serial :=
  match p.tx with
  | w :: rest => { p with tx := rest, miso := p.miso ++ [w] }
  | [] => { p with miso := p.miso ++ [fillWord p.word], undCnt := bump8 p.undCnt }
/-- SLAVE_WORD: a word completes; a denied one, or one with the FIFO full, is dropped and counted (R567, R569, R594). -/
def execSlaveWord (dt : Nat) (w : Word32) (s : State) : Host.Outcome State Fault Refusal :=
  let s := s.elapse dt
  .next (s.when (s.serialUp && spSen s.serial.word && !s.serial.scs && decide (w.toNat < 2 ^ spBits s.serial.word)) fun s =>
    let t := s.now
    let s := s.modSerial fun p => { p.send with lastWord := t }
    if !s.allowed 12 0x16 2 then (s.modSerial fun p => { p with ovfCnt := bump8 p.ovfCnt }).deny 12 0x16 2
    else if 64 ≤ s.serial.rx.length then s.modSerial fun p => { p with ovfCnt := bump8 p.ovfCnt }
    else (s.modSerial fun p => { p with rx := p.rx ++ [(w, t)] }).drainRx)
/-- SLAVE_SELECT_RISE: the open record is staged; bits of a word that did not complete count it, and its transmit word,
as lost (R568, R570). -/
def execSlaveSelectRise (dt bits : Nat) (s : State) : Host.Outcome State Fault Refusal :=
  let s := s.elapse dt
  let fell := !s.serial.scs
  let s := s.modSerial fun p => { p with scs := true, freeSince := s.now }
  .next (s.when (fell && s.serialUp && spSen s.serial.word && decide (bits < spBits s.serial.word)) fun s =>
    let s := s.stageOpen.drainRx
    if bits == 0 then s
    else s.modSerial fun p =>
      let cut := if p.tx.isEmpty then p.txCut else bump8 p.txCut
      { p.send with txCut := cut, partCnt := p.partCnt + 1 })
/-- SIDEBAND_RECORD_TIMEOUT (R570). -/
def execSidebandRecordTimeout (dt : Nat) (s : State) : Host.Outcome State Fault Refusal :=
  let s := s.elapse dt
  .next (s.when (s.serialUp && !s.serial.openRec.isEmpty && decide (s.serial.lastWord + 100000 ≤ s.now)) fun s =>
    s.stageOpen.drainRx)

end Sys2Proof.Machine
end

