-- ==== Sys2Proof/Machine/Mason.lean ====
section
/-!
DEFINITION. Mason: images and their checks, loading and committing firmware, restarts, load shedding, the random number
generator and ATTEST (R99–R103, R573–R588, R597–R604, R640, R644).
-/
namespace Sys2Proof.Machine
open Sys2Proof

/-! ## Images (R575–R577) -/

def imCert (b : List Byte) : Nat := fieldAt b 12 4
def imBody (b : List Byte) : Nat := fieldAt b 16 4
def imSize (b : List Byte) : Nat := 256 + imCert b + imBody b
/-- Step 1 of R576 fails: MAGIC "KOZN", HDRVER, SIREV, ARC, CERTLEN, ENTRY, reserved bytes. -/
def imHeaderBad (b : List Byte) : Bool :=
  fieldAt b 0 4 != 0x4E5A4F4B || fieldAt b 4 2 != 2 || fieldAt b 6 1 != 0xB1 || 128 < fieldAt b 7 1 || imCert b < 256 ||
  2048 < imCert b || imBody b ≤ fieldAt b 20 4 || fieldAt b 24 8 != 0 || fieldAt b 80 80 != 0
/-- Steps 1 to 3 of R576, on the header. -/
def imHeadFault (b : List Byte) (arcc : Nat) : Nat :=
  if imHeaderBad b then 2 else if 448 * 1024 < imSize b then 6 else if fieldAt b 7 1 < arcc then 5 else 0
/-- Step 4, on the certificate. -/
def imCertFault (cert : List Byte) : Nat := if Config.certOk cert then 0 else 4
/-- Steps 5 and 6, on the body's digest and the header's signature. -/
def imBodyFault (b : List Byte) : Nat :=
  if Config.sha384 (slice b (256 + imCert b) (imBody b)) != BitVec.ofNat 384 (fieldAt b 32 48) then 3
  else if !Config.sigOk (slice b 0 160) (slice b 160 96) (slice b 256 (imCert b)) then 4
  else 0
/-- The fault code of the first check of R576 that an image fails, 0 when it passes all six. -/
def imFault (b : List Byte) (arcc : Nat) : Nat :=
  if imHeadFault b arcc != 0 then imHeadFault b arcc
  else if imCertFault (slice b 256 (imCert b)) != 0 then 4
  else imBodyFault b
def imageOf (b : List Byte) : Image :=
  { vmaj := BitVec.ofNat 16 (fieldAt b 8 2), vmin := BitVec.ofNat 16 (fieldAt b 10 2), arc := fieldAt b 7 1
    digest := BitVec.ofNat 384 (fieldAt b 32 48) }

/-- The ROM loader reads from flash, and no collision holds its transfer up (R99, R566, R644). -/
def State.romLoads (s : State) : Bool :=
  s.up && (s.bootsrc == 1 || s.bootsrc == 2) && s.pair.st != .standby && !s.serial.aborted
/-- Steps 1 to 4 of R560: what the SFDP tables say is kept, or no flash answered. -/
def State.loadTables (s : State) (t : Option FlashTable) : State :=
  match t with
  | none => s.romWait 1
  | some t => ((s.modSerial fun p => p.discover 0 t).modMason fun m => { m with stage := 2, reading := [], loadClk := 100 })
/-- Step 5 of R560: a header found invalid at 100 MHz is read again at 50 and at 25 MHz; the checks of R576 that concern it
are made at the last clock tried (R644). -/
def State.loadHeader (s : State) (b : List Byte) : State :=
  let f := imHeadFault b s.mason.arcc
  let clk := s.mason.loadClk
  let s := s.modSerial fun p => (p.clocked 0 clk).flashRead 0 256
  if f == 2 && 25 < clk then s.modMason fun m => { m with loadClk := clk / 2 }
  else if f != 0 then s.romWait (BitVec.ofNat 4 f)
  else s.modMason fun m => { m with reading := b }
/-- The digest and the signature of the image read are checked, and its firmware starts (R99, R576, R644). -/
def State.loadChecked (s : State) : State :=
  let b := s.mason.reading
  let f := imBodyFault b
  if f != 0 then s.romWait (BitVec.ofNat 4 f)
  else s.modMason fun m => { m with stage := 5, image := imageOf b, hostLoaded := false, sram := if s.bootsrc == 2 then b else m.sram }
/-- IMAGE_READ_COMPLETE: one step of loading the image at flash address 0, with its checks: STAGE 0x1 up to the tables, 0x2 up to
the end of the read, 0x3 until digest and signature are checked (R99, R100, R560, R576, R577, R644; log entry 92). -/
def execImageReadComplete (dt : Nat) (step : LoadStep) (s : State) : Host.Outcome State Fault Refusal :=
  let s := s.elapse dt
  let m := s.mason
  let b := m.reading
  .next (s.when s.romLoads fun s =>
    match step with
    | .tables t => if m.stage.toNat ≤ 1 then s.loadTables t else s
    | .header h => if m.stage == 2 && b.isEmpty && h.length == 256 then s.loadHeader h else s
    | .cert c =>
      if m.stage == 2 && b.length == 256 && c.length == imCert b then
        let s := s.modSerial fun p => p.flashRead 256 (imCert b)
        if imCertFault c != 0 then s.romWait 4 else s.modMason fun m => { m with reading := b ++ c }
      else s
    | .body d =>
      if m.stage == 2 && 256 < b.length && b.length == 256 + imCert b && d.length == imBody b then
        (s.modSerial fun p => p.flashRead (256 + imCert b) (imBody b)).modMason fun m => { m with stage := 3, reading := b ++ d }
      else s
    | .checked => if m.stage == 3 then s.loadChecked else s)
/-- FIRMWARE_READY: STAGE reads FW_READY; Mason sets the thermal model's parameters and records the strap changes that waited
(R59, R103, R233, R640). -/
def execFirmwareReady (dt : Nat) (s : State) : Host.Outcome State Fault Refusal :=
  let s := s.elapse dt
  .next (s.when (s.up && s.mason.stage == 5 && !s.mason.restarting) fun s =>
    let straps := s.mason.strapWait
    let s := s.modMason fun m => { m with stage := 6, recovery := false, strapWait := [] }
    let s := (List.finRange 4).foldl (fun s q => s.newThermal q) s
    straps.foldl State.recordStraps s)

/-! ## Restart (R582, R601–R604) -/

/-- The shed mask changes: MASON_STATUS and MSTAT (R599). -/
def State.setShed (s : State) (k : Fin 5) : State :=
  if s.mason.shed == k then s
  else
    let t := s.now
    ((s.modMason fun m => { m with shed := k, statusAt := if m.shed == 0 then t else m.statusAt }).masonRecord).raiseCause 8
/-- Every admin command in flight completes with ABORTED_RESET; a quadrant reset and a PAIR_CONTROL go on (R466, R604). -/
def State.abortAdmin (s : State) : State :=
  let goesOn (o : Op) : Bool := match o.kind with | .quadReset _ => true | .handover => true | .resync => true | _ => false
  let s := { s with ops := (s.ops.filter fun (o : Op) => o.q != 0 || goesOn o).map fun (o : Op) => if o.q == 0 then { o with live := false } else o }
  ((s.queue 0).flight.filter fun (e : Inflight) => e.stage != .fetching).foldl (fun (s : State) e => s.complete 0 e.num .abortedReset 0 s.now 0) s
/-- A calibration under way ends on the previous coefficients (R604). -/
def State.abortCal (s : State) : State :=
  let t := s.now
  let s := { s with meas := s.meas.map fun (m : Meas) =>
    if m.cal then { m with cal := false, tdac := m.tdacHeld.getD m.calSaved, tdacHeld := none, tdacAt := t } else m }
  match s.ops.find? fun (o : Op) => match o.kind with | .cal .. => true | _ => false with
  | some o => s.completeOp o .abortedReset 0 t 0
  | none => s
/-- The admin command that Mason serves is an FW_LOAD. -/
def State.loading (s : State) : Bool :=
  match s.mason.busy with
  | some n => (s.queue 0).flight.any fun e => e.num == n && dOp e.desc == 8
  | none => false
/-- Mason restarts: commands abort, and an image whose FW_LOAD was aborted starts again from OFFSET 0; Mason data is fresh
(R94, R604). -/
def State.masonRestart (s : State) : State :=
  let s := if s.loading then s.modMason fun m => { m with staged := [], stagedOk := false } else s
  let s := s.abortAdmin.abortCal
  let s := s.modMason fun m =>
    { m with stage := 5, restarting := true, busy := none, flashOp := none, stagedOk := m.stagedOk && m.flashOp.isNone
             log := [], logShed := 0, highRun := 0, lowRun := 0, load := 0, resetDiscards := 0, strapChanges := 0 }
  (s.raiseCause 11).setShed 0
/-- Recovery: the ROM loader serves admin commands as under BOOTSRC 0b00 (R603). -/
def State.recover (s : State) : State :=
  s.modMason fun m => { m with stage := 4, recovery := true, restarting := false, sram := [] }
/-- MASON_WATCHDOG_EXPIRY: a restart; the third expiry within 10 s leads to recovery (R601, R603). -/
def execMasonWatchdogExpiry (dt : Nat) (s : State) : Host.Outcome State Fault Refusal :=
  let s := s.elapse dt
  .next (s.when (s.up && (s.mason.stage == 5 || s.mason.stage == 6)) fun s =>
    let t := s.now
    let times := t :: s.mason.expiries.filter fun x => t ≤ x + 10000000000
    let s := s.masonRestart.modMason fun m => { m with restarts := m.restarts + 1, expiries := times }
    if 3 ≤ times.length then s.recover else s)
/-- MASON_RESTART_COMPLETE: the digest of the image agrees, and the firmware restarts from ENTRY; else recovery (R602, R603). -/
def execMasonRestartComplete (dt : Nat) (digestOk : Bool) (s : State) : Host.Outcome State Fault Refusal :=
  let s := s.elapse dt
  .next (s.when (s.up && s.mason.restarting && s.mason.stage == 5) fun s =>
    if digestOk then s.modMason fun m => { m with restarting := false } else s.recover)

/-! ## Load and shedding (R597, R599) -/

/-- MASON_LOAD_WINDOW: the end of a 1 ms window with its load in percent (R597, R599). -/
def execMasonLoadWindow (dt load : Nat) (s : State) : Host.Outcome State Fault Refusal :=
  let s := s.elapse dt
  .next (s.when (s.up && s.fwReady && load ≤ 100) fun s =>
    let t := s.now
    let s := s.modMason fun m => { m with load := load, highRun := if 90 < load then m.highRun + 1 else 0
                                          lowRun := if load < 70 then m.lowRun + 1 else 0 }
    let m := s.mason
    let k := m.shed.val
    if h : 10 ≤ m.highRun ∧ k < 4 ∧ m.shedAt + 10000000 ≤ t then
      (s.modMason fun m => { m with shedAt := t }).setShed ⟨k + 1, by omega⟩
    else if h : 100 ≤ m.lowRun ∧ 0 < k ∧ m.restoreAt + 100000000 ≤ t then
      (s.modMason fun m => { m with restoreAt := t }).setShed ⟨k - 1, by omega⟩
    else s)
/-- MASON_STATUS_PERIODIC: once per second while any step is shed (R599). -/
def execMasonStatusPeriodic (dt : Nat) (s : State) : Host.Outcome State Fault Refusal :=
  let s := s.elapse dt
  .next (s.when (s.up && s.mason.shed != 0 && decide (s.mason.statusAt + 1000000000 ≤ s.now)) fun s =>
    let t := s.now
    (s.modMason fun m => { m with statusAt := t }).masonRecord)

/-! ## FW_LOAD and FW_COMMIT (R579–R583) -/

def flashFail : Nat := 0xF0EE
/-- The ROM loader serves the firmware store (R99, R603). -/
def State.romHere (s : State) : Bool := s.mason.stage == 4
/-- End of the image's last part where parts go now (R579). -/
def State.loadEnd (s : State) : Nat := if s.romHere then s.mason.sram.length else s.mason.staged.length
/-- FW_LOAD: checks, then the read of the part (R475, R579). -/
def execFwLoad (dt : Nat) (n : Word32) (s : State) : Host.Outcome State Fault Refusal :=
  let s := s.elapse dt
  .next (s.adm n (isOp 8) (fun _ => [(0x40, 2)])
    (fun d => firstBad d false false [(4, 4), (8, 8), (16, 4)]
      [(448 * 1024 < dNum d 4 4 + dNum d 16 4, 4), (dNum d 16 4 < 1 || 1048576 < dNum d 16 4, 16)])
    fun d s =>
      if dNum d 4 4 != 0 && dNum d 4 4 != s.loadEnd then s.finish 0 n .rejState 0
      else (s.addOp 0 n .data).emit (.dataRead (d64 d 8) (dNum d 16 4)))
/-- A part has been read: into Mason SRAM, or on to the staging area in flash (R579). -/
def State.fwData (s : State) (n : Word32) (d : Desc) (data : List Byte) : State :=
  let put (old : List Byte) : List Byte := if dNum d 4 4 == 0 then data else old ++ data
  if s.romHere then (s.modMason fun m => { m with sram := put m.sram }).finish 0 n .done 0
  else
    let s := { s with ops := s.ops.map fun (o : Op) => if o.live && o.q == 0 && o.n == n then { o with kind := .flash } else o }
    (s.modSerial Serial.leaveCont).modMason fun m => { m with staged := put m.staged, stagedOk := false, flashOp := some (.load, n) }

def commitNeeds (_ : Desc) : List (Nat × Nat) := [(0x40, 4)]
/-- An FW_COMMIT of an action; served tells whether the one that serves carries it out (R580). -/
def State.fwCommit (s : State) (n : Word32) (action : Nat) (served : Bool) (body : State → State) : State :=
  s.adm n (fun d => isOp 9 d && dNum d 4 1 == action) commitNeeds
    (fun d => firstBad d false false [(4, 1)] [(!served, 4)]) fun _ s => body s
/-- The image that FW_COMMIT verifies: SRAM under the ROM loader, else the staging area (R580). -/
def State.commitImage (s : State) : List Byte :=
  if s.romHere then s.mason.sram else if s.mason.stagedOk then s.mason.staged else []
/-- The image is verified; a fault completes the command (R576, R580). -/
def State.verified (s : State) (n : Word32) (ok : State → State) : State :=
  let f := imFault s.commitImage s.mason.arcc
  if f != 0 then s.finish 0 n .rejCheck (0xF000 + f) else ok s
/-- FW_COMMIT START (R580, R644). -/
def execFwCommitStart (dt : Nat) (n : Word32) (s : State) : Host.Outcome State Fault Refusal :=
  let s := s.elapse dt
  .next (s.fwCommit n 1 s.romHere fun s => s.verified n fun s =>
    let b := s.mason.sram
    (s.modMason fun m => { m with stage := 5, image := imageOf b, hostLoaded := true, restarting := false }).finish 0 n .done 0)
/-- FW_COMMIT VERIFY (R580). -/
def execFwCommitVerify (dt : Nat) (n : Word32) (s : State) : Host.Outcome State Fault Refusal :=
  let s := s.elapse dt
  .next (s.fwCommit n 2 (!s.romHere) fun s => s.verified n fun s => s.finish 0 n .done 0)
/-- The erase and the copy to flash address 0 begin; program and erase are no continuous reads (R564, R580, R581). -/
def State.flashStart (s : State) (n : Word32) (k : FlashOp) : State :=
  ((s.addOp 0 n .flash).modSerial Serial.leaveCont).modMason fun m => { m with flashOp := some (k, n) }
/-- FW_COMMIT INSTALL (R580, R581). -/
def execFwCommitInstall (dt : Nat) (n : Word32) (s : State) : Host.Outcome State Fault Refusal :=
  let s := s.elapse dt
  .next (s.fwCommit n 3 true fun s => s.verified n fun s => s.flashStart n .install)
/-- FW_COMMIT ACTIVATE (R580, R582). -/
def execFwCommitActivate (dt : Nat) (n : Word32) (s : State) : Host.Outcome State Fault Refusal :=
  let s := s.elapse dt
  .next (s.fwCommit n 4 (!s.romHere) fun s => s.verified n fun s => s.flashStart n .activate)
/-- FW_COMMIT ADVANCE (R583). -/
def execFwCommitAdvance (dt : Nat) (n : Word32) (s : State) : Host.Outcome State Fault Refusal :=
  let s := s.elapse dt
  .next (s.fwCommit n 5 (!s.romHere) fun s =>
    (s.modMason fun m => { m with arcc := max m.arcc (min 128 m.image.arc) }).finish 0 n .done 0)
/-- Mason restarts into the image now at flash address 0 (R581, R582). -/
def State.intoImage (s : State) (b : List Byte) : State :=
  s.masonRestart.modMason fun m =>
    { m with image := imageOf b, hostLoaded := false, sram := if s.bootsrc == 1 then m.sram else b }
/-- FLASH_PROGRAM_ERASE_COMPLETE: the flash operation of FW_LOAD, INSTALL or ACTIVATE ends, with its read-back; the prefetch
buffer is invalid (R563, R579–R582). -/
def execFlashProgramEraseComplete (dt : Nat) (ok : Bool) (s : State) : Host.Outcome State Fault Refusal :=
  let s := s.elapse dt
  .next (s.when (s.up && !s.serial.aborted) fun s =>
    match s.mason.flashOp with
    | none => s
    | some (k, n) =>
      let s := (s.modSerial fun p => { p with lines := [] }).modMason fun m => { m with flashOp := none }
      let b := s.commitImage
      let inPlace := s.bootsrc == 1 && s.fwReady
      match k, ok with
      | .load, true => (s.modMason fun m => { m with stagedOk := true }).finish 0 n .done 0
      | .load, false => (s.modMason fun m => { m with staged := [], stagedOk := false }).finish 0 n .rejCheck flashFail
      | .install, true => let s := s.finish 0 n .done 0; if inPlace then s.intoImage b else s
      | .activate, true => (s.finish 0 n .done 0).intoImage b
      | _, false => let s := s.finish 0 n .rejCheck flashFail; if inPlace then s.masonRestart else s)

/-! ## ATTEST and the random number generator (R585–R588, R613) -/

/-- RNG_HEALTH_TEST_FAIL and _PASS (R588, R613). -/
def execRngHealthTestFail (dt : Nat) (s : State) : Host.Outcome State Fault Refusal :=
  let s := s.elapse dt
  .next (s.when s.up fun s => s.modMason fun m => { m with rngOk := false })
def execRngHealthTestPass (dt : Nat) (s : State) : Host.Outcome State Fault Refusal :=
  let s := s.elapse dt
  .next (s.when s.up fun s => s.modMason fun m => { m with rngOk := true })

def safeCode : SafeVal → Nat | .off => 0 | .on => 1 | .hold => 2 | .pulse => 3
/-- The record-route word of a type (R445). -/
def State.routeWord (s : State) (i : Fin 10) : Nat := (i.val + 1) + 256 * s.routes[i].toNat
/-- The RO counts of the Plumb schedule word and the word as FEATURE_GET returns it (R540). -/
def Plumb.suspectBit (p : Plumb) (s : State) : Bool :=
  if plTarget p.word == 1 then s.course.banks.toList.any fun b => b.suspect
  else plTarget p.word == 2 && s.chains.toList.any fun c => c.suspectA || c.suspectB
/-- The configuration that CFGMEAS measures, in 8-byte words (R586). -/
def State.cfgWords (s : State) : List Nat :=
  (allChans.flatMap fun c =>
    let x := s.chan c
    let v := x.safeNew.getD (x.safe, x.safePer, x.safeDuty)
    [(s.coreChw c).toNat, (s.coreProt c).toNat, x.pulw.toNat, safeCode v.1, v.2.1, v.2.2, x.budw.toNat]) ++
  ((List.finRange 4).flatMap fun q =>
    let x := s.quad q
    [x.qbudw.toNat, b2n x.supLatchPol, x.silenceSet, b2n x.armed] ++
    (s.meas[q].slots.toList.flatMap fun y => [y.w0.toNat, y.w1.toNat]) ++ [s.meas[q].tdac.toNat]) ++
  [s.devw.toNat, s.ang.srcw.toNat, s.ang.trkw.toNat, s.ang.refw.toNat] ++
  (s.chains.toList.flatMap fun c => [c.c0.toNat, c.c1.toNat, c.c2.toNat, b2n c.bankB]) ++
  ((List.range 32).map fun i => if i == 0 then s.vault.cb[0].toNat + s.vault.cb[1].toNat * 2 ^ 32
    else if i < 16 then 0 else
      let c := 2 * (i - 16)
      let v (k : Nat) : Nat := if k % 2 == 0 then (s.vault.cfA.toList.getD (k / 2) 0).toNat else (s.vault.cfB.toList.getD (k / 2) 0).toNat
      v c + v (c + 1) * 2 ^ 32) ++
  [s.faultMask.toNat] ++ (s.quads.toList.map fun x => x.silenceSet) ++ [s.syncw.toNat, s.flush] ++
  ((List.finRange 10).map s.routeWord) ++ [s.vault.layout.toNat, s.arch.word.toNat, s.pair.timing.toNat] ++
  (s.plumb.toList.map fun p => p.word.toNat) ++ [s.serial.word.toNat]
def State.cfgMeas (s : State) : BitVec 384 := Config.sha384 (s.cfgWords.flatMap (leBytes 8))
def State.accMeas (s : State) : BitVec 384 := Config.sha384 (s.rows.toList.flatMap fun w => leBytes 8 w.toNat)
/-- Bytes 0–207 of the report (R585). -/
def State.reportHead (s : State) (d : Desc) : List Byte :=
  leBytes 4 0x54415A4B ++ leBytes 2 1 ++ leBytes 2 304 ++ leBytes 32 (dNum d 4 32) ++ leBytes 8 Config.serial.toNat ++
  [0xB1, s.mason.image.vmaj.setWidth 8] ++ leBytes 2 s.mason.image.vmin.toNat ++
  [Config.romVer, s.straps.setWidth 8, BitVec.ofNat 8 s.mason.arcc,
   BitVec.ofNat 8 (b2n s.locked + 2 * b2n s.mason.hostLoaded + 4 * b2n s.pairActive)] ++
  leBytes 8 s.now ++ leBytes 48 s.mason.image.digest.toNat ++ leBytes 48 s.accMeas.toNat ++ leBytes 48 s.cfgMeas.toNat
def certTail : List Byte :=
  leBytes 4 Config.deviceCert.length ++ Config.deviceCert ++ leBytes 4 Config.caCert.length ++ Config.caCert
/-- The signature's 96 bytes (R585). -/
def State.reportSig (s : State) (head : List Byte) : List Byte := slice (Config.attestSig head s.freeCtr) 0 96
/-- ATTEST; overtaken: how many passes in a row were overtaken by a configuration change (R475, R585–R588). -/
def execAttest (dt : Nat) (n : Word32) (overtaken : Nat) (s : State) : Host.Outcome State Fault Refusal :=
  let s := s.elapse dt
  .next (s.adm n (isOp 0xA) (fun _ => [(2, 1)]) (fun d => firstBad d false false [(4, 32), (40, 12)] []) fun d s =>
    let need := 304 + certTail.length
    if dNum d 48 4 < need then s.finish 0 n .rejField need
    else if !s.mason.rngOk then s.finish 0 n .rejState 0
    else if 8 ≤ overtaken then s.finish 0 n .rejBusy 0
    else
      let head := s.reportHead d
      let bytes := head ++ s.reportSig head ++ certTail
      (s.useFresh.emit (.data (d64 d 40) bytes)).complete 0 n .done 0 s.now (resultOf (leBytes 4 bytes.length)))

end Sys2Proof.Machine
end

