-- ==== Sys2Proof/Machine/DataRead.lean ====
section
/-!
DEFINITION. Reads of command data from host memory that complete, and reads that fail (R281, R310, R363, R429, R458, R550,
R579, R595).
-/
namespace Sys2Proof.Machine
open Sys2Proof

/-- The live started command n of queue q that waits for its data, with its descriptor: none for COURSE_LOAD's first pass
and other reads, some CRC for its second pass. -/
def State.dataOp (s : State) (q : QueueId) (n : Word32) : Option (Desc × Option Word32) :=
  match (s.queue q).flight.find? fun (e : Inflight) => e.num == n with
  | none => none
  | some e =>
    match s.ops.find? fun (o : Op) => o.live && o.q == q && o.n == n with
    | some o => match o.kind with
      | .data => some (e.desc, none)
      | .coursePass2 crc => some (e.desc, some crc)
      | _ => none
    | none => none
/-- How many bytes the command reads. -/
def dataLen (d : Desc) : Nat :=
  match dOp d with
  | 0x30 => 16 * bwCount (dBankWord d)
  | 0x38 => 16 * (seqSlots d).length
  | 0x41 => 4 * dNum d 6 2
  | _ => dNum d 16 4
/-- COMMAND_DATA_READ_COMPLETE: the command goes on with what it read. -/
def execCommandDataReadComplete (dt : Nat) (q : QueueId) (n : Word32) (data : List Byte) (s : State) : Host.Outcome State Fault Refusal :=
  let s := s.elapse dt
  .next (s.when s.hostUp fun s =>
    match s.dataOp q n with
    | none => s
    | some (d, pass2) =>
      if data.length != dataLen d then s else
      match pass2, dOp d with
      | some crc, _ => s.coursePass2 q n d crc data
      | none, 0x30 => s.coursePass1 q n d data
      | none, 0x38 => s.seqData q n d data
      | none, 0x41 => s.coefData q n d data
      | none, 0x08 => s.fwData n d data
      | none, 0x0B => s.accessData n d data
      | none, _ => s)

def readFailed : Nat := 0xDA00
/-- The PLUMB_SCAN of queue q whose host range is being read, and its context (R550). -/
def State.hostScan (s : State) (q : QueueId) (n : Word32) : Option CtxId :=
  (List.finRange 8).find? fun x => s.plumb[x].scan == some (q, n) &&
    (match (s.queue q).flight.find? fun (e : Inflight) => e.num == n with | some e => dNum e.desc 5 1 == 1 | none => false)
/-- Descriptors first … first + count − 1 of queue q whose fetch read failed: not executed, no completion (R458). -/
def State.fetchFailed (s : State) (q : QueueId) (first : Word32) (count : Nat) : State :=
  let mine (e : Inflight) : Bool := e.stage == .fetching && decide ((e.num - first).toNat < count)
  if !(s.queue q).flight.any mine then s else
  let s := s.modQueue q fun u => { u with flight := u.flight.filter fun e => !mine e, st := .error, err := if u.st == .error then u.err else some .fetch }
  ((s.raiseCause 4).raiseCause 3).drained q |>.finishDrains
/-- HOST_READ_FAILURE: DBERR is set, and the read that failed decides the rest (R458). -/
def execHostReadFailure (dt : Nat) (r : HostRead) (s : State) : Host.Outcome State Fault Refusal :=
  let s := s.elapse dt
  .next (s.when s.hostUp fun s =>
    match r with
    | .poll => if s.host.pollOut then (s.modHost fun h => { h with pollOut := false }).raiseCause 4 else s
    | .index => if s.host.indexOut then (s.modHost fun h => { h with indexOut := false, genSeen := none }).raiseCause 4 else s
    | .descriptor q first count => s.fetchFailed q first count
    | .command q n =>
      match s.dataOp q n with
      | some (_, none) => (s.raiseCause 4).finish q n .rejCheck readFailed
      | some (d, some _) => ((s.raiseCause 4).putBank (dCBank d) [] (dBankWord d)).finish q n .rejCheck readFailed
      | none => match s.hostScan q n with
        | some x => (((s.raiseCause 4).modPlumb x fun p => { p with scan := none }).finish q n .rejCheck readFailed).nextScan x
        | none => s)

end Sys2Proof.Machine
end

