-- ==== Sys2Proof/Machine/FeatureGet.lean ====
section
/-!
DEFINITION. FEATURE_GET: the feature words and the items of the data features, each as it is read, and the counts that a
read resets (R233, R240, R265, R299, R354, R397, R421, R476, R477, R538, R540, R557).
-/
namespace Sys2Proof.Machine
open Sys2Proof

/-- Features with a FEATURE_GET, and those of them that return data (R477). -/
def gettable (fid : Nat) : Bool :=
  [3, 4, 5, 6, 7, 8, 9, 0xA, 0x10, 0x11, 0x12, 0x13, 0x14, 0x15, 0x16, 0x17, 0x20, 0x21, 0x28, 0x30].contains fid
def isDataFid (fid : Nat) : Bool := (0x10 ≤ fid && fid ≤ 0x17) || fid == 0x21
/-- SEL names no item of the feature (R477). -/
def getSelBad (fid sel : Nat) : Bool :=
  if fid == 3 || fid == 5 then 4 ≤ sel
  else if fid == 8 then sel == 0 || 10 < sel
  else if fid == 0x10 || fid == 0x11 then 128 ≤ sel
  else if fid == 0x17 then 64 ≤ sel
  else if fid == 0x28 then 8 ≤ sel
  else sel != 0
def getBad (d : Desc) : Option Nat :=
  let fid := dNum d 4 2
  firstBad d false false (if isDataFid fid then [(4, 4), (16, 12)] else [(4, 4)])
    [(!gettable fid, 4), (gettable fid && getSelBad fid (dSel d), 6)]

/-! ## Word features -/

def selQuad (d : Desc) : QuadId := ⟨dSel d % 4, by omega⟩
def selCtx (d : Desc) : CtxId := ⟨dSel d % 8, by omega⟩
def selChan (d : Desc) : ChanId := ⟨dSel d % 128, by omega⟩
def selQueue (d : Desc) : QueueId := ⟨dSel d % 64, by omega⟩
/-- The Plumb schedule word with its counts (R540). -/
def State.plumbGet (s : State) (x : CtxId) : Nat :=
  let p := s.plumb[x]
  p.misCnt * 2 ^ 56 + p.eccCnt * 2 ^ 48 + p.passCnt * 2 ^ 40 + b2n (p.suspectBit s) * 2 ^ 39 + (plumbRw p.word).toNat
/-- The serial-port word with its counts (R557). -/
def Serial.get (p : Serial) : Nat :=
  p.colCnt * 2 ^ 56 + p.ovfCnt * 2 ^ 48 + p.undCnt * 2 ^ 40 + p.txCut * 2 ^ 32 + (serialRw p.word).toNat
/-- The word that a word feature returns. -/
def State.wordOf (s : State) (d : Desc) : Nat :=
  match dNum d 4 2 with
  | 3 => b2n (s.quad (selQuad d)).supLatchPol
  | 4 => s.faultMask.toNat
  | 5 => (s.quad (selQuad d)).silenceSet
  | 6 => s.syncw.toNat
  | 7 => s.flush
  | 8 => s.routeWord ⟨(dSel d - 1) % 10, by omega⟩
  | 9 => s.vault.layout.toNat
  | 0xA => s.arch.word.toNat
  | 0x20 => s.pair.timing.toNat
  | 0x28 => s.plumbGet (selCtx d)
  | _ => s.serial.get

/-! ## Data features -/

/-- A value that is no whole unit, as an item (log entry 7). -/
def itemRat (v : Rat) : Int := if v.den = 1 then v.num else Config.roundItem v
def code (kind value : Nat) : Int := Config.itemCode kind value
/-- A value that may be absent (log entry 6). -/
def codeOr (kind : Nat) (v : Option Nat) : Int := match v with | some n => n | none => code kind 0
def eStateNo : EState → Nat
  | .idle => 0 | .unreferenced => 1 | .running => 2 | .coasting => 3 | .frozen => 4 | .safe => 5
def cStateNo : CState → Nat | .quiesced => 0 | .running => 1 | .draining => 2 | .suspended => 3
def aStateNo : AState → Nat | .recording => 0 | .post => 1 | .frozen => 2
def qStateNo : QState → Nat | .absent => 0 | .active => 1 | .draining => 2 | .quiesced => 3 | .error => 4
def qErrNo : Option QErr → Nat | none => 0 | some .sqidx => 1 | some .cqidx => 2 | some .fetch => 3
def pStateNo : PState → Nat | .single => 0 | .starting => 1 | .active => 2 | .releasing => 3 | .standby => 4

/-- R120, R171, R217. -/
def State.chanItems (s : State) (c : ChanId) : List Int :=
  [(s.coreChw c).toNat, (s.coreProt c).toNat, (s.chan c).pulw.toNat]
/-- R233. -/
def State.thermalItems (s : State) (c : ChanId) : List Int :=
  [(s.chan c).rth, (s.chan c).tau, (s.quad (quadOf c)).kappa]
/-- R240. -/
def State.budgetItems (s : State) : List Int :=
  ((List.finRange 4).flatMap fun q =>
    let x := s.quad q
    [itemRat (s.iEff q), itemRat (s.standingCur true q), itemRat (s.standingCond true q), itemRat (1000 * s.headroom q 0),
     (x.deferred : Int), x.forced, x.refused, x.overHard]) ++
  [itemRat s.pPKG, itemRat (s.pPkg true)]
/-- R265. -/
def State.angleItems (s : State) : List Int :=
  let th := s.thetaNow
  [code 0 (eStateNo s.ang.st), (angleWord th).toNat, (revWord th).toNat, speedOf s.omegaNow, itemRat s.ang.bwEff,
   s.course.active.val, (match s.course.swap with | some _ => ((1 - s.course.active).val : Int) | none => code 1 0), s.now]
/-- R299. -/
def State.courseItems (s : State) : List Int :=
  let c := s.course
  [c.fired, c.notApplied, c.softRefused, c.clamps, c.snapDrop, c.adcIgnored, c.nIllegal, c.nIndex, c.nStall]
/-- R354. -/
def Chain.items (c : Chain) : List Int :=
  [code 2 (cStateNo c.st), c.gdelay, b2n c.bankB, codeOr 3 (c.fade.map (·.j)),
   (match c.pend with | some p => (b2n p.toB : Int) | none => code 4 0), c.mLast, c.settled, c.gaps, c.overruns,
   c.swapCollide, c.undersampled, c.suppressed, c.dropped]
/-- R397. -/
def State.archItems (s : State) : List Int :=
  let a := s.arch
  let seqOf (x : Option ArchSlot) : Option Nat := x.map fun (y : ArchSlot) => y.seq.toNat
  [code 5 (aStateNo a.st), code 6 (256 * a.trigCode + a.trigNum), a.trigTime, a.trigRev.toNat, a.trigSeq.toNat,
   codeOr 7 (seqOf a.slots.getLast?), codeOr 8 (seqOf a.slots.head?), a.ignored, a.dropped]
/-- R421. -/
def State.queueItems (s : State) (q : QueueId) : List Int :=
  let u := s.queue q
  [code 9 (qStateNo u.st), u.f.toNat, u.w.toNat, u.flight.length, code 10 (qErrNo u.err)]
/-- R538. -/
def State.pairItems (s : State) : List Int :=
  let p := s.pair
  [code 11 (pStateNo p.st), s.hbState.toNat, codeOr 12 (p.partner.map fun (x : Partner) => x.state.toNat),
   b2n p.zaf.present + 2 * b2n p.hb.present, b2n p.degraded, p.epoch.toNat, p.cfggen.toNat,
   codeOr 13 (p.committedSeq.map (·.toNat)), codeOr 14 (p.commitAt.map fun t => s.now - t), p.resyncBytes, p.nCommitted,
   p.nAbandoned, p.nLogFull, p.zaf.losses, p.hb.losses, p.cause, b2n p.mismatch]
/-- The items of a data feature in their order. -/
def State.itemsOf (s : State) (d : Desc) : List Int :=
  match dNum d 4 2 with
  | 0x10 => s.chanItems (selChan d)
  | 0x11 => s.thermalItems (selChan d)
  | 0x12 => s.budgetItems
  | 0x13 => s.angleItems
  | 0x14 => s.courseItems
  | 0x15 => s.chains.toList.flatMap Chain.items
  | 0x16 => s.archItems
  | 0x17 => s.queueItems (selQueue d)
  | _ => s.pairItems

/-! ## Counts that a read resets (R240, R299, R354, R477, R538, R540, R557) -/

def State.readReset (s : State) (d : Desc) : State :=
  match dNum d 4 2 with
  | 0x12 => { s with quads := s.quads.map fun x => { x with deferred := 0, forced := 0, refused := 0, overHard := 0, testDelays := 0 } }
  | 0x14 => s.modCourse fun c =>
    { c with fired := 0, notApplied := 0, softRefused := 0, clamps := 0, snapDrop := 0, adcIgnored := 0, nIllegal := 0
             nIndex := 0, nStall := 0 }
  | 0x15 => { s with chains := s.chains.map fun c =>
      { c with gaps := 0, overruns := 0, swapCollide := 0, undersampled := 0, suppressed := 0, dropped := 0 } }
  | 0x21 => s.modPair fun p =>
    { p with nCommitted := 0, nAbandoned := 0, nLogFull := 0, zaf := { p.zaf with losses := 0 }, hb := { p.hb with losses := 0 } }
  | 0x28 => s.modPlumb (selCtx d) fun p => { p with misCnt := 0, eccCnt := 0, passCnt := 0 }
  | 0x30 => s.modSerial fun p => { p with colCnt := 0, ovfCnt := 0, undCnt := 0, txCut := 0 }
  | _ => s

/-- FEATURE_GET: a word in RESULT, or one 8-byte word per item at ADDR (R476). The field-watchdog word is read in the pair modes
too: that R214 rejects the feature there is taken of its FEATURE_SET (log entry 109). -/
def execFeatureGet (dt : Nat) (n : Word32) (s : State) : Host.Outcome State Fault Refusal :=
  let s := s.elapse dt
  .next (s.adm n (isOp 6) (fun _ => [(0, 1)]) getBad fun d s =>
    if isDataFid (dNum d 4 2) then
      let items := s.itemsOf d
      let need := 8 * items.length
      if dNum d 24 4 < need then s.finish 0 n .rejField need
      else ((s.readReset d).emit (.data (d64 d 16) (items.flatMap (leInt 8)))).finish 0 n .done 0
    else
      let w := s.wordOf d
      (s.readReset d).complete 0 n .done 0 s.now (resultOf (leBytes 8 w)))

end Sys2Proof.Machine
end

