-- ==== Sys2Proof/Machine/Dispatch.lean ====
section
/-!
DEFINITION. One arm per command: each calls its own meaning.
-/
namespace Sys2Proof.Machine
open Sys2Proof

def exec (i : Instr) (s : State) : Host.Outcome State Fault Refusal :=
  match i with
  | .identify dt n => Sys2Proof.Machine.execIdentify dt n s
  | .queueCreate dt n => Sys2Proof.Machine.execQueueCreate dt n s
  | .queueDelete dt n => Sys2Proof.Machine.execQueueDelete dt n s
  | .queueQuiesce dt n => Sys2Proof.Machine.execQueueQuiesce dt n s
  | .queueResume dt n => Sys2Proof.Machine.execQueueResume dt n s
  | .setPowerTarget dt n => Sys2Proof.Machine.execSetPowerTarget dt n s
  | .setQuadrantReset dt n => Sys2Proof.Machine.execSetQuadrantReset dt n s
  | .setSupplyPolicy dt n => Sys2Proof.Machine.execSetSupplyPolicy dt n s
  | .setFaultNClassMask dt n => Sys2Proof.Machine.execSetFaultNClassMask dt n s
  | .setFieldWatchdog dt n => Sys2Proof.Machine.execSetFieldWatchdog dt n s
  | .setSync dt n => Sys2Proof.Machine.execSetSync dt n s
  | .setRecordFlush dt n => Sys2Proof.Machine.execSetRecordFlush dt n s
  | .setRecordRoute dt n => Sys2Proof.Machine.execSetRecordRoute dt n s
  | .setVaultLayout dt n => Sys2Proof.Machine.execSetVaultLayout dt n s
  | .setArchive dt n => Sys2Proof.Machine.execSetArchive dt n s
  | .setPairTiming dt n => Sys2Proof.Machine.execSetPairTiming dt n s
  | .setPlumbSchedule dt n => Sys2Proof.Machine.execSetPlumbSchedule dt n s
  | .setSerialPort dt n => Sys2Proof.Machine.execSetSerialPort dt n s
  | .featureGet dt n => Sys2Proof.Machine.execFeatureGet dt n s
  | .logRead dt n => Sys2Proof.Machine.execLogRead dt n s
  | .fwLoad dt n => Sys2Proof.Machine.execFwLoad dt n s
  | .fwCommitStart dt n => Sys2Proof.Machine.execFwCommitStart dt n s
  | .fwCommitVerify dt n => Sys2Proof.Machine.execFwCommitVerify dt n s
  | .fwCommitInstall dt n => Sys2Proof.Machine.execFwCommitInstall dt n s
  | .fwCommitActivate dt n => Sys2Proof.Machine.execFwCommitActivate dt n s
  | .fwCommitAdvance dt n => Sys2Proof.Machine.execFwCommitAdvance dt n s
  | .attest dt n overtaken => Sys2Proof.Machine.execAttest dt n overtaken s
  | .accessLoad dt n => Sys2Proof.Machine.execAccessLoad dt n s
  | .accessLock dt n => Sys2Proof.Machine.execAccessLock dt n s
  | .pairControlHandover dt n => Sys2Proof.Machine.execPairControlHandover dt n s
  | .pairControlResync dt n => Sys2Proof.Machine.execPairControlResync dt n s
  | .checkpointNow dt n => Sys2Proof.Machine.execCheckpointNow dt n s
  | .chConfig dt q n => Sys2Proof.Machine.execChConfig dt q n s
  | .outWrite dt q n => Sys2Proof.Machine.execOutWrite dt q n s
  | .outPulseStart dt q n => Sys2Proof.Machine.execOutPulseStart dt q n s
  | .outPulseStop dt q n => Sys2Proof.Machine.execOutPulseStop dt q n s
  | .outPulseUpdate dt q n => Sys2Proof.Machine.execOutPulseUpdate dt q n s
  | .safeDefine dt q n => Sys2Proof.Machine.execSafeDefine dt q n s
  | .arm dt q n => Sys2Proof.Machine.execArm dt q n s
  | .disarm dt q n => Sys2Proof.Machine.execDisarm dt q n s
  | .faultClear dt q n => Sys2Proof.Machine.execFaultClear dt q n s
  | .budgetSet dt q n => Sys2Proof.Machine.execBudgetSet dt q n s
  | .courseLoad dt q n => Sys2Proof.Machine.execCourseLoad dt q n s
  | .courseSwap dt q n => Sys2Proof.Machine.execCourseSwap dt q n s
  | .courseSwapImmediate dt q n => Sys2Proof.Machine.execCourseSwapImmediate dt q n s
  | .angleConfig dt q n => Sys2Proof.Machine.execAngleConfig dt q n s
  | .seqLoad dt q n => Sys2Proof.Machine.execSeqLoad dt q n s
  | .inject dt q n => Sys2Proof.Machine.execInject dt q n s
  | .calibrate dt q n => Sys2Proof.Machine.execCalibrate dt q n s
  | .accSnapshot dt q n => Sys2Proof.Machine.execAccSnapshot dt q n s
  | .filterConfig dt q n => Sys2Proof.Machine.execFilterConfig dt q n s
  | .coefLoad dt q n => Sys2Proof.Machine.execCoefLoad dt q n s
  | .coefSwap dt q n => Sys2Proof.Machine.execCoefSwap dt q n s
  | .sync dt q n => Sys2Proof.Machine.execSync dt q n s
  | .recordBuffer dt q n => Sys2Proof.Machine.execRecordBuffer dt q n s
  | .archiveFreeze dt q n => Sys2Proof.Machine.execArchiveFreeze dt q n s
  | .archiveRelease dt q n => Sys2Proof.Machine.execArchiveRelease dt q n s
  | .archiveRead dt q n => Sys2Proof.Machine.execArchiveRead dt q n s
  | .plumbScan dt q n => Sys2Proof.Machine.execPlumbScan dt q n s
  | .sidebandSend dt q n => Sys2Proof.Machine.execSidebandSend dt q n s
  | .unknownOpcode dt q n => Sys2Proof.Machine.execUnknownOpcode dt q n s
  | .outOn dt b idx => Sys2Proof.Machine.execOutOn dt b idx s
  | .outOff dt b idx => Sys2Proof.Machine.execOutOff dt b idx s
  | .outToggle dt b idx => Sys2Proof.Machine.execOutToggle dt b idx s
  | .pulseStart dt b idx => Sys2Proof.Machine.execPulseStart dt b idx s
  | .pulseStop dt b idx => Sys2Proof.Machine.execPulseStop dt b idx s
  | .bankWrite dt b idx => Sys2Proof.Machine.execBankWrite dt b idx s
  | .adcTrigger dt b idx => Sys2Proof.Machine.execAdcTrigger dt b idx s
  | .snapshot dt b idx => Sys2Proof.Machine.execSnapshot dt b idx s
  | .mark dt b idx => Sys2Proof.Machine.execMark dt b idx s
  | .syncFire dt b idx => Sys2Proof.Machine.execSyncFire dt b idx s
  | .adminQueueEnable dt => Sys2Proof.Machine.execAdminQueueEnable dt s
  | .adminQueueDisable dt => Sys2Proof.Machine.execAdminQueueDisable dt s
  | .hiHostwdWrite dt v => Sys2Proof.Machine.execHiHostwdWrite dt v s
  | .hiKeepalive dt v => Sys2Proof.Machine.execHiKeepalive dt v s
  | .hiDevcauseWrite dt v => Sys2Proof.Machine.execHiDevcauseWrite dt v s
  | .hiDevenWrite dt v => Sys2Proof.Machine.execHiDevenWrite dt v s
  | .glTimeRead dt => Sys2Proof.Machine.execGlTimeRead dt s
  | .secRowRead dt row => Sys2Proof.Machine.execSecRowRead dt row s
  | .dbgDataRead dt ue => Sys2Proof.Machine.execDbgDataRead dt ue s
  | .registerWrite dt off size v => Sys2Proof.Machine.execRegisterWrite dt off size v s
  | .msixVectorUnmask dt v => Sys2Proof.Machine.execMsixVectorUnmask dt v s
  | .functionLevelReset dt => Sys2Proof.Machine.execFunctionLevelReset dt s
  | .busMasterEnable dt on memSpace msixOn => Sys2Proof.Machine.execBusMasterEnable dt on memSpace msixOn s
  | .d3hotToD0 dt => Sys2Proof.Machine.execD3hotToD0 dt s
  | .perstAssert dt => Sys2Proof.Machine.execPerstAssert dt s
  | .perstRelease dt => Sys2Proof.Machine.execPerstRelease dt s
  | .powerOnResetAssert dt rail => Sys2Proof.Machine.execPowerOnResetAssert dt rail s
  | .powerOnResetRelease dt pins => Sys2Proof.Machine.execPowerOnResetRelease dt pins s
  | .strapChange dt straps => Sys2Proof.Machine.execStrapChange dt straps s
  | .enterDormant dt => Sys2Proof.Machine.execEnterDormant dt s
  | .wake dt pins => Sys2Proof.Machine.execWake dt pins s
  | .visoLost dt => Sys2Proof.Machine.execVisoLost dt s
  | .visoRestored dt => Sys2Proof.Machine.execVisoRestored dt s
  | .clk25Loss dt => Sys2Proof.Machine.execClk25Loss dt s
  | .clk25Return dt pins => Sys2Proof.Machine.execClk25Return dt pins s
  | .transformerStart dt q => Sys2Proof.Machine.execTransformerStart dt q s
  | .fieldDieSync dt q => Sys2Proof.Machine.execFieldDieSync dt q s
  | .imageReadComplete dt step => Sys2Proof.Machine.execImageReadComplete dt step s
  | .firmwareReady dt => Sys2Proof.Machine.execFirmwareReady dt s
  | .adminCommandStart dt n => Sys2Proof.Machine.execAdminCommandStart dt n s
  | .masonWatchdogExpiry dt => Sys2Proof.Machine.execMasonWatchdogExpiry dt s
  | .masonRestartComplete dt digestOk => Sys2Proof.Machine.execMasonRestartComplete dt digestOk s
  | .masonLoadWindow dt load => Sys2Proof.Machine.execMasonLoadWindow dt load s
  | .masonStatusPeriodic dt => Sys2Proof.Machine.execMasonStatusPeriodic dt s
  | .throttleEnter dt => Sys2Proof.Machine.execThrottleEnter dt s
  | .throttleExit dt => Sys2Proof.Machine.execThrottleExit dt s
  | .hostWatchdogExpiry dt => Sys2Proof.Machine.execHostWatchdogExpiry dt s
  | .doorbellPoll dt => Sys2Proof.Machine.execDoorbellPoll dt s
  | .pollComplete dt gen => Sys2Proof.Machine.execPollComplete dt gen s
  | .indexReadComplete dt sqp cqc => Sys2Proof.Machine.execIndexReadComplete dt sqp cqc s
  | .descriptorFetch dt q count => Sys2Proof.Machine.execDescriptorFetch dt q count s
  | .descriptorStaged dt q n d ue => Sys2Proof.Machine.execDescriptorStaged dt q n d ue s
  | .hostReadFailure dt r => Sys2Proof.Machine.execHostReadFailure dt r s
  | .coalesceTimeout dt q => Sys2Proof.Machine.execCoalesceTimeout dt q s
  | .recordFlushTimeout dt q => Sys2Proof.Machine.execRecordFlushTimeout dt q s
  | .recordWrite dt ue => Sys2Proof.Machine.execRecordWrite dt ue s
  | .downlinkFrame dt q err r => Sys2Proof.Machine.execDownlinkFrame dt q err r s
  | .uplinkFrame dt q f => Sys2Proof.Machine.execUplinkFrame dt q f s
  | .fieldWatchdogExpiry dt q => Sys2Proof.Machine.execFieldWatchdogExpiry dt q s
  | .inputAccept dt c r => Sys2Proof.Machine.execInputAccept dt c r s
  | .edgeLockoutEnd dt c sample => Sys2Proof.Machine.execEdgeLockoutEnd dt c sample s
  | .currentLimit dt r => Sys2Proof.Machine.execCurrentLimit dt r s
  | .shortLimit dt c => Sys2Proof.Machine.execShortLimit dt c s
  | .overload dt r => Sys2Proof.Machine.execOverload dt r s
  | .thermOff dt r => Sys2Proof.Machine.execThermOff dt r s
  | .dieHot dt r => Sys2Proof.Machine.execDieHot dt r s
  | .dieHotClear dt r => Sys2Proof.Machine.execDieHotClear dt r s
  | .inrushWindowEnd dt c => Sys2Proof.Machine.execInrushWindowEnd dt c s
  | .reverse dt r => Sys2Proof.Machine.execReverse dt r s
  | .reverseClear dt r => Sys2Proof.Machine.execReverseClear dt r s
  | .retryWindowExpiry dt c => Sys2Proof.Machine.execRetryWindowExpiry dt c s
  | .settleEnd dt c land => Sys2Proof.Machine.execSettleEnd dt c land s
  | .readbackMismatchClear dt c => Sys2Proof.Machine.execReadbackMismatchClear dt c s
  | .shortLplusClear dt c => Sys2Proof.Machine.execShortLplusClear dt c s
  | .openOff dt r => Sys2Proof.Machine.execOpenOff dt r s
  | .openOffClear dt r => Sys2Proof.Machine.execOpenOffClear dt r s
  | .openOn dt r => Sys2Proof.Machine.execOpenOn dt r s
  | .openOnClear dt r => Sys2Proof.Machine.execOpenOnClear dt r s
  | .openLoadResume dt q => Sys2Proof.Machine.execOpenLoadResume dt q s
  | .wireBreak dt r => Sys2Proof.Machine.execWireBreak dt r s
  | .wireBreakClear dt r => Sys2Proof.Machine.execWireBreakClear dt r s
  | .wireBreakResume dt q => Sys2Proof.Machine.execWireBreakResume dt q s
  | .lplusLow dt r => Sys2Proof.Machine.execLplusLow dt r s
  | .lplusNormal dt r => Sys2Proof.Machine.execLplusNormal dt r s
  | .lplusUnder dt r => Sys2Proof.Machine.execLplusUnder dt r s
  | .lplusUnderExit dt r full => Sys2Proof.Machine.execLplusUnderExit dt r full s
  | .lplusOver dt r => Sys2Proof.Machine.execLplusOver dt r s
  | .lplusOverExit dt r full => Sys2Proof.Machine.execLplusOverExit dt r full s
  | .testPulseStart dt c => Sys2Proof.Machine.execTestPulseStart dt c s
  | .testPulseEnd dt c rose => Sys2Proof.Machine.execTestPulseEnd dt c rose s
  | .switchOnAdmit dt q => Sys2Proof.Machine.execSwitchOnAdmit dt q s
  | .deferralLimit dt c => Sys2Proof.Machine.execDeferralLimit dt c s
  | .pulseEdge dt c => Sys2Proof.Machine.execPulseEdge dt c s
  | .safePulseEdge dt c => Sys2Proof.Machine.execSafePulseEdge dt c s
  | .safeSwitchOn dt q => Sys2Proof.Machine.execSafeSwitchOn dt q s
  | .safeNLow dt => Sys2Proof.Machine.execSafeNLow dt s
  | .safeNClear dt => Sys2Proof.Machine.execSafeNClear dt s
  | .encoderEdge dt lv held => Sys2Proof.Machine.execEncoderEdge dt lv held s
  | .referenceMark m => Sys2Proof.Machine.execReferenceMark m s
  | .encStall dt => Sys2Proof.Machine.execEncStall dt s
  | .coastTimeout dt => Sys2Proof.Machine.execCoastTimeout dt s
  | .swapDone dt => Sys2Proof.Machine.execSwapDone dt s
  | .courseRefill dt b lead bad => Sys2Proof.Machine.execCourseRefill dt b lead bad s
  | .timerTrigger dt q k => Sys2Proof.Machine.execTimerTrigger dt q k s
  | .conversionStart dt p => Sys2Proof.Machine.execConversionStart dt p s
  | .conversionResult dt q injected => Sys2Proof.Machine.execConversionResult dt q injected s
  | .calibrationStart dt q => Sys2Proof.Machine.execCalibrationStart dt q s
  | .calibrationEnd dt q found => Sys2Proof.Machine.execCalibrationEnd dt q found s
  | .filterBatchTimeout dt ch => Sys2Proof.Machine.execFilterBatchTimeout dt ch s
  | .syncInEdge dt rising => Sys2Proof.Machine.execSyncInEdge dt rising s
  | .scrubRequest dt bank e => Sys2Proof.Machine.execScrubRequest dt bank e s
  | .plumbPassDue dt x => Sys2Proof.Machine.execPlumbPassDue dt x s
  | .plumbPassEnd dt x value storedUe => Sys2Proof.Machine.execPlumbPassEnd dt x value storedUe s
  | .pairRoleDecision dt => Sys2Proof.Machine.execPairRoleDecision dt s
  | .heartbeatSend dt => Sys2Proof.Machine.execHeartbeatSend dt s
  | .hbOutToggle dt => Sys2Proof.Machine.execHbOutToggle dt s
  | .heartbeat dt p => Sys2Proof.Machine.execHeartbeat dt p s
  | .hbInEdge dt => Sys2Proof.Machine.execHbInEdge dt s
  | .pathLoss dt zafifa => Sys2Proof.Machine.execPathLoss dt zafifa s
  | .takeoverDrive dt readback => Sys2Proof.Machine.execTakeoverDrive dt readback s
  | .hostResume dt phases cids => Sys2Proof.Machine.execHostResume dt phases cids s
  | .livenessGateFail dt => Sys2Proof.Machine.execLivenessGateFail dt s
  | .actGntLow dt => Sys2Proof.Machine.execActGntLow dt s
  | .actGntHigh dt => Sys2Proof.Machine.execActGntHigh dt s
  | .releaseExpiry dt => Sys2Proof.Machine.execReleaseExpiry dt s
  | .checkpointCapture dt => Sys2Proof.Machine.execCheckpointCapture dt s
  | .yield dt cause => Sys2Proof.Machine.execYield dt cause s
  | .body dt addr data => Sys2Proof.Machine.execBody dt addr data s
  | .delta dt addr data => Sys2Proof.Machine.execDelta dt addr data s
  | .log dt e => Sys2Proof.Machine.execLog dt e s
  | .commit dt header => Sys2Proof.Machine.execCommit dt header s
  | .ack dt v => Sys2Proof.Machine.execAck dt v s
  | .resyncComplete dt => Sys2Proof.Machine.execResyncComplete dt s
  | .handoverDrained dt => Sys2Proof.Machine.execHandoverDrained dt s
  | .spCollide dt sel => Sys2Proof.Machine.execSpCollide dt sel s
  | .serialRetry dt => Sys2Proof.Machine.execSerialRetry dt s
  | .xipRead dt addr line next => Sys2Proof.Machine.execXipRead dt addr line next s
  | .slaveSelectFall dt => Sys2Proof.Machine.execSlaveSelectFall dt s
  | .slaveWord dt w => Sys2Proof.Machine.execSlaveWord dt w s
  | .slaveSelectRise dt bits => Sys2Proof.Machine.execSlaveSelectRise dt bits s
  | .sidebandRecordTimeout dt => Sys2Proof.Machine.execSidebandRecordTimeout dt s
  | .d0ToD3hot dt => Sys2Proof.Machine.execD0ToD3hot dt s
  | .linkReturnToL0 dt => Sys2Proof.Machine.execLinkReturnToL0 dt s
  | .functionLevelResetComplete dt => Sys2Proof.Machine.execFunctionLevelResetComplete dt s
  | .commandDataReadComplete dt q n data => Sys2Proof.Machine.execCommandDataReadComplete dt q n data s
  | .flashProgramEraseComplete dt ok => Sys2Proof.Machine.execFlashProgramEraseComplete dt ok s
  | .plumbScanComplete dt x data ue => Sys2Proof.Machine.execPlumbScanComplete dt x data ue s
  | .rngHealthTestFail dt => Sys2Proof.Machine.execRngHealthTestFail dt s
  | .rngHealthTestPass dt => Sys2Proof.Machine.execRngHealthTestPass dt s
  | .livenessGatePass dt => Sys2Proof.Machine.execLivenessGatePass dt s
  | .currentLimitExit dt c => Sys2Proof.Machine.execCurrentLimitExit dt c s
  | .observerCap dt => Sys2Proof.Machine.execObserverCap dt s

end Sys2Proof.Machine
end

