-- ==== Sys2Proof/Machine/Step.lean ====
section
/-!
DEFINITION. One step: the command at the front of the queue, or one ANGLE tick on an empty queue (R11, log entry 1).
-/
namespace Sys2Proof.Machine
open Sys2Proof

/-- The front command runs on the state with the queue's rest; an idle step is one 125 MHz tick. -/
def step (s : State) : Host.Outcome State Fault Refusal :=
  match s.pending with
  | [] => .next { s with clock := s.clock + 8 }
  | c :: rest => exec c { s with pending := rest }

/-- s with the command that the word spells at the front of its queue; s itself where the word spells none. -/
def State.withFetchWord (s : State) (nbits w : Nat) : State :=
  match decodeTableWord nbits w with
  | some c => { s with pending := c :: s.pending }
  | none => s

end Sys2Proof.Machine
end

