-- ==== Sys2Proof/Safety.lean ====
section
/-!
DEFINITION. The terms in which the statements are made: how much time a command brings, families of commands, and when a
queued command runs.
-/
namespace Sys2Proof

/-- The ANGLE ticks that pass before a command (R11, log entry 1). -/
def Instr.dt : Instr → Nat
  | .identify dt _ => dt
  | .queueCreate dt _ => dt
  | .queueDelete dt _ => dt
  | .queueQuiesce dt _ => dt
  | .queueResume dt _ => dt
  | .setPowerTarget dt _ => dt
  | .setQuadrantReset dt _ => dt
  | .setSupplyPolicy dt _ => dt
  | .setFaultNClassMask dt _ => dt
  | .setFieldWatchdog dt _ => dt
  | .setSync dt _ => dt
  | .setRecordFlush dt _ => dt
  | .setRecordRoute dt _ => dt
  | .setVaultLayout dt _ => dt
  | .setArchive dt _ => dt
  | .setPairTiming dt _ => dt
  | .setPlumbSchedule dt _ => dt
  | .setSerialPort dt _ => dt
  | .featureGet dt _ => dt
  | .logRead dt _ => dt
  | .fwLoad dt _ => dt
  | .fwCommitStart dt _ => dt
  | .fwCommitVerify dt _ => dt
  | .fwCommitInstall dt _ => dt
  | .fwCommitActivate dt _ => dt
  | .fwCommitAdvance dt _ => dt
  | .attest dt _ _ => dt
  | .accessLoad dt _ => dt
  | .accessLock dt _ => dt
  | .pairControlHandover dt _ => dt
  | .pairControlResync dt _ => dt
  | .checkpointNow dt _ => dt
  | .chConfig dt _ _ => dt
  | .outWrite dt _ _ => dt
  | .outPulseStart dt _ _ => dt
  | .outPulseStop dt _ _ => dt
  | .outPulseUpdate dt _ _ => dt
  | .safeDefine dt _ _ => dt
  | .arm dt _ _ => dt
  | .disarm dt _ _ => dt
  | .faultClear dt _ _ => dt
  | .budgetSet dt _ _ => dt
  | .courseLoad dt _ _ => dt
  | .courseSwap dt _ _ => dt
  | .courseSwapImmediate dt _ _ => dt
  | .angleConfig dt _ _ => dt
  | .seqLoad dt _ _ => dt
  | .inject dt _ _ => dt
  | .calibrate dt _ _ => dt
  | .accSnapshot dt _ _ => dt
  | .filterConfig dt _ _ => dt
  | .coefLoad dt _ _ => dt
  | .coefSwap dt _ _ => dt
  | .sync dt _ _ => dt
  | .recordBuffer dt _ _ => dt
  | .archiveFreeze dt _ _ => dt
  | .archiveRelease dt _ _ => dt
  | .archiveRead dt _ _ => dt
  | .plumbScan dt _ _ => dt
  | .sidebandSend dt _ _ => dt
  | .unknownOpcode dt _ _ => dt
  | .outOn dt _ _ => dt
  | .outOff dt _ _ => dt
  | .outToggle dt _ _ => dt
  | .pulseStart dt _ _ => dt
  | .pulseStop dt _ _ => dt
  | .bankWrite dt _ _ => dt
  | .adcTrigger dt _ _ => dt
  | .snapshot dt _ _ => dt
  | .mark dt _ _ => dt
  | .syncFire dt _ _ => dt
  | .adminQueueEnable dt => dt
  | .adminQueueDisable dt => dt
  | .hiHostwdWrite dt _ => dt
  | .hiKeepalive dt _ => dt
  | .hiDevcauseWrite dt _ => dt
  | .hiDevenWrite dt _ => dt
  | .glTimeRead dt => dt
  | .secRowRead dt _ => dt
  | .dbgDataRead dt _ => dt
  | .registerWrite dt _ _ _ => dt
  | .msixVectorUnmask dt _ => dt
  | .functionLevelReset dt => dt
  | .busMasterEnable dt _ _ _ => dt
  | .d3hotToD0 dt => dt
  | .perstAssert dt => dt
  | .perstRelease dt => dt
  | .powerOnResetAssert dt _ => dt
  | .powerOnResetRelease dt _ => dt
  | .strapChange dt _ => dt
  | .enterDormant dt => dt
  | .wake dt _ => dt
  | .visoLost dt => dt
  | .visoRestored dt => dt
  | .clk25Loss dt => dt
  | .clk25Return dt _ => dt
  | .transformerStart dt _ => dt
  | .fieldDieSync dt _ => dt
  | .imageReadComplete dt _ => dt
  | .firmwareReady dt => dt
  | .adminCommandStart dt _ => dt
  | .masonWatchdogExpiry dt => dt
  | .masonRestartComplete dt _ => dt
  | .masonLoadWindow dt _ => dt
  | .masonStatusPeriodic dt => dt
  | .throttleEnter dt => dt
  | .throttleExit dt => dt
  | .hostWatchdogExpiry dt => dt
  | .doorbellPoll dt => dt
  | .pollComplete dt _ => dt
  | .indexReadComplete dt _ _ => dt
  | .descriptorFetch dt _ _ => dt
  | .descriptorStaged dt _ _ _ _ => dt
  | .hostReadFailure dt _ => dt
  | .coalesceTimeout dt _ => dt
  | .recordFlushTimeout dt _ => dt
  | .recordWrite dt _ => dt
  | .downlinkFrame dt _ _ _ => dt
  | .uplinkFrame dt _ _ => dt
  | .fieldWatchdogExpiry dt _ => dt
  | .inputAccept dt _ _ => dt
  | .edgeLockoutEnd dt _ _ => dt
  | .currentLimit dt _ => dt
  | .shortLimit dt _ => dt
  | .overload dt _ => dt
  | .thermOff dt _ => dt
  | .dieHot dt _ => dt
  | .dieHotClear dt _ => dt
  | .inrushWindowEnd dt _ => dt
  | .reverse dt _ => dt
  | .reverseClear dt _ => dt
  | .retryWindowExpiry dt _ => dt
  | .settleEnd dt _ _ => dt
  | .readbackMismatchClear dt _ => dt
  | .shortLplusClear dt _ => dt
  | .openOff dt _ => dt
  | .openOffClear dt _ => dt
  | .openOn dt _ => dt
  | .openOnClear dt _ => dt
  | .openLoadResume dt _ => dt
  | .wireBreak dt _ => dt
  | .wireBreakClear dt _ => dt
  | .wireBreakResume dt _ => dt
  | .lplusLow dt _ => dt
  | .lplusNormal dt _ => dt
  | .lplusUnder dt _ => dt
  | .lplusUnderExit dt _ _ => dt
  | .lplusOver dt _ => dt
  | .lplusOverExit dt _ _ => dt
  | .testPulseStart dt _ => dt
  | .testPulseEnd dt _ _ => dt
  | .switchOnAdmit dt _ => dt
  | .deferralLimit dt _ => dt
  | .pulseEdge dt _ => dt
  | .safePulseEdge dt _ => dt
  | .safeSwitchOn dt _ => dt
  | .safeNLow dt => dt
  | .safeNClear dt => dt
  | .encoderEdge dt _ _ => dt
  | .referenceMark m => m.dt
  | .encStall dt => dt
  | .coastTimeout dt => dt
  | .swapDone dt => dt
  | .courseRefill dt _ _ _ => dt
  | .timerTrigger dt _ _ => dt
  | .conversionStart dt _ => dt
  | .conversionResult dt _ _ => dt
  | .calibrationStart dt _ => dt
  | .calibrationEnd dt _ _ => dt
  | .filterBatchTimeout dt _ => dt
  | .syncInEdge dt _ => dt
  | .scrubRequest dt _ _ => dt
  | .plumbPassDue dt _ => dt
  | .plumbPassEnd dt _ _ _ => dt
  | .pairRoleDecision dt => dt
  | .heartbeatSend dt => dt
  | .hbOutToggle dt => dt
  | .heartbeat dt _ => dt
  | .hbInEdge dt => dt
  | .pathLoss dt _ => dt
  | .takeoverDrive dt _ => dt
  | .hostResume dt _ _ => dt
  | .livenessGateFail dt => dt
  | .actGntLow dt => dt
  | .actGntHigh dt => dt
  | .releaseExpiry dt => dt
  | .checkpointCapture dt => dt
  | .yield dt _ => dt
  | .body dt _ _ => dt
  | .delta dt _ _ => dt
  | .log dt _ => dt
  | .commit dt _ => dt
  | .ack dt _ => dt
  | .resyncComplete dt => dt
  | .handoverDrained dt => dt
  | .spCollide dt _ => dt
  | .serialRetry dt => dt
  | .xipRead dt _ _ _ => dt
  | .slaveSelectFall dt => dt
  | .slaveWord dt _ => dt
  | .slaveSelectRise dt _ => dt
  | .sidebandRecordTimeout dt => dt
  | .d0ToD3hot dt => dt
  | .linkReturnToL0 dt => dt
  | .functionLevelResetComplete dt => dt
  | .commandDataReadComplete dt _ _ _ => dt
  | .flashProgramEraseComplete dt _ => dt
  | .plumbScanComplete dt _ _ _ => dt
  | .rngHealthTestFail dt => dt
  | .rngHealthTestPass dt => dt
  | .livenessGatePass dt => dt
  | .currentLimitExit dt _ => dt
  | .observerCap dt => dt

/-- Commands that act on the host interface, Mason, firmware, access tables, the journal, record staging and the reads of
command data alone. -/
def Instr.hostSide : Instr → Bool
  | .identify .. | .queueCreate .. | .queueDelete .. | .queueQuiesce .. | .queueResume .. | .setPowerTarget ..
  | .setFaultNClassMask .. | .setSync .. | .setRecordFlush .. | .setRecordRoute .. | .logRead .. | .fwLoad ..
  | .fwCommitStart .. | .fwCommitVerify .. | .fwCommitAdvance ..
  | .attest .. | .accessLoad .. | .accessLock .. | .pairControlHandover .. | .pairControlResync .. | .checkpointNow ..
  | .calibrate .. | .coefLoad .. | .recordBuffer .. | .archiveRead .. | .unknownOpcode ..
  | .adminQueueEnable .. | .adminQueueDisable .. | .hiDevcauseWrite .. | .hiDevenWrite .. | .glTimeRead ..
  | .secRowRead .. | .dbgDataRead .. | .msixVectorUnmask .. | .busMasterEnable .. | .perstRelease ..
  | .powerOnResetAssert .. | .strapChange .. | .visoRestored .. | .clk25Loss ..
  | .adminCommandStart .. | .masonRestartComplete .. | .masonLoadWindow .. | .masonStatusPeriodic ..
  | .doorbellPoll .. | .indexReadComplete .. | .descriptorFetch .. | .descriptorStaged .. | .coalesceTimeout ..
  | .recordFlushTimeout .. | .heartbeatSend .. | .hbOutToggle .. | .hbInEdge .. | .hostResume ..
  | .livenessGateFail .. | .checkpointCapture .. | .body .. | .log .. | .commit .. | .resyncComplete ..
  | .handoverDrained .. | .d0ToD3hot .. | .linkReturnToL0 .. | .functionLevelResetComplete .. | .rngHealthTestFail ..
  | .rngHealthTestPass .. | .livenessGatePass .. => true
  | _ => false

/-- Events that a field die brings about by itself and reports (R125–R134, R144–R162, R174–R206). -/
def Instr.fieldEvent : Instr → Bool
  | .inputAccept .. | .edgeLockoutEnd .. | .currentLimit .. | .shortLimit .. | .overload .. | .thermOff ..
  | .dieHot .. | .dieHotClear .. | .inrushWindowEnd .. | .reverse .. | .reverseClear .. | .retryWindowExpiry ..
  | .settleEnd .. | .readbackMismatchClear .. | .shortLplusClear .. | .openOff .. | .openOffClear .. | .openOn ..
  | .openOnClear .. | .openLoadResume .. | .wireBreak .. | .wireBreakClear .. | .wireBreakResume .. | .lplusLow ..
  | .lplusNormal .. | .lplusUnder .. | .lplusUnderExit .. | .lplusOver .. | .lplusOverExit .. | .currentLimitExit .. => true
  | _ => false

/-- Events of the serial port (R562–R570). -/
def Instr.portEvent : Instr → Bool
  | .spCollide .. | .serialRetry .. | .xipRead .. | .slaveSelectFall .. | .slaveWord .. | .slaveSelectRise ..
  | .sidebandRecordTimeout .. => true
  | _ => false

/-- Commands at which the logic die may start anew (R57, R76, R92, R633). -/
def Instr.starts : Instr → Bool
  | .powerOnResetRelease .. | .wake .. | .clk25Return .. => true
  | _ => false

/-- Commands with which a unit of a pair can take the role or leave it for STANDBY (R498–R502, R521, R529). -/
def Instr.rescues : Instr → Bool
  | .pairRoleDecision .. | .heartbeat .. | .pathLoss .. | .actGntLow .. | .releaseExpiry .. | .yield .. => true
  | _ => false

namespace Machine

/-- Mason carries out descriptor n of the admin queue, whose contents are d: it has started it and has not finished with
it (R641). -/
def State.admRuns (s : State) (n : Word32) (d : Desc) : Bool :=
  s.mason.busy == some n && s.hostUp &&
  (((s.queue 0).flight.find? fun e => e.num == n).map fun e => (e.desc, e.stage)) == some (d, .started) &&
  s.ops.all fun o => !(o.live && o.q == 0 && o.n == n)
/-- Descriptor n of an I/O queue, whose contents are d, is the one that may start now (R435, R436). -/
def State.ioRuns (s : State) (q : QueueId) (n : Word32) (d : Desc) : Bool := q != 0 && s.startable q n == some d
/-- Master m has every permission that a command needs (R592, R593). -/
def State.permits (s : State) (m : Nat) (needs : List (Nat × Nat)) : Bool := needs.all fun p => s.allowed m p.1 p.2
/-- Descriptor d holds opcode op, and nothing but the bytes of a command's own fields is used (R9, R434, R469). -/
def shaped (d : Desc) (op : Nat) (profiled cspec : Bool) (used : List (Nat × Nat)) : Bool :=
  dOp d == op && (reservedByte d profiled cspec used).isNone
/-- A FEATURE_SET of feature fid whose SEL is sel (R476). -/
def setsFeature (d : Desc) (fid : Nat) : Bool := shaped d 5 false false [(4, 2), (6, 2), (8, 8)] && dNum d 4 2 == fid

/-- SEL of a FEATURE_SET or FEATURE_GET (R476). -/
def selOf (d : Desc) : Nat := dNum d 6 2
/-- SEL names quadrant q; 0xFFFF names all four (R477). -/
def selNames (d : Desc) (q : QuadId) : Bool := selOf d == 0xFFFF || selOf d == q.val
/-- The state with every quadrant that SEL names changed by f. -/
def State.onNamed (s : State) (d : Desc) (f : Quad → Quad) : State :=
  { s with quads := Vector.ofFn fun q => if selNames d q then f (s.quad q) else s.quad q }
/-- The admin command n of the configuration ends: CFGGEN counts, an active unit queues the delta, status DONE (R470, R513,
R587). -/
def State.configuredDone (s : State) (n : Word32) : State := (s.configured none).finish 0 n .done 0

/-- The state with every channel c that p names changed by f c. -/
def State.onChans (s : State) (p : ChanId → Bool) (f : ChanId → Chan → Chan) : State :=
  { s with chans := Vector.ofFn fun c => if p c then f c (s.chan c) else s.chan c }
/-- What holds in every state: the Plinth store has its canonical form, and device time's origin is not in the future. -/
def State.Inv (s : State) : Prop := Memory.wf s.plinth = true ∧ s.zero ≤ s.clock

/-- The state with every quadrant q changed by f q. -/
def State.onQuads (s : State) (f : QuadId → Quad → Quad) : State :=
  { s with quads := Vector.ofFn fun q => f q (s.quad q) }

/-- What a BAR0 write leaves that has turned S into T: a change of the set-up registers or of the MSI-X table travels to the
partner (R497, R513). -/
def State.carry (S T : State) : State := if T.setupRegs == S.setupRegs then T else T.configured none false

end Machine
end Sys2Proof
end

