-- ==== Sys2Proof/Certificates/Slice0/Obligations.lean ====
section
/-!
DEFINITION. What is stated about the block. S is the state after the time that the command brings (log entry 1).
-/
open Sys2Proof Sys2Proof.Machine

/-- One step runs exactly the command at the front of the queue, on the state with the queue's rest. -/
def Obligations.StepRunsFront : Prop :=
  ∀ (c : Instr) (s : State) (rest : List Instr), step { s with pending := c :: rest } = exec c { s with pending := rest }

/-- Queue and time (R11, log entry 1): a command that goes on leaves the queue's rest and lets its own ANGLE ticks of 8 ns pass,
and device time keeps its origin, but that a start of the logic die may put it at the present. An idle step is one ANGLE tick
and nothing else; that and the ticks a command brings are the model's choice. Of the model's own choices it rests on log entry
1. -/
def Obligations.QueueAndTime : Prop :=
  (∀ s : State, s.pending = [] → step s = .next { s with clock := s.clock + 8 }) ∧
  ∀ (c : Instr) (rest : List Instr) (s t : State), s.pending = c :: rest → step s = .next t →
    t.pending = rest ∧ t.clock = s.clock + 8 * c.dt ∧ (t.zero = s.zero ∨ c.starts = true ∧ t.zero = t.clock)

/-- Every step keeps the invariant: the Plinth store stays in its canonical form, inside its 2 MiB, and device time's origin
stays in the past (R512, R57). -/
def Obligations.StepKeepsInv : Prop := ∀ s t : State, s.Inv → step s = .next t → t.Inv

/-- The invariant holds at reset. The empty Plinth is the model's choice. Of the model's own choices it rests on log entry 4. -/
def Obligations.ResetInv : Prop := State.reset.Inv ∧ Memory.wf State.reset.plinth = true ∧ ∀ a : Nat, memRead State.reset.plinth a = 0

/-- The lock freezes every row (R596). Once the access tables are locked, no step changes a row or ends the lock, but a start of
the logic die and, in a unit of a pair, an event that may change its role. -/
def Obligations.TablesLocked : Prop :=
  ∀ (c : Instr) (rest : List Instr) (s t : State), s.pending = c :: rest → c.starts = false →
    (c.rescues = true → s.pair.st = .single ∧ s.inPair = false) → s.locked = true → step s = .next t →
    t.rows = s.rows ∧ t.locked = true

/-- Who changes what (R1–R6). A command of the host side changes no channel, quadrant, request, angle, course engine,
measurement, chain, serial port, Plumb context or archive; an event of a field die changes channels, quadrants, requests and the
archive alone, with the commands and course counts that a request ends and what it reports to the host and Mason's log; an event
of the serial port changes the port alone, with what it reports. -/
def Obligations.FamilyFrames : Prop :=
  ∀ (c : Instr) (s S t : State), S = s.elapse c.dt → exec c s = .next t →
    (c.hostSide = true → t.chans = S.chans ∧ t.quads = S.quads ∧ t.reqs = S.reqs ∧ t.reqSeq = S.reqSeq ∧ t.ang = S.ang ∧
      t.course = S.course ∧ t.meas = S.meas ∧ t.chains = S.chains ∧ t.serial = S.serial ∧ t.plumb = S.plumb ∧ t.arch = S.arch) ∧
    (c.fieldEvent = true → t = { S with
      host := t.host, msix := t.msix, queues := t.queues, out := t.out, outWait := t.outWait, staging := t.staging, ops := t.ops,
      chans := t.chans, quads := t.quads, reqs := t.reqs, reqSeq := t.reqSeq, course := t.course, arch := t.arch, mason := t.mason }) ∧
    (c.portEvent = true → t = { S with
      host := t.host, msix := t.msix, out := t.out, outWait := t.outWait, staging := t.staging, serial := t.serial })

/-- What reset leaves, in every field that the spec gives a value: channel, protection, pulse and channel budget words of every
channel, quadrant budget and silence time of every quadrant, device, source, tracking, chain, layout, archive, pair-timing,
Plumb and serial-port words, the access-table rows, and the host's control fields (R120, R171, R214, R217, R237, R238, R253,
R254, R347–R349, R389, R392, R415–R417, R509, R540, R557, R591). Fields are (low bit, bits, value); TAMB is 105 on the code AE
and 85 on AX. Of the model's own choices it rests on log entry 3. -/
def Obligations.ResetValues : Prop :=
  let fields (w : Word64) (l : List (Nat × Nat × Nat)) : Prop := ∀ p ∈ l, fld w p.1 p.2.1 = p.2.2
  let s := State.reset
  (∀ c : ChanId,
    fields (s.chan c).chw [(59, 5, 0), (48, 11, 0), (46, 2, 0), (32, 14, 200), (16, 16, 3000), (13, 3, 0), (11, 2, 0), (10, 1, 0),
      (8, 2, 0), (7, 1, 0), (6, 1, 0), (4, 2, 0), (3, 1, 0), (0, 3, 1)] ∧
    fields (s.chan c).protw [(56, 8, 8), (46, 10, 10), (45, 1, 0), (37, 8, 40), (29, 8, 20), (23, 6, 0), (17, 6, 50), (10, 7, 10),
      (4, 6, 10), (3, 1, 0), (2, 1, 0), (1, 1, 0), (0, 1, 0)] ∧
    fields (s.chan c).pulw [(48, 16, 0), (47, 1, 0), (43, 4, 0), (42, 1, 0), (32, 10, 0), (31, 1, 0), (20, 11, 512), (0, 20, 1000)] ∧
    fields (s.chan c).budw [(43, 21, 0), (32, 11, 1024), (25, 7, 0), (24, 1, 0), (16, 8, 20), (8, 8, 0), (0, 8, 50)]) ∧
  (∀ q : QuadId, fields (s.quad q).qbudw [(36, 28, 0), (32, 4, 2), (25, 7, 0), (16, 9, 160), (11, 5, 0), (0, 11, 1200)] ∧
    (s.quad q).silence = 1000) ∧
  fields s.devw [(8, 56, 0), (0, 8, if Config.codeAE then 105 else 85)] ∧
  fields s.ang.srcw [(56, 8, 2), (48, 8, 0), (24, 24, 0x3FFF), (22, 2, 1), (12, 10, 36), (8, 4, 1), (7, 1, 0), (4, 3, 0), (3, 1, 1),
    (2, 1, 0), (0, 2, 0)] ∧
  fields s.ang.trkw [(51, 13, 0), (35, 16, 10), (25, 10, 50), (21, 4, 6), (13, 8, 4), (0, 13, 500)] ∧
  (∀ k : ChainId,
    fields s.chains[k].c0 [(50, 14, 0), (34, 16, 0), (33, 1, 0), (29, 4, 0), (21, 8, 0), (13, 8, 0), (10, 3, 1), (3, 7, 0), (1, 2, 0),
      (0, 1, 0)] ∧
    fields s.chains[k].c1 [(62, 2, 0), (61, 1, 0), (55, 6, 0), (48, 7, 0), (0, 48, 0x1000000)] ∧ s.chains[k].c2 = 0) ∧
  fields s.vault.layout [(24, 40, 0), (16, 8, 128), (8, 8, 64), (0, 8, 16)] ∧
  fields s.arch.word [(16, 48, 0), (8, 8, 4), (5, 3, 0), (0, 5, 0)] ∧
  fields s.pair.timing [(56, 8, 0), (46, 10, 20), (36, 10, 10), (22, 14, 100), (17, 5, 3), (14, 3, 0), (0, 14, 100)] ∧
  (∀ x : CtxId, fields s.plumb[x].word [(56, 8, 0), (48, 8, 0), (40, 8, 0), (39, 1, 0), (36, 3, 0), (20, 16, 1000),
    (18, 2, if x = 6 then 1 else if x = 7 then 2 else 0), (16, 2, 0), (8, 8, 1), (5, 3, 0), (3, 2, 0), (0, 3, 3)]) ∧
  fields s.serial.word [(56, 8, 0), (48, 8, 0), (40, 8, 0), (32, 8, 0), (24, 8, 10), (16, 8, 0xFF), (10, 6, 0), (8, 2, 0), (7, 1, 1),
    (6, 1, 1), (4, 2, 0), (3, 1, 0), (2, 1, 0), (0, 2, 0)] ∧
  (∀ i : Fin 22, s.rows[i] = 0x0077777777777777) ∧
  s.host.aqen = false ∧ s.host.wign = false ∧ s.host.cfgerr = false ∧ s.host.bme = false ∧ s.host.aqSq = 0 ∧ s.host.aqCq = 0 ∧
  s.host.aqSize = 0 ∧ s.host.dbBase = 0 ∧ s.host.poll = 20 ∧ s.pending = []

/-- Admin commands that manage the I/O queues (R420, R452–R457, R473, R542, R545). A started QUEUE_CREATE whose fields are in
their ranges makes its ABSENT queue ACTIVE with the descriptor's values, F, W, SQP, CQC and the alive value 0, and completes
DONE; on a queue that exists, or with a profile whose context has no CRC-32C, it is rejected with REJ_STATE. A QUEUE_QUIESCE of
an ACTIVE queue makes it drain: one with nothing in flight is QUIESCED and the command DONE at once, one with started commands
is DRAINING while they run; in every other state it is rejected. QUEUE_RESUME makes a QUIESCED queue ACTIVE again, and is
rejected in every other state. QUEUE_DELETE leaves a queue with nothing in flight ABSENT and completes DONE, drains an ACTIVE
one first, and is rejected for an ABSENT one. A QID of 0 or above 63 gives REJ_FIELD. Of the model's own choices it rests on log
entries 19, 22. -/
def Obligations.QueueCommands : Prop :=
  ∀ (dt : Nat) (n : Word32) (d : Desc) (s S : State) (k : QueueId), S = s.elapse dt → k = dQueue d → S.admRuns n d = true →
    S.permits 0 [(1, 4)] = true →
    (shaped d 4 false false [(4, 1)] = true → dNum d 4 1 = 0 ∨ 63 < dNum d 4 1 →
      exec (.queueQuiesce dt n) s = .next (S.finish 0 n .rejField 4)) ∧
    (shaped d 3 false false [(4, 1)] = true → dNum d 4 1 = 0 ∨ 63 < dNum d 4 1 →
      exec (.queueDelete dt n) s = .next (S.finish 0 n .rejField 4)) ∧
    (1 ≤ dNum d 4 1 → dNum d 4 1 ≤ 63 →
      (shaped d 2 false false [(4, 9), (14, 2), (16, 16)] = true →
        dNum d 5 1 ≤ 3 → 1 ≤ dNum d 6 1 → dNum d 7 1 ≤ 63 → 4 ≤ dNum d 8 1 → dNum d 8 1 ≤ 16 → 4 ≤ dNum d 9 1 →
        dNum d 9 1 ≤ 16 → (dNum d 11 1 = 0 ∨ 0x80 ≤ dNum d 11 1 ∧ dNum d 11 1 ≤ 0x87) → dNum d 12 1 ≤ 7 →
        dNum d 16 1 % 64 = 0 → dNum d 24 1 % 64 = 0 →
        ((∀ x, createProfile d = some x → plPoly S.plumb[x].word = 3) → (S.queue k).st = .absent →
          ∃ u : Queue, exec (.queueCreate dt n) s = .next ((S.modQueue k fun _ => u).finish 0 n .done 0) ∧
            u.st = .active ∧ u.cls.val = dNum d 5 1 ∧ u.weight = dNum d 6 1 ∧ u.vector.val = dNum d 7 1 ∧
            u.sqlog = dNum d 8 1 ∧ u.cqlog = dNum d 9 1 ∧ u.ccnt = dNum d 10 1 ∧ u.ctime = dNum d 14 2 ∧
            u.profile = createProfile d ∧ u.hctx.val = dNum d 12 1 ∧ u.sqbase = d64 d 16 ∧ u.cqbase = d64 d 24 ∧
            u.f = 0 ∧ u.w = 0 ∧ u.sqp = 0 ∧ u.cqc = 0 ∧ u.alive = 0 ∧ u.flight = [] ∧ u.bufs = []) ∧
        ((S.queue k).st ≠ .absent ∨ (∃ x, createProfile d = some x ∧ plPoly S.plumb[x].word ≠ 3) →
          exec (.queueCreate dt n) s = .next (S.finish 0 n .rejState 0))) ∧
      (shaped d 4 false false [(4, 1)] = true →
        ((S.queue k).st ≠ .active → exec (.queueQuiesce dt n) s = .next (S.finish 0 n .rejState 0)) ∧
        ((S.queue k).st = .active → exec (.queueQuiesce dt n) s =
          .next (((S.addOp 0 n (.drain k false)).freeMason).beginDrain k))) ∧
      (shaped d 4 false true [(4, 1)] = true → dCspec d = true →
        ((S.queue k).st = .quiesced → exec (.queueResume dt n) s =
          .next ((S.modQueue k fun u => { u with st := .active }).finish 0 n .done 0)) ∧
        ((S.queue k).st ≠ .quiesced → exec (.queueResume dt n) s = .next (S.finish 0 n .rejState 0))) ∧
      (shaped d 3 false false [(4, 1)] = true →
        ((S.queue k).st = .absent → exec (.queueDelete dt n) s = .next (S.finish 0 n .rejState 0)) ∧
        ((S.queue k).st = .active → exec (.queueDelete dt n) s =
          .next (((S.addOp 0 n (.drain k true)).freeMason).beginDrain k))) ∧
      ((∀ o ∈ S.ops, ∀ t del, o.kind ≠ .drain t del) → (S.queue k).bufs = [] →
        ((S.queue k).flight = [] →
          (shaped d 4 false false [(4, 1)] = true → (S.queue k).st = .active → exec (.queueQuiesce dt n) s =
            .next ((((S.freeMason).modQueue k fun u => { u with st := .quiesced }).completeRaw 0 n .done 0 S.now 0).drained 0)) ∧
          (shaped d 3 false false [(4, 1)] = true → (S.queue k).st = .active ∨ (S.queue k).st = .quiesced ∨ (S.queue k).st = .error →
            exec (.queueDelete dt n) s =
              .next ((((S.freeMason).modQueue k fun _ => Reset.queue).completeRaw 0 n .done 0 S.now 0).drained 0))) ∧
        ((S.queue k).flight ≠ [] → (∀ e ∈ (S.queue k).flight, e.stage ≠ .staged) → (S.queue k).st = .active →
          (shaped d 4 false false [(4, 1)] = true → exec (.queueQuiesce dt n) s =
            .next (((S.addOp 0 n (.drain k false)).freeMason).modQueue k fun u => { u with st := .draining })) ∧
          (shaped d 3 false false [(4, 1)] = true → exec (.queueDelete dt n) s =
            .next (((S.addOp 0 n (.drain k true)).freeMason).modQueue k fun u => { u with st := .draining })))))

/-- IDENTIFY, LOG_READ, ACCESS_LOAD, ACCESS_LOCK and CHECKPOINT_NOW (R3, R471, R472, R475, R516, R593, R595, R596): with the
access that R593 asks for and good fields, each has its effect and, where it ends at once, completes DONE. Of the model's own
choices it rests on log entries 10, 13, 16, 19. -/
def Obligations.AdminQueriesAndLocks : Prop :=
  ∀ (dt : Nat) (n : Word32) (d : Desc) (s S : State), S = s.elapse dt → S.admRuns n d = true →
    (shaped d 1 false false [] = true →
      exec (.identify dt n) s = .next (S.complete 0 n .done 0 S.now (resultOf ([0xB1,
        BitVec.ofNat 8 (if S.mason.stage = 6 then S.mason.image.vmaj.toNat else 0)] ++
        leBytes 2 (if S.mason.stage = 6 then S.mason.image.vmin.toNat else 0) ++
        [S.straps.setWidth 8, Config.romVer, if Config.codeAE then 1 else 0, 0] ++ leBytes 8 Config.serial.toNat)))) ∧
    (shaped d 7 false false [(4, 1), (8, 4), (16, 8), (24, 4)] = true → S.permits 0 [(0x14, 1)] = true → dNum d 4 1 = 0 →
      dNum d 24 4 % 32 = 0 → dNum d 8 4 < S.mason.log.length → 32 ≤ dNum d 24 4 →
      let es := ((S.mason.log.drop (dNum d 8 4)).take (dNum d 24 4 / 32)).map logBytes
      exec (.logRead dt n) s = .next ((S.emit (.data (d64 d 16) es.flatten)).complete 0 n .done 0 S.now
        (resultOf (leBytes 4 es.length ++ leBytes 4 (dNum d 8 4 + es.length))))) ∧
    (shaped d 0xB false false [(4, 1), (8, 8), (16, 4)] = true → S.permits 0 [(2, 4)] = true →
      (dNum d 4 1 ∈ targets ∧ dNum d 16 4 = 8 ∨ dNum d 4 1 = 0xFF ∧ dNum d 16 4 = 176) →
      exec (.accessLoad dt n) s = .next (if S.locked then S.finish 0 n .rejState 0
        else (S.addOp 0 n .data).emit (.dataRead (d64 d 8) (dNum d 16 4)))) ∧
    (shaped d 0xC false false [] = true → S.permits 0 [(2, 4)] = true →
      exec (.accessLock dt n) s = .next (if S.locked then S.finish 0 n .rejState 0
        else ({ S with locked := true }.configured none).finish 0 n .done 0)) ∧
    (shaped d 0xE false false [] = true → S.permits 0 [(0x20, 4)] = true → S.pair.st = .active → S.pair.zaf.present = true →
      exec (.checkpointNow dt n) s = .next (((S.addOp 0 n .checkpoint).freeMason).modPair fun p =>
        { p with capNow := true, cpWaiters := p.cpWaiters ++ [n] }))

/-- FEATURE_SET of each settable feature (R89, R98, R204, R211, R214, R375, R389, R390, R392, R444, R445, R476, R477, R510,
R540, R541, R557, R558): a word whose fields are in their ranges takes effect and the command completes DONE; in the states that
a feature's rule rejects it completes with REJ_STATE and changes nothing else. Of the model's own choices it rests on log entry
19. -/
def Obligations.FeatureSets : Prop :=
  ∀ (dt : Nat) (n : Word32) (d : Desc) (s S : State) (w : Word64), S = s.elapse dt → w = d64 d 8 → S.admRuns n d = true →
    S.permits 0 [(0, 2)] = true →
    (setsFeature d 1 = true → selOf d = 0 → w = 1 → exec (.setPowerTarget dt n) s = .next
      (if (∀ q, (S.quad q).armed = false) ∧ (∀ q : QueueId, q ≠ 0 → (S.queue q).st = .absent) ∧ S.redmode = 0
        then ({ S with dormantReq := true }).finish 0 n .done 0 else S.finish 0 n .rejState 0)) ∧
    (setsFeature d 3 = true → (selOf d ≤ 3 ∨ selOf d = 0xFFFF) → fld w 1 63 = 0 → exec (.setSupplyPolicy dt n) s = .next
      ((S.onNamed d fun x => { x with supLatchPol := bit w 0 }).configuredDone n)) ∧
    (setsFeature d 4 = true → selOf d = 0 → fld w 5 59 = 0 → exec (.setFaultNClassMask dt n) s = .next
      (({ S with faultMask := w.setWidth 5 }).configuredDone n)) ∧
    (setsFeature d 5 = true → (selOf d ≤ 3 ∨ selOf d = 0xFFFF) → 100 ≤ w.toNat → w.toNat ≤ 10000000 →
      exec (.setFieldWatchdog dt n) s = .next (if S.inPair then S.finish 0 n .rejState 0
        else (S.onNamed d fun x => { x with
          silenceSet := w.toNat, silence := if x.stale then x.silence else w.toNat }).configuredDone n)) ∧
    (setsFeature d 6 = true → selOf d = 0 → fld w 4 60 = 0 → fld w 0 2 ≠ 3 → fld w 2 2 ≠ 3 → exec (.setSync dt n) s = .next
      (({ S with syncw := w.setWidth 4 }).configuredDone n)) ∧
    (setsFeature d 7 = true → selOf d = 0 → 10 ≤ w.toNat → w.toNat ≤ 100000 → exec (.setRecordFlush dt n) s = .next
      (({ S with flush := w.toNat }).configuredDone n)) ∧
    (setsFeature d 8 = true → selOf d = 0 → fld w 16 48 = 0 → ∀ k : Fin 10, fld w 0 8 = k.val + 1 →
      (fld w 8 8 ≤ 63 ∨ fld w 8 8 = 0x40) → exec (.setRecordRoute dt n) s = .next
      (({ S with routes := S.routes.set k (w.extractLsb' 8 8) }).configuredDone n)) ∧
    (setsFeature d 0xA = true → selOf d = 0 → fld w 16 48 = 0 → fld w 5 3 = 0 → exec (.setArchive dt n) s = .next
      ((S.modArch fun a => { a with word := w }).configuredDone n)) ∧
    (setsFeature d 0x20 = true → selOf d = 0 → ptBad w = false → S.inPair = true → S.pair.st ≠ .active →
      exec (.setPairTiming dt n) s = .next (({ S with
        quads := S.quads.map (fun (x : Quad) => { x with
          silenceSet := 1000 * ptTrel w, silence := if x.stale then x.silence else 1000 * ptTrel w })
        pair := { S.pair with timing := w, timingNew := none } }).configuredDone n)) ∧
    (setsFeature d 0x20 = true → selOf d = 0 → ptBad w = false → S.inPair = true → S.journals = true →
      exec (.setPairTiming dt n) s =
        .next ((S.modPair fun p => { p with timingNew := some (w, p.cfggen + 1) }).configuredDone n)) ∧
    (setsFeature d 0x20 = true → selOf d = 0 → ptBad w = false → S.inPair = false →
      exec (.setPairTiming dt n) s = .next (S.finish 0 n .rejState 0)) ∧
    (setsFeature d 0x28 = true → plBad w = false → ∀ x : CtxId, selOf d = x.val → S.plumbInUse x w = false →
      exec (.setPlumbSchedule dt n) s = .next ((S.modPlumb x fun p => { p with word := w &&& 0x7FFFFFFFFF }).configuredDone n)) ∧
    (setsFeature d 0x30 = true → selOf d = 0 → spBad w = false →
      (spSwid w = spSwid S.serial.word ∧ bit w 3 = bit S.serial.word 3 ∧ spSen w = spSen S.serial.word ∨
        S.serial.scs = true ∧ S.serial.tx = []) →
      exec (.setSerialPort dt n) s = .next ((S.modSerial fun p => { (if spMmen w then p.leaveCont else p) with word := w &&& 0xFFFFFFFF }).configuredDone n))

/-- FEATURE_GET (R476, R477): a word feature returns its word in RESULT; the Plumb schedule and serial-port words come with
their counts, which the read sets to 0 (R540, R557); a data feature writes one 8-byte word per item at ADDR, once LEN has room,
and the counts it returns start again from 0 (R240, R299, R354, R538). Of the model's own choices it rests on log entry 34. -/
def Obligations.FeatureGets : Prop :=
  ∀ (dt : Nat) (n : Word32) (d : Desc) (s S : State), S = s.elapse dt → S.admRuns n d = true → S.permits 0 [(0, 1)] = true →
    (shaped d 6 false false [(4, 4)] = true →
      (∀ v : Nat,
        ((∃ q : QuadId, dNum d 4 2 = 3 ∧ selOf d = q.val ∧ v = b2n (S.quad q).supLatchPol) ∨
         (dNum d 4 2 = 4 ∧ selOf d = 0 ∧ v = S.faultMask.toNat) ∨
         (∃ q : QuadId, dNum d 4 2 = 5 ∧ selOf d = q.val ∧ v = (S.quad q).silenceSet) ∨
         (dNum d 4 2 = 6 ∧ selOf d = 0 ∧ v = S.syncw.toNat) ∨ (dNum d 4 2 = 7 ∧ selOf d = 0 ∧ v = S.flush) ∨
         (∃ k : Fin 10, dNum d 4 2 = 8 ∧ selOf d = k.val + 1 ∧ v = k.val + 1 + 256 * S.routes[k].toNat) ∨
         (dNum d 4 2 = 9 ∧ selOf d = 0 ∧ v = S.vault.layout.toNat) ∨
         (dNum d 4 2 = 0xA ∧ selOf d = 0 ∧ v = S.arch.word.toNat) ∨
         (dNum d 4 2 = 0x20 ∧ selOf d = 0 ∧ v = S.pair.timing.toNat)) →
        exec (.featureGet dt n) s = .next (S.complete 0 n .done 0 S.now (resultOf (leBytes 8 v)))) ∧
      (∀ x : CtxId, dNum d 4 2 = 0x28 → selOf d = x.val → exec (.featureGet dt n) s =
        .next ((S.modPlumb x fun p => { p with misCnt := 0, eccCnt := 0, passCnt := 0 }).complete 0 n .done 0 S.now
          (resultOf (leBytes 8 (S.plumbGet x))))) ∧
      (dNum d 4 2 = 0x30 → selOf d = 0 → exec (.featureGet dt n) s =
        .next ((S.modSerial fun p => { p with colCnt := 0, ovfCnt := 0, undCnt := 0, txCut := 0 }).complete 0 n .done 0 S.now
          (resultOf (leBytes 8 S.serial.get))))) ∧
    (shaped d 6 false false [(4, 4), (16, 12)] = true →
      ((0x10 ≤ dNum d 4 2 ∧ dNum d 4 2 ≤ 0x11 ∧ selOf d < 128) ∨ (0x12 ≤ dNum d 4 2 ∧ dNum d 4 2 ≤ 0x16 ∧ selOf d = 0) ∨
        (dNum d 4 2 = 0x17 ∧ selOf d < 64) ∨ (dNum d 4 2 = 0x21 ∧ selOf d = 0)) →
      exec (.featureGet dt n) s = .next (if dNum d 24 4 < 8 * (S.itemsOf d).length
        then S.finish 0 n .rejField (8 * (S.itemsOf d).length)
        else ((S.readReset d).emit (.data (d64 d 16) ((S.itemsOf d).flatMap (leInt 8)))).finish 0 n .done 0))

/-- SET_QUADRANT_RESET of disarmed quadrants begins with the first one, and Mason is free while it runs (R98, R641); an armed
quadrant, a loss of VISO or a reset already running gives REJ_STATE. SET_VAULT_LAYOUT, with every I/O queue ABSENT, takes the
layout, empties the archive and its sequence, and computes every stored check value afresh (R389, R390, R391, R551). Of the
model's own choices it rests on log entries 33, 89. -/
def Obligations.QuadrantResetAndLayout : Prop :=
  ∀ (dt : Nat) (n : Word32) (d : Desc) (s S : State), S = s.elapse dt → S.admRuns n d = true → S.permits 0 [(0, 2)] = true →
    (setsFeature d 2 = true → d64 d 8 = 1 → ∀ q qs, (List.finRange 4).filter (selNames d) = q :: qs →
      exec (.setQuadrantReset dt n) s = .next
        (if (∃ x ∈ q :: qs, (S.quad x).armed = true ∨ S.visoLost = true ∨ S.resetRuns x = true) then S.finish 0 n .rejState 0
         else (((S.addOp 0 n (.quadReset (q :: qs))).freeMason).quadResetStart q))) ∧
    (setsFeature d 9 = true → selOf d = 0 → laBad (d64 d 8) = false → (∀ q : QueueId, q ≠ 0 → (S.queue q).st = .absent) →
      ∃ t : State, exec (.setVaultLayout dt n) s = .next (t.configuredDone n) ∧ t.vault.layout = d64 d 8 ∧ t.arch.slots = [] ∧
        t.arch.nextSeq = 0 ∧ t.arch.st = .recording ∧ t.vault.cb = t.course.banks.map bankCrc ∧
        t.vault.cfA = t.chains.map (fun c => coefCrc c.coefA) ∧ t.vault.cfB = t.chains.map (fun c => coefCrc c.coefB))

/-- FW_LOAD, the five actions of FW_COMMIT and ATTEST (R475, R576, R579, R580, R583, R585, R588). A part that follows the one
before it is read; each action that its server carries out has its effect once the image passes the checks of R576; ATTEST with
a sound random number generator writes its report at ADDR and returns its length. Of the model's own choices it rests on log
entries 9, 10, 84, 85. -/
def Obligations.FirmwareCommands : Prop :=
  ∀ (dt : Nat) (n : Word32) (d : Desc) (s S : State), S = s.elapse dt → S.admRuns n d = true →
    (shaped d 8 false false [(4, 4), (8, 8), (16, 4)] = true → S.permits 0 [(0x40, 2)] = true →
      dNum d 4 4 + dNum d 16 4 ≤ 448 * 1024 → 1 ≤ dNum d 16 4 →
      exec (.fwLoad dt n) s = .next
        (if dNum d 4 4 = 0 ∨ dNum d 4 4 = (if S.mason.stage = 4 then S.mason.sram else S.mason.staged).length
          then (S.addOp 0 n .data).emit (.dataRead (d64 d 8) (dNum d 16 4)) else S.finish 0 n .rejState 0)) ∧
    (shaped d 9 false false [(4, 1)] = true → S.permits 0 [(0x40, 4)] = true →
      (S.mason.stage = 4 → imFault S.mason.sram S.mason.arcc = 0 →
        (dNum d 4 1 = 1 → exec (.fwCommitStart dt n) s = .next ((S.modMason fun m =>
          { m with stage := 5, image := imageOf m.sram, hostLoaded := true, restarting := false }).finish 0 n .done 0)) ∧
        (dNum d 4 1 = 3 → exec (.fwCommitInstall dt n) s =
          .next (((S.addOp 0 n .flash).modSerial Serial.leaveCont).modMason fun m => { m with flashOp := some (.install, n) }))) ∧
      (S.mason.stage ≠ 4 → dNum d 4 1 = 5 → exec (.fwCommitAdvance dt n) s =
        .next ((S.modMason fun m => { m with arcc := max m.arcc (min 128 m.image.arc) }).finish 0 n .done 0)) ∧
      (S.mason.stage ≠ 4 → imFault (if S.mason.stagedOk then S.mason.staged else []) S.mason.arcc = 0 →
        (dNum d 4 1 = 2 → exec (.fwCommitVerify dt n) s = .next (S.finish 0 n .done 0)) ∧
        (dNum d 4 1 = 3 → exec (.fwCommitInstall dt n) s =
          .next (((S.addOp 0 n .flash).modSerial Serial.leaveCont).modMason fun m => { m with flashOp := some (.install, n) })) ∧
        (dNum d 4 1 = 4 → exec (.fwCommitActivate dt n) s =
          .next (((S.addOp 0 n .flash).modSerial Serial.leaveCont).modMason fun m => { m with flashOp := some (.activate, n) }))) ∧
      (∀ f, f ≠ 0 → S.mason.stage ≠ 4 → imFault (if S.mason.stagedOk then S.mason.staged else []) S.mason.arcc = f →
        dNum d 4 1 = 2 → exec (.fwCommitVerify dt n) s = .next (S.finish 0 n .rejCheck (0xF000 + f)))) ∧
    (∀ overtaken, shaped d 0xA false false [(4, 32), (40, 12)] = true → S.permits 0 [(2, 1)] = true → S.mason.rngOk = true →
      304 + certTail.length ≤ dNum d 48 4 → overtaken ≤ 7 →
      let report := S.reportHead d ++ S.reportSig (S.reportHead d) ++ certTail
      exec (.attest dt n overtaken) s = .next ((S.useFresh.emit (.data (d64 d 40) report)).complete 0 n .done 0 S.now
        (resultOf (leBytes 4 report.length))))

/-- A descriptor whose opcode its queue does not accept, or whose feature or action is unknown, completes with REJ_FIELD and the
offset of the field (R422, R465, R476, R580); the choice of one row for all of them is the model's (log entry 15). Of the
model's own choices it rests on log entry 15. -/
def Obligations.UnknownOpcodes : Prop :=
  ∀ (dt : Nat) (n : Word32) (d : Desc) (s S : State) (off : Nat), S = s.elapse dt →
    (S.admRuns n d = true → (dOp d = 0 ∨ 0x0E < dOp d) → exec (.unknownOpcode dt 0 n) s = .next (S.finish 0 n .rejField 0)) ∧
    (S.admRuns n d = true → dOp d = 5 → settable (dNum d 4 2) = false →
      exec (.unknownOpcode dt 0 n) s = .next (S.finish 0 n .rejField 4)) ∧
    (S.admRuns n d = true → dOp d = 9 → (dNum d 4 1 = 0 ∨ 5 < dNum d 4 1) →
      exec (.unknownOpcode dt 0 n) s = .next (S.finish 0 n .rejField 4)) ∧
    (∀ q, S.ioRuns q n d = true → isIoOp (dOp d) = false →
      exec (.unknownOpcode dt q n) s = .next ((S.started q n).finish q n .rejField 0))

/-- How Mason's firmware comes to run and restarts (R99–R101, R103, R233, R576, R601–R604, R641, R644). The ROM loader
reads the SFDP tables (STAGE 0x1), then header, certificate and body (0x2) and checks digest and signature (0x3); a header that is
not valid is read again at 50 and at 25 MHz, a check that fails leaves STAGE 0x4 with its fault code, and an image that passes
takes STAGE to 0x5. FIRMWARE_READY takes it to FW_READY, where the strap changes that waited are recorded; an expiry of
the watchdog aborts the admin commands, sets STAGE to 0x5 and counts the restart, and the third within 10 s leads to recovery;
an idle Mason takes the command that may start. Of the model's own choices it rests on log entries 81, 92. -/
def Obligations.MasonStarts : Prop :=
  ∀ (dt : Nat) (s S : State), S = s.elapse dt → S.up = true →
    ((S.bootsrc = 1 ∨ S.bootsrc = 2) → S.pair.st ≠ .standby → S.serial.aborted = false →
      (S.mason.stage.toNat ≤ 1 → exec (.imageReadComplete dt (.tables none)) s = .next (S.modMason fun m => { m with
          stage := 4, fault := 1 }) ∧
        ∀ t, exec (.imageReadComplete dt (.tables (some t))) s = .next ((S.modSerial fun p => p.discover 0 t).modMason fun m =>
          { m with stage := 2, reading := [], loadClk := 100 })) ∧
      (∀ (h : List Byte) (f : Nat) (U : State), S.mason.stage = 2 → S.mason.reading = [] → h.length = 256 →
        f = imHeadFault h S.mason.arcc → U = S.modSerial (fun p => (p.clocked 0 S.mason.loadClk).flashRead 0 256) →
        (f = 0 → exec (.imageReadComplete dt (.header h)) s = .next (U.modMason fun m => { m with reading := h })) ∧
        (f = 2 → 25 < S.mason.loadClk → exec (.imageReadComplete dt (.header h)) s =
          .next (U.modMason fun m => { m with loadClk := m.loadClk / 2 })) ∧
        (f ≠ 0 → f ≠ 2 ∨ S.mason.loadClk ≤ 25 → exec (.imageReadComplete dt (.header h)) s =
          .next (U.modMason fun m => { m with stage := 4, fault := BitVec.ofNat 4 f }))) ∧
      (∀ c : List Byte, S.mason.stage = 2 → S.mason.reading.length = 256 → c.length = imCert S.mason.reading →
        exec (.imageReadComplete dt (.cert c)) s = .next ((S.modSerial fun p => p.flashRead 256 c.length).modMason fun m =>
          if Config.certOk c then { m with reading := m.reading ++ c } else { m with stage := 4, fault := 4 })) ∧
      (∀ b : List Byte, S.mason.stage = 2 → S.mason.reading.length = 256 + imCert S.mason.reading → 256 < S.mason.reading.length →
        b.length = imBody S.mason.reading → exec (.imageReadComplete dt (.body b)) s =
          .next ((S.modSerial fun p => p.flashRead (256 + imCert S.mason.reading) b.length).modMason fun m =>
            { m with stage := 3, reading := m.reading ++ b })) ∧
      (S.mason.stage = 3 → exec (.imageReadComplete dt .checked) s = .next (S.modMason fun m =>
        if imBodyFault m.reading = 0 then { m with stage := 5, image := imageOf m.reading, hostLoaded := false,
                                                   sram := if S.bootsrc = 2 then m.reading else m.sram }
        else { m with stage := 4, fault := BitVec.ofNat 4 (imBodyFault m.reading) }))) ∧
    (S.mason.stage = 5 → S.mason.restarting = false → exec (.firmwareReady dt) s = .next (S.mason.strapWait.foldl State.recordStraps
      ((List.finRange 4).foldl (fun s q => s.newThermal q) (S.modMason fun m => { m with
        stage := 6, recovery := false, strapWait := [] })))) ∧
    (S.mason.stage = 5 ∨ S.mason.stage = 6 →
      let recent := S.mason.expiries.filter fun x => decide (S.now ≤ x + 10000000000)
      let A := S.masonRestart.modMason fun m => { m with restarts := m.restarts + 1, expiries := S.now :: recent }
      exec (.masonWatchdogExpiry dt) s = .next (if recent.length < 2 then A
        else A.modMason fun m => { m with stage := 4, recovery := true, restarting := false, sram := [] })) ∧
    (S.mason.stage = 5 → S.mason.restarting = true →
      exec (.masonRestartComplete dt true) s = .next (S.modMason fun m => { m with restarting := false }) ∧
      exec (.masonRestartComplete dt false) s = .next (S.modMason fun m =>
        { m with stage := 4, recovery := true, restarting := false, sram := [] })) ∧
    (∀ n d, S.mason.busy = none → S.startable 0 n = some d →
      exec (.adminCommandStart dt n) s = .next
        (if 1 ≤ dOp d ∧ dOp d ≤ 0x0E ∧ S.mason.stage ≠ 6 ∧ dOp d ≠ 1 ∧ ¬(S.mason.stage = 4 ∧ (dOp d = 8 ∨ dOp d = 9))
         then (S.started 0 n).finish 0 n .rejState 0
         else (S.started 0 n).modMason fun m => { m with busy := some n })) ∧
    exec (.rngHealthTestFail dt) s = .next (S.modMason fun m => { m with rngOk := false }) ∧
    exec (.rngHealthTestPass dt) s = .next (S.modMason fun m => { m with rngOk := true })

/-- Load shedding, straps, throttling and the flash operation's end (R59, R194, R362, R579–R582, R597, R599). The tenth window
in a row above 90 % sheds one step more, unless the last shedding is less than 10 ms old; the hundredth below 70 % restores one,
unless the last restoring is less than 100 ms old. Of the model's own choices it rests on log entry 82. -/
def Obligations.MasonWatches : Prop :=
  ∀ (dt : Nat) (s S : State), S = s.elapse dt → S.up = true →
    (∀ load, S.mason.stage = 6 → load ≤ 100 →
      let A : State := S.modMason fun m => { m with load := load, highRun := if 90 < load then m.highRun + 1 else 0,
                                                    lowRun := if load < 70 then m.lowRun + 1 else 0 }
      ((A.mason.highRun < 10 ∧ A.mason.lowRun < 100) → exec (.masonLoadWindow dt load) s = .next A) ∧
      (∀ k : Fin 4, 10 ≤ A.mason.highRun → A.mason.shed = k.castSucc → A.mason.shedAt + 10000000 ≤ S.now →
        exec (.masonLoadWindow dt load) s = .next ((A.modMason fun m => { m with shedAt := S.now }).setShed k.succ)) ∧
      (∀ k : Fin 4, 100 ≤ A.mason.lowRun → A.mason.shed = k.succ → A.mason.restoreAt + 100000000 ≤ S.now →
        exec (.masonLoadWindow dt load) s = .next ((A.modMason fun m => { m with restoreAt := S.now }).setShed k.castSucc))) ∧
    (S.mason.shed ≠ 0 → S.mason.statusAt + 1000000000 ≤ S.now →
      exec (.masonStatusPeriodic dt) s = .next (S.modMason fun m => { m with statusAt := S.now }).masonRecord) ∧
    (∀ straps, S.mason.stage = 6 → S.mason.shed.val < 2 → straps ≠ S.strapsNow → exec (.strapChange dt straps) s =
      .next ((({ S with strapsNow := straps }).modMason fun m => { m with strapChanges := m.strapChanges + 1 }).logEvent 1
        straps.toNat false)) ∧
    (∀ straps, S.mason.stage ≠ 6 → straps ≠ S.strapsNow → exec (.strapChange dt straps) s =
      .next (({ S with strapsNow := straps }).modMason fun m => { m with strapWait := m.strapWait ++ [straps] })) ∧
    exec (.strapChange dt S.strapsNow) s = .next S ∧
    (S.throttled = false → exec (.throttleEnter dt) s =
      .next ((({ S with throttled := true }).raiseCause 9).logEvent 5 1 true).refit) ∧
    (S.throttled = true → exec (.throttleExit dt) s = .next ((List.finRange 16).foldl
      (fun s k => if s.chains[k].st = .suspended then s.chainStart k (s.dspTick s.now) 0x08 else s)
      ((({ S with throttled := false }).raiseCause 9).logEvent 5 0 true))) ∧
    (∀ n, S.serial.aborted = false →
      let F (op : Option (FlashOp × Word32)) : State :=
        { S with serial := { S.serial with lines := [] }, mason := { S.mason with flashOp := op } }
      (S.mason.flashOp = some (.load, n) → exec (.flashProgramEraseComplete dt true) s =
        .next (((F none).modMason fun m => { m with stagedOk := true }).finish 0 n .done 0)) ∧
      (S.mason.flashOp = some (.install, n) → S.bootsrc ≠ 1 → exec (.flashProgramEraseComplete dt true) s =
        .next ((F none).finish 0 n .done 0)) ∧
      (S.mason.flashOp = some (.activate, n) → exec (.flashProgramEraseComplete dt true) s =
        .next (((F none).finish 0 n .done 0).intoImage (F none).commitImage)))

/-- The internal power-on reset, a loss of the clock, DORMANT and wake (R57, R76, R90, R92, R94, R99, R498, R512, R560, R591,
R633, R644). A falling rail holds the reset; its release with the clock there samples the straps, starts device time at 0,
resets the access tables and their lock, keeps the Plinth, and starts the ROM loader as BOOTSRC says. Of the model's own choices
it rests on log entries 3, 92. -/
def Obligations.PowerOnResetAndWake : Prop :=
  ∀ (dt : Nat) (s S : State), S = s.elapse dt →
    (∀ rail, exec (.powerOnResetAssert dt rail) s = .next (if S.dormant = true ∧ rail ≠ .vaon
      then { S with rails := S.rails &&& ~~~BitVec.ofNat 4 (2 ^ railBit rail) }
      else { S with rails := S.rails &&& ~~~BitVec.ofNat 4 (2 ^ railBit rail), por := true, dormant := false, wokeDormant := false })) ∧
    (S.clk25 = true → S.dormant = false → S.por = false →
      exec (.clk25Loss dt) s = .next { S with clk25 := false, por := true, wokeDormant := false }) ∧
    (S.up = true → S.dormantReq = true →
      exec (.enterDormant dt) s = .next { S.diesLost with dormant := true, dormantReq := false }) ∧
    (∀ (pins : StartPins) (i : Instr),
      (i = .powerOnResetRelease dt pins ∧ S.por = true ∧ S.clk25 = true ∨ i = .wake dt pins ∧ S.dormant = true ∧ S.clk25 = true ∨
        i = .clk25Return dt pins ∧ S.clk25 = false ∧ S.por = true ∧ S.rails = 0xF) →
      ∃ t, exec i s = .next t ∧ t.por = false ∧ t.dormant = false ∧ t.rails = 0xF ∧ t.clk25 = true ∧ t.straps = pins.straps ∧
        t.now = 0 ∧ (∀ r ∈ t.rows, r = 0x0077777777777777) ∧ t.locked = false ∧ t.plinth = S.plinth ∧ t.visoLost = !pins.viso ∧
        t.wokeDormant = (match i with | .wake .. => true | _ => S.wokeDormant) ∧
        t.pair.st = (if fld pins.straps 1 2 = 1 ∨ fld pins.straps 1 2 = 2 then .starting else .single) ∧
        t.mason.stage = (if fld pins.straps 3 2 = 0 then 4 else if fld pins.straps 3 2 = 3 then 15
          else 1) ∧ t.mason.arcc = S.mason.arcc ∧
        (∀ q : QueueId, (t.queue q).st = .absent) ∧ ∀ q : QuadId, (t.quad q).armed = false ∧ (t.quad q).sync = false)

/-- The isolated supply and the start of the field dies (R80–R84, R98, R108, R529, R530). Losing VISO, a single or standby unit
loses every quadrant, keeps FAULT_N for it and stages a FIELD_STATE record with CAUSE 3; an active unit of a pair hands the role
over. A die starts once the one before it has synchronised or 1 ms later; one that synchronises runs disarmed, with its own
watchdog's silence time. Of the model's own choices it rests on log entries 60, 80. -/
def Obligations.SupplyAndDieStart : Prop :=
  ∀ (dt : Nat) (s S : State), S = s.elapse dt → S.up = true →
    (S.viso = true → S.pair.st ≠ .active →
      let A : State := ({ ({ S with viso := false }).diesLost with visoLost := true }).raiseCause 1
      exec (.visoLost dt) s = .next (if (A.stage (A.fieldRecord 3)).2 then (A.stage (A.fieldRecord 3)).1
        else { (A.stage (A.fieldRecord 3)).1 with fieldDue := some 3 })) ∧
    (S.viso = true → S.pair.st = .active →
      let A : State := { (({ S with viso := false }).roleLoss S.now).diesLost with visoLost := true }
      exec (.visoLost dt) s = .next (if S.pair.zaf.present then (A.modPair fun p => { p with finalDue := true }).finalCapture
        else A.modPair fun p => { p with mute := true, cap := none })) ∧
    (S.viso = false → exec (.visoRestored dt) s = .next { S with viso := true, visoLost := false }) ∧
    (∀ q : QuadId, S.viso = true → (S.pair.st = .single ∨ S.pair.st = .active) → (S.quad q).started = none →
      (∀ p : QuadId, p.val + 1 = q.val → (S.quad p).sync = true ∨ ∃ t, (S.quad p).started = some t ∧ t + 1000000 ≤ S.now) →
      exec (.transformerStart dt q) s = .next (S.modQuad q fun x => { x with started := some S.now })) ∧
    (∀ q : QuadId, S.viso = true → S.sendsFrames = true → (S.quad q).started.isSome = true → (S.quad q).sync = false →
      let A := (S.onChans (fun c => quadOf c == q) fun _ (x : Chan) => { (if (S.quad q).stale then syncChan S.now x else x) with
        cmd := false, filtAt := S.now }).retrigger fun s => s.modQuad q fun x =>
          { x with sync := true, stale := false, released := false, fwTrig := false, dieArmed := false, lastGood := none, lostRun := 0,
                   lostFrom := none, silence := if s.inPair then 1000 * ptTrel s.pair.timing else x.silenceSet }
      exec (.fieldDieSync dt q) s = .next (((if (A.quad q).disWait then A.disarmQuad q else A).driveSelf fun c =>
        quadOf c == q).resetDone q))

/-- BAR0 commands at a unit that holds the role and whose host may write HI_CTRL (R14, R109, R113–R115, R415, R418, R419,
R449–R451, R456, R497, R593). Enabling the admin queue with good registers makes queue 0 ACTIVE with F, W and its pointers at 0;
bad ones set CFGERR; disabling an ACTIVE admin queue drains it; a write of HI_HOSTWD or HI_KEEPALIVE restarts the watchdog. A
W1C bit that the hardware set in the same cycle stays set; a change of the set-up registers or of the MSI-X table travels to the
partner. -/
def Obligations.HostControlWrites : Prop :=
  ∀ (dt : Nat) (s S : State), S = s.elapse dt → S.hostUp = true → S.holdsRole = true → S.permits 0 [(1, 2)] = true →
    (∀ sq cq, sq = fld S.host.aqSize 0 5 → cq = fld S.host.aqSize 8 5 → (S.queue 0).st = .absent →
      exec (.adminQueueEnable dt) s = .next
        (if 4 ≤ sq ∧ sq ≤ 16 ∧ 4 ≤ cq ∧ cq ≤ 16 ∧ S.host.dbBase ≠ 0 ∧ S.host.aqSq ≠ 0 ∧ S.host.aqCq ≠ 0
         then S.carry ((S.modHost fun h => { h with aqen := true }).modQueue 0 fun _ => { Reset.queue with
           st := .active, cls := 1, weight := 4, sqlog := sq, cqlog := cq, sqbase := S.host.aqSq, cqbase := S.host.aqCq })
         else (S.noteSet 14).modHost fun h => { h with cfgerr := true })) ∧
    ((S.queue 0).st ≠ .absent → exec (.adminQueueEnable dt) s = .next S) ∧
    ((S.queue 0).st = .active →
      exec (.adminQueueDisable dt) s = .next (S.carry ((S.modHost fun h => { h with aqen := false }).beginDrain 0))) ∧
    (∀ v : Word32, S.host.wdLock = true → exec (.hiHostwdWrite dt v) s =
      .next (S.modHost fun h => { h with wdExpired := h.wdExpired && (!bit v 30 || bit S.justSet 12) })) ∧
    (∀ v : Word32, S.host.wdLock = false → exec (.hiHostwdWrite dt v) s = .next (S.carry (S.modHost fun h =>
      { h with wdExpired := h.wdExpired && (!bit v 30 || bit S.justSet 12), wdLock := bit v 31, wdAct := v.extractLsb' 20 8,
               wdPeriod := fld v 0 14 }).wdRestart)) ∧
    (∀ v : Word32, exec (.hiKeepalive dt v) s =
      .next (S.carry ((S.modHost fun h => { h with wdLast := S.now, wdFired := false }).retrigger
        fun s => { s with quads := s.quads.map fun (x : Quad) => { x with hwTrig := false } }))) ∧
    (∀ v : Word32, exec (.hiDevcauseWrite dt v) s =
      .next (S.carry (S.setDev (S.host.devCause &&& ~~~(v &&& ~~~S.justSet)) S.host.devEn))) ∧
    (∀ v : Word32, exec (.hiDevenWrite dt v) s = .next (S.carry (S.setDev S.host.devCause (v &&& 0xFFF)))) ∧
    (∀ v : VecId, S.msix[v].pend = false → exec (.msixVectorUnmask dt v) s =
      .next (S.carry { S with msix := S.msix.set v { S.msix[v] with mask := false } })) ∧
    (∀ v : VecId, S.msix[v].pend = true → S.host.msixEn = true → exec (.msixVectorUnmask dt v) s =
      .next (S.carry (({ S with msix := S.msix.set v { S.msix[v] with mask := false, pend := false } }).emit
        (.msix v S.msix[v].addr S.msix[v].data))))

/-- Reads with a snapshot register (R13, R593, R612, R615, R616, R618): the low word is returned and the high word latched, each
row of the access tables with a latch of its own; the debug window, with DBG_WEN set and its master allowed, returns the Vault's
word and steps its address by 8 under AINC. REGISTER_WRITE (R13, R14, R410, R415–R419, R449, R593, R605–R607, R614, R616). An
aligned word write reaches the register at its offset, each field by its access type; the admin queue's registers are writable
while queue 0 is ABSENT and HI_DBBASE while every queue is, else WIGN is set; an aligned write of 1 or 2 bytes, one without
permission and one at a unit without the role set WIGN alone; a STARTING unit ignores every access. Of the model's own choices it
rests on log entries 5, 102. -/
def Obligations.RegisterReadsAndWrites : Prop :=
  (∀ (dt : Nat) (s S : State), S = s.elapse dt → S.hostUp = true → S.pair.st ≠ .starting →
    (S.permits 0 [(0, 1)] = true → exec (.glTimeRead dt) s = .next { S with
      host := { S.host with timeShadow := BitVec.ofNat 32 (S.now / 2 ^ 32) }, out := S.out ++ [.readValue (BitVec.ofNat 32 S.now)] }) ∧
    (∀ row : Fin 22, S.permits 0 [(2, 1)] = true → exec (.secRowRead dt row) s = .next { S with
      host := { S.host with rowShadow := S.host.rowShadow.set row ((S.rows[row] >>> 32).setWidth 32) },
      out := S.out ++ [.readValue (S.rows[row].setWidth 32)] }) ∧
    (S.permits 0 [(3, 1)] = true → S.host.dbgWen = false → exec (.dbgDataRead dt false) s =
      .next { S with out := S.out ++ [.readValue 0] }) ∧
    (∀ w : Word64, S.permits 0 [(3, 1)] = true → S.host.dbgWen = true → S.permits 13 [(S.vaultTarget S.host.dbgAddr.toNat, 1)] = true →
      S.vaultWord S.host.dbgAddr.toNat = some w → ∃ t, exec (.dbgDataRead dt false) s = .next t ∧
      t.host = { S.host with dbgAddr := if S.host.dbgAinc then S.host.dbgAddr + 8 else S.host.dbgAddr, dbgShadow := (w >>> 32).setWidth 32 } ∧
      t.out = S.out ++ [.readValue (w.setWidth 32)]) ∧
    (S.permits 0 [(0, 1)] = false → exec (.glTimeRead dt) s =
      .next ((S.deny 0 0 1).answer 0))) ∧
  (∀ (dt : Nat) (v : Word64) (w : Word32) (s S : State), S = s.elapse dt → w = v.setWidth 32 → S.hostUp = true →
    (S.holdsRole = true → S.permits 0 [(1, 2)] = true →
      (∀ f : HostRegs → HostRegs, ∀ off,
        (off = 0x1008 ∧ f = (fun h => { h with aqSq := setLow h.aqSq (w &&& 0xFFFFFFC0) }) ∨
         off = 0x100C ∧ f = (fun h => { h with aqSq := setHigh h.aqSq w }) ∨
         off = 0x1010 ∧ f = (fun h => { h with aqCq := setLow h.aqCq (w &&& 0xFFFFFFC0) }) ∨
         off = 0x1014 ∧ f = (fun h => { h with aqCq := setHigh h.aqCq w }) ∨
         off = 0x1018 ∧ f = (fun h => { h with aqSize := w &&& 0x1F1F })) →
        exec (.registerWrite dt off 4 v) s =
          .next (if (S.queue 0).st = .absent then S.carry (S.modHost f) else S.setWign)) ∧
      exec (.registerWrite dt 0x101C 4 v) s = .next (S.carry (S.modHost fun h => { h with poll := w &&& 0x3FFF })) ∧
      exec (.registerWrite dt 0x1004 4 v) s =
        .next (S.modHost fun h => { h with wign := h.wign && (!bit w 3 || bit S.justSet 13),
                                           cfgerr := h.cfgerr && (!bit w 2 || bit S.justSet 14) }) ∧
      exec (.registerWrite dt 0x1020 4 v) s = .next (if S.anyQueue = false
        then S.carry (S.modHost fun h => { h with dbBase := setLow h.dbBase (w &&& 0xFFFFFC00) }) else S.setWign) ∧
      (∀ k : VecId, exec (.registerWrite dt (0x4000 + 16 * k.val + 8) 4 v) s =
        .next (S.carry { S with msix := S.msix.set k { S.msix[k] with data := w } })) ∧
      (∀ off size, 0x1000 ≤ off → off < 0x2000 → (size = 1 ∨ size = 2) → off % size = 0 →
        exec (.registerWrite dt off size v) s = .next S.setWign)) ∧
    (S.holdsRole = true → S.permits 0 [(3, 2)] = true →
      exec (.registerWrite dt 0x3004 4 v) s = .next (S.modHost fun h => { h with dbgAddr := (w &&& 0xFFFFF8).setWidth 24 })) ∧
    (S.holdsRole = true → S.permits 0 [(2, 2)] = true → bit w 31 = true → bit S.justSet 15 = false →
      exec (.registerWrite dt 0x2004 4 v) s = .next (S.modHost fun h => { h with denyValid := false })) ∧
    (S.holdsRole = true → S.permits 0 [(1, 2)] = false → exec (.registerWrite dt 0x101C 4 v) s =
      .next (S.deny 0 1 2).setWign) ∧
    (S.holdsRole = false → S.pair.st ≠ .starting → exec (.registerWrite dt 0x101C 4 v) s = .next S.setWign) ∧
    (S.pair.st = .starting → exec (.glTimeRead dt) s = .next S ∧ ∀ off size, off < 0x100000 →
      exec (.registerWrite dt off size v) s = .next S) ∧
    (∀ off size, 0x100000 ≤ off → exec (.registerWrite dt off size v) s = .fault (.outsideBar0 off)))

/-- Resets of the host interface, power states of the link and bus mastering (R94, R96, R412, R413, R414, R449, R459, R460). A
function-level reset and PERST_N empty every queue, the routes, record staging, the MSI-X table and the transmit FIFO, keep the
host watchdog, and leave the channels' drivers as they are; D3hot puts the link in L1.2; writes that
waited for Bus Master Enable issue in order. Of the model's own choices it rests on log entries 14, 23, 33, 103. -/
def Obligations.LinkAndResets : Prop :=
  ∀ (dt : Nat) (s S : State), S = s.elapse dt → S.up = true →
    (∀ (i : Instr) (perst flr : Bool) (link : Fin 4),
      (i = .functionLevelReset dt ∧ S.hostUp = true ∧ perst = false ∧ flr = true ∧ link = S.host.link ∨
       i = .perstAssert dt ∧ S.host.perst = false ∧ perst = true ∧ flr = false ∧ link = 0 ∨
       i = .d3hotToD0 dt ∧ S.hostUp = true ∧ S.host.d3hot = true ∧ perst = false ∧ flr = false ∧ link = 1) →
      ∃ t : State, exec i s = .next t ∧ t.queues = .replicate 64 Reset.queue ∧ t.routes = .replicate 10 0 ∧ t.staging = [] ∧
        t.outWait = [] ∧ t.flush = 1000 ∧ t.msix = .replicate 68 Reset.msixEntry ∧ t.serial = { S.serial with tx := [] } ∧
        t.chans = S.chans ∧ t.quads = S.quads ∧ t.mason.resetDiscards = S.mason.resetDiscards + S.staging.length ∧
        t.fieldDue = some 1 ∧ (∀ o ∈ t.ops, o.live = false) ∧
        t.host = { Reset.host with
          wdLock := S.host.wdLock, wdExpired := S.host.wdExpired, wdAct := S.host.wdAct, wdPeriod := S.host.wdPeriod,
          wdLast := S.host.wdLast, wdFired := S.host.wdFired, jtag := S.host.jtag,
          devCause := if S.host.wdExpired then S.host.devCause &&& 1 else 0,
          link := link, perst := perst, flr := flr }) ∧
    (S.host.flr = true → exec (.functionLevelResetComplete dt) s = .next (S.modHost fun h => { h with flr := false })) ∧
    (S.host.perst = true → exec (.perstRelease dt) s =
      .next (S.modHost fun h => { h with perst := false, link := if S.pair.st = .standby then 2 else 1 })) ∧
    (S.hostUp = true → S.host.d3hot = false → exec (.d0ToD3hot dt) s = .next (S.modHost fun h => { h with d3hot := true, link := 2 })) ∧
    (2 ≤ S.host.link.val → exec (.linkReturnToL0 dt) s = .next (S.modHost fun h => { h with link := 1, wakeLow := false })) ∧
    (∀ m x, S.hostUp = true → S.host.d3hot = false → exec (.busMasterEnable dt true m x) s = .next { S with
      host := { S.host with bme := true, mse := m, msixEn := x }, out := S.out ++ S.outWait, outWait := [] }) ∧
    (∀ m x, S.hostUp = true → exec (.busMasterEnable dt false m x) s = .next { S with
      host := { S.host with bme := false, mse := m, msixEn := x } })

/-- Polling, index reads and fetching (R109, R421, R424, R426, R427, R430–R432, R527). A change of GEN issues the index read and
restarts the watchdog; an index read gives each queue its pointers; one fetch read takes count descriptors of the queue whose
turn it is, and F counts them. Of the model's own choices it rests on log entries 29, 91. -/
def Obligations.PollingAndFetching : Prop :=
  ∀ (dt : Nat) (s S : State), S = s.elapse dt → S.hostUp = true →
    (S.pollRuns = true → S.host.pollOut = false → (S.host.polledOnce = false ∨ S.host.pollAt ≤ S.now) →
      exec (.doorbellPoll dt) s =
        .next ((S.modHost fun h => { h with pollOut := true, pollAt := S.now + S.host.pollNs, polledOnce := true }).emit
          (.pollRead S.host.dbBase))) ∧
    (∀ gen, S.host.pollOut = true →
      (gen = S.host.gen → S.pair.firstPoll = false →
        exec (.pollComplete dt gen) s = .next (S.modHost fun h => { h with pollOut := false })) ∧
      (gen ≠ S.host.gen ∨ S.pair.firstPoll = true →
        let A : State := S.modHost fun h => { h with pollOut := false }
        let B : State := if S.host.wdPeriod = 0 then A else A.wdRestart
        exec (.pollComplete dt gen) s = .next (if B.host.indexOut then B
          else ({ B with pair := { B.pair with firstPoll := false },
                         host := { B.host with genSeen := some gen, indexOut := true } }).emit
            (.indexRead (B.host.dbBase + 0x40))))) ∧
    (∀ sqp cqc, S.host.indexOut = true →
      (∀ q : QueueId, (S.queue q).st ≠ .absent → (sqp[q] - (S.queue q).f).toNat ≤ 2 ^ (S.queue q).sqlog ∧
        ((S.queue q).w - cqc[q]).toNat ≤ 2 ^ (S.queue q).cqlog) →
      exec (.indexReadComplete dt sqp cqc) s = .next { S with
        host := { S.host with gen := S.host.genSeen.getD S.host.gen, genSeen := none, indexOut := false },
        queues := Vector.ofFn fun q => if (S.queue q).st = .absent then S.queue q
          else { S.queue q with sqp := sqp[q], cqc := cqc[q] } }) ∧
    (∀ (q : QueueId) (count : Nat), S.pollRuns = true → S.journals = false → S.pair.handover = none → S.pair.handedOver = false →
      1 ≤ count → count ≤ 8 → S.mayFetch q count = true →
      (∀ p : QueueId, (S.queue p).cls.val < (S.queue q).cls.val → S.mayFetch p 1 = false) → S.turnOf (S.queue q).cls = some q →
      count ≤ (S.queue q).turnLeft → (S.queue q).f.toNat % 2 ^ (S.queue q).sqlog + count ≤ 2 ^ (S.queue q).sqlog →
      ∃ A : State, exec (.descriptorFetch dt q count) s = .next (A.emit (.fetchRead q ((S.queue q).sqbase +
          BitVec.ofNat 64 (64 * ((S.queue q).f.toNat % 2 ^ (S.queue q).sqlog))) (S.queue q).f count)) ∧
        A = { S with queues := A.queues, fetchSeq := S.fetchSeq + count } ∧ (A.queue q).f = (S.queue q).f + BitVec.ofNat 32 count ∧
        (A.queue q).flight = (S.queue q).flight ++ ((List.range count).map fun i =>
          { num := (S.queue q).f + BitVec.ofNat 32 i, desc := 0, stage := .fetching, logged := true, aresync := false,
            rdrop := false, ford := S.fetchSeq + i }) ∧
        ∀ p, p ≠ q → A.queue p = { S.queue p with turn := (A.queue p).turn })

/-- Staging a descriptor (R387, R452, R458, R543–R547, R598). On a queue without a profile the descriptor waits to start; on a
DRAINING queue it completes with ABORTED_QUIESCE; an uncorrectable error gives REJ_CHECK with 0xECC0. On a profiled queue CHECK
is judged first, then ALIVE: it is accepted when it lies 1 to STEP ahead of V modulo 2^k, or anywhere but at V after a
resynchronisation, and V takes its value. Of the model's own choices it rests on log entry 51. -/
def Obligations.StagingDescriptors : Prop :=
  ∀ (dt : Nat) (q : QueueId) (n : Word32) (d : Desc) (e : Inflight) (s S A : State), S = s.elapse dt → S.hostUp = true →
    (S.queue q).flight.find? (fun x => x.num == n) = some e → e.stage = .fetching →
    (∀ x ∈ (S.queue q).ahead n, x.stage ≠ .fetching) →
    A = S.modQueue q (fun u => { u with flight := u.flight.map fun x => if x.num = n then { x with desc := d, stage := .staged } else x }) →
    exec (.descriptorStaged dt q n d true) s = .next ((A.vaultUe 0x120000).finish q n .rejCheck 0xECC0) ∧
    ((S.queue q).profile = none →
      ((S.queue q).st ≠ .draining → (q ≠ 0 ∨ S.mason.shed ≠ 4) → exec (.descriptorStaged dt q n d false) s = .next A) ∧
      ((S.queue q).st = .draining → exec (.descriptorStaged dt q n d false) s = .next (A.finish q n .abortedQuiesce 0))) ∧
    (∀ x : CtxId, (S.queue q).profile = some x → (S.queue q).st ≠ .draining → (q ≠ 0 ∨ S.mason.shed ≠ 4) →
      ∀ k a V step : Nat, k = plWidth S.plumb[x].word → a = (dAlive d).toNat → V = (S.queue q).alive.toNat →
        step = (a + 2 ^ k - V % 2 ^ k) % 2 ^ k →
      (dCheck d ≠ crc32c (dBytes60 d) → exec (.descriptorStaged dt q n d false) s = .next (A.finish q n .rejCheck 0xCD00)) ∧
      (dCheck d = crc32c (dBytes60 d) →
        (2 ^ k ≤ a → exec (.descriptorStaged dt q n d false) s = .next (A.finish q n .rejField 56)) ∧
        (a < 2 ^ k → k ≠ 0 → step ≠ 0 → ((S.queue q).resync = true ∨ step ≤ plStep S.plumb[x].word) →
          exec (.descriptorStaged dt q n d false) s = .next (A.modQueue q fun u => { u with
            alive := dAlive d, resync := false,
            flight := u.flight.map fun y => if y.num = n then { y with aresync := (S.queue q).resync } else y })) ∧
        (a < 2 ^ k → k ≠ 0 → (step = 0 ∨ (S.queue q).resync = false ∧ plStep S.plumb[x].word < step) →
          exec (.descriptorStaged dt q n d false) s = .next (A.finish q n .rejAlive ((V + 1) % 2 ^ k)))))

/-- Record staging (R389, R445, R446): a record goes to the end of staging while its bytes fit beside those that wait and the
open SIDEBAND_WORDS record; one that does not fit is not staged, and one whose route is 0x40 is discarded without a count.
Coalescing, record buffers and record writing (R387, R443–R448). A record lies at the buffer's first free byte, and USED grows
by its length. The buffer being filled retires when its queue's next record does not fit. Of the records of one route only the
oldest is written, and a waiting record whose route becomes 0x40 is discarded. Of the model's own choices it rests on log
entries 33, 94. -/
def Obligations.RecordsAndBuffers : Prop :=
  (∀ (s : State) (r : Record) (who : Option (QueueId × Word32)) (used : Nat),
    used = ((s.staging.map fun x => x.1.len).sum + (if s.serial.openRec = [] then 0
      else (16 + 4 * s.serial.openRec.length + 7) / 8 * 8)) →
    (s.route r = 0x40 → s.stage r who = (s, true)) ∧
    (s.route r ≠ 0x40 → used + r.len ≤ 65536 * laRstg s.vault.layout →
      s.stage r who = ({ s with staging := s.staging ++ [(r, who)] }, true)) ∧
    (s.route r ≠ 0x40 → 65536 * laRstg s.vault.layout < used + r.len → s.stage r who = (s, false))) ∧
  ((∀ (dt : Nat) (s S : State), S = s.elapse dt → S.hostUp = true →
    (∀ (q : QueueId) (t : Nat), (S.queue q).ctime ≠ 0 → (S.queue q).oldest = some t → t + (S.queue q).ctime * 1000 ≤ S.now →
      exec (.coalesceTimeout dt q) s = .next ((S.signal ⟨(S.queue q).vector.val, by omega⟩).modQueue q fun u =>
        { u with unsig := 0, oldest := none })) ∧
    (∀ (q : QueueId) (b : RecBuf) (rest : List RecBuf) (t : Nat), (S.queue q).bufs = b :: rest → b.firstAt = some t →
      t + S.flush * 1000 ≤ S.now → exec (.recordFlushTimeout dt q) s =
        .next ((S.modQueue q fun u => { u with bufs := u.bufs.filter fun y => y.num != b.num }).complete q b.num .done b.used S.now 0)) ∧
    (∀ (older newer : List (Record × Option (QueueId × Word32))) (r : Record) (who : Option (QueueId × Word32)) (P : State),
      S.holdsRole = true → S.host.bme = true → S.host.d3hot = false → P = S.retireFull → P.staging = older ++ (r, who) :: newer →
      (∀ (a b : List (Record × Option (QueueId × Word32))) (x : Record × Option (QueueId × Word32)), older = a ++ x :: b →
        (∀ y ∈ a, P.route y.1 ≠ P.route x.1) → P.destOf x.1 = none ∧ P.route x.1 ≠ 0x40) →
      (∀ x ∈ older, P.route x.1 ≠ P.route r) →
      let A := ({ P with staging := older ++ newer } : State).drainRx
      (P.route r = 0x40 → ∀ ue, exec (.recordWrite dt ue) s = .next (A.recordDone r who)) ∧
      (∀ q : QueueId, P.route r ≠ 0x40 → P.destOf r = some q → exec (.recordWrite dt false) s = .next (A.writeRecord q r who) ∧
        (who = none → exec (.recordWrite dt true) s =
          .next ((A.vaultUe (0x120000 + laDstg P.vault.layout * 65536)).countDrop r))))) ∧
  (∀ s : State, ((∀ q, s.overfull q = false) → s.retireFull = s) ∧
    (∀ (q : QueueId) (b : RecBuf) (rest : List RecBuf) (older newer : List (Record × Option (QueueId × Word32))) (r : Record)
      (who : Option (QueueId × Word32)), q ≠ 0 → (s.queue q).st = .active → (s.queue q).bufs = b :: rest →
      s.staging = older ++ (r, who) :: newer → (∀ x ∈ older, s.route x.1 ≠ q.val) → s.route r = q.val → b.used ≠ 0 →
      b.len < b.used + r.len → (∀ p < q, s.overfull p = false) → s.retireFull =
        (s.modQueue q fun u => { u with bufs := u.bufs.filter fun y => y.num != b.num }).complete q b.num .done b.used s.now 0)) ∧
  (∀ (s : State) (q : QueueId) (r : Record) (b : RecBuf) (rest : List RecBuf), (s.queue q).bufs = b :: rest →
    b.used + r.len ≤ b.len → s.writeRecord q r none =
      (s.modQueue q fun u => { u with bufs := { b with used := b.used + r.len, firstAt := some (b.firstAt.getD s.now) } :: rest }).emit
        (.record q b.addr b.used r)))

/-- A completion (R424, R435, R437, R438, R440, R448). In an I/O queue that still waits with its coalescing, completing
descriptor n takes it out of the queue, counts W and the unsignalled completions, and writes its entry at CQBASE + 32 × (W mod
size), with the phase bit 1 in the ring's first pass and inverted at each wrap. Of the model's own choices it rests on log entry
5. -/
def Obligations.CompletionEntry : Prop :=
  ∀ (s : State) (q : QueueId) (n : Word32) (st : Status) (detail time : Nat) (result : Mask128) (e : Inflight),
    s.hostUp = true → s.holdsRole = true → s.host.bme = true → s.host.d3hot = false → q ≠ 0 →
    (s.queue q).flight.find? (fun x => x.num == n) = some e → dNocoal e.desc = false → st.urgent = false →
    (s.queue q).unsig + 1 < (s.queue q).ccnt →
    s.completeRaw q n st detail time result = { s with
      ops := s.ops.filter (fun o => !(o.live && o.q == q && o.n == n)),
      queues := s.queues.set q { s.queue q with
        flight := (s.queue q).flight.filter (fun x => x.num != n), w := (s.queue q).w + 1, unsig := (s.queue q).unsig + 1,
        oldest := some ((s.queue q).oldest.getD s.now) },
      out := s.out ++ [.completion q
        ((s.queue q).cqbase + BitVec.ofNat 64 (32 * ((s.queue q).w.toNat % 2 ^ (s.queue q).cqlog)))
        { cid := dCid e.desc, status := st, aresync := e.aresync, rdrop := e.rdrop,
          phase := decide ((s.queue q).w.toNat / 2 ^ (s.queue q).cqlog % 2 = 0), detail := BitVec.ofNat 32 detail,
          time := time, result := result }] }

/-- Signals and device causes (R411, R414, R449–R451, R459, R614). A signal of a masked vector sets its pending bit, of an
unmasked one sends its message, and none happens while MSI-X is disabled; a device vector is signalled when the OR of its set
and enabled causes rises; SEC_DENY keeps the first denial and counts on to 255; the first of a cycle is
kept aside too, for a clear of VALID in the same cycle (R14). After reset every cause is enabled. -/
def Obligations.SignalsAndCauses : Prop :=
  State.reset.host.devEn = 0xFFF ∧ ∀ s : State, s.hostUp = true → s.holdsRole = true →
    (∀ v : VecId, (s.host.msixEn = false → s.signal v = s) ∧
      (s.host.msixEn = true → s.msix[v].mask = true →
        s.signal v = { s with msix := s.msix.set v { s.msix[v] with pend := true } }) ∧
      (s.host.msixEn = true → s.msix[v].mask = false → s.host.bme = true → s.host.d3hot = false →
        s.signal v = { s with out := s.out ++ [.msix v s.msix[v].addr s.msix[v].data] }) ∧
      (s.host.msixEn = true → s.msix[v].mask = false → s.host.bme = false →
        s.signal v = { s with outWait := s.outWait ++ [.msix v s.msix[v].addr s.msix[v].data] })) ∧
    (∀ (cause en : Word32) (A : State) (rises : Fin 4 → Bool),
      A = (s.modHost fun h => { h with
        devCause := cause, devEn := en,
        wakeLow := h.wakeLow || (decide (2 ≤ h.link.val) && ((cause &&& en) &&& ~~~(s.host.devCause &&& s.host.devEn)) != 0) }) →
      (∀ i, rises i = (s.host.devCause &&& s.host.devEn &&& vecBits i == 0 && cause &&& en &&& vecBits i != 0)) →
      ((∀ i, rises i = false) → s.setDev cause en = A) ∧
      (∀ i : Fin 4, rises i = true → (∀ j, j ≠ i → rises j = false) → s.setDev cause en = A.signal ⟨64 + i.val, by omega⟩) ∧
      s.setDev cause en = (List.finRange 4).foldl (fun t i => if rises i then t.signal ⟨64 + i.val, by omega⟩ else t) A) ∧
    (∀ (m t perm : Nat) (A : State),
      A = (s.modHost fun h => { h with
        denyNow := if bit s.justSet 15 then h.denyNow else (BitVec.ofNat 8 t, BitVec.ofNat 4 m, denyKindOf perm),
        setBits := s.justSet ||| 0x8000, setAt := s.clock }) →
      (s.host.denyValid = false → s.deny m t perm = A.modHost fun h => { h with
        denyValid := true, denyTarget := BitVec.ofNat 8 t, denyMaster := BitVec.ofNat 4 m, denyKind := denyKindOf perm,
        denyCount := 1 }) ∧
      (s.host.denyValid = true → s.host.denyCount ≤ 255 →
        s.deny m t perm = A.modHost fun h => { h with denyCount := if h.denyCount = 255 then 255 else h.denyCount + 1 }) ∧
      (bit s.justSet 15 = true → s.clearDeny = s.modHost fun h => { h with
        denyTarget := h.denyNow.1, denyMaster := h.denyNow.2.1, denyKind := h.denyNow.2.2, denyCount := 1 }))

/-- RECORD_BUFFER, the archive commands, PLUMB_SCAN and SIDEBAND_SEND start (R97, R393–R396, R399, R442, R548, R549, R571). A
buffer is posted behind the others; ARCHIVE_FREEZE in RECORDING takes its own POST count and waits for FROZEN, in the other
states it is rejected; RELEASE takes the archive back to RECORDING; a scan starts at once on a context that is free, else it
waits; the words of a SIDEBAND_SEND enter the transmit FIFO all together. Of the model's own choices it rests on log entry 50. -/
def Obligations.DataCommands : Prop :=
  ∀ (dt : Nat) (q : QueueId) (n : Word32) (d : Desc) (s S : State) (p : Bool) (m : Nat), S = s.elapse dt →
    S.ioRuns q n d = true → p = (S.queue q).profile.isSome → m = (S.queue q).hctx.val →
    (shaped d 0x48 p false [(8, 8), (16, 4)] = true → S.permits m [(0x16, 1)] = true → dNum d 8 1 % 64 = 0 →
      dNum d 16 4 % 64 = 0 → 4096 ≤ dNum d 16 4 → dNum d 16 4 ≤ 16777216 →
      exec (.recordBuffer dt q n) s = .next ((S.started q n).modQueue q fun u => { u with bufs :=
        u.bufs ++ [{ num := n, addr := d64 d 8, len := dNum d 16 4, used := 0, firstAt := none }] }).stageField) ∧
    (S.permits m [(0x17, 4)] = true →
      (shaped d 0x49 p false [(4, 2)] = true → dNum d 4 1 = 0 →
        (S.arch.st = .recording → 0 < dNum d 5 1 → exec (.archiveFreeze dt q n) s = .next ((S.started q n).modArch fun a => { a with
          st := .post, left := dNum d 5 1, trigCode := 0, trigNum := 0, trigTime := S.frameStart, trigRev := revWord S.thetaNow,
          trigSeq := (a.slots.head?.map (·.seq)).getD 0, waiter := some (q, n) })) ∧
        (S.arch.st ≠ .recording → exec (.archiveFreeze dt q n) s =
          .next (((S.started q n).modArch fun a => { a with ignored := a.ignored + 1 }).finish q n .rejState 0))) ∧
      (shaped d 0x49 p false [(4, 1)] = true → dNum d 4 1 = 1 → S.arch.waiter = none →
        exec (.archiveRelease dt q n) s =
          .next (((S.started q n).modArch fun a => { a with st := .recording, left := 0 }).finish q n .done 0))) ∧
    (shaped d 0x4A p false [(4, 6)] = true → S.permits m [(0x17, 1)] = true → 1 ≤ dNum d 8 2 → dNum d 8 2 ≤ 4096 →
      (∀ x ∈ S.arch.slots, ∀ i, i < dNum d 8 2 → x.seq ≠ d32 d 4 + BitVec.ofNat 32 i) →
      exec (.archiveRead dt q n) s =
        .next ((S.started q n).complete q n .done 0 S.now (resultOf (leBytes 4 0 ++ leBytes 4 0 ++ leBytes 4 (dNum d 8 2))))) ∧
    (∀ x, shaped d 0x4A p false [(4, 6)] = true → S.permits m [(0x17, 1)] = true → dNum d 8 2 = 1 →
      S.arch.slots.find? (fun y => y.seq == d32 d 4) = some x → S.route (.archive x) ≠ 0x40 → S.stageRoom 1160 = true →
      exec (.archiveRead dt q n) s = .next (({ S.started q n with staging := S.staging ++ [(.archive x, none)] } : State).complete
        q n .done 0 S.now (resultOf (leBytes 4 (d32 d 4).toNat ++ leBytes 4 (d32 d 4).toNat ++ leBytes 4 0)))) ∧
    (∀ x : CtxId, shaped d 0x50 p false [(4, 3), (8, 24)] = true → S.permits m (S.scanNeeds d) = true → dNum d 4 1 = x.val →
      dNum d 5 1 ≤ 1 → dNum d 6 1 = 0 → dNum d 24 8 = 0 → (dNum d 5 1 = 0 → dNum d 8 8 + dNum d 16 4 ≤ 0x1000000) →
      1 ≤ dNum d 16 4 → dNum d 16 4 ≤ 16777216 →
      exec (.plumbScan dt q n) s = .next (if S.plumb[x].pass ∨ S.plumb[x].scan ≠ none ∨ S.plumb[x].scanWait ≠ []
        then (S.started q n).modPlumb x fun c => { c with scanWait := c.scanWait ++ [(q, n)] }
        else (S.started q n).scanStarts x q n)) ∧
    (∀ words : List Word32, shaped d 0x58 p false [(4, 1), (8, 32)] = true → S.permits m [(0x16, 2)] = true →
      1 ≤ dNum d 4 1 → dNum d 4 1 ≤ 8 → words = (List.range (dNum d 4 1)).map (fun i => d32 d (8 + 4 * i)) →
      (∀ w ∈ words, w.toNat < 2 ^ spBits S.serial.word) → (∀ i, dNum d 4 1 ≤ i → i < 8 → d32 d (8 + 4 * i) = 0) →
      exec (.sidebandSend dt q n) s = .next (if spSen S.serial.word = false then (S.started q n).finish q n .rejState 0
        else if 64 < S.serial.tx.length + words.length then (S.started q n).finish q n .rejBusy 0
        else ((S.started q n).modSerial fun c => { c with tx := c.tx ++ words }).complete q n .done 0 S.now
          (BitVec.ofNat 128 words.length)))

/-- Plumb's scans and passes and the scrubber (R385–R388, R548–R555). A scan of a host range returns the check value under its
context's polynomial, and REJ_CHECK with 0xCE00 when COMPARE finds another; a due pass starts with the active bank or with bank
0; an object whose value differs from the stored one is counted, reported and marked SUSPECT; the scrubber takes the lines of a
bank in turn and corrects a single-bit error. Of the model's own choices it rests on log entries 28, 51. -/
def Obligations.PlumbAndScrub : Prop :=
  ∀ (dt : Nat) (x : CtxId) (s S : State) (p : Plumb), S = s.elapse dt → p = S.plumb[x] →
    (∀ (data : List Byte) (q : QueueId) (n : Word32) (e : Inflight) (v : Nat), S.hostUp = true → p.scan = some (q, n) →
      (S.queue q).flight.find? (fun y => y.num == n) = some e → dNum e.desc 5 1 = 1 → data.length = dNum e.desc 16 4 →
      v = crc (S.ctxParams x) data → exec (.plumbScanComplete dt x data false) s = .next
        (((S.modPlumb x fun c => { c with scan := none }).complete q n
          (if dNum e.desc 6 1 = 1 ∧ v ≠ dNum e.desc 24 8 then .rejCheck else .done)
          (if dNum e.desc 6 1 = 1 ∧ v ≠ dNum e.desc 24 8 then 0xCE00 else 0) S.now (BitVec.ofNat 128 v)).nextScan x)) ∧
    (S.up = true → plTarget p.word ≠ 0 → p.pass = false → p.passDue = false → p.passAt + plSper p.word * 1000000 ≤ S.now →
      exec (.plumbPassDue dt x) s = .next (S.modPlumb x fun c => if p.scan.isSome then { c with passDue := true }
        else { c with pass := true, passAt := S.now, passDue := false, skip := [],
                      obj := if plTarget c.word = 1 then S.course.active.val else 0 })) ∧
    (∀ (value : Word32), S.up = true → p.pass = true →
      (p.obj ∈ p.skip ∨ S.stored (plTarget p.word) p.obj = value) →
      (plTarget p.word = 2 → p.obj < 31 → exec (.plumbPassEnd dt x value false) s =
        .next (S.modPlumb x fun c => { c with obj := c.obj + 1 })) ∧
      (plTarget p.word = 1 → exec (.plumbPassEnd dt x value false) s =
        .next ((S.modPlumb x fun c => { c with pass := false, passCnt := min 255 (c.passCnt + 1) }).nextScan x))) ∧
    (∀ (value : Word32), S.up = true → p.pass = true → p.obj ∉ p.skip → S.stored (plTarget p.word) p.obj ≠ value →
      plTarget p.word = 1 → exec (.plumbPassEnd dt x value false) s =
        .next (((((S.vaultUe (0x20000 * p.obj)).suspect 1 p.obj).modPlumb x fun c => { c with misCnt := min 255 (c.misCnt + 1) }).modPlumb x
          fun c => { c with pass := false, passCnt := min 255 (c.passCnt + 1) }).nextScan x)) ∧
    (∀ (bank : Fin 4), S.up = true →
      let A : State := { S with vault := { S.vault with scrub := S.vault.scrub.set bank ((S.vault.scrub[bank] + 1) % 131072) } }
      exec (.scrubRequest dt bank .clean) s = .next A ∧
      exec (.scrubRequest dt bank .single) s = .next { A with vault := { A.vault with
        corrected := A.vault.corrected.set bank (A.vault.corrected[bank] + 1) } } ∧
      (∀ q, exec (.scrubRequest dt bank (.double q)) s = .next (A.scrubUe q (128 * S.vault.scrub[bank] + 32 * bank.val))))

/-- Reads of command data (R281, R458, R475, R550, R579, R594, R595). Data of the length that the command asks for let it go on:
an FW_LOAD part joins the image, ACCESS_LOAD replaces its rows once none is bad or in use, and the course, sequence and
coefficient tables go on to their checks; a read that fails completes the command with REJ_CHECK and 0xDA00. Of the model's own
choices it rests on log entries 21, 43. -/
def Obligations.CommandData : Prop :=
  ∀ (dt : Nat) (q : QueueId) (n : Word32) (d : Desc) (s S : State), S = s.elapse dt → S.hostUp = true →
    (∀ data : List Byte, data.length = dataLen d → S.dataOp q n = some (d, none) →
      let run := exec (.commandDataReadComplete dt q n data) s
      (dOp d = 0x30 → run = .next (S.coursePass1 q n d data)) ∧ (dOp d = 0x38 → run = .next (S.seqData q n d data)) ∧
      (dOp d = 0x41 → run = .next (S.coefData q n d data)) ∧
      (dOp d = 8 → S.mason.stage = 4 → run = .next ((S.modMason fun m =>
        { m with sram := if dNum d 4 4 = 0 then data else m.sram ++ data }).finish 0 n .done 0)) ∧
      (dOp d = 0xB → S.locked = false → dNum d 4 1 = 0xFF → dNum d 16 4 = 176 → ∀ rows : Vector Word64 22,
        rows = Vector.ofFn (fun i => BitVec.ofNat 64 (fieldAt data (8 * i.val) 8)) → (∀ w ∈ rows, rowBad w = false) →
        S.rowsInUse rows = false → run = .next ((({ S with rows := rows } : State).configured none).finish 0 n .done 0))) ∧
    (∀ (data : List Byte) (crc1 : Word32), data.length = dataLen d → S.dataOp q n = some (d, some crc1) →
      exec (.commandDataReadComplete dt q n data) s = .next (S.coursePass2 q n d crc1 data)) ∧
    (S.dataOp q n = some (d, none) →
      exec (.hostReadFailure dt (.command q n)) s = .next ((S.raiseCause 4).finish q n .rejCheck 0xDA00)) ∧
    (S.host.pollOut = true → exec (.hostReadFailure dt .poll) s =
      .next ((S.modHost fun h => { h with pollOut := false }).raiseCause 4)) ∧
    (S.host.indexOut = true → exec (.hostReadFailure dt .index) s =
      .next ((S.modHost fun h => { h with indexOut := false, genSeen := none }).raiseCause 4)) ∧
    (∀ (first : Word32) (count : Nat) (e : Inflight), e ∈ (S.queue q).flight → e.stage = .fetching →
      (e.num - first).toNat < count → (S.queue q).st ≠ .error →
      exec (.hostReadFailure dt (.descriptor q first count)) s = .next (((((S.modQueue q fun u => { u with
        flight := u.flight.filter (fun y => !(y.stage == .fetching && decide ((y.num - first).toNat < count))),
        st := .error, err := some .fetch }).raiseCause 4).raiseCause 3).drained q).finishDrains))

/-- The serial port (R556–R570). Another select that falls in a transfer aborts it, counts and sets SPCOL; the retry comes once
the selects have been high for TBUS; an XIP read of a line that is not held reads it from the flash when the bus is free, over
the discovered protocol, at the clock found or MCLK, without the command byte where the flash is in continuous-read mode and
after the exit sequence where it has to leave it; a word sent is the oldest of the transmit FIFO or FILL; a word that the port
may take enters the receive FIFO, and one that it may not is counted; a rising select stages the open record. Of the model's own
choices it rests on log entries 30, 31, 32. -/
def Obligations.SerialPort : Prop :=
  ∀ (dt : Nat) (s S : State) (p : Serial), S = s.elapse dt → p = S.serial →
    exec (.slaveSelectFall dt) s = .next (S.modSerial fun c => { c with scs := false }) ∧
    (S.serialUp = true →
      (∀ (own : Fin 2) (sel : Fin 3), spMmen p.word = true → p.aborted = false → p.scs = true → sel.val ≠ own.val →
        exec (.spCollide dt (own, sel)) s =
        .next ((S.modSerial fun c => { c with aborted := true, colCnt := min 255 (c.colCnt + 1), cs0 := c.cs0 && sel != 0,
                                              cs1 := c.cs1 && sel != 1, scs := sel != 2, freeSince := S.now }).raiseCause 10)) ∧
      (p.aborted = true → p.scs = true → p.freeSince + 1000 * spTbus p.word ≤ S.now → exec (.serialRetry dt) s =
        .next (S.modSerial fun c => { c with aborted := false, cs0 := true, cs1 := true })) ∧
      (∀ addr line next d, p.flash[0] = some d → addr < 0x4000000 → addr < d.density → line.length = 256 → next.length = 256 →
        p.aborted = false → S.busFree = true →
        (p.lines.find? (fun l => l.1 == addr / 256) = none →
          let cont : Bool := !spMmen p.word && spCrm p.word && d.read.mode != 0
          let x : Xfer := {
            sel := 0, clock := min d.clock (100 / 2 ^ spMclk p.word), proto := d.read.proto,
            cmd := if p.cont && cont then none else some d.read.cmd, addr := 256 * (addr / 256),
            addrBytes := if d.wide then 4 else 3, contBits := if cont then some d.contBits else none, modeClks := d.read.mode,
            dummy := d.read.dummy, data := 256 }
          exec (.xipRead dt addr line next) s = .next (S.modSerial fun c => { c with
            cont := cont, bus := if p.cont && !cont then [.cmd 0 1 d.exit, .read x] else [.read x],
            lines := ((addr / 256, line) :: c.lines.filter (fun l => l.1 != addr / 256)).take 32 })) ∧
        (∀ l, p.lines.find? (fun l => l.1 == addr / 256) = some l → addr % 256 < 128 →
          exec (.xipRead dt addr line next) s = .next (S.modSerial fun c =>
            { c with lines := ((addr / 256, l.2) :: c.lines.filter (fun x => x.1 != addr / 256)).take 32 }))) ∧
      (∀ w rest, p.tx = w :: rest → p.send = { p with tx := rest, miso := p.miso ++ [w] }) ∧
      (p.tx = [] → p.send = { p with miso := p.miso ++ [fillWord p.word], undCnt := min 255 (p.undCnt + 1) }) ∧
      (∀ w : Word32, spSen p.word = true → p.scs = false → w.toNat < 2 ^ spBits p.word →
        let A : State := S.modSerial fun c => { c.send with lastWord := S.now }
        exec (.slaveWord dt w) s = .next
          (if S.permits 12 [(0x16, 2)] = false then (A.modSerial fun c => { c with ovfCnt := min 255 (c.ovfCnt + 1) }).deny 12 0x16 2
           else if 64 ≤ p.rx.length then A.modSerial fun c => { c with ovfCnt := min 255 (c.ovfCnt + 1) }
           else (A.modSerial fun c => { c with rx := c.rx ++ [(w, S.now)] }).drainRx)) ∧
      (p.scs = false → spSen p.word = true →
        exec (.slaveSelectRise dt 0) s = .next ((S.modSerial fun c => { c with scs := true, freeSince := S.now }).stageOpen.drainRx) ∧
        ∀ bits, 0 < bits → bits < spBits p.word → exec (.slaveSelectRise dt bits) s =
          .next (((S.modSerial fun c => { c with scs := true, freeSince := S.now }).stageOpen.drainRx).modSerial fun c =>
            { c.send with txCut := if c.tx = [] then c.txCut else min 255 (c.txCut + 1), partCnt := c.partCnt + 1 })) ∧
      (p.openRec ≠ [] → p.lastWord + 100000 ≤ S.now → exec (.sidebandRecordTimeout dt) s = .next S.stageOpen.drainRx)) ∧
    (∀ addr line next, 0x4000000 ≤ addr → exec (.xipRead dt addr line next) s = .fault (.outsideXip addr))

/-- CH_CONFIG (R37, R121–R126, R154, R478). The lowest channel of the mask that fails a step of R121 is reported, the fields
first, then the states, then the capacity; an accepted command holds its groups for every channel it writes, puts their words
into the mailboxes of the channels' quadrants, in the order of the channels, and waits for the acknowledgements of its words and
for the frame boundary that brings its pulse group. Of the model's own choices it rests on log entry 35. -/
def Obligations.ChannelConfiguration : Prop :=
  ∀ (dt : Nat) (q : QueueId) (n : Word32) (d : Desc) (s S : State) (p : Bool) (m : Nat), S = s.elapse dt →
    S.ioRuns q n d = true → p = (S.queue q).profile.isSome → m = (S.queue q).hctx.val →
    shaped d 0x20 p false [(4, 17), (24, 24)] = true → S.permits m (maskNeeds 0x30 2 d) = true →
    dMask d 4 ≠ 0 → 1 ≤ dNum d 20 1 → dNum d 20 1 ≤ 7 → ((dNum d 20 1).testBit 0 = false → d64 d 24 = 0) →
    ((dNum d 20 1).testBit 1 = false → d64 d 32 = 0) → ((dNum d 20 1).testBit 2 = false → d64 d 40 = 0) →
    (∀ c, cfgFieldBad d = some c → exec (.chConfig dt q n) s = .next ((S.started q n).finish q n .rejField c.val)) ∧
    (cfgFieldBad d = none → ∀ c, (maskChans (dMask d 4)).find? (S.cfgStateBad d) = some c →
      exec (.chConfig dt q n) s = .next ((S.started q n).finish q n .rejState c.val)) ∧
    (cfgFieldBad d = none → (∀ c : ChanId, bit (dMask d 4) c.val = true → S.cfgStateBad d c = false) →
      (∀ c, S.cfgCapacity d = some c →
        exec (.chConfig dt q n) s = .next ((S.started q n).finish q n .rejCapacity c.val)) ∧
      (S.cfgCapacity d = none → ∀ (w : ChanId → Bool) (words : QuadId → List MboxWord) (at_ : QuadId → Bool),
        (∀ c, w c = (S.cfgWrites d).contains c) → (∀ k, at_ k = (S.cfgWrites d).any fun c => quadOf c == k) →
        (∀ k, words k = ((S.cfgWrites d).filter fun c => quadOf c == k).flatMap (cfgWords d)) →
        exec (.chConfig dt q n) s = .next ((((S.started q n).onChans w fun c (x : Chan) => { x with
            chwNew := if (dNum d 20 1).testBit 0 then some (S.cfgChwOf d c) else x.chwNew,
            protNew := if (dNum d 20 1).testBit 1 then some (d64 d 32) else x.protNew,
            pulNew := if (dNum d 20 1).testBit 2 then some (d64 d 40) else x.pulNew,
            pulOrd := if (dNum d 20 1).testBit 2 then S.reqKey (.host q n) else x.pulOrd }).onQuads fun k (x : Quad) => { x with
            mbox := x.mbox ++ words k, mboxFiled := x.mboxFiled + (words k).length }).addOp q n
          (.chConfig (quadMask fun k => (dNum d 20 1).testBit 2 && at_ k)
            (quadMask fun k => ((dNum d 20 1).testBit 0 || (dNum d 20 1).testBit 1) && at_ k)
            ((List.finRange 4).map fun k => (S.quad k).mboxFiled + (words k).length)))))

/-- SAFE_DEFINE and BUDGET_SET (R155, R163, R237–R239, R479, R480). A safe value is kept for every channel of the mask, at once
or, under a safe level, from the next trigger on, and on a die that kept its power through a reset from its synchronisation on;
a budget word waits for the next frame; naming the odd channel of a gang is rejected. -/
def Obligations.SafeValuesAndBudgets : Prop :=
  ∀ (dt : Nat) (q : QueueId) (n : Word32) (d : Desc) (s S : State) (p : Bool) (m : Nat), S = s.elapse dt →
    S.ioRuns q n d = true → p = (S.queue q).profile.isSome → m = (S.queue q).hctx.val →
    (∀ (v : SafeVal) (per duty : Nat), shaped d 0x23 p false [(4, 17), (24, 6)] = true →
      S.permits m (maskNeeds 0x38 2 d) = true → dMask d 4 ≠ 0 →
      (dNum d 20 1, dNum d 24 4, dNum d 28 2, v, per, duty) ∈ [(0, 0, 0, .off, 250, 0), (1, 0, 0, .on, 250, 0), (2, 0, 0, .hold, 250, 0)] ∨
        (dNum d 20 1 = 3 ∧ v = .pulse ∧ per = dNum d 24 4 ∧ duty = dNum d 28 2 ∧ 250 ≤ per ∧ per ≤ 1000000 ∧ duty ≤ 1024) →
      (∀ c, (maskChans (dMask d 4)).find? S.lastOdd = some c →
        exec (.safeDefine dt q n) s = .next ((S.started q n).finish q n .rejState c.val)) ∧
      ((∀ c : ChanId, bit (dMask d 4) c.val = true → S.lastOdd c = false) →
        exec (.safeDefine dt q n) s = .next (((S.started q n).onChans (fun c => bit (dMask d 4) c.val) fun c (x : Chan) =>
          if S.safeRules c || S.staleChan c then { x with safeNew := some (v, per, duty) }
          else { x with safe := v, safePer := per, safeDuty := duty, safeNew := none }).configDone q n .done 0 S.now 0))) ∧
    (shaped d 0x27 p false [(4, 2), (8, 24)] = true →
      (dNum d 4 1 = 0 → dNum d 5 1 = 0 → dMask d 8 ≠ 0 → budwBad (d64 d 24) = false →
        S.permits m ((maskQuads (dMask d 8)).map fun k => (0x30 + k, 2)) = true →
        (∀ c, (maskChans (dMask d 8)).find? S.lastOdd = some c →
          exec (.budgetSet dt q n) s = .next ((S.started q n).finish q n .rejState c.val)) ∧
        ((∀ c : ChanId, bit (dMask d 8) c.val = true → S.lastOdd c = false) →
          exec (.budgetSet dt q n) s = .next (((S.started q n).onChans (fun c => bit (dMask d 8) c.val) fun _ (x : Chan) =>
            { x with budwNew := some (d64 d 24) }).configDone q n .done 0 S.now 0))) ∧
      (dNum d 4 1 = 1 → 1 ≤ dNum d 5 1 → dNum d 5 1 ≤ 15 → dMask d 8 = 0 → qbudwBad (d64 d 24) = false →
        S.permits m ((bitsList 4 (dNum d 5 1)).map fun k => (0x30 + k, 2)) = true →
        exec (.budgetSet dt q n) s = .next (((S.started q n).onQuads fun k (x : Quad) =>
          if (dNum d 5 1).testBit k.val then { x with qbudwNew := some (d64 d 24) } else x).configDone q n .done 0 S.now 0)) ∧
      (dNum d 4 1 = 2 → dNum d 5 1 = 0 → dMask d 8 = 0 → devwBad Config.codeAE (d64 d 24) = false → S.permits m [(0, 2)] = true →
        exec (.budgetSet dt q n) s = .next (({ S.started q n with devwNew := some (d64 d 24) } : State).configDone q n .done 0
          S.now 0)))

/-- ARM and DISARM (R104–R108, R481, R470). The named quadrants that are synchronised are armed, their DISARM ended, by their
next frame, for which ARM waits, PARTIAL when a named one is left out; with none it is rejected, as it is with REDMODE 0b11.
DISARM disarms every named quadrant, a synchronised one with the DISARM trigger at once, another one once it synchronises. Of
the model's own choices it rests on log entry 60. -/
def Obligations.ArmAndDisarm : Prop :=
  ∀ (dt : Nat) (q : QueueId) (n : Word32) (d : Desc) (s S : State) (p : Bool) (m : Nat) (named ok : QuadId → Bool), S = s.elapse dt →
    S.ioRuns q n d = true → p = (S.queue q).profile.isSome → m = (S.queue q).hctx.val →
    S.permits m ((bitsList 4 (dNum d 4 1)).map fun k => (0x38 + k, 4)) = true → 1 ≤ dNum d 4 1 → dNum d 4 1 ≤ 15 →
    (∀ k : QuadId, named k = (dNum d 4 1).testBit k.val) →
    (∀ k : QuadId, ok k = ((dNum d 4 1).testBit k.val && (S.quad k).sync && S.redmode != 3)) →
    (shaped d 0x24 p false [(4, 1)] = true →
      ((∀ k, ok k = false) → exec (.arm dt q n) s = .next ((S.started q n).finish q n .rejState 0)) ∧
      ((∃ k, ok k = true) → exec (.arm dt q n) s = .next (((S.started q n).onQuads fun k (x : Quad) =>
        if ok k then { x with armReq := true } else x).addOp q n
          (.arm (quadMask ok) (quadMask ok) ((List.finRange 4).any fun k => named k && !ok k))))) ∧
    (∀ k : QuadId, (S.quad k).armReq = true → S.takeArm k = S.retrigger fun u => u.modQuad k fun (x : Quad) =>
      { x with armed := true, armReq := false, disTrig := false, disWait := false }) ∧
    (shaped d 0x25 p false [(4, 1)] = true →
      exec (.disarm dt q n) s = .next ((((List.finRange 4).filter named).foldl State.disarmQuad (S.started q n)).addOp q n
        (.disarm (quadMask named) (quadMask named))) ∧
      ((∀ k, named k = true → (S.quad k).sync = false) →
        exec (.disarm dt q n) s = .next (((S.started q n).onQuads fun k (x : Quad) =>
          if named k then { x with armed := false, armReq := false, disWait := true } else x).addOp q n (.disarm (quadMask named) (quadMask named)))))

/-- FAULT_CLEAR (R158, R200, R204, R273, R479). For every named channel, and the other channel of its gang, the fault level, the
diagnostics 1 to 4 end, and the latch and the retry counter of the pair's even channel or of the channel itself; no other
channel changes. Then the named supplies and, with ASRC, the ANGLE source are cleared; ASRC outside FROZEN and SAFE is rejected,
and nothing is cleared. Of the model's own choices it rests on log entry 20. -/
def Obligations.FaultClear : Prop :=
  ∀ (dt : Nat) (q : QueueId) (n : Word32) (d : Desc) (s S : State) (p : Bool) (m : Nat), S = s.elapse dt →
    S.ioRuns q n d = true → p = (S.queue q).profile.isSome → m = (S.queue q).hctx.val →
    shaped d 0x26 p false [(4, 18)] = true → dNum d 20 1 ≤ 15 → dNum d 21 1 ≤ 1 →
    (dMask d 4 ≠ 0 ∨ dNum d 20 1 ≠ 0 ∨ dNum d 21 1 ≠ 0) →
    S.permits m (((maskQuads (dMask d 4)).map fun k => (0x30 + k, 2)) ++ ((bitsList 4 (dNum d 20 1)).map fun k => (0x30 + k, 2)) ++
      (if dNum d 21 1 = 1 then [(0x10, 4)] else [])) = true →
    (dNum d 21 1 = 1 → S.ang.st ≠ .frozen → S.ang.st ≠ .safe →
      exec (.faultClear dt q n) s = .next ((S.started q n).finish q n .rejState 0)) ∧
    (dNum d 21 1 = 0 ∨ S.ang.st = .frozen ∨ S.ang.st = .safe →
      ∃ T V : State, T = { S.started q n with chans := T.chans, quads := T.quads, staging := T.staging } ∧
        (∀ k, T.quad k = { S.quad k with diagDrop := (T.quad k).diagDrop }) ∧
        (∀ c : ChanId, T.chan c =
          if bit (dMask d 4) c.val ∨ (S.isOdd c ∧ bit (dMask d 4) (prevChan c).val) ∨ (S.gangAt c ∧ bit (dMask d 4) (nextChan c).val)
          then { S.chan c with fault := false, standing := (S.chan c).standing &&& ~~~0x1E,
                               latch := S.isOdd c && (S.chan c).latch, retry := if S.isOdd c then (S.chan c).retry else 0 }
          else S.chan c) ∧
        V = ((List.finRange 4).filter fun k => (dNum d 20 1).testBit k.val).foldl State.clearSupply T ∧
        exec (.faultClear dt q n) s =
          .next ((if dNum d 21 1 = 1 then V.clearAngle else V).configDone q n .done 0 S.now 0 false))

/-- OUT_WRITE and OUT_PULSE (R35, R39, R140, R155, R222–R225, R241, R246, R468, R479). The channels of the mask that are not odd
channels of a gang are decided in ascending order. For a mask with one such channel c: a command for a channel that does not
accept its owner's commands completes as REJ_STATE; a level of off, and a level of on where the driver is on, is applied at once
and waits for its frame; a level of on where the driver is off, and a start of a generator, waits as a request at Buttress; a
STOP without a generator changes nothing, an UPDATE without one stores the group that it carries. Of the model's own choices it
rests on log entries 17, 35, 46, 88. -/
def Obligations.OutputCommands : Prop :=
  ∀ (dt : Nat) (q : QueueId) (n : Word32) (d : Desc) (s S A : State) (p : Bool) (m : Nat) (o : Mask128 → Mask128 → BitVec 4 → Nat → State → State),
    S = s.elapse dt → A = S.started q n →
    S.ioRuns q n d = true → p = (S.queue q).profile.isSome → m = (S.queue q).hctx.val → dMask d 4 ≠ 0 →
    S.permits m ((maskQuads (dMask d 4)).map fun k => (0x30 + k, 4)) = true →
    (∀ todo applied quads capped T, o todo applied quads capped T = T.addOp q n (.out {
      named := S.maskNamed (dMask d 4), todo := todo, applied := applied, refused := 0, late := false, capped := capped,
      quads := quads, sentAt := 0 })) →
    (shaped d 0x21 p false [(4, 32)] = true →
      exec (.outWrite dt q n) s = .next (A.outCmd q n (dMask d 4) 0 fun u c => u.setLevel c (bit (dMask d 20) c.val) (.host q n)) ∧
      (∀ c, S.maskLeads (dMask d 4) = [c] → (∀ x ∈ S.ops, x.live = true → x.q = q → x.n ≠ n) → (∀ r ∈ S.reqs, r.chan ≠ c) →
        (S.accepts false c = false → exec (.outWrite dt q n) s = .next (A.finish q n .rejState 0)) ∧
        (S.accepts false c = true →
          (bit (dMask d 20) c.val = false → exec (.outWrite dt q n) s = .next (o 0 (bitOf c) (BitVec.ofNat 4 (2 ^ (quadOf c).val)) 0
            (A.modChan c fun x => { x.owned with gen := none, ref := false, chgAt := S.now }))) ∧
          (bit (dMask d 20) c.val = true → (S.chan c).drv = true → (S.chan c).gen = none → (S.chan c).test = .idle →
            exec (.outWrite dt q n) s = .next (o 0 (bitOf c) (BitVec.ofNat 4 (2 ^ (quadOf c).val)) 0
              (A.modChan c fun x => { x.owned with gen := none, ref := true, chgAt := S.now }))) ∧
          (bit (dMask d 20) c.val = true → (S.chan c).drv = false → (S.chan c).latch = false → S.supplyHolds c = false →
            exec (.outWrite dt q n) s = .next (o (bitOf c) 0 0 0 { A.modChan c fun x =>
                { x with gen := none, ref := x.cause != .none, chgAt := S.now } with
              reqs := S.reqs ++ [{ chan := c, src := .host q n, kind := .level, frame := S.frameNo, key := S.reqKey (.host q n),
                                   seq := S.reqSeq, firing := S.course.firing, tested := none, failed := 0, olds := [] }],
              reqSeq := S.reqSeq + 1 }))))) ∧
    (∀ (stored : ChanId → State → State), shaped d 0x22 p false [(4, 18), (24, 8)] = true → dNum d 21 1 ≤ 1 →
      (dNum d 21 1 = 0 → d64 d 24 = 0 ∧ ∀ c T, stored c T = T) →
      (dNum d 21 1 = 1 → pulwBad (d64 d 24) = false ∧
        ∀ c T, stored c T = (T.members c).foldl (fun u k => u.modChan k fun x => { x with pulw := d64 d 24 }) T) →
      (dNum d 20 1 = 0 →
        exec (.outPulseStart dt q n) s = .next (A.outCmd q n (dMask d 4) (S.cappedCount d) fun u c =>
          if (u.chan c).latch && (u.chan c).gen.isNone then (u, .notApplied)
          else (u.pulseWrite d c).startGen c (u.pulseGroup d c) (u.chan c).pulw (.host q n)) ∧
        (∀ c, S.maskLeads (dMask d 4) = [c] → (∀ x ∈ S.ops, x.live = true → x.q = q → x.n ≠ n) → (∀ r ∈ S.reqs, r.chan ≠ c) →
          S.accepts false c = true → (S.chan c).gen = none → (S.chan c).latch = false → S.supplyHolds c = false →
          exec (.outPulseStart dt q n) s = .next (o (bitOf c) 0 0 (S.cappedCount d) { stored c A with
            reqs := S.reqs ++ [{ chan := c, src := .host q n, kind := .start (if dNum d 21 1 = 1 then d64 d 24 else (S.chan c).pulw),
                                 frame := S.frameNo, key := S.reqKey (.host q n), seq := S.reqSeq, firing := S.course.firing,
                                 tested := none, failed := 0, olds := [] }],
            reqSeq := S.reqSeq + 1 }))) ∧
      (dNum d 20 1 = 1 →
        exec (.outPulseStop dt q n) s = .next (A.outCmd q n (dMask d 4) 0 fun u c => (u.pulseWrite d c).stopGen c) ∧
        (∀ c, S.maskLeads (dMask d 4) = [c] → (∀ x ∈ S.ops, x.live = true → x.q = q → x.n ≠ n) → (∀ r ∈ S.reqs, r.chan ≠ c) →
          S.accepts false c = true → (S.chan c).gen = none →
          exec (.outPulseStop dt q n) s =
            .next (o 0 (bitOf c) (BitVec.ofNat 4 (2 ^ (quadOf c).val)) 0 (stored c A)))) ∧
      (dNum d 20 1 = 2 → dNum d 21 1 = 1 →
        exec (.outPulseUpdate dt q n) s = .next (A.outCmd q n (dMask d 4) (S.cappedCount d) fun u c =>
          (u.pulseWrite d c).updateGen c (d64 d 24) (u.chan c).pulw (.host q n)) ∧
        (∀ c, S.maskLeads (dMask d 4) = [c] → (∀ x ∈ S.ops, x.live = true → x.q = q → x.n ≠ n) →
          S.accepts false c = true → (S.chan c).gen = none →
          exec (.outPulseUpdate dt q n) s =
            .next (o 0 (bitOf c) (BitVec.ofNat 4 (2 ^ (quadOf c).val)) (S.cappedCount d) (stored c A)))))

/-- COURSE_LOAD, COURSE_SWAP, the end of a swap and the prefetch (R279–R282, R292, R293, R295, R406, R470, R513). A table that
is not empty is read once its descriptor is good; an empty one is written at once into a bank that is not active, unless a swap
is pending, with its check value; a swap waits for its wrap while the engine fires, and takes effect at once where it does not
fire, or with IMMEDIATE below VSTALL; at its wrap in forward motion the other bank becomes active, and the COURSE_SWAP
completes. Of the model's own choices it rests on log entry 47. -/
def Obligations.CourseTables : Prop :=
  ∀ (dt : Nat) (q : QueueId) (n : Word32) (d : Desc) (s S : State) (p : Bool) (m : Nat), S = s.elapse dt →
    (S.ioRuns q n d = true → p = (S.queue q).profile.isSome → m = (S.queue q).hctx.val →
      (shaped d 0x30 p false [(4, 1), (8, 16)] = true → S.permits m [(0x10, 2)] = true → dNum d 4 1 ≤ 1 → bankwBad (d64 d 16) = false →
        (bwCount (d64 d 16) ≠ 0 → exec (.courseLoad dt q n) s =
          .next (((S.started q n).addOp q n .data).emit (.dataRead (d64 d 8) (16 * bwCount (d64 d 16))))) ∧
        (bwCount (d64 d 16) = 0 → d64 d 8 = 0 →
          (S.course.active.val = dNum d 4 1 ∨ S.course.swap ≠ none →
            exec (.courseLoad dt q n) s = .next ((S.started q n).finish q n .rejState 0)) ∧
          (∀ b : CBankId, b.val = dNum d 4 1 → S.course.active ≠ b → S.course.swap = none → S.journals = false →
            exec (.courseLoad dt q n) s = .next (({ (S.started q n).overtake 1 b.val with
              course := { S.course with
                banks := S.course.banks.set b { entries := [], tcoast := bwTcoast (d64 d 16), fpol := bwFpol (d64 d 16), suspect := false },
                bad := S.course.bad.filter fun x => x.1 != b,
                due := S.course.due.filter fun x => x.bank != b },
              vault := { S.vault with cb := S.vault.cb.set b 0 },
              cfgGen := S.cfgGen + 1 } : State).complete q n .done 0 S.now 0)))) ∧
      (∀ (T : State) (w : Swap), T = (S.started q n).angleTick → w = { wrap := T.swapWrap, who := some (q, n) } →
        shaped d 0x31 p true [] = true → S.permits m [(0x10, 4)] = true →
        (∀ imm : Bool, imm = dCspec d → ∀ X, X = (if imm then exec (.courseSwapImmediate dt q n) s else exec (.courseSwap dt q n) s) →
          (T.copyWaits (courseRegion (1 - T.course.active)) 0x20000 = true → X = .next (T.addOp q n (.swapWait imm))) ∧
          (T.copyWaits (courseRegion (1 - T.course.active)) 0x20000 = false →
            (T.course.swap ≠ none → X = .next (T.complete q n .rejState 0 T.now 0)) ∧
            (T.course.swap = none → T.firing = false → X = .next (T.swapNow w false)) ∧
            (T.course.swap = none → T.firing = true → imm = true → -rpmUnits (trVstall T.ang.trkw) < T.omegaNow →
              T.omegaNow < rpmUnits (trVstall T.ang.trkw) → X = .next (T.swapNow w false)) ∧
            (T.course.swap = none → T.firing = true → imm = true → T.omegaNow ≤ -rpmUnits (trVstall T.ang.trkw) ∨
              rpmUnits (trVstall T.ang.trkw) ≤ T.omegaNow → X = .next (T.complete q n .rejState 0 T.now 0)) ∧
            (T.course.swap = none → T.firing = true → imm = false → X = .next (T.modCourse fun k => { k with
              swap := some w, fronts := k.fronts ++ T.newFronts (1 - k.active) T.lam })))))) ∧
    (∀ (T U : State) (w : Swap), S.up = true → S.firing = true → T = S.angleTick → T.course.swap = some w →
      U = (T.modCourse fun k => { k with
        active := 1 - k.active, swap := none,
        fronts := (k.fronts.filter fun f => f.bank != k.active).map fun (f : Front) => { f with changed := false } }).mark 2 0
          (BitVec.ofNat 32 (1 - T.course.active).val) 0 0 →
      (T.ang.fwd = true → (w.wrap : Rat) * 4294967296 ≤ T.thetaNow →
        (w.who = none → exec (.swapDone dt) s = .next U) ∧
        (∀ k i, w.who = some (k, i) → exec (.swapDone dt) s = .next (U.configDone k i .done 0 U.now U.swapResult false))) ∧
      (T.ang.fwd = false ∨ T.thetaNow < (w.wrap : Rat) * 4294967296 → exec (.swapDone dt) s = .next T)) ∧
    (∀ (b : CBankId) (lead : Nat) (T : State) (mine : Front → Bool), S.up = true →
      (∀ f, mine f = (f.bank == b && f.lead == lead && decide (f.pre ≤ 8))) → (∃ f ∈ S.course.fronts, mine f = true) →
      (T = S.modCourse fun k => { k with
        fronts := k.fronts.map fun f => if mine f then { f with pre := f.pre + 16 } else f }) →
      exec (.courseRefill dt b lead none) s = .next T ∧
      (∀ i, exec (.courseRefill dt b lead (some i)) s =
        .next ((T.modCourse fun k => { k with bad := (b, i) :: k.bad }).vaultUe (0x20000 * b.val + 16 * i))))

/-- ANGLE_CONFIG (R253–R257, R262, R482). The words that the mask names replace the old ones, and nothing else changes while
SRC, CPR, TEETH, TMISS, INV, ZUSE, ZGATE and REFANG stay; when one of them changes the angle is cleared, an encoder without an
index references at the command's completion, in a pair at the commit of its delta, and the command is rejected while a
course-owned channel of an armed quadrant exists. -/
def Obligations.AngleConfiguration : Prop :=
  ∀ (dt : Nat) (q : QueueId) (n : Word32) (d : Desc) (s S T U V : State) (p : Bool) (m : Nat) (src trk ref : Word64), S = s.elapse dt →
    S.ioRuns q n d = true → p = (S.queue q).profile.isSome → m = (S.queue q).hctx.val →
    shaped d 0x32 p false [(4, 1), (8, 24)] = true → S.permits m [(0x10, 4)] = true → 1 ≤ dNum d 4 1 → dNum d 4 1 ≤ 7 →
    ((dNum d 4 1).testBit 0 = false → d64 d 8 = 0 ∧ src = S.ang.srcw) → ((dNum d 4 1).testBit 0 = true → src = d64 d 8 ∧ srcwBad src = false) →
    ((dNum d 4 1).testBit 1 = false → d64 d 16 = 0 ∧ trk = S.ang.trkw) → ((dNum d 4 1).testBit 1 = true → trk = d64 d 16 ∧ trkwBad trk = false) →
    ((dNum d 4 1).testBit 2 = false → d64 d 24 = 0 ∧ ref = S.ang.refw) → ((dNum d 4 1).testBit 2 = true → ref = d64 d 24 ∧ refwBad ref = false) →
    toothBad src trk = false → T = (S.started q n).angleTick →
    U = T.modAng (fun a => { a with srcw := src, trkw := if (dNum d 4 1).testBit 1 then trk else a.trkw, refw := ref }) →
    (S.angleStruct src ref = false → exec (.angleConfig dt q n) s = .next (U.configDone q n .done 0 S.now 0)) ∧
    (S.angleStruct src ref = true →
      ((∃ c, S.courseOwned c = true ∧ (S.quad (quadOf c)).armed = true) →
        exec (.angleConfig dt q n) s = .next ((S.started q n).finish q n .rejState 0)) ∧
      ((∀ c, S.courseOwned c = true → (S.quad (quadOf c)).armed = false) →
        V = U.angleClear.configDone q n .done 0 S.now 0 →
        (¬ (srSrc src = 1 ∧ srZuse src = false) → exec (.angleConfig dt q n) s = .next V) ∧
        (srSrc src = 1 → srZuse src = false →
          (V.journals = false → exec (.angleConfig dt q n) s = .next (V.reference 3)) ∧
          (V.journals = true → exec (.angleConfig dt q n) s = .next (V.modAng fun a => { a with refWait := some V.pair.cfggen })))))

/-- The events of the angle source (R258–R264, R267–R271). The order 00, 10, 11, 01 of the lines A and B counts up, or down with
INV; a change counts once it has held for FILT ticks; a change of both lines in one tick is illegal; a tooth is a rising edge of
A; an index or a gap that its tolerance admits sets the reference, another is a fault; an encoder that moved at VSTALL and then
is silent for STALL has stalled; the coast ends in SAFE; and an estimate one unit short of the next count stays there with speed
0. Of the model's own choices it rests on log entries 7, 24, 36, 108. -/
def Obligations.AngleEvents : Prop :=
  ∀ (dt : Nat) (s S : State), S = s.elapse dt → S.up = true →
    (∀ (a b dA dB : Bool) (held tick : Nat) (T : State), tick = S.now / 8 →
      (dA = true ↔ S.ang.lvlA ≠ a ∧ srFilt S.ang.srcw ≤ held ∧ ∀ t, S.ang.chgA = some t → t < tick ∧ t + held ≤ tick) →
      (dB = true ↔ S.ang.lvlB ≠ b ∧ srFilt S.ang.srcw ≤ held ∧ ∀ t, S.ang.chgB = some t → t < tick ∧ t + held ≤ tick) →
      T = S.modAng (fun y => { y with
        lvlA := if dA then a else y.lvlA, lvlB := if dB then b else y.lvlB,
        chgA := if dA then some tick else y.chgA, chgB := if dB then some tick else y.chgB }) →
      (dA = false → dB = false → exec (.encoderEdge dt (a, b) held) s = .next S) ∧
      (srSrc S.ang.srcw = 1 →
        (dA = true ∧ dB = true ∨ dA = true ∧ S.ang.chgB = some tick ∨ dB = true ∧ S.ang.chgA = some tick →
          exec (.encoderEdge dt (a, b) held) s = .next (T.angleTick.encFault .illegal)) ∧
        (dA = true ∧ dB = false ∧ S.ang.chgB ≠ some tick ∨ dA = false ∧ dB = true ∧ S.ang.chgA ≠ some tick →
          ((S.ang.lvlA, S.ang.lvlB, T.ang.lvlA, T.ang.lvlB) ∈ [(false, false, true, false), (true, false, true, true),
              (true, true, false, true), (false, true, false, false)] →
            exec (.encoderEdge dt (a, b) held) s = .next (T.edge (if srInv S.ang.srcw then -1 else 1))) ∧
          ((T.ang.lvlA, T.ang.lvlB, S.ang.lvlA, S.ang.lvlB) ∈ [(false, false, true, false), (true, false, true, true),
              (true, true, false, true), (false, true, false, false)] →
            exec (.encoderEdge dt (a, b) held) s = .next (T.edge (if srInv S.ang.srcw then 1 else -1))))) ∧
      (srSrc S.ang.srcw = 2 → dA = true ∨ dB = true →
        exec (.encoderEdge dt (a, b) held) s = .next (if dA = true ∧ a = true then T.edge 1 else T)) ∧
      (srSrc S.ang.srcw = 0 → dA = true ∨ dB = true → exec (.encoderEdge dt (a, b) held) s = .next T)) ∧
    (S.ang.st = .running ∨ S.ang.st = .unreferenced →
      (srSrc S.ang.srcw = 1 → srZuse S.ang.srcw = true → srZgate S.ang.srcw < 4 ∨
          (bit S.ang.srcw 5 = S.ang.lvlA ∧ bit S.ang.srcw 4 = S.ang.lvlB) → ∀ held, srFilt S.ang.srcw ≤ held →
        (S.ang.idxCnt = none → exec (.referenceMark ⟨dt, held⟩) s = .next (S.angleTick.reference 1)) ∧
        (∀ k : Int, S.ang.idxCnt = some k → ∀ e : Nat, e = indexError (srCpr S.ang.srcw) (S.ang.cnt - k) →
          exec (.referenceMark ⟨dt, held⟩) s = .next (if S.ang.trustNext = false ∧ srZtol S.ang.srcw < e then S.angleTick.encFault .index
            else S.angleTick.reference 1))) ∧
      (srSrc S.ang.srcw = 2 → S.ang.gap = true → ∀ held T, T = (S.modAng fun x => { x with gap := false }).angleTick →
        exec (.referenceMark ⟨dt, held⟩) s = .next (if S.ang.trustNext = false ∧ S.ang.teeth ≠ srTeeth S.ang.srcw - srTmiss S.ang.srcw
          then T.encFault .index else T.reference 2))) ∧
    (∀ t rest, S.ang.edges = t :: rest → t + trStall S.ang.trkw * 1000000 ≤ S.now →
      rpmUnits (trVstall S.ang.trkw) ≤ |S.ang.edgeSeg.om| → exec (.encStall dt) s = .next (S.angleTick.encFault .stall)) ∧
    (∀ c, S.ang.st = .coasting → S.ang.coast = some c → c.until_ ≤ S.now →
      exec (.coastTimeout dt) s = .next S.angleTick.enterSafe) ∧
    (S.ang.st ≠ .idle → S.ang.seg.capped S.now = true → exec (.observerCap dt) s = .next S.angleTick) ∧
    (S.ang.seg.capped S.now = true → S.capNow.ang.seg.t = S.now ∧ S.capNow.ang.seg.th = S.ang.seg.theta S.now ∧
      S.capNow.ang.seg.om = 0)

/-- An encoder fault (R269–R274). Outside RUNNING and UNREFERENCED nothing happens. Else the fault is counted and latched, with
its device cause and its record; the policy of the active bank then freezes the engine and withdraws the soft requests of the
course, or takes SAFE, or, in RUNNING alone, coasts on from the last counted edge for TCOAST. -/
def Obligations.EncoderFaults : Prop :=
  ∀ (s S : State) (k : EncFault) (pol : Nat),
    (s.ang.st ≠ .running → s.ang.st ≠ .unreferenced → s.encFault k = s) ∧
    (s.ang.st = .running ∨ s.ang.st = .unreferenced →
      pol = (if (s.cbank s.course.active).fpol = 2 ∧ s.ang.st = .unreferenced then 1 else (s.cbank s.course.active).fpol.toNat) →
      S = (((s.modCourse fun c => { c with
          nIllegal := if k = .illegal then c.nIllegal + 1 else c.nIllegal,
          nIndex := if k = .index then c.nIndex + 1 else c.nIndex,
          nStall := if k = .stall then c.nStall + 1 else c.nStall }).modAng fun a => { a with fault := some k }).raiseCause 5).mark 4 0
        (match k with | .illegal => 1 | .index => 2 | .stall => 3) (BitVec.ofNat 32 pol) 0 →
      (pol = 0 → s.encFault k = (S.stopFiring .frozen).withdrawSoft) ∧
      (pol = 1 → s.encFault k = (S.stopFiring .safe).retrigger fun u => { u with
        encSafe := true, chans := u.chans.map fun (x : Chan) => { x with encOut := false } }) ∧
      (pol = 2 → ∀ U, U = (S.gotoState .coasting).modAng (fun a => { a with coast := some {
          theta := S.ang.edgeSeg.th, omega := S.ang.edgeSeg.om, t := S.ang.edgeSeg.t,
          until_ := S.now + (s.cbank s.course.active).tcoast * 1000000 } }) →
        s.encFault k = (U.modCourse fun c => { c with
          notApplied := c.notApplied + (U.course.fronts.map fun f => (U.passed f (U.lam f.lead)).length).foldl (· + ·) 0 }).restartFronts U.lam))

/-- A reference (R263, R264). The first one gives the angle REFANG and the revolution count 0; a later one gives the angle the
nearest value that reads REFANG, at most half a revolution away, and keeps the speed; an UNREFERENCED engine becomes RUNNING. Of
the model's own choices it rests on log entry 7. -/
def Obligations.Reference : Prop :=
  (∀ (ref : Nat) (v : Rat), ∃ k : Int, nearestRef ref v = (ref : Rat) + (k : Rat) * 4294967296) ∧
  (∀ (ref : Nat) (v : Rat), ref < 4294967296 → |nearestRef ref v - v| ≤ 2147483648) ∧
  (∀ (s S : State) (source : Nat) (first : Bool) (tgt : Rat), first = !s.ang.everRun →
    tgt = (if first then (rfAngle s.ang.refw : Rat) else nearestRef (rfAngle s.ang.refw) s.thetaNow) →
    S = (s.modAng fun a => ({ a with
      cnt := 0, base := tgt, idxCnt := some 0, trustNext := false, everRun := true, teeth := 0,
      hi := if first then tgt else a.hi + (tgt - s.thetaNow), lo := if first then tgt else a.lo + (tgt - s.thetaNow),
      fwd := first || a.fwd, rev := if first then 0 else a.rev,
      edgeSeg := { a.edgeSeg with th := a.edgeSeg.th + (tgt - s.thetaNow) } } : Ang).putSeg s.now tgt s.omegaNow) →
    (s.ang.st = .unreferenced → s.reference source = (S.becomeRunning source).angleTick) ∧
    (s.ang.st = .running → s.reference source = S.angleTick))

/-- Which entry fires (R278, R283, R285, R288–R290, R292, R406). λ of a class that moves on makes due the entries of the class
whose angle its front passes, in the direction of motion and on the class's side of a pending swap, whatever revolution the angle
is in; the entries that are due stand by the ANGLE tick in which λ reached them, then by table index, whatever their class; one
at most fires in an ANGLE tick, in RUNNING and COASTING alone, and it is the first whose class is prefetched. Of the model's own
choices it rests on log entry 37. -/
def Obligations.CourseFiring : Prop :=
  (∀ (s : State) (x : Due), s.nextDue = some x → s.firing = true ∧ s.course.lastFire ≠ some (s.now / 8) ∧ s.prefetched x = true ∧
    ∃ l r, s.course.due = l ++ x :: r ∧ ∀ y ∈ l, s.prefetched y = false) ∧
  (∀ (s : State) (x : Due) (e : Entry), (s.cbank x.bank).entries[x.idx]? = some e →
    (s.prefetched x = true ↔ ∀ f ∈ s.course.fronts, f.bank = x.bank → f.lead = enLead e → 0 < f.pre)) ∧
  (∀ (s : State) (lam : Nat → Rat) (sorted : List Due → Prop),
    (∀ l, sorted l ↔ l.Pairwise fun x y => x.tick < y.tick ∨ x.tick = y.tick ∧ x.idx ≤ y.idx) →
    sorted s.course.due → sorted (s.sweep lam).course.due) ∧
  (∀ (s : State) (lam : Nat → Rat) (x : Due), x ∈ (s.sweep lam).course.due ↔ x ∈ s.course.due ∨
    ∃ f ∈ s.course.fronts, ∃ (e : Entry) (k : Int) (p : Rat), f.bank = x.bank ∧ (s.cbank x.bank).entries[x.idx]? = some e ∧
      enLead e = f.lead ∧ p = (e.angle.toNat : Rat) + (k : Rat) * 4294967296 ∧ s.ownSide f p = true ∧
      x.tick = s.reachTick f.lead p ∧
      (s.ang.fwd = true → (enDir e = 0 ∨ enDir e = 2) ∧ f.ext < p ∧ p ≤ lam f.lead) ∧
      (s.ang.fwd = false → (enDir e = 1 ∧ s.ang.tooth = false ∨ enDir e = 2) ∧ lam f.lead ≤ p ∧ p < f.ext)) ∧
  (∀ (s : State) (f : Front) (p : Rat),
    (s.course.swap = none → (s.ownSide f p = true ↔ f.bank = s.course.active)) ∧
    (∀ w, s.course.swap = some w → f.changed = false →
      (s.ownSide f p = true ↔ (f.bank = s.course.active ↔ p < (w.wrap : Rat) * 4294967296))))

/-- What a fired entry does (R39, R107, R119, R222, R223, R277, R286, R287, R290, R296–R298, R374, R387, R391, R395, R554,
R592). U is the state with the entry counted as fired and no longer due. An entry of a SUSPECT bank, a damaged one, and one on a
channel that does not take the course's commands is counted as not applied, an entry once; one on a quadrant that the course may
not control is denied; each of the ten actions else has its effect on U. -/
def Obligations.CourseActions : Prop :=
  ∀ (dt : Nat) (b : CBankId) (i : Nat) (s S T U V : State) (e : Entry) (x : Due) (run : Nat → State → Host.Outcome State Fault Refusal)
    (l : ChanId) (src : ReqSrc) (quadOk : Bool), S = s.elapse dt → S.up = true → S.holdsRole = true → T = S.angleTick →
    run 1 = exec (.outOn dt b i) → run 2 = exec (.outOff dt b i) → run 3 = exec (.outToggle dt b i) →
    run 4 = exec (.pulseStart dt b i) → run 5 = exec (.pulseStop dt b i) → run 6 = exec (.bankWrite dt b i) →
    run 0x10 = exec (.adcTrigger dt b i) → run 0x11 = exec (.snapshot dt b i) → run 0x12 = exec (.mark dt b i) →
    run 0x13 = exec (.syncFire dt b i) →
    (∀ a ∈ [1, 2, 3, 4, 5, 6, 0x10, 0x11, 0x12, 0x13],
      (∀ y, T.nextDue = some y → y.bank = b → y.idx = i → ∀ k, (T.cbank b).entries[i]? = some k → k.action.toNat ≠ a) →
      run a s = .next T) ∧
    (∀ Y : State, Y.course.counted.contains Y.course.firing = false → Y.notApplied = Y.modCourse fun c => { c with
      notApplied := c.notApplied + 1,
      counted := c.firing :: c.counted.filter fun k => Y.reqs.any fun r => r.firing == k }) ∧
    (e.action.toNat ∈ [1, 2, 3, 4, 5, 6, 0x10, 0x11, 0x12, 0x13] → T.nextDue = some x → x.bank = b → x.idx = i →
      (T.cbank b).entries[i]? = some e →
      V = (T.modCourse fun c => { c with
        lastFire := some (T.now / 8), firing := c.firing + 1, due := c.due.erase x,
        fronts := c.fronts.map fun (g : Front) => if g.bank == b && g.lead == enLead e then { g with pre := g.pre - 1 } else g }) →
      U = (V.modCourse fun c => { c with fired := c.fired + 1 }) →
      l = U.lead (enChan e) → src = (if bit e.flags 2 then .courseHard i else .courseSoft i) →
      quadOk = U.allowed 9 (0x30 + (quadOf l).val) 4 →
      ((T.cbank b).suspect = true ∨ T.course.bad.contains (b, i) = true →
        run e.action.toNat s = .next V.notApplied) ∧
      ((T.cbank b).suspect = false → T.course.bad.contains (b, i) = false →
        (e.action.toNat ≤ 5 → quadOk = false → run e.action.toNat s = .next (U.deny 9 (0x30 + (quadOf l).val) 4)) ∧
        (e.action.toNat ≤ 5 → quadOk = true → U.accepts true l = false →
          run e.action.toNat s = .next U.notApplied) ∧
        (quadOk = true → U.accepts true l = true → ∀ (on : Bool), e.action.toNat ≤ 3 →
          (on = if e.action.toNat = 1 then true else if e.action.toNat = 2 then false else !U.refLevel l) →
          ((U.setLevel l on src).2 = .notApplied →
            run e.action.toNat s = .next (U.setLevel l on src).1.notApplied) ∧
          ((U.setLevel l on src).2 ≠ .notApplied → run e.action.toNat s = .next (U.setLevel l on src).1) ∧
          (on = false → (∀ r ∈ U.reqs, r.chan ≠ l) →
            run e.action.toNat s = .next (U.modChan l fun c => { c.owned with gen := none, ref := false, chgAt := U.now })) ∧
          (on = true → (∀ r ∈ U.reqs, r.chan ≠ l) → (U.chan l).drv = true → (U.chan l).gen = none → (U.chan l).test = .idle →
            run e.action.toNat s = .next (U.modChan l fun c => { c.owned with gen := none, ref := true, chgAt := U.now })) ∧
          (on = true → (U.chan l).drv = false → (U.chan l).latch = true →
            run e.action.toNat s = .next U.notApplied)) ∧
        (quadOk = true → U.accepts true l = true → e.action.toNat = 4 → (U.chan l).gen = none → (U.chan l).latch = false →
          U.supplyHolds l = false → bit e.flags 2 = false → (∀ r ∈ U.reqs, r.chan ≠ l) →
          run 4 s = .next { U with
            reqs := U.reqs ++ [{ chan := l, src := src, kind := .start (if bit e.param 31 then putFld (U.chan l).pulw 20 11
                                   (fld e.param 0 11) else (U.chan l).pulw),
                                 frame := U.frameNo, key := i, seq := U.reqSeq, firing := U.course.firing, tested := none, failed := 0, olds := [] }],
            reqSeq := U.reqSeq + 1 }) ∧
        (quadOk = true → U.accepts true l = true → e.action.toNat = 5 → (∀ r ∈ U.reqs, r.chan ≠ l) → run 5 s = .next
          (if (U.chan l).gen = none then U else U.modChan l fun c => { c.owned with gen := none, ref := false, chgAt := U.now })) ∧
        (∀ (q : QuadId) (cs : List ChanId), e.action.toNat = 6 → e.target.toNat < 16 → q.val = e.target.toNat / 4 →
          cs = allChans.filter (fun c => decide (c.val / 8 = e.target.toNat) && U.isOutput c && !U.isOdd c) →
          (U.allowed 9 (0x30 + q.val) 4 = false → run 6 s = .next (U.deny 9 (0x30 + q.val) 4)) ∧
          (U.allowed 9 (0x30 + q.val) 4 = true → cs = [] → run 6 s = .next U) ∧
          (∀ c, U.allowed 9 (0x30 + q.val) 4 = true → cs = [c] → U.accepts true c = true →
            run 6 s = .next (match U.setLevel c (bit e.param (c.val % 8)) src with
              | (t, .notApplied) => t.notApplied
              | (t, _) => t))) ∧
        (∀ (q : QuadId) (k : SlotId), e.action.toNat = 0x10 → q.val = e.target.toNat / 64 → k.val = e.target.toNat % 64 →
          run 0x10 s = .next (if slTrig (U.slot q k).w0 = 1 then U.trigSlot q k (U.now + 1600 + delayNs (U.slot q k).w0)
            else U.modCourse fun c => { c with adcIgnored := c.adcIgnored + 1 })) ∧
        (e.action.toNat = 0x11 →
          (U.arch.st = .frozen ∨ U.archCap = 0 → run 0x11 s = .next ((U.modArch fun a => { a with dropped := a.dropped + 1 }).modCourse
            fun c => { c with snapDrop := c.snapDrop + 1 })) ∧
          (U.arch.st ≠ .frozen → U.archCap ≠ 0 → U.course.lastSnap = some U.frameNo →
            run 0x11 s = .next (U.modCourse fun c => { c with snapDrop := c.snapDrop + 1 })) ∧
          (U.arch.st ≠ .frozen → U.archCap ≠ 0 → U.course.lastSnap ≠ some U.frameNo →
            run 0x11 s = .next ((U.modArch fun a => { a with
              slots := {
                seq := a.nextSeq, time := U.now, angle := e.angle, rev := revWord U.thetaNow, speed := speedOf U.omegaNow, entry := i,
                coasting := decide (U.ang.st = .coasting), lclass := U.lclassByte,
                qstate := BitVec.ofNat 8 (U.armedByte.toNat + 16 * U.safeActByte.toNat), chans := Vector.ofFn U.snapChan } ::
                a.slots.filter (fun y => (a.nextSeq - y.seq).toNat < U.archCap),
              nextSeq := a.nextSeq + 1 }).modCourse fun c => { c with lastSnap := some U.frameNo }))) ∧
        (e.action.toNat = 0x12 → run 0x12 s = .next (U.mark 1 0 e.param e.angle i)) ∧
        (e.action.toNat = 0x13 → run 0x13 s = .next (U.syncAll (U.dspTick (U.now + 16)) false))))

/-- SEQ_LOAD, CALIBRATE and ACC_SNAPSHOT (R309, R311, R330, R331, R337, R339, R340, R447, R597). A load without slots waits for
its frame boundary with the quadrant word, a TDAC value that comes during a calibration being held from there on; one with slots
reads two words for each; CALIBRATE is rejected while a calibration runs or a named die is not synchronised, is busy while Mason
sheds it, and else takes the quadrants in ascending order; a snapshot is one record of the named blocks, from one DSP tick, and
clears them with CLEAR; without room nothing is copied or cleared. -/
def Obligations.MeasurementCommands : Prop :=
  ∀ (dt : Nat) (q : QueueId) (n : Word32) (d : Desc) (s S A : State) (p : Bool) (m : Nat), S = s.elapse dt → A = S.started q n →
    S.ioRuns q n d = true → p = (S.queue q).profile.isSome → m = (S.queue q).hctx.val →
    (∀ k : QuadId, shaped d 0x38 p false [(4, 1), (8, 24)] = true → S.permits m [(0x12, 2)] = true → dNum d 4 1 = k.val →
      fld (d64 d 24) 13 51 = 0 →
      (d64 d 8 = 0 → d64 d 16 = 0 → S.meas[k].cal = false ∨ bit (d64 d 24) 12 = false →
        exec (.seqLoad dt q n) s = .next (A.addOp q n (.seqFrame k [] (d64 d 24)))) ∧
      (d64 d 8 = 0 → d64 d 16 = 0 → S.meas[k].cal = true → bit (d64 d 24) 12 = true → exec (.seqLoad dt q n) s =
        .next ((A.modMeas k fun m => { m with tdacHeld := some ((d64 d 24).extractLsb' 0 12) }).addOp q n (.seqFrame k [] 0))) ∧
      (d64 d 8 ≠ 0 → exec (.seqLoad dt q n) s = .next ((A.addOp q n .data).emit
        (.dataRead (d64 d 16) (16 * ((List.finRange 64).filter fun i => bit (d64 d 8) i.val).length))))) ∧
    (∀ named : List QuadId, shaped d 0x3A p false [(4, 1)] = true → S.permits m [(0x12, 4)] = true → 1 ≤ dNum d 4 1 → dNum d 4 1 ≤ 15 →
      named = (List.finRange 4).filter (fun k => (dNum d 4 1).testBit k.val) →
      (S.calRuns = true ∨ (∃ k ∈ named, (S.quad k).sync = false) → exec (.calibrate dt q n) s = .next (A.finish q n .rejState 0)) ∧
      (S.calRuns = false → (∀ k ∈ named, (S.quad k).sync = true) → exec (.calibrate dt q n) s = .next
        (if 3 ≤ S.mason.shed.val then A.finish q n .rejBusy 0 else A.addOp q n (.cal named 0)))) ∧
    (∀ (k : QuadId) (blocks : List SlotId) (r : Record), shaped d 0x3B p true [(4, 1), (8, 9)] = true → S.permits m [(0x12, 1)] = true →
      dNum d 4 1 = k.val → dNum d 16 1 ≤ 1 → (d64 d 8 ≠ 0 ∨ dNum d 16 1 = 1) →
      blocks = (List.finRange 65).filter (fun i => bit (BitVec.ofNat 65 (dNum d 8 8 + dNum d 16 1 * 2 ^ 64)) i.val) →
      r = .acc k (dCspec d) (S.dspTick S.now) (BitVec.ofNat 65 (dNum d 8 8 + dNum d 16 1 * 2 ^ 64))
        (blocks.map fun i => (S.slot k i).acc.bytes) →
      (S.route r ≠ 0x40 → S.stageRoom r.len = false → exec (.accSnapshot dt q n) s = .next (A.finish q n .rejBusy 0)) ∧
      (S.route r ≠ 0x40 → S.stageRoom r.len = true → exec (.accSnapshot dt q n) s = .next
        (if dCspec d then blocks.foldl (fun u i => u.modAcc k i Acc.cleared) { A with staging := S.staging ++ [(r, some (q, n))] }
         else { A with staging := S.staging ++ [(r, some (q, n))] })) ∧
      (S.route r = 0x40 → exec (.accSnapshot dt q n) s = .next
        ((if dCspec d then blocks.foldl (fun u i => u.modAcc k i Acc.cleared) A else A).complete q n .done 0 (S.dspTick S.now) 0)))

/-- INJECT (R252, R305, R310, R311, R320–R322). Each named slot whose TRIG is HOST and that is free is triggered, a deferrable
one that is paused too, whose trigger is dropped and counted; the injected slot's words wait for the frame boundary, with its
trigger, when they are given, are good and it is free; the command then waits for the results, knows the slots that it triggered,
and is complete for all or PARTIAL; with none it is rejected. Bad words reject it whole. Of the model's own choices it rests on
log entry 41. -/
def Obligations.Inject : Prop :=
  ∀ (dt : Nat) (q : QueueId) (n : Word32) (d : Desc) (s S A B C : State) (p : Bool) (m : Nat) (k : QuadId) (free : SlotId → Bool)
    (regs : List (Fin 64)) (all id : Nat), S = s.elapse dt → A = S.started q n →
    S.ioRuns q n d = true → p = (S.queue q).profile.isSome → m = (S.queue q).hctx.val →
    shaped d 0x39 p false [(4, 2), (8, 24)] = true → S.permits m [(0x12, 4)] = true → dNum d 4 1 = k.val →
    (∀ i, free i = ((S.slot k i).trig.isNone && !S.slotBusy k i)) →
    regs = (List.finRange 64).filter (fun i => bit (d64 d 8) i.val && slTrig (S.slot k (regSlot i)).w0 == 4 && free (regSlot i)) →
    all = ((List.finRange 64).filter fun i => bit (d64 d 8) i.val).length → id = S.meas[k].nextId →
    B = A.modMeas k (fun m => { m with nextId := id + 1 }) →
    C = regs.foldl (fun u i => u.trigSlot k (regSlot i) (S.now + 1600 + 8 * slDelay (u.slot k (regSlot i)).w0) (some id)) B →
    (dNum d 5 1 = 0 → d64 d 8 ≠ 0 → d64 d 16 = 0 → d64 d 24 = 0 →
      (regs = [] → exec (.inject dt q n) s = .next (B.finish q n .rejState 0)) ∧
      (regs ≠ [] → ∀ hit left : BitVec 65, (∀ i, bit hit i = regs.any fun r => r.val == i) →
        (∀ i, bit left i = regs.any fun r => r.val == i && (C.slot k (regSlot r)).trig.isSome) →
        (left ≠ 0 → exec (.inject dt q n) s = .next (C.addOp q n (.inject k id left hit (decide (regs.length = all)) S.now))) ∧
        (left = 0 → exec (.inject dt q n) s =
          .next (C.complete q n (if regs.length = all then .done else .partialDone) 0 S.now (hit.setWidth 128))))) ∧
    (dNum d 5 1 = 1 → fld (d64 d 16) 6 30 = 0 → s1Defer (d64 d 24) = false →
      (slotBad (d64 d 16) (d64 d 24) = true → exec (.inject dt q n) s = .next (A.finish q n .rejField 64)) ∧
      (slotBad (d64 d 16) (d64 d 24) = false →
        (S.modeBad k (d64 d 24) || rangeClash (S.slotsAfter k [(injSlot, d64 d 16, d64 d 24)]) injSlot) = true →
        exec (.inject dt q n) s = .next (A.finish q n .rejState 64)) ∧
      (slotBad (d64 d 16) (d64 d 24) = false →
        (S.modeBad k (d64 d 24) || rangeClash (S.slotsAfter k [(injSlot, d64 d 16, d64 d 24)]) injSlot) = false → regs = [] →
        (free injSlot = true → S.meas[k].injNew = none → exec (.inject dt q n) s = .next ((B.modMeas k fun m =>
          { m with injNew := some (d64 d 16, d64 d 24, S.now + 1600 + 8 * slDelay (d64 d 16), id) }).addOp q n
            (.inject k id (BitVec.ofNat 65 (2 ^ 64)) (BitVec.ofNat 65 (2 ^ 64)) (decide (all = 0)) S.now))) ∧
        (free injSlot = false ∨ S.meas[k].injNew ≠ none → exec (.inject dt q n) s = .next (B.finish q n .rejState 0)))) ∧
    (∀ w0 w1 req tag, S.meas[k].injNew = some (w0, w1, req, tag) → S.injApply k =
      ((S.modMeas k fun m => { m with injNew := none }).slotApply k injSlot w0 w1).modSlot k injSlot fun x =>
        { x with trig := some req, tag := some tag })

/-- Triggers and conversions (R27, R252, R305, R312, R314–R317, R327, R331). At a multiple of TPER a timer slot is triggered
with its delay; a trigger waits in a free slot, and is missed in one that has a trigger, that converts, or whose deferral is
paused. A free converter goes on with the burst under way or begins the one of the pending trigger that is next; a trigger due
at a die that is not synchronised, or while the deferral is paused, is missed, as is a conversion of a channel that has left
ANALOGUE mode; a conversion whose order was lost with a downlink frame takes its turn, and its burst's result is lost. Of the
model's own choices it rests on log entry 105. -/
def Obligations.TriggersAndConversions : Prop :=
  ∀ (dt : Nat) (s S : State) (q : QuadId), S = s.elapse dt → S.up = true →
    (∀ i : Fin 64, slTrig (S.slot q (regSlot i)).w0 = 3 → slTper (S.slot q (regSlot i)).w0 ≠ 0 →
      (S.now % (slTper (S.slot q (regSlot i)).w0 * 1000) = 0 →
        exec (.timerTrigger dt q i) s = .next (S.trigSlot q (regSlot i) (S.now + 8 * slDelay (S.slot q (regSlot i)).w0))) ∧
      (S.now % (slTper (S.slot q (regSlot i)).w0 * 1000) ≠ 0 → exec (.timerTrigger dt q i) s = .next S)) ∧
    (∀ (i : SlotId) (r : Nat) (tag : Option Nat),
      ((S.slot q i).trig = none → S.slotBusy q i = false → (s1Defer (S.slot q i).w1 && S.deferPaused q) = false →
        S.trigSlot q i r tag = S.modSlot q i fun x => { x with trig := some r, tag := tag }) ∧
      ((S.slot q i).trig ≠ none ∨ S.slotBusy q i = true ∨ (s1Defer (S.slot q i).w1 && S.deferPaused q) = true →
        S.trigSlot q i r tag = (S.modSlot q i fun x => { x with acc := { x.acc with
          miss := min 0xFFFF (x.acc.miss + 1), flags := x.acc.flags ||| 8 } }).gap q i r)) ∧
    (∀ (T : State) (b : Burst) (a : Analog) (t : Nat),
      (T.modeBad q b.w1 = false → (T.quad q).lostFrame ≠ some (t / 1000 - 1) ∨ t < 1000 →
        T.convertNow q b a t = T.modMeas q fun m => m.convert b a t) ∧
      (T.modeBad q b.w1 = false → (T.quad q).lostFrame = some (t / 1000 - 1) → 1000 ≤ t → T.convertNow q b a t =
        ((T.loseBurst q b).modMeas q fun m => m.advance { b with lost := true } (b.turn t).2).reap q) ∧
      (T.modeBad q b.w1 = true → T.convertNow q b a t = ((T.loseBurst q b 0x80).modMeas q fun m => { m with
        inj := if b.slot = injSlot then none else m.inj, burst := if b.slot = injSlot then m.burst else none,
        wait := m.wait ++ [{ b with lost := true, left := 0 }] }).reap q)) ∧
    (∀ (a : Analog) (t : Nat), t = S.now / 125 * 125 → S.meas[q].cal = false → S.meas[q].busyUntil ≤ t →
      (S.meas[q].nextDue t = none → exec (.conversionStart dt ⟨q, a⟩) s = .next S) ∧
      (∀ b, S.meas[q].nextDue t = some (.inl b) → exec (.conversionStart dt ⟨q, a⟩) s = .next (S.convertNow q b a t)) ∧
      (∀ i r T, S.meas[q].nextDue t = some (.inr (i, r)) →
        T = S.modSlot q i (fun x => { x with trig := none, held := false, tag := none }) →
        ((S.quad q).sync = false ∨ (s1Defer (S.slot q i).w1 && S.deferPaused q) = true →
          exec (.conversionStart dt ⟨q, a⟩) s = .next ((T.slotMiss q i r).injectDone q i (S.slot q i).tag)) ∧
        ((S.quad q).sync = true → (s1Defer (S.slot q i).w1 && S.deferPaused q) = false → S.modeBad q (S.slot q i).w1 = true →
          exec (.conversionStart dt ⟨q, a⟩) s = .next ((T.slotMiss q i r 0x80).injectDone q i (S.slot q i).tag)) ∧
        ((S.quad q).sync = true → (s1Defer (S.slot q i).w1 && S.deferPaused q) = false → S.modeBad q (S.slot q i).w1 = false →
          exec (.conversionStart dt ⟨q, a⟩) s = .next ((T.modMeas q fun m => { m with nextId := m.nextId + 1 }).convertNow q
            { id := S.meas[q].nextId, slot := i, w1 := (S.slot q i).w1, req := r, left := slOsr (S.slot q i).w0 + 1, convs := [],
              lost := false, held := (S.slot q i).held, tag := (S.slot q i).tag } a t))))

/-- The order of R316. A burst of the injected slot goes on before all else, then comes the injected slot's due trigger, then a
regular burst under way; else the due regular trigger that was requested first, of the lowest slot among equals. -/
def Obligations.ConversionOrder : Prop :=
  ∀ (s : State) (q : QuadId) (t : Nat) (due : SlotId → Nat → Prop),
    (∀ i r, due i r ↔ (s.slot q i).trig = some r ∧ r / 125 * 125 ≤ t) →
    (∀ b, s.meas[q].inj = some b → s.meas[q].nextDue t = some (.inl b)) ∧
    (s.meas[q].inj = none → ∀ r, due injSlot r → s.meas[q].nextDue t = some (.inr (injSlot, r))) ∧
    (s.meas[q].inj = none → (∀ r, ¬ due injSlot r) →
      (∀ b, s.meas[q].burst = some b → s.meas[q].nextDue t = some (.inl b)) ∧
      (s.meas[q].burst = none →
        ((∀ i r, ¬ due i r) → s.meas[q].nextDue t = none) ∧
        (∀ (i : Fin 64) (r : Nat), due (regSlot i) r →
          (∀ (j : Fin 64) (r' : Nat), due (regSlot j) r' → r < r' ∨ (r = r' ∧ i ≤ j)) →
          s.meas[q].nextDue t = some (.inr (regSlot i, r)))))

/-- A result enters its destinations (R317, R324, R326, R334–R337, R342, R343, R593), and calibrations (R331–R333). The oldest
burst of its kind whose codes have all come back leaves the converter: its block takes the result, as the ACC master's
permission allows, its chains take it, and the INJECT that waited for it goes on. A calibration begins with an idle converter
and ends with the tuning voltage that it found or that was asked for meanwhile, the coefficients measured of each range
that passes, its held triggers marked, and the command
complete once no quadrant is left. Of the model's own choices it rests on log entries 11, 40, 42. -/
def Obligations.ResultsAndCalibrations : Prop :=
  ∀ (dt : Nat) (s S : State) (q : QuadId), S = s.elapse dt → S.up = true →
    (∀ (injected : Bool) (b : Burst) (T U : State) (v : Int) (stamp : Nat) (fl : Word16),
      S.meas[q].wait.find? (fun b => (b.slot == injSlot) == injected && !b.lost && b.convs.all fun c => c.code.isSome) = some b →
      (v, stamp, fl) = b.result → T = S.modMeas q (fun m => { m with wait := m.wait.filter fun x => x.id != b.id }) →
      U = (if S.allowed 10 0x12 2 then T.modSlot q b.slot fun x => { x with acc := enterAcc x.acc b.w1 v stamp fl }
        else T.deny 10 0x12 2) →
      exec (.conversionResult dt q injected) s = .next
        ((if s1Chains b.w1 then U.feed q b.slot (chainValue b.w1 v) stamp fl else U).injectDone q b.slot b.tag)) ∧
    (∀ injected : Bool,
      S.meas[q].wait.find? (fun b => (b.slot == injSlot) == injected && !b.lost && b.convs.all fun c => c.code.isSome) = none →
      exec (.conversionResult dt q injected) s = .next S) ∧
    (∀ (o : Op) (rest : List QuadId) (f : BitVec 16), S.calOp = some (o, q :: rest, f) → S.meas[q].cal = false →
      S.meas[q].burst = none → S.meas[q].inj = none → S.meas[q].injNew = none → (S.slot q injSlot).trig = none → S.meas[q].busyUntil ≤ S.now →
      exec (.calibrationStart dt q) s = .next (S.modMeas q fun m => { m with cal := true, calSaved := m.tdac, tdacHeld := none })) ∧
    (∀ (o : Op) (todo : List QuadId) (f failed' : BitVec 16) (failed : BitVec 4) (found : Vector Coef 4) (pass : Fin 4 → Bool) (T : State),
      (∀ i, pass i = true ↔ -2000 ≤ found[i].off ∧ found[i].off ≤ 2000 ∧ -5000 ≤ found[i].gain ∧ found[i].gain ≤ 5000) →
      (∀ i : Fin 4, bit failed i.val = !pass i) → S.meas[q].cal = true →
      S.calOp = some (o, todo, f) → failed' = f ||| (failed.setWidth 16 <<< (4 * q.val)) →
      T = (S.modMeas q fun m => { m with
        cal := false, tdac := m.tdacHeld.getD m.calSaved, tdacHeld := none, tdacAt := S.now,
        coef := Vector.ofFn fun i => if pass i then found[i] else m.coef[i],
        slots := m.slots.map fun x => { x with held := match x.trig with | some r => decide (r ≤ S.now) | none => false } }).newThermal q →
      ((∃ k ∈ todo, k ≠ q) → exec (.calibrationEnd dt q found) s = .next { T with
        ops := S.ops.map fun x => if x == o then { o with kind := .cal (todo.filter fun k => k != q) failed' } else x }) ∧
      ((∀ k ∈ todo, k = q) → o.live = true → exec (.calibrationEnd dt q found) s =
        .next (({ T with ops := S.ops.filter fun x => x != o } : State).configDone o.q o.n (if failed' = 0 then .done else .partialDone) 0
          S.now (failed'.setWidth 128) false)) ∧
      ((∀ k ∈ todo, k = q) → o.live = false → exec (.calibrationEnd dt q found) s =
        .next { T with ops := S.ops.filter fun x => x != o })) ∧
    (∀ (a : Acc) (w1 : Word64) (v : Int) (stamp : Nat) (fl : Word16) (stick : Word16), fl &&& fOvr = 0 →
      (s1Recx w1 = false ∨ fl &&& fRecovery = 0) → stick = (a.flags ||| setIf (fl &&& fRecovery != 0) 2 ||| setIf (fl &&& fLate != 0) 4 |||
        setIf (fl &&& fTb != 0) 16) &&& ~~~(0x300 : Word16) ||| BitVec.ofNat 16 (s1Range w1 * 256) →
      (s1Acc w1 = true → s1Mm w1 = false → bit stick 5 = false → -2 ^ 47 ≤ a.sum + v → a.sum + v < 2 ^ 47 → a.count ≠ 0xFFFFFFFF →
        enterAcc a w1 v stamp fl = { a with sum := a.sum + v, count := a.count + 1, last := stamp, flags := stick }) ∧
      (s1Acc w1 = false → s1Mm w1 = true → bit stick 6 = true →
        enterAcc a w1 v stamp fl = { a with min := min a.min v, max := max a.max v, last := stamp, flags := stick }) ∧
      (s1Acc w1 = false → s1Mm w1 = true → bit stick 6 = false →
        enterAcc a w1 v stamp fl = { a with min := v, max := v, last := stamp, flags := stick ||| 64 }) ∧
      (s1Acc w1 = false → s1Mm w1 = false → enterAcc a w1 v stamp fl = { a with last := stamp, flags := stick }))

/-- FILTER_CONFIG, COEF_LOAD, COEF_SWAP, SYNC, a SYNC_IN edge and the batch time-out (R350–R352, R360, R362–R367, R374–R376,
R379, R470). A good FILTER_CONFIG is rejected on a draining chain, where it changes a busy chain in more than ENABLE, SPOL and
BATCH, or where SYM meets unsymmetric coefficients, and with REJ_CAPACITY over 3.2e9 per second. Else it takes its words: an
idle chain starts at the next tick with empty history (suspended, where the throttled unit has no room), a running one stops and
drains. Of the model's own choices it rests on log entries 43, 44, 45. -/
def Obligations.FilterCommands : Prop :=
  ∀ (dt : Nat) (q : QueueId) (n : Word32) (d : Desc) (s S T : State) (p : Bool) (m : Nat), S = s.elapse dt → T = S.started q n →
    (S.ioRuns q n d = true → p = (S.queue q).profile.isSome → m = (S.queue q).hctx.val →
      (∀ (k : ChainId) (c : Chain) (c0 c1 c2 : Word64) (busy soft asym : Prop) (put : Chain → Chain), k.val = dNum d 4 1 →
        c = T.chains[k] → c0 = d64 d 8 → c1 = d64 d 16 → c2 = d64 d 24 → (busy ↔ c.st = .running ∨ c.st = .suspended) →
        (soft ↔ putFld c0 0 1 0 = putFld c.c0 0 1 0 ∧ putFld c1 55 7 0 = putFld c.c1 55 7 0 ∧ c2 = c.c2) →
        (asym ↔ cEnable c0 = true ∧ cUser c0 = false ∧ symmetric ((if c.bankB then c.coefB else c.coefA).take (cT c0)) = false) →
        (∀ x : Chain, put x = { x with c0 := c0, c1 := c1, c2 := c2 }) →
        shaped d 0x40 p false [(4, 1), (8, 24)] = true → S.permits m [(0x11, 4)] = true →
        fld c0 50 14 = 0 → 1 ≤ cN c0 → cN c0 ≤ 5 → cSsrc c0 ≤ 64 → fld c1 62 2 ≤ 1 → fld c1 48 7 = 0 →
        (oAngle c1 = true → fld c1 12 36 = 0) → (oAngle c1 = false → 2 ^ 24 ≤ oRatio c1) → fld c2 21 43 = 0 →
        cFsmax c2 ≤ 2000000 → (cEnable c0 = true → cFsmax c2 ≠ 0) →
        (busy ∧ ¬ soft ∨ c.st = .draining ∨ asym → exec (.filterConfig dt q n) s = .next (T.finish q n .rejState 0)) ∧
        ((busy → soft) → c.st ≠ .draining → ¬ asym →
          (cEnable c0 = true → 3200000000 < T.demandBut (some k) [.running, .suspended] +
              chainDemand c0 c2 (c.fade.isSome || c.pend.isSome) →
            exec (.filterConfig dt q n) s = .next (T.finish q n .rejCapacity 0)) ∧
          (cEnable c0 = false ∨ T.demandBut (some k) [.running, .suspended] +
              chainDemand c0 c2 (c.fade.isSome || c.pend.isSome) ≤ 3200000000 →
            ∀ A B : State, B = (if c.st = .running ∧ oBatch c.c1 ≠ oBatch c1 then T.closeBatch k 0 else T) →
              (cEnable c0 = false → c.st = .running → A = (B.chainStop k .quiesced 0x10).modChain k put) →
              (cEnable c0 = false → c.st ≠ .running → A = (T.modChain k fun x => { x with st := .quiesced }).modChain k put) →
              (cEnable c0 = true → c.st ≠ .quiesced → A = B.modChain k put) →
              (cEnable c0 = true → c.st = .quiesced → ∀ P, P = T.modChain k put →
                (P.throttled = true → 1600000000 < P.demandBut (some k) [.running] + chainDemand c0 c2 false →
                  A = (P.modChain k fun x => { x.cleared P.now false with st := .suspended, batch := [] }).chainRecord k 0x04 P.now
                    (revWord P.thetaNow) 0 []) ∧
                (P.throttled = false ∨ P.demandBut (some k) [.running] + chainDemand c0 c2 false ≤ 1600000000 →
                  A = P.chainStart k (P.dspTick P.now) 0)) →
              exec (.filterConfig dt q n) s = .next (A.configDone q n .done 0 T.now 0)))) ∧
      (∀ (k : ChainId) (c : Chain) (b : Bool), k.val = dNum d 4 1 → c = T.chains[k] → dNum d 5 1 = b2n b →
        1 ≤ dNum d 6 2 → dNum d 6 2 ≤ 256 →
        (shaped d 0x41 p false [(4, 4), (8, 8)] = true → S.permits m [(0x11, 2)] = true →
          (c.bankB = b ∨ c.fade ≠ none ∨ (∃ x, c.pend = some x ∧ x.toB = b) →
            exec (.coefLoad dt q n) s = .next (T.finish q n .rejState 0)) ∧
          (c.bankB ≠ b → c.fade = none → (∀ x, c.pend = some x → x.toB ≠ b) →
            exec (.coefLoad dt q n) s = .next ((T.addOp q n .data).emit (.dataRead (d64 d 8) (4 * dNum d 6 2))))) ∧
        (shaped d 0x42 p false [(4, 4)] = true → S.permits m [(0x11, 4)] = true →
          ∀ f : Fade, f = { toB := b, k := dNum d 6 2, j := 0, who := some (q, n) } →
          (T.copyWaits 0x50000 0x8000 = true → exec (.coefSwap dt q n) s = .next (T.addOp q n (.fadeWait k f))) ∧
          (T.copyWaits 0x50000 0x8000 = false →
            (cUser c.c0 = false ∧ symmetric (c.coefs b) = false → exec (.coefSwap dt q n) s = .next (T.complete q n .rejState 0 T.now 0)) ∧
            (cUser c.c0 = true ∨ symmetric (c.coefs b) = true →
              (c.fade = none → c.bankB = b → exec (.coefSwap dt q n) s = .next (T.configDone q n .done 0 T.now 0)) ∧
              (c.fade ≠ none ∨ c.bankB ≠ b →
                (c.st ≠ .running → exec (.coefSwap dt q n) s =
                  .next ((T.modChain k fun x => { x with bankB := b }).configDone q n .done 0 T.now 0)) ∧
                (c.st = .running → 3200000000 < T.demandBut (some k) [.running, .suspended] + chainDemand c.c0 c.c2 true →
                  exec (.coefSwap dt q n) s = .next (T.complete q n .rejCapacity 0 T.now 0)) ∧
                (c.st = .running → T.demandBut (some k) [.running, .suspended] + chainDemand c.c0 c.c2 true ≤ 3200000000 →
                  (c.fade = none → exec (.coefSwap dt q n) s = .next (T.modChain k fun x => { x with fade := some f }).refit) ∧
                  (c.fade ≠ none → c.pend = none → exec (.coefSwap dt q n) s = .next (T.modChain k fun x => { x with
                    pend := some f })) ∧
                  (∀ x i j, c.fade ≠ none → c.pend = some x → x.who = some (i, j) →
                    exec (.coefSwap dt q n) s = .next ((T.modChain k fun x => { x with
                      pend := some f, swapCollide := x.swapCollide + 1 }).configDone i j .done 1 T.now 0)))))))) ∧
      (shaped d 0x43 p false [] = true → S.permits m [(0x11, 4)] = true → ∀ (r : Nat) (U : State), r = T.dspTick (T.now + 1600) →
        ((∃ r0, T.syncTick = some r0 ∧ r < r0 + 1000 ∧ r0 < r + 1000) → U = { T with syncMerged := T.syncMerged + 1 }) →
        ((∀ r0, T.syncTick = some r0 → r0 + 1000 ≤ r ∨ r + 1000 ≤ r0) → U = (List.finRange 16).foldl (fun s k => s.chainReset k r false)
          { T with syncTick := some (max r (T.syncTick.getD 0)),
                   syncOut := if fld T.syncw 2 2 = 2 ∨ fld T.syncw 2 2 = 1 then r + 1000 else T.syncOut }) →
        exec (.sync dt q n) s = .next (U.complete q n .done 0 (U.syncTick.getD U.now) 0))) ∧
    (S.up = true → (∀ rising : Bool, fld S.syncw 0 2 = (if rising then 1 else 2) → ∀ r, r = S.dspTick S.now →
        (∀ r0, S.syncTick = some r0 → r < r0 + 1000 → r0 < r + 1000 →
          exec (.syncInEdge dt rising) s = .next { S with syncMerged := S.syncMerged + 1 }) ∧
        ((∀ r0, S.syncTick = some r0 → r0 + 1000 ≤ r ∨ r + 1000 ≤ r0) → exec (.syncInEdge dt rising) s =
          .next ((List.finRange 16).foldl (fun s k => s.chainReset k r false)
            { S with syncTick := some (max r (S.syncTick.getD 0)), syncOut := if fld S.syncw 2 2 = 2 then r + 1000 else S.syncOut }))) ∧
      (∀ (rising : Bool), fld S.syncw 0 2 ≠ (if rising then 1 else 2) → exec (.syncInEdge dt rising) s = .next S) ∧
      (∀ (k : ChainId) (o : FOut) (l : List FOut), S.chains[k].batch = o :: l →
        (S.now < S.chains[k].batchAt + 1000000 → exec (.filterBatchTimeout dt k) s = .next S) ∧
        (S.chains[k].batchAt + 1000000 ≤ S.now → exec (.filterBatchTimeout dt k) s =
          .next ((S.modChain k fun x => { x with batch := [] }).chainRecord k 0 o.stamp
            (if bit o.flags 9 then revWord (S.ang.thetaHat o.stamp) else o.rev) 0 (o :: l)))))

/-- PAIR_CONTROL and the end of what it starts (R455, R470, R530, R533, R535–R537). A HANDOVER that Mason carries out is rejected
with REJ_STATE where R536 says so, else it runs from this instant on and Mason is free. HANDOVER_DRAINED changes nothing while
another command is in flight and 10 ms have not passed; then the record buffers retire, PAIR_EVENT 0x04 is written, and a final
checkpoint is due, captured at once when none is being committed; with its commit HANDOVER completes DONE, and YIELD is sent or,
in an arbiter pair, ACT_REQ_N released. A RESYNC is rejected with REJ_STATE where R535 says so, else it chooses another EPOCH and
sends the static area of 512 KB in 2,048 DELTA frames, the page of its header last. RESYNC_COMPLETE, with the copy and its
checkpoint committed, writes PAIR_EVENT 0x06 and completes every RESYNC that waits with DONE. Of the model's own choices it rests
on log entries 6, 118. -/
def Obligations.PairControl : Prop :=
  ∀ (dt : Nat) (n : Word32) (d : Desc) (s S : State), S = s.elapse dt →
    (S.admRuns n d = true → shaped d 0xD false false [(4, 1)] = true → S.permits 0 [(0x20, 4)] = true →
      (dNum d 4 1 = 1 →
        (S.pair.st ≠ .active ∨ S.pair.degraded = true ∨ S.pair.lone = true ∨ S.pair.partnerReady = false ∨
          (∃ o ∈ S.ops, o.kind = .handover ∨ o.kind = .resync) →
          exec (.pairControlHandover dt n) s = .next (S.finish 0 n .rejState 0)) ∧
        (S.pair.st = .active → S.pair.degraded = false → S.pair.lone = false → S.pair.partnerReady = true →
          (∀ o ∈ S.ops, o.kind ≠ .handover ∧ o.kind ≠ .resync) →
          exec (.pairControlHandover dt n) s = .next (((S.addOp 0 n .handover).freeMason).modPair fun p =>
            { p with handover := some n, handoverAt := S.now }))) ∧
      (dNum d 4 1 = 2 →
        (S.pair.st ≠ .active ∨ S.pair.zaf.present = false ∨ S.pair.lone = true →
          exec (.pairControlResync dt n) s = .next (S.finish 0 n .rejState 0)) ∧
        (S.pair.st = .active → S.pair.zaf.present = true → S.pair.lone = false →
          ∃ (e : Word32) (k : Nat) (frames : List ZFrame), e ≠ S.pair.epoch ∧ frames.length = 2048 ∧
            (∀ i, i < 2048 → ∃ bs : List Byte, bs.length = 256 ∧
              frames[i]? = some (.delta (BitVec.ofNat 32 ((256 * i + 0x1000) % 0x80000)) bs)) ∧
            exec (.pairControlResync dt n) s = .next (({ (S.addOp 0 n .resync).freeMason with freeCtr := k } : State).modPair fun p =>
              { p with epoch := e, resyncing := some (some n), resyncBytes := 0, resyncCp := false, needResync := false,
                       tx := p.tx ++ frames })))) ∧
    (∀ (i : Word32) (mine : QueueId → Inflight → Prop), S.up = true → S.pair.st = .active → S.pair.handedOver = false →
      S.pair.handover = some i →
      (∀ q e, mine q e ↔ (q = 0 ∧ e.num = i) ∨ ∃ b ∈ (S.queue q).bufs, b.num = e.num) →
      (S.pair.finalDue = true ∨ (∃ c, S.pair.cap = some c ∧ c.final = true) ∨
        ((∃ q, ∃ e ∈ (S.queue q).flight, ¬ mine q e) ∧ S.now < S.pair.handoverAt + 10000000) →
        exec (.handoverDrained dt) s = .next S) ∧
      (S.pair.finalDue = false → (∀ c, S.pair.cap = some c → c.final = false) →
        (∀ q, ∀ e ∈ (S.queue q).flight, mine q e) ∨ S.pair.handoverAt + 10000000 ≤ S.now →
        ∀ U : State, U = (List.finRange 64).foldl (fun s q => (s.queue q).bufs.foldl (fun s b =>
          s.retire q b (if b.used == 0 then .abortedQuiesce else .done)) s) S →
        exec (.handoverDrained dt) s = .next (((U.pairEvent 4 ((U.pair.seq + 1).setWidth 64)).modPair fun p =>
          { p with finalDue := true }).finalCapture))) ∧
    ((S.pair.finalDue = true → S.pair.cap = none → S.finalCapture = S.capture true) ∧
      (S.pair.finalDue = false ∨ S.pair.cap ≠ none → S.finalCapture = S)) ∧
    (S.pair.st = .active → ∀ A : State, A = (match S.ops.find? fun o => decide (o.kind = .handover) with
        | some o => S.completeOp o .done 0 S.now 0
        | none => S) →
      (A.redmode = 1 → S.finalDone = (A.zsend (.yield 1)).roleLoss A.now) ∧
      (A.redmode ≠ 1 → S.finalDone = A.modPair fun p => { p with handedOver := true, handover := none })) ∧
    (S.up = true →
      (S.pair.st = .active → S.pair.resyncCp = true → S.pair.resyncing ≠ none →
        ∀ A : State, A = (S.modPair fun p => { p with resyncing := none, resyncCp := false, needResync := false }).pairEvent 6
          (S.pair.epoch.setWidth 64) →
        exec (.resyncComplete dt) s = .next ((A.ops.filter fun o => decide (o.kind = .resync)).foldl
          (fun s o => s.completeOp o .done 0 s.now 0) A)) ∧
      (S.pair.st ≠ .active ∨ S.pair.resyncCp = false ∨ S.pair.resyncing = none → exec (.resyncComplete dt) s = .next S))

/-- The journal at the active unit (R503, R513–R516, R518, R519, R530, R533). A checkpoint is captured every CPINT, or sooner when
asked for or with the log three-quarters full, at least 1 ms after the last one and one at a time: the next SEQ, a header with
its CRC-32C, the body in 28 BODY frames at the slot SEQ mod 64, and COMMIT once every earlier delta is acknowledged; a
final one that is due is captured as soon as none is being committed. An ACK
commits the checkpoint of that SEQ, or else the copy's frame, the delta or the log entry that waits under that address. Of the
model's own choices it rests on log entries 6, 29, 70, 71, 72. -/
def Obligations.JournalAtActive : Prop :=
  ∀ (dt : Nat) (s S : State), S = s.elapse dt → S.up = true →
    (S.pair.finalDue = true → S.pair.cap = none → exec (.checkpointCapture dt) s = .next (S.capture true)) ∧
    (S.pair.finalDue = false → S.pair.st = .active → S.pair.zaf.present = true → S.pair.cap = none →
      (S.pair.capAt + ptCpint S.pair.timing * 1000000 ≤ S.now ∨
        (S.pair.capNow = true ∨ 1152 ≤ S.pair.logUsed) ∧ S.pair.capAt + 1000000 ≤ S.now →
        ∃ (t : State) (c : Capture) (body : List Byte), exec (.checkpointCapture dt) s = .next t ∧ t.pair.seq = S.pair.seq + 1 ∧
          t.pair.cap = some c ∧ c.seq = S.pair.seq + 1 ∧ c.cfggen = S.pair.cfggen ∧ c.final = false ∧ c.who = S.pair.cpWaiters ∧
          c.logs = S.pair.logWait ∧ body.length = 0x1BC0 ∧
          c.header = headerBytes (S.pair.seq + 1) S.pair.epoch S.pair.cfggen S.frameStart false ++
            leBytes 4 (crc32c (headerBytes (S.pair.seq + 1) S.pair.epoch S.pair.cfggen S.frameStart false ++ body)).toNat ∧
          (c.sent = true ↔ ∀ x ∈ S.pair.deltas, 2 ^ 31 ≤ (S.pair.cfggen - x.2.1).toNat) ∧
          t.pair.tx = S.pair.tx ++ ((List.range 28).map fun i => ZFrame.body
            (BitVec.ofNat 32 (0x80000 + 0x6000 * ((S.pair.seq + 1).toNat % 64) + 0x40 + 256 * i)) ((body.drop (256 * i)).take 256)) ++
            (if c.sent then [ZFrame.commit c.header] else []) ∧
          t.pair.capAt = S.now ∧ t.pair.capNow = false ∧ t.pair.logUsed = 0 ∧ t.pair.cpWaiters = [] ∧
          t = { S with pair := t.pair, freeCtr := t.freeCtr }) ∧
      (S.now < S.pair.capAt + ptCpint S.pair.timing * 1000000 → (S.pair.capNow = false ∧ S.pair.logUsed < 1152 ∨
        S.now < S.pair.capAt + 1000000) → exec (.checkpointCapture dt) s = .next S)) ∧
    (∀ v : Word32, S.pair.st = .active ∨ S.pair.st = .releasing →
      (∀ (c : Capture) (B : State), S.pair.cap = some c → c.sent = true → c.seq = v →
        B = c.who.foldl (fun s n => match s.ops.find? fun o => o.live && o.q == 0 && o.n == n && o.kind == .checkpoint with
            | some o => s.completeOp o .done 0 s.now 0
            | none => s)
          (c.logs.foldl (fun s e => s.logged e.2.1 e.2.2) (S.modPair fun p => { p with
            cap := none, nCommitted := p.nCommitted + 1, committedSeq := some v, commitAt := some S.now,
            logWait := p.logWait.filter fun x => !c.logs.contains x,
            resyncCp := p.resyncCp || (p.resyncing.isSome && p.resyncBytes == 0x80000) })) →
        exec (.ack dt v) s = .next (if c.final then B.finalDone else B.finalCapture)) ∧
      ((∀ c, S.pair.cap = some c → c.sent = false ∨ c.seq ≠ v) →
        (S.pair.resyncing ≠ none → S.pair.resyncBytes < 0x80000 → v.toNat = (S.pair.resyncBytes + 0x1000) % 0x80000 →
          exec (.ack dt v) s = .next (S.modPair fun p => { p with
            resyncBytes := p.resyncBytes + 256, capNow := p.capNow || p.resyncBytes + 256 == 0x80000 })) ∧
        (S.pair.resyncing = none ∨ 0x80000 ≤ S.pair.resyncBytes ∨ v.toNat ≠ (S.pair.resyncBytes + 0x1000) % 0x80000 →
          (∀ x l1 l2, S.pair.deltas = l1 ++ x :: l2 → x.1 = v → (∀ y ∈ l1, y.1 ≠ v) → exec (.ack dt v) s =
            .next (((S.modPair fun p => { p with deltas := l1 ++ l2, acked := x.2.1 }).deltaDone x.2.1).sendCommit)) ∧
          ((∀ x ∈ S.pair.deltas, x.1 ≠ v) →
            (∀ x l1 l2, S.pair.logWait = l1 ++ x :: l2 → x.1 = v → (∀ y ∈ l1, y.1 ≠ v) → exec (.ack dt v) s =
              .next ((S.modPair fun p => { p with logWait := l1 ++ l2 }).logged x.2.1 x.2.2)) ∧
            ((∀ x ∈ S.pair.logWait, x.1 ≠ v) → exec (.ack dt v) s = .next S)))))

/-- The journal at the standby unit (R503, R510, R512–R518, R533). BODY, DELTA, LOG and COMMIT write their bytes at their places
of the Plinth and change no other byte; one that would lie outside its 2 MiB stops. A DELTA goes to the redo buffer too, counts
the generation (or, as the last of a full copy, brings the partner's EPOCH and CFGGEN), brings the pair-timing word into force
when it may hold it, and is acknowledged by its address; a LOG entry goes behind the last one of its TAG; COMMIT writes the
header of slot SEQ mod 64 and is acknowledged by SEQ. Of the model's own choices it rests on log entries 6, 73. -/
def Obligations.JournalAtStandby : Prop :=
  ∀ (dt : Nat) (s S : State), S = s.elapse dt → S.up = true → S.pair.st = .standby → Memory.wf S.plinth = true →
    (∀ (addr : Word32) (data : List Byte), 1 ≤ data.length → data.length ≤ 256 →
      (0x200000 < addr.toNat + data.length → exec (.body dt addr data) s = .fault (.outsidePlinth addr.toNat) ∧
        exec (.delta dt addr data) s = .fault (.outsidePlinth addr.toNat)) ∧
      (addr.toNat + data.length ≤ 0x200000 →
        (∃ t, exec (.body dt addr data) s = .next t ∧ t = { S with plinth := t.plinth } ∧
          ∀ a, memRead t.plinth a = if addr.toNat ≤ a ∧ a < addr.toNat + data.length then data.getD (a - addr.toNat) 0
            else memRead S.plinth a) ∧
        (∃ (t : State) (P : Pair) (w : Word64), exec (.delta dt addr data) s = .next t ∧
          t = { S with plinth := t.plinth, pair := t.pair, quads := t.quads } ∧
          (∀ a, memRead t.plinth a = if 0x58000 ≤ a ∧ a < 0x58000 + data.length then data.getD (a - 0x58000) 0
            else if addr.toNat ≤ a ∧ a < addr.toNat + data.length then data.getD (a - addr.toNat) 0 else memRead S.plinth a) ∧
          (S.pair.partner = none → P = { S.pair with cfggen := S.pair.cfggen + 1, tx := S.pair.tx ++ [.ack addr] }) ∧
          (∀ x, S.pair.partner = some x →
            (addr = 0xF00 → P = { S.pair with
              epoch := x.epoch, cfggen := x.cfggen, staticOk := true, tx := S.pair.tx ++ [.ack addr] }) ∧
            (addr ≠ 0xF00 → P = { S.pair with
              cfggen := if S.pair.staticOk then S.pair.cfggen + 1 else S.pair.cfggen, tx := S.pair.tx ++ [.ack addr] })) ∧
          w = BitVec.ofNat 64 (Config.plinthItem t.plinth 0x1000 27 0) ∧
          ((addr = 0xF00 ∨ 0x1000 ≤ addr.toNat ∧ addr.toNat < 0x10000) → ptBad w = false →
            t.pair = { P with timing := w, timingNew := none } ∧
            t.quads = S.quads.map fun (x : Quad) => x.setSilence (1000 * ptTrel w)) ∧
          ((addr ≠ 0xF00 ∧ (addr.toNat < 0x1000 ∨ 0x10000 ≤ addr.toNat)) ∨ ptBad w = true → t.pair = P ∧ t.quads = S.quads)))) ∧
    (∀ (e : Word64) (tag : Byte) (i : Nat), tag = e.extractLsb' 40 8 → i = (if S.pair.logTag = some tag then S.pair.logUsed else 0) →
      (1536 ≤ i → exec (.log dt e) s = .next S) ∧
      (i < 1536 → ∀ p, p = 0x80000 + 0x6000 * (tag.toNat % 64) + 0x3000 + 8 * i →
        ∃ t, exec (.log dt e) s = .next t ∧ t = { S with
          plinth := t.plinth, pair := { S.pair with
            logTag := some tag, logUsed := i + 1, tx := S.pair.tx ++ [.ack (BitVec.ofNat 32 p)] } } ∧
          ∀ a, memRead t.plinth a = if p ≤ a ∧ a < p + 8 then (leBytes 8 e.toNat).getD (a - p) 0 else memRead S.plinth a)) ∧
    (∀ h : List Byte, (h.length ≠ 64 → exec (.commit dt h) s = .next S) ∧
      (h.length = 64 → ∀ (seq : Word32) (p : Nat), seq = BitVec.ofNat 32 (fieldAt h 0 4) → p = 0x80000 + 0x6000 * (seq.toNat % 64) →
        ∃ t, exec (.commit dt h) s = .next t ∧ t = { S with
          plinth := t.plinth, pair := { S.pair with
            committedSeq := some seq, commitAt := some S.now,
            slotTimes := (seq.toNat % 64, S.now) :: S.pair.slotTimes.filter fun x => x.1 != seq.toNat % 64,
            tx := S.pair.tx ++ [.ack seq] } } ∧
          ∀ a, memRead t.plinth a = if p ≤ a ∧ a < p + 64 then h.getD (a - p) 0 else memRead S.plinth a))

/-- Heartbeats and the paths of a pair (R496, R501, R504–R508, R521, R528, R530, R531, R533). While the liveness gate passes,
HEARTBEAT frames leave every HBPER and HB_OUT toggles. A path on which nothing has come for TMISS × HBPER is lost, and present
again after arrivals over 10 × HBPER without a gap longer than HBPER. One lost path makes the unit DEGRADED, with PAIR_EVENT
0x01 or 0x02; in a heartbeat pair the loss of both makes a standby take over and an active unit lose the role. Of the model's
own choices it rests on log entries 65, 68, 74. -/
def Obligations.Heartbeats : Prop :=
  ∀ (dt : Nat) (s S : State), S = s.elapse dt → S.up = true → (S.redmode = 1 ∨ S.redmode = 2) →
    (S.pair.gate = true → S.pair.mute = false →
      (S.now < S.pair.hbLast + 1000 * ptHbper S.pair.timing → exec (.heartbeatSend dt) s = .next S) ∧
      (S.pair.hbLast + 1000 * ptHbper S.pair.timing ≤ S.now → ∃ state : Byte,
        (∀ i, bit state i = true ↔ (i = 0 ∧ S.pair.st = .active) ∨ (i = 1 ∧ S.pair.st = .releasing) ∨
          (i = 2 ∧ S.pair.st = .standby ∧ S.pair.staticOk = true) ∨ (i = 3 ∧ S.pair.st = .standby ∧ S.pair.staticOk = false) ∨
          (i = 4 ∧ S.pair.lone = true)) ∧
        exec (.heartbeatSend dt) s = .next (S.modPair fun p => { p with
          tx := p.tx ++ [.heartbeat state (S.straps.setWidth 8) p.hbcnt p.epoch
            (if p.st = .active then p.acked else p.cfggen) (if p.st = .active then p.seq else p.committedSeq.getD 0)],
          hbcnt := p.hbcnt + 1, hbLast := S.now })) ∧
      exec (.hbOutToggle dt) s = .next (S.modPair fun p => { p with hbOut := !p.hbOut })) ∧
    (S.pair.gate = false ∨ S.pair.mute = true →
      exec (.heartbeatSend dt) s = .next S ∧ exec (.hbOutToggle dt) s = .next S) ∧
    exec (.livenessGateFail dt) s = .next (S.modPair fun p => { p with gate := false }) ∧
    exec (.livenessGatePass dt) s = .next (S.modPair fun p => { p with gate := true }) ∧
    (∀ (x : HPath) (per t since : Nat),
      (since = match x.goodSince with | some g => if t ≤ x.last + per then g else t | none => t) →
      (x.lost = false ∨ since + 10 * per ≤ t → x.arrive per t = { x with
        last := t, seen := true, present := true, lost := false, goodSince := none, ever := true }) ∧
      (x.lost = true → t < since + 10 * per → x.arrive per t = { x with last := t, seen := true, goodSince := some since })) ∧
    (∀ A : State, ((A.pair.degraded = true ↔ A.pair.zaf.lost ≠ A.pair.hb.lost) → A.degrade = A) ∧
      (A.pair.degraded = false → A.pair.zaf.lost ≠ A.pair.hb.lost → A.degrade =
        (A.modPair fun p => { p with degraded := true }).pairEvent 1 (if A.pair.zaf.lost then 1 else 2)) ∧
      (A.pair.degraded = true → A.pair.zaf.lost = A.pair.hb.lost → A.degrade =
        (A.modPair fun p => { p with degraded := false }).pairEvent 2 (if A.pair.zaf.lost then 3 else 0))) ∧
    exec (.hbInEdge dt) s = .next (S.modPair fun p => { p with hb := p.hb.arrive (1000 * ptHbper p.timing) S.now }).degrade ∧
    (∀ (b : List Byte) (x : Partner) (A B C : State) (bad : Bool), b.length = 16 →
      x = { state := b.getD 0 0, straps := b.getD 1 0, hbcnt := BitVec.ofNat 16 (fieldAt b 2 2), epoch := BitVec.ofNat 32 (fieldAt b 4 4),
            cfggen := BitVec.ofNat 32 (fieldAt b 8 4), cpseq := BitVec.ofNat 32 (fieldAt b 12 4) } →
      (bad = true ↔ fld x.straps 1 2 ≠ S.redmode ∨ bit x.straps 0 = S.roleB) →
      A = S.modPair (fun p => { p with
        partner := some x, mismatch := bad, zaf := p.zaf.arrive (1000 * ptHbper p.timing) S.now,
        staticOk := p.staticOk && !(p.st == .standby && bit x.state 0 && x.epoch != p.epoch) }) →
      B = (A.modPair fun p => { p with needResync := p.needResync || (!S.pair.zaf.present && p.zaf.present) }).degrade →
      (B.pair.st = .active ∧ B.pair.zaf.present = true ∧ (bit x.state 2 = true ∨ bit x.state 3 = true) ∧
        (B.pair.needResync = true ∨ B.pair.resyncing = none ∧ (x.epoch ≠ B.pair.epoch ∨ bit x.state 3 = true)) →
          C = B.startResync (B.pair.resyncing.getD none)) →
      (¬ (B.pair.st = .active ∧ B.pair.zaf.present = true ∧ (bit x.state 2 = true ∨ bit x.state 3 = true) ∧
        (B.pair.needResync = true ∨ B.pair.resyncing = none ∧ (x.epoch ≠ B.pair.epoch ∨ bit x.state 3 = true))) → C = B) →
      exec (.heartbeat dt b) s = .next (if C.redmode = 2 ∧ C.pair.st = .standby ∧ C.pair.gntN = false ∧ C.partnerHolds = false
        then C.takeover 2 else C)) ∧
    (∀ (zafifa : Bool) (x : HPath) (A B C D : State) (fin : Bool), x = (if zafifa then S.pair.zaf else S.pair.hb) →
      (x.lost = true ∨ S.now < x.last + ptTmiss S.pair.timing * (1000 * ptHbper S.pair.timing) →
        exec (.pathLoss dt zafifa) s = .next S) ∧
      (x.lost = false → x.last + ptTmiss S.pair.timing * (1000 * ptHbper S.pair.timing) ≤ S.now →
        (fin = true ↔ S.pair.finalDue = true ∨ ∃ c, S.pair.cap = some c ∧ c.final = true) →
        (∀ y, y = { x with present := false, lost := true, goodSince := none, losses := x.losses + b2n x.present } →
          A = S.modPair fun p => if zafifa then { p with zaf := y } else { p with hb := y }) →
        B = (if zafifa = true ∧ S.pair.st = .active then A.dropJournal else A) →
        C = (if zafifa = true ∧ B.pair.st = .releasing ∧ fin = true then
          B.modPair fun p => { p with mute := true, finalDue := false, cap := none } else B) → D = C.degrade →
        (D.redmode = 1 → D.pair.zaf.lost = true → D.pair.hb.lost = true → (D.pair.zaf.ever = true ∨ D.pair.hb.ever = true) →
          (D.pair.st = .standby → exec (.pathLoss dt zafifa) s = .next (D.takeover 1)) ∧
          (D.pair.st = .active → D.pair.peerAbsent = false → exec (.pathLoss dt zafifa) s =
            .next (D.roleLoss (max D.pair.zaf.last D.pair.hb.last))) ∧
          (D.pair.st = .active → D.pair.peerAbsent = true → exec (.pathLoss dt zafifa) s = .next D)) ∧
        (D.redmode = 1 → D.pair.zaf.lost = false ∨ D.pair.hb.lost = false ∨ (D.pair.zaf.ever = false ∧ D.pair.hb.ever = false) →
          exec (.pathLoss dt zafifa) s = .next D) ∧
        (D.redmode = 2 → D.pair.st = .standby → D.pair.gntN = false → D.partnerHolds = false →
          exec (.pathLoss dt zafifa) s = .next (D.takeover 2)) ∧
        (D.redmode = 2 → D.pair.st ≠ .standby ∨ D.pair.gntN = true ∨ D.partnerHolds = true →
          exec (.pathLoss dt zafifa) s = .next D)))

/-- The role (R496, R499–R503, R521, R528, R529, R537). A unit that is starting takes it with PAIR_EVENT 0x03 where no partner
is fitted, by a grant, as unit A, or as unit B after 500 ms without a heartbeat, and never while its partner holds it; else it
stands by, gated but for Plinth, link and monitor. A grant or a YIELD makes a standby take over; a withdrawn grant makes the
active unit release, and TREL after that the outputs go off and it stands by. Of the model's own choices it rests on log entries
66, 67, 68, 69. -/
def Obligations.Roles : Prop :=
  ∀ (dt : Nat) (s S : State), S = s.elapse dt → S.up = true →
    (S.pair.st = .starting →
      (∀ X, X = exec (.pairRoleDecision dt) s → (S.pair.mismatch = true → X = .next S) ∧
        (S.pair.mismatch = false →
          ∀ takes : Nat → Prop, (∀ cause, takes cause ↔ X = .next (((S.modPair fun p => { p with
              st := .active, cause := cause, lone := p.peerAbsent, capAt := S.now, capNow := false, cap := none, logUsed := 0,
              zaf := { p.zaf with ever := p.zaf.present }, hb := { p.hb with ever := p.hb.present }, firstPoll := false,
              needResync := p.zaf.present, driven := true, t1 := none }).modHost fun h =>
                { h with link := if h.perst then 0 else 1, wakeLow := false }).pairEvent 3 (BitVec.ofNat 64 cause))) →
          ∀ stands : Prop, (stands ↔ ∃ t, X = .next t ∧ t.pair.st = .standby ∧ t.pair.staticOk = S.pair.staticOk ∧
            t.host.link = (if S.host.perst then 0 else 2) ∧
            t.plinth = S.plinth ∧ (∀ q : QuadId, (t.quad q).sync = false ∧ (t.quad q).armed = false) ∧
            (∀ q : QueueId, (t.queue q).st = .absent) ∧ t.reqs = [] ∧ t.ops = []) →
          (S.pair.peerAbsent = true → takes 4) ∧
          (S.pair.peerAbsent = false → S.redmode = 2 → S.pair.gntN = false → S.partnerHolds = false → takes 2) ∧
          (S.pair.peerAbsent = false → S.redmode = 2 → S.pair.gntN = true ∨ S.partnerHolds = true → stands) ∧
          (S.pair.peerAbsent = false → S.redmode = 1 → S.partnerHolds = true → stands) ∧
          (S.pair.peerAbsent = false → S.redmode = 1 → S.partnerHolds = false →
            (S.roleB = false → takes 4) ∧
            (S.roleB = true → S.pair.zaf.seen = true ∨ S.pair.hb.seen = true → stands) ∧
            (S.roleB = true → S.pair.zaf.seen = false → S.pair.hb.seen = false →
              (500000000 ≤ S.now → takes 4) ∧ (S.now < 500000000 → X = .next S)))))) ∧
    (S.redmode = 2 → ∀ A B : State, A = S.modPair (fun p => { p with gntN := false }) → B = S.modPair (fun p => { p with gntN := true }) →
      (S.pair.st = .standby → S.partnerHolds = false → exec (.actGntLow dt) s = .next (A.takeover 2)) ∧
      (S.pair.st ≠ .standby ∨ S.partnerHolds = true → exec (.actGntLow dt) s = .next A) ∧
      (S.pair.st = .active → exec (.actGntHigh dt) s = .next (B.roleLoss S.now)) ∧
      (S.pair.st ≠ .active → exec (.actGntHigh dt) s = .next B)) ∧
    (∀ cause : Byte,
      (S.pair.st = .standby → cause = 1 → exec (.yield dt cause) s =
        .next ((S.takeover 3).pairEvent 5 ((S.pair.committedSeq.getD 0).setWidth 64))) ∧
      (S.pair.st = .standby → cause = 2 → exec (.yield dt cause) s = .next (S.takeover 3)) ∧
      (S.pair.st ≠ .standby ∨ (cause ≠ 1 ∧ cause ≠ 2) → exec (.yield dt cause) s = .next S)) ∧
    (S.pair.st = .releasing →
      (S.now < S.pair.tl + 1000000 * ptTrel S.pair.timing → exec (.releaseExpiry dt) s = .next S) ∧
      (S.pair.tl + 1000000 * ptTrel S.pair.timing ≤ S.now → ∃ t, exec (.releaseExpiry dt) s = .next t ∧ t.pair.st = .standby ∧
        t.pair.staticOk = false ∧ t.host.link = (if S.host.perst then 0 else 2) ∧ t.plinth = S.plinth ∧
        (∀ q : QuadId, (t.quad q).sync = false ∧ (t.quad q).armed = false ∧ (t.quad q).started = none) ∧
        (∀ c : ChanId, (t.chan c).drv = false) ∧ ∀ q : QueueId, (t.queue q).st = .absent)) ∧
    (∀ tl : Nat, ∃ t, S.roleLoss tl = t ∧ t.pair.st = .releasing ∧ t.pair.tl = tl ∧ t.ops = [] ∧ t.reqs = [] ∧ t.staging = [] ∧
      t.outWait = [] ∧ (∀ q : QueueId, (t.queue q).flight = [] ∧ (t.queue q).bufs = []) ∧
      ∀ c : ChanId, (t.chan c).gen = none ∧ (t.chan c).ref = (match (S.chan c).gen with | some g => g.lvl | none => (S.chan c).ref))

/-- Takeover (R467, R521–R527, R537). The unit that takes over restores the static area and the newest valid slot; without a
valid static area it comes up with every output off, without a slot that is valid and no older than STALE with its safe values,
each with PAIR_EVENT 0x07. Driving sets each unit's reference from the slot (FINAL, SHORT_LPLUS or REVERSE) or from its
readback, or restarts its generator. Before the first poll the host interface resumes: descriptors in doubt, FIELD_STATE,
PAIR_EVENT 0x03. Of the model's own choices it rests on log entries 75, 77, 78, 79. -/
def Obligations.Takeover : Prop :=
  (∀ (s H R : State) (cause : Nat), s.pair.mismatch = false →
    H = ((s.hold cause).modPair fun p => { p with t1 := some s.now, driven := false, slot := none }).romStart → R = H.restoreStatic →
    (H.pair.staticOk = false → s.takeover cause = (H.modPair fun p => { p with driven := true }).pairEvent 7 0xFFFFFFFF00000003) ∧
    (H.pair.staticOk = true → R.newestSlot = none → s.takeover cause = (R.safeStart.startChains).pairEvent 7 0xFFFFFFFF00000002) ∧
    (∀ (k : Nat) (T : State), H.pair.staticOk = true → R.newestSlot = some k → T = (R.restoreSlot k).startChains →
      ((∀ x ∈ T.pair.slotTimes, x.1 ≠ k) → s.takeover cause = T.safeStart.pairEvent 7 0xFFFFFFFF00000001) ∧
      (∀ x l1 l2, T.pair.slotTimes = l1 ++ x :: l2 → x.1 = k → (∀ y ∈ l1, y.1 ≠ k) →
        (ptStale T.pair.timing * 1000000 < s.now - x.2 → s.takeover cause = T.safeStart.pairEvent 7
          (BitVec.ofNat 64 (1 + min 0xFFFFFFFF ((s.now - x.2) / 1000000) * 2 ^ 32))) ∧
        (s.now - x.2 ≤ ptStale T.pair.timing * 1000000 → s.takeover cause = T.modPair fun p => { p with slot := some k })))) ∧
  (∀ (dt : Nat) (s S : State), S = s.elapse dt → S.up = true → S.pair.st = .active → ∀ t1, S.pair.t1 = some t1 →
    (∀ rb : Mask128, S.pair.driven = false →
      ((∃ q : QuadId, (S.quad q).sync = false) → exec (.takeoverDrive dt rb) s = .next S) ∧
      ((∀ q : QuadId, (S.quad q).sync = true) →
        (S.pair.slot = none → exec (.takeoverDrive dt rb) s = .next (S.modPair fun p => { p with driven := true })) ∧
        (∀ (k : Nat) (final : Bool) (units : List ChanId) (A B C : State), S.pair.slot = some k →
          final = bit (memRead S.plinth (0x80000 + 0x6000 * (k % 64) + 24)) 0 →
          units = allChans.filter (fun c => S.isOutput c && !S.isOdd c) →
          A = units.foldl (fun t l => t.takeRef k final rb l) S →
          B = A.onQuads (fun q x => { x with armed := A.itemB (0x80000 + 0x6000 * (k % 64)) 6 q.val }) →
          C = allChans.foldl (fun t c => if t.trigOn c then t.modChan c fun x => { x with safeOn := true } else t) B →
          exec (.takeoverDrive dt rb) s = .next ((C.modPair fun p => { p with ons := units.filter fun l => C.demand l }).modPair
            fun p => { p with driven := true })))) ∧
    (∀ (k : Nat) (final : Bool) (rb : Mask128) (l : ChanId) (r : Bool), 
      r = (if final = true ∨ bit (S.chan l).standing 7 = true ∨ (S.chan l).reverse = true then S.itemB (0x80000 + 0x6000 * (k % 64)) 15 l.val
        else bit rb l.val) →
      (S.itemB (0x80000 + 0x6000 * (k % 64)) 16 l.val = false → S.takeRef k final rb l = S.modChan l fun x => { x with ref := r, held := r }) ∧
      (S.itemB (0x80000 + 0x6000 * (k % 64)) 16 l.val = true → S.takeRef k final rb l = S.modChan l fun x => { x with
        gen := some (S.newGen l (S.itemW (0x80000 + 0x6000 * (k % 64)) 17 l.val)), ref := false, held := r })) ∧
    (∀ (phases : Vector Nat 64) (cids : List Word16), S.pair.driven = true → S.pair.ons = [] →
      (S.now < t1 + 2 * (1000 * ptHbper S.pair.timing) → exec (.hostResume dt phases cids) s = .next S) ∧
      (t1 + 2 * (1000 * ptHbper S.pair.timing) ≤ S.now → ∀ (R : State × List Word16 × Nat) (A : State),
        R = (List.finRange 64).foldl (fun r q =>
          (r.1.resumeQueue q phases[q] (r.2.1.take ((r.1.queue q).doubts phases[q])), r.2.1.drop ((r.1.queue q).doubts phases[q]),
            r.2.2 + (r.1.queue q).doubts phases[q])) (S, cids, 0) →
        A = R.1.stageAny (R.1.fieldRecord 2) →
        exec (.hostResume dt phases cids) s = .next ((A.pairEvent 3 (BitVec.ofNat 64 (A.pair.cause + R.2.2 % 2 ^ 32 * 2 ^ 32))).modPair
          fun p => { p with t1 := none, firstPoll := true }))) ∧
    (∀ (q : QueueId) (phases : Nat) (cids : List Word16),
      ((S.queue q).st = .absent → S.resumeQueue q phases cids = S) ∧
      ((S.queue q).st ≠ .absent → ∀ (A : State) (k : Nat), k = ((A.queue q).f - (A.queue q).w).toNat →
        (A = S.modQueue q fun u => { u with w := u.w + BitVec.ofNat 32 (min phases (u.f - u.w).toNat), resync := u.profile.isSome }) →
        (k = 0 → S.resumeQueue q phases cids = A.drained q) ∧
        (k ≠ 0 → S.resumeQueue q phases cids = ((A.indoubt q cids k).signalQueue q).drained q)) ∧
      S.indoubt q cids 0 = S ∧
      ∀ (c : Word16) (k : Nat), S.indoubt q (c :: cids) (k + 1) = ((S.useFresh.modQueue q fun u => { u with w := u.w + 1 }).emit
        (.completion q (S.queue q).cqSlot {
          cid := c, status := .indoubt, aresync := false, rdrop := false, phase := !(S.queue q).w.getLsbD (S.queue q).cqlog,
          detail := (S.queue q).w, time := S.now, result := 0 })).indoubt q cids k))

/-- Barrier frames and the field watchdog (R20–R23, R26–R30, R124–R126, R129, R132, R173, R214, R311, R485, R643). A quadrant
gets one frame per µs, with SYNC, COUNT, ARMED and the level and eighth of each of its 32 channels, as they stand then, at fixed
places; a good one gives the die the levels and the arm state, ends the silence and carries one mailbox word, whose fourth part
brings a whole group into force; a bad one is counted and changes no output. The die's uplink frame reports the frame just
complete; a good one brings the inputs, the edges with their stamps, SENSE and DIAG, class and DIE_HOT, and up to two converter
codes; a bad one is counted and its results are lost. After the silence time the watchdog acts. Of the model's own choices it
rests on log entries 86 and 107. -/
def Obligations.BarrierFrames : Prop :=
  ∀ (dt : Nat) (s S : State) (q : QuadId), S = s.elapse dt → S.up = true →
    (∀ (err : BitVec 200) (r : Readings) (A B : State), S.pair.st = .single ∨ S.pair.st = .active ∨ S.pair.st = .releasing →
      ((S.quad q).frameSent = true → (S.quad q).frame = S.frameNo → exec (.downlinkFrame dt q err r) s = .next S) ∧
      ((S.quad q).frameSent = false ∨ (S.quad q).frame ≠ S.frameNo → A = S.coreFrame q r →
        ∀ got : BitVec 200, got = A.coreWord q ^^^ err →
        ((A.quad q).sync = false → B = A) →
        ((A.quad q).sync = true → fld got 198 2 = 2 → frameCrcOk got = true → B = A.goodFrame q got) →
        ((A.quad q).sync = true → fld got 198 2 ≠ 2 ∨ frameCrcOk got = false → B = A.modQuad q fun x => { x with
          crcDown := x.crcDown + 1, lostRun := x.lostRun + 1, lostFrame := some A.frameNo }) →
        exec (.downlinkFrame dt q err r) s = .next ((B.frameSent q).modQuad q fun x => { x with
          frame := B.frameNo, frameSent := true }))) ∧
    (∀ w : BitVec 200, w = S.coreWord q →
      fld w 198 2 = 2 ∧ fld w 193 5 = S.frameNo % 32 ∧ bit w 8 = (S.quad q).armed ∧
      ∀ c, quadOf c = q → bit w (68 + 4 * (localOf c).val) = S.level c ∧
        fld w (65 + 4 * (localOf c).val) 3 = S.outAt c / 125 % 8) ∧
    (∀ (w : BitVec 200) (out : ChanId → Nat) (A B C D : State), (∀ c, out c = fld w (65 + 4 * (localOf c).val) 4) →
      (A = (quadChans q).foldl (fun t c => t.modChan c fun x => { x with cmd := (out c).testBit 3 }) S) →
      (B = (A.modQuad q fun x => { x with
        dieArmed := bit w 8, lastGood := some (A.zero + A.frameStart + 1000), lostRun := 0 }).mailbox q) →
      (C = if (B.quad q).fwTrig then B.retrigger fun t => t.modQuad q fun x => { x with fwTrig := false } else B) →
      (D = C.setDrvs ((quadChans q).map fun c => (c, C.dieLevel c, A.outAt c / 1000 * 1000 + 125 * (out c % 8)))) →
      S.goodFrame q w = (quadChans q).foldl (fun t c => if (t.chan c).test = .ending
        then t.modChan c fun x => { x with test := .idle, testEnd := none } else t) D) ∧
    ((S.quad q).mbox = [] → S.mailbox q = S) ∧
    (∀ (w : MboxWord) (rest : List MboxWord) (A : State), (S.quad q).mbox = w :: rest →
      (A = S.modQuad q fun x => { x with mbox := rest, mboxDone := x.mboxDone + 1 }) →
      (∀ c part, w = .chanGroup c part → S.mailbox q = if part = 3 then A.takeChan c else A) ∧
      (∀ c part, w = .protGroup c part → S.mailbox q = if part = 3 then A.takeProt c else A)) ∧
    (∀ (c : ChanId) (w : Word64), (S.chan c).chwNew = some w → ∀ (x : Chan) (A : State), x = S.chan c → A = S.takeChan c →
      (A.chan c).chw = w ∧ (A.chan c).chwNew = none ∧ (A.chan c).grpAt = S.frameStart ∧
      (A.chan c).inTake = (if chMode w = chMode x.chw then x.inTake else some S.frameNo) ∧
      (chMode w = chMode x.chw ∧ chItype w = chItype x.chw ∧ chEdgeMode w = chEdgeMode x.chw ∧ chDebounce w = chDebounce x.chw →
        (A.chan c).lockUntil = x.lockUntil ∧ (A.chan c).filtAt = x.filtAt) ∧
      (chMode w ≠ chMode x.chw ∨ chItype w ≠ chItype x.chw ∨ chEdgeMode w ≠ chEdgeMode x.chw ∨ chDebounce w ≠ chDebounce x.chw →
        (A.chan c).lockUntil = none ∧ (A.chan c).filtAt = S.frameStart) ∧
      (chIsOutput x.chw = true → chIsOutput w = false → (A.chan c).ref = false ∧ (A.chan c).gen = none ∧
        (A.chan c).held = false ∧ (A.chan c).test = .idle) ∧
      (chIsOutput x.chw = false ∨ chIsOutput w = true → (A.chan c).ref = x.ref ∧ (A.chan c).gen = x.gen ∧
        (A.chan c).held = x.held ∧ (A.chan c).test = x.test)) ∧
    (∀ (c : ChanId) (w : Word64), (S.chan c).protNew = some w → ∀ A : State,
      (A = (S.modChan c fun x => { x with protw := w, protNew := none, grpAt := S.frameStart }).noteRange S c) →
      (A.lead c = c → prRlim w ≠ 0 → prRlim w ≤ (S.chan c).retry → (S.chan c).latch = false → S.takeProt c = A.latchUnit c) ∧
      (A.lead c ≠ c ∨ prRlim w = 0 ∨ (S.chan c).retry < prRlim w ∨ (S.chan c).latch = true → S.takeProt c = A)) ∧
    (S.linked q = true → S.sendsFrames = true → 1 ≤ S.frameNo → ∀ (u : UpSamples) (err : BitVec 200) (f : Nat), f = S.frameNo - 1 →
      ((S.quad q).upFrame = some f → exec (.uplinkFrame dt q ⟨u, err⟩) s = .next S) ∧
      ((S.quad q).upFrame ≠ some f → ∀ (A : State) (got : BitVec 200), got = A.dieWord q u f ^^^ err →
        (A = (quadChans q).foldl (fun t c => t.firstSample c (bit u.pins (localOf c).val) f)
          (S.modQuad q fun x => { x with upFrame := some f })) →
        (fld got 198 2 ≠ 2 ∨ frameCrcOk got = false → exec (.uplinkFrame dt q ⟨u, err⟩) s = .next ((A.modQuad q fun x => { x with
          crcUp := x.crcUp + 1, lostFrom := some (x.lostFrom.getD (1000 * f)) }).loseFrame q (1000 * f + 1000))) ∧
        (fld got 198 2 = 2 → frameCrcOk got = true → exec (.uplinkFrame dt q ⟨u, err⟩) s = .next (A.goodUplink q got)))) ∧
    (∀ (w : BitVec 200) (f : Nat) (c : ChanId) (A B D E F : State), f = S.uplinkNo (fld w 193 5) → c.val = 32 * q.val + f % 32 →
      (A = S.modQuad q fun x => { x with lostFrom := none, statusMiss := false, mboxAcked := x.mboxDone }) →
      B = (List.finRange 32).foldl (fun t i => t.inputField (chanAt q i) (fld w (65 + 4 * i.val) 4) f (S.quad q).lostFrom) A →
      D = B.senseField c (w.extractLsb' 15 12) (w.extractLsb' 11 4) f →
      E = D.results q f [if bit w 28 then some (fld w 47 18) else none, if bit w 27 then some (fld w 29 18) else none] →
      F = E.reportDie q (LClass.ofCode (fld w 9 2)) (bit w 8) →
      S.goodUplink q w = (F.archField q c f).configStep 0) ∧
    (∀ (c : ChanId) (v f : Nat) (lost : Option Nat) (A : State),
      (A = S.modChan c fun x => { x with inSt := v.testBit 3, inAt := 1000 * f + 125 * (v % 8) }) →
      chIsInput (S.chwOf c) = true → chIsOutput (S.chwOf c) = false → (S.chan c).inTake = none →
        ((S.chan c).inSt = v.testBit 3 → S.inputField c v f lost = S) ∧
        ((S.chan c).inSt ≠ v.testBit 3 → S.inputField c v f lost = if (chEdgerep (S.chwOf c)).testBit (if v.testBit 3 then 0 else 1)
          then A.edgeRecord c (v.testBit 3) f (v % 8) lost else A)) ∧
    (∀ (c : ChanId) (v f f0 : Nat) (lost : Option Nat), chIsInput (S.chwOf c) = true → (S.chan c).inTake = some f0 → f < f0 →
      S.inputField c v f lost = S) ∧
    (∀ t, (S.quad q).lastGood = some t → S.powered q = true → (S.quad q).fwTrig = false → (S.quad q).released = false →
      (S.clock < t + (S.quad q).silence * 1000 → exec (.fieldWatchdogExpiry dt q) s = .next S) ∧
      (t + (S.quad q).silence * 1000 ≤ S.clock → exec (.fieldWatchdogExpiry dt q) s =
        .next ((S.retrigger fun s => s.modQuad q fun x => { x with fwTrig := true, released := s.inPair }).driveSelf
          fun c => quadOf c == q))) ∧
    ((S.quad q).lastGood = none → exec (.fieldWatchdogExpiry dt q) s = .next S)

/-- Inputs (R25, R28, R125, R128–R134, R446, R485). A new state is accepted after a run of DEBOUNCE since the last acceptance or
start of the filter, or in EDGE mode at its first sample outside a lockout, and a differing one at the lockout's end; the run is
an operand of the command. Its report is stamped DEBOUNCE before its eighth of the frame in STABLE mode, at the start of the
earliest lost frame after lost ones; INPUT_EDGE carries the observer's angle, or marks it as not valid, and the edges dropped
before it. WIRE_BREAK is raised below 0.25 mA and cleared from 0.35 mA on, each after 10 ms, on an input with WBEN, not in UNDER
or OVER nor for 10 ms after them. -/
def Obligations.Inputs : Prop :=
  (∀ (dt : Nat) (s S : State) (c : ChanId) (w : Word64) (q : QuadId) (t d : Nat), S = s.elapse dt → w = S.chwOf c → q = quadOf c →
    t = S.dieNow / 125 * 125 → d = chDebounce w * 1000 → S.powered q = true → chIsInput w = true →
    (∀ (level : Bool) (run : Nat) (x y : Chan) (due : Prop), x = S.chan c →
      (due ↔ d = 0 ∨ (chEdgeMode w = true ∧ ∀ u, x.lockUntil = some u → u ≤ t) ∨
        (chEdgeMode w = false ∧ d ≤ run ∧ x.filtAt + run ≤ t)) →
      y.acc = level → y.accAt = t → y.accLock = false → y.filtAt = t →
      (y.lockUntil = if chEdgeMode w = true ∧ d ≠ 0 then some (t + d) else none) →
      (t / 1000 = x.accAt / 1000 → y.accWas = x.accWas ∧ y.accWasAt = x.accWasAt) →
      (t / 1000 ≠ x.accAt / 1000 → y.accWas = x.acc ∧ y.accWasAt = x.accAt) →
      (y = { x with
        acc := y.acc, accAt := y.accAt, accLock := y.accLock, filtAt := y.filtAt, lockUntil := y.lockUntil,
        accWas := y.accWas, accWasAt := y.accWasAt }) →
      (due → x.acc ≠ level ∨ x.inTake ≠ none → exec (.inputAccept dt c ⟨level, run⟩) s = .next (S.modChan c fun _ => y)) ∧
      (¬ due ∨ (x.acc = level ∧ x.inTake = none) → exec (.inputAccept dt c ⟨level, run⟩) s = .next S)) ∧
    (∀ (sample : Bool) (u : Nat), chEdgeMode w = true → (S.chan c).lockUntil = some u →
      (t < u → exec (.edgeLockoutEnd dt c sample) s = .next S) ∧
      (u ≤ t → (S.chan c).acc = sample →
        exec (.edgeLockoutEnd dt c sample) s = .next (S.modChan c fun x => { x with lockUntil := none })) ∧
      (u ≤ t → (S.chan c).acc ≠ sample → exec (.edgeLockoutEnd dt c sample) s = .next (S.modChan c fun x =>
        x.accept sample true t (some (t + d))))) ∧
    (S.linked q = true → ∀ (ua run : Nat) (runs : Prop),
      (runs ↔ chWben w = true ∧ ((S.quad q).lclass = .normal ∨ (S.quad q).lclass = .low) ∧ (S.quad q).wbResume = 0 ∧
        10000000 ≤ run ∧ max (S.quad q).wbFrom (S.chan c).grpAt + run ≤ S.dieNow) →
      (runs → ua < 250 → bit (S.chan c).standing 0xA = false → exec (.wireBreak dt ⟨c, ua, run⟩) s = .next (S.raiseDiag c 0xA)) ∧
      (¬ runs ∨ 250 ≤ ua ∨ bit (S.chan c).standing 0xA = true → exec (.wireBreak dt ⟨c, ua, run⟩) s = .next S) ∧
      (runs → 350 ≤ ua → exec (.wireBreakClear dt ⟨c, ua, run⟩) s = .next (S.clearDiag c 0xA)) ∧
      (¬ runs ∨ ua < 350 → exec (.wireBreakClear dt ⟨c, ua, run⟩) s = .next S))) ∧
  (∀ (dt : Nat) (s S : State) (q : QuadId), S = s.elapse dt → S.powered q = true →
    (S.quad q).lclass = .normal ∨ (S.quad q).lclass = .low → (S.quad q).wbResume ≠ 0 →
    (S.dieNow < (S.quad q).wbResume → exec (.wireBreakResume dt q) s = .next S) ∧
    ((S.quad q).wbResume ≤ S.dieNow → exec (.wireBreakResume dt q) s = .next (S.modQuad q fun x => { x with
      wbResume := 0, wbFrom := S.dieNow }))) ∧
  (∀ (S T : State) (c : ChanId) (level : Bool) (f eighth stamp : Nat) (lost : Option Nat) (w : Word64) (q : QuadId) (fl : Byte)
    (valid ok : Bool), w = S.chwOf c → q = quadOf c →
    (∀ t, lost = some t → stamp = t) →
    (lost = none → chIsInput w = true → chEdgeMode w = false → stamp = 1000 * f + 125 * eighth - 1000 * chDebounce w) →
    (lost = none → chIsInput w = false ∨ chEdgeMode w = true → stamp = 1000 * f + 125 * eighth) →
    (valid = true ↔ S.ang.stateAt stamp ≠ .idle ∧ S.ang.stateAt stamp ≠ .unreferenced) →
    (∀ i, bit fl i = true ↔ (i = 0 ∧ level = true) ∨ (i = 1 ∧ lost ≠ none) ∨
      (i = 2 ∧ chIsInput w = true ∧ chEdgeMode w = true ∧ (S.chan c).accLock = true) ∨ (i = 3 ∧ chIsOutput w = true) ∨
      (i = 4 ∧ valid = false)) →
    ∀ R : Record, R = .inputEdge c fl (S.quad q).inDrop stamp (if valid then angleWord (S.ang.thetaHat stamp) else 0)
      (if valid then revWord (S.ang.thetaHat stamp) else 0) →
    (S.route R = 0x40 → S.edgeRecord c level f eighth lost = S) ∧
    (S.route R ≠ 0x40 → (T, ok) = S.stage R →
      S.edgeRecord c level f eighth lost = T.modQuad q fun x => { x with inDrop := if ok then 0 else x.inDrop + 1 }))

/-- What an output reads back, open loads, and the L+ classes (R144–R149, R185, R187–R190, R201, R202, R204, R205, R210). At the
end of a settle time, and in each frame after it, an output that is on with a low land, without limit or inrush, is a
READBACK_MISMATCH, and an off one with a high land a SHORT_LPLUS; under a generator only the last frame of a phase is checked.
Each is cleared once the land has read right for a settle time. Open loads are raised and cleared after 10 ms of their
detection, above 4.0 V and at or below 3.0 V, below the threshold and at 1.25 times it. A quadrant's class follows the voltage
and its time, and brings its diagnostics; UNDER and OVER put its outputs off, and AUTO or LATCH rules their return. -/
def Obligations.Diagnostics : Prop :=
  ∀ (dt : Nat) (s S : State) (c : ChanId) (x : Chan) (k : QuadId), S = s.elapse dt → x = S.chan c → k = quadOf c →
    (S.linked k = true → S.isOutput c = true →
      (∀ (land : Bool) (t : Nat) (A : State), x.settle = some t →
        (S.dieNow < t → exec (.settleEnd dt c land) s = .next S) ∧
        (t ≤ S.dieNow →
          (x.drv = false ∨ x.test ≠ .idle → A = S) →
          (x.drv = true → x.test = .idle →
            A = (((S.modChan c fun x => { x with fault := false }).clearDiag c 1).clearDiag c 2).clearDiag c 3) →
          ∀ B : State, (B = A.modChan c fun x => { x with settle := none }) →
          exec (.settleEnd dt c land) s = .next (B.readFrame c land B.frameNo))) ∧
      (x.inSt = true → x.inAt + chSettle (S.chwOf c) * 1000 ≤ S.now →
        exec (.readbackMismatchClear dt c) s = .next (S.clearDiag c 9)) ∧
      (x.inSt = false ∨ S.now < x.inAt + chSettle (S.chwOf c) * 1000 → exec (.readbackMismatchClear dt c) s = .next S) ∧
      (x.inSt = false → x.inAt + chSettle (S.chwOf c) * 1000 ≤ S.now →
        exec (.shortLplusClear dt c) s = .next (S.clearDiag c 7)) ∧
      (x.inSt = true ∨ S.now < x.inAt + chSettle (S.chwOf c) * 1000 → exec (.shortLplusClear dt c) s = .next S) ∧
      (∀ ol : Prop, (ol ↔ (S.quad k).lclass = .normal ∧ (S.quad k).olResume = 0 ∧ ∀ t, x.settle = some t → t ≤ S.dieNow) →
        (∀ (off : Prop) (mv run : Nat), (off ↔ S.powered k = true ∧ ol ∧ prOloff (S.protOf c) = true ∧ x.drv = false ∧ x.test = .idle ∧
            S.fieldOff c = false ∧ S.genDrives c = none ∧ (S.quad k).released = false ∧
            ((S.quad k).fwTrig = true → S.inPair = false) ∧ ((S.quad k).dieArmed = true ∨ S.trigOn c = true) ∧
            10000000 ≤ run ∧ max (max (S.quad k).olFrom x.grpAt) (x.drvAt + chSettle (S.chwOf c) * 1000) + run ≤ S.dieNow) →
          (off → 4000 < mv → bit x.standing 5 = false → exec (.openOff dt ⟨c, mv, run⟩) s = .next (S.raiseDiag c 5)) ∧
          (¬ off ∨ mv ≤ 4000 ∨ bit x.standing 5 = true → exec (.openOff dt ⟨c, mv, run⟩) s = .next S) ∧
          (off → mv ≤ 3000 → exec (.openOffClear dt ⟨c, mv, run⟩) s = .next (S.clearDiag c 5)) ∧
          (¬ off ∨ 3000 < mv → exec (.openOffClear dt ⟨c, mv, run⟩) s = .next S)) ∧
        (∀ (on : Prop) (ua run th from_ : Nat),
          from_ = max (max (S.quad k).olFrom x.grpAt) (max (x.drvAt + chSettle (S.chwOf c) * 1000)
            (max (x.inrTo.getD 0) (x.limTo.getD 0))) →
          (on ↔ ol ∧ prOlon (S.protOf c) = true ∧ x.drv = true ∧ x.test = .idle ∧ (x.inrush = none ∨ x.inrushCut = true) ∧
            x.inLimit = false ∧ 10000000 ≤ run ∧ run ≤ x.onAcc + (S.dieNow - from_)) →
          th = (if S.fineRange c then 20 * prOlthf (S.protOf c) else 200 * prOlthn (S.protOf c)) →
          (on → ua < th → bit x.standing 6 = false → exec (.openOn dt ⟨c, ua, run⟩) s = .next (S.raiseDiag c 6)) ∧
          (¬ on ∨ th ≤ ua ∨ bit x.standing 6 = true → exec (.openOn dt ⟨c, ua, run⟩) s = .next S) ∧
          (on → 5 * th ≤ 4 * ua → exec (.openOnClear dt ⟨c, ua, run⟩) s = .next (S.clearDiag c 6)) ∧
          (¬ on ∨ 4 * ua < 5 * th → exec (.openOnClear dt ⟨c, ua, run⟩) s = .next S)))) ∧
    (∀ (land : Bool) (f : Nat) (due : Prop) (B : State),
      (due ↔ x.settle = none ∧ (S.genDrives c = none ∨ x.checkDue = true) ∧
        ∀ g, S.genDrives c = some g → g.phaseLeft (S.budOf c) (1000 * f + 999) ≤ 1000) →
      (x.reverse = true ∨ x.test ≠ .idle → B = S) →
      (x.reverse = false → x.test = .idle → x.drv = true → B = if land = false ∧ x.inLimit = false ∧
        (x.inrush = none ∨ x.inrushCut = true) ∧ bit x.standing 9 = false then S.raiseDiag c 9 else S) →
      (x.reverse = false → x.test = .idle → x.drv = false →
        B = if land = true ∧ bit x.standing 7 = false then S.raiseDiag c 7 else S) →
      (due → S.readFrame c land f = B.modChan c fun x => { x with checkDue := false }) ∧
      (¬ due → S.readFrame c land f = S)) ∧
    (∀ (q : QuadId) (y : Quad), y = S.quad q → S.powered q = true →
      (y.lclass = .normal → y.olResume ≠ 0 →
        (S.dieNow < y.olResume → exec (.openLoadResume dt q) s = .next S) ∧
        (y.olResume ≤ S.dieNow → exec (.openLoadResume dt q) s = .next (S.modQuad q fun x => { x with
          olResume := 0, olFrom := S.dieNow }))) ∧
      (∀ (mv run : Nat) (stays : Prop), (stays ↔ y.classAt + run ≤ S.dieNow) →
        (y.lclass = .normal ∧ mv < 19200 ∧ 100000 ≤ run ∧ stays → exec (.lplusLow dt ⟨q, mv, run⟩) s = .next (S.enterClass q .low)) ∧
        (y.lclass ≠ .normal ∨ 19200 ≤ mv ∨ run < 100000 ∨ ¬ stays → exec (.lplusLow dt ⟨q, mv, run⟩) s = .next S) ∧
        (y.lclass = .low ∧ 19600 ≤ mv ∧ 10000000 ≤ run → exec (.lplusNormal dt ⟨q, mv, run⟩) s = .next (S.enterClass q .normal)) ∧
        (y.lclass ≠ .low ∨ mv < 19600 ∨ run < 10000000 → exec (.lplusNormal dt ⟨q, mv, run⟩) s = .next S) ∧
        (y.lclass ≠ .under ∧ mv < 16000 ∧ 1000000 ≤ run →
          exec (.lplusUnder dt ⟨q, mv, run⟩) s = .next ((S.quadOff q).enterClass q .under)) ∧
        (y.lclass = .under ∨ 16000 ≤ mv ∨ run < 1000000 → exec (.lplusUnder dt ⟨q, mv, run⟩) s = .next S) ∧
        (y.lclass ≠ .over ∧ 35000 < mv ∧ 10000 ≤ run →
          exec (.lplusOver dt ⟨q, mv, run⟩) s = .next ((S.quadOff q).enterClass q .over)) ∧
        (y.lclass = .over ∨ mv ≤ 35000 ∨ run < 10000 → exec (.lplusOver dt ⟨q, mv, run⟩) s = .next S) ∧
        (∀ (full : Nat) (A B : State), A = S.enterClass q (if 10000000 ≤ full then .normal else .low) →
          (A.linked q = false → B = A) →
          (A.linked q = true → B = if (A.quad q).supLatchPol then A.modQuad q fun x => { x with supLatch := true }
            else A.supplyReturn q) →
          (y.lclass = .under ∧ 16500 < mv ∧ 10000000 ≤ run ∧ full ≤ run ∧ stays →
            exec (.lplusUnderExit dt ⟨q, mv, run⟩ full) s = .next B) ∧
          (y.lclass ≠ .under ∨ mv ≤ 16500 ∨ run < 10000000 ∨ run < full ∨ ¬ stays →
            exec (.lplusUnderExit dt ⟨q, mv, run⟩ full) s = .next S) ∧
          (y.lclass = .over ∧ mv ≤ 34000 ∧ 10000000 ≤ run ∧ full ≤ run ∧ stays →
            exec (.lplusOverExit dt ⟨q, mv, run⟩ full) s = .next B) ∧
          (y.lclass ≠ .over ∨ 34000 < mv ∨ run < 10000000 ∨ run < full ∨ ¬ stays →
            exec (.lplusOverExit dt ⟨q, mv, run⟩ full) s = .next S)))) ∧
    (∀ (q : QuadId) (j : LClass) (M : State),
      (M = (quadChans q).foldl (fun t d => t.modChan d fun x => { x with onAcc := 0 }) (S.modQuad q fun x => { x with
        lclass := j, classAt := S.dieNow, olResume := if j = .normal then S.dieNow + 10000000 else x.olResume,
        wbResume := if (S.quad q).lclass = .under ∨ (S.quad q).lclass = .over then S.dieNow + 10000000 else x.wbResume })) →
      S.enterClass q j = if M.linked q then M.reportClass q j else M) ∧
    (∀ q : QuadId, S.reportClass q .normal = ((S.clearQuadDiag q 0xD).clearQuadDiag q 0xE).clearQuadDiag q 0xC ∧
      S.reportClass q .low = ((S.clearQuadDiag q 0xD).clearQuadDiag q 0xE).raiseQuadDiag q 0xC ∧
      S.reportClass q .under = ((S.clearQuadDiag q 0xE).raiseQuadDiag q 0xC).raiseQuadDiag q 0xD ∧
      S.reportClass q .over = ((S.clearQuadDiag q 0xD).clearQuadDiag q 0xC).raiseQuadDiag q 0xE) ∧
    (∀ q : QuadId, S.quadOff q = (S.leads q).foldl (fun t l => t.dropUnit l) S) ∧
    S.dropUnit c = (S.members c).foldl (fun t m => (t.setDrv m false S.dieNow).modChan m fun x => { x with
      test := .idle, testEnd := none }) S

/-- Protection (R151–R153, R158, R174–R177, R179–R181, R185, R192, R193, R195–R197, R199, R206, R226). 100 µs in limit outside
an inrush window, OVTIME at 0.75 A, a gang's sum at 1.5 A, 170 °C at a slice and 150 °C at the die each put the unit off; so
does a land more than 1.0 V over L+ for 10 µs in NORMAL or LOW. Of two causes in one eighth the first of R177 is reported. A
switch-off of a unit that was on is a thermal event: it is counted, and at RLIM or under LATCH the latch is set and reported.
The counter returns to 0 after RWIN without an event. Of the model's own choices it rests on log entry 57. -/
def Obligations.Protection : Prop :=
  ∀ (dt : Nat) (s S : State) (c l : ChanId) (q : QuadId), S = s.elapse dt → l = S.lead c → q = quadOf c → S.powered q = true →
    (∀ (ma n : Nat) (window band : Prop), n = (S.members c).length → (window ↔ ∃ m ∈ S.members c, (S.chan m).windowOn = true) →
      (band ↔ (window ∧ 2080 * n ≤ ma ∧ ma ≤ 3120 * n) ∨ (¬ window ∧ 960 * n ≤ ma ∧ ma ≤ 1440 * n)) →
      ((S.chan c).drv = true → (S.chan c).inLimit = false → band → exec (.currentLimit dt ⟨c, ma⟩) s = .next ((S.members c).foldl
        (fun t m => t.modChan m fun x => { x with inLimit := true, limFrom := S.dieNow, limitSince := S.dieNow }) S)) ∧
      ((S.chan c).drv = false ∨ (S.chan c).inLimit = true ∨ ¬ band → exec (.currentLimit dt ⟨c, ma⟩) s = .next S)) ∧
    ((S.chan c).inLimit = true → exec (.currentLimitExit dt c) s = .next ((S.members c).foldl (fun t m => t.modChan m fun x =>
      { x with inLimit := false, limTo := some S.dieNow, ovFrom := S.dieNow }) S)) ∧
    ((S.chan c).inLimit = false → exec (.currentLimitExit dt c) s = .next S) ∧
    (∀ limited window short : Prop, (limited ↔ ∃ m ∈ S.members l, (S.chan m).inLimit = true) →
      (window ↔ ∃ m ∈ S.members l, (S.chan m).inrush ≠ none) →
      (short ↔ limited ∧ ¬ window ∧ (S.chan l).limitSince + 100000 ≤ S.dieNow) →
      (short → exec (.shortLimit dt c) s = .next (S.protectOff l .short true (some (l, 2)))) ∧
      (¬ short → exec (.shortLimit dt c) s = .next S) ∧
      (∀ (ma run : Nat) (over_ : Prop), (over_ ↔ (S.chan l).drv = true ∧ ¬ limited ∧ ¬ window ∧
          750 * (S.members l).length ≤ ma ∧ prOvtime (S.protOf l) * 10000000 ≤ run ∧ (S.chan l).ovFrom + run ≤ S.dieNow) →
        (over_ → exec (.overload dt ⟨c, ma, run⟩) s = .next (S.protectOff l .overload true (some (l, 1)))) ∧
        (¬ over_ → exec (.overload dt ⟨c, ma, run⟩) s = .next S)) ∧
      (∀ (temp : Int) (A : State), (A = S.modChan c fun x => { x with sliceHot := true }) →
        (temp < 170 → exec (.thermOff dt ⟨c, temp⟩) s = .next S) ∧
        (170 ≤ temp → A.isOutput c = false → exec (.thermOff dt ⟨c, temp⟩) s = .next A) ∧
        (170 ≤ temp → A.isOutput c = true → short →
          exec (.thermOff dt ⟨c, temp⟩) s = .next (A.protectOff l .short true (some (l, 2)))) ∧
        (170 ≤ temp → A.isOutput c = true → ¬ short →
          exec (.thermOff dt ⟨c, temp⟩) s = .next (A.protectOff c .therm false (some (c, 3)))))) ∧
    (∀ (temp : Int) (A : State),
      (A = ((S.leads q).foldl (fun t l => if (t.chan l).drv then t.protectOff l .dieHot false none else t) S).modQuad q
        fun x => { x with hot := true }) →
      ((S.quad q).hot = false → 150 ≤ temp →
        exec (.dieHot dt ⟨q, temp⟩) s = .next (if A.linked q then A.raiseQuadDiag q 0xF else A)) ∧
      ((S.quad q).hot = true ∨ temp < 150 → exec (.dieHot dt ⟨q, temp⟩) s = .next S)) ∧
    (∀ (temp : Int) (A B : State), (A = S.modQuad q fun x => { x with hot := false }) → B = A.clearQuadDiag q 0xF →
      ((S.quad q).hot = true → temp ≤ 135 → exec (.dieHotClear dt ⟨q, temp⟩) s = .next (if A.linked q then
        (B.leads q).foldl (fun t l => if (t.chan l).gen = none ∨ t.heldOff l = true then t else t.comeBack l false) B
          else A)) ∧
      ((S.quad q).hot = false ∨ 135 < temp → exec (.dieHotClear dt ⟨q, temp⟩) s = .next S)) ∧
    (∀ t, (S.chan c).inrush = some t →
      (S.dieNow < t → exec (.inrushWindowEnd dt c) s = .next S) ∧
      (t ≤ S.dieNow → exec (.inrushWindowEnd dt c) s = .next ((S.members c).foldl (fun u m => u.modChan m fun x => { x with
        inrush := none, inrushCut := false, inrTo := if x.windowOn then some S.dieNow else x.inrTo,
        limitSince := S.dieNow, ovFrom := S.dieNow }) S))) ∧
    (∀ (above : Int) (run : Nat) (A : State),
      (A = (S.dropUnit c).modChan c fun x => { x with reverse := true, revAt := S.dieNow }) →
      ((S.chan c).reverse = false → (S.quad q).lclass = .normal ∨ (S.quad q).lclass = .low → 1000 < above → 10000 ≤ run →
        exec (.reverse dt ⟨c, above, run⟩) s = .next (if A.linked q then A.raiseDiag c 8 else A)) ∧
      ((S.chan c).reverse = true ∨ (S.quad q).lclass = .under ∨ (S.quad q).lclass = .over ∨ above ≤ 1000 ∨ run < 10000 →
        exec (.reverse dt ⟨c, above, run⟩) s = .next S)) ∧
    (∀ (above : Int) (run : Nat) (held : Prop) (A B : State), (A = S.modChan c fun x => { x with reverse := false }) →
      B = A.clearDiag c 8 →
      (held ↔ above ≤ 500 ∧ chSettle (S.chwOf c) * 1000 ≤ run ∧ (S.chan c).revAt + run ≤ S.dieNow) →
      ((S.chan c).reverse = true → (S.quad q).lclass = .normal ∨ (S.quad q).lclass = .low → held →
        exec (.reverseClear dt ⟨c, above, run⟩) s = .next (if A.linked q then
          (if B.heldOff (B.lead c) then B else B.comeBack (B.lead c) false) else A)) ∧
      ((S.chan c).reverse = false ∨ (S.quad q).lclass = .under ∨ (S.quad q).lclass = .over ∨ ¬ held →
        exec (.reverseClear dt ⟨c, above, run⟩) s = .next S)) ∧
    (S.up = true →
      ((S.chan l).retry ≠ 0 → (S.chan l).lastThermal + prRwin (S.protOf c) * 1000000000 ≤ S.dieNow →
        exec (.retryWindowExpiry dt c) s = .next (S.modChan l fun x => { x with retry := 0 })) ∧
      ((S.chan l).retry = 0 ∨ S.dieNow < (S.chan l).lastThermal + prRwin (S.protOf c) * 1000000000 →
        exec (.retryWindowExpiry dt c) s = .next S)) ∧
    (∀ (cause : OffCause) (cool : Bool) (diag : Option (ChanId × Nat)) (refOn driven second : Bool) (x : Chan) (E F : State),
      x = S.chan l → (refOn = true ↔ x.drv = true ∧ x.test = .idle) →
      (driven = true ↔ ∃ m ∈ S.members c, (S.chan m).drv = true) →
      (second = true ↔ driven = false ∧ x.cause.order ≠ 0 ∧ cause.order ≠ 0 ∧ x.causeAt = S.dieNow / 125) →
      (E = (S.members c).foldl (fun t m => t.modChan m fun x => { x with
        cause := if refOn || second then cause else x.cause, causeAt := if refOn || second then S.dieNow / 125 else x.causeAt,
        fault := x.fault || driven,
        coolUntil := max x.coolUntil (if cool then S.dieNow + prTcool (S.protOf c) * 1000000 else 0) }) (S.dropUnit c)) →
      F = (if second then E.unreport l x.cause.code else E) →
      (second = true → cause.order ≤ x.cause.order → S.protectOff c cause cool diag = S) ∧
      (second = false ∨ x.cause.order < cause.order → S.protectOff c cause cool diag = F.offReport l refOn diag)) ∧
    (∀ (diag : Option (ChanId × Nat)) (A B : State) (hit : Bool),
      (hit = true ↔ prLatch (S.protOf l) = true ∨ (prRlim (S.protOf l) ≠ 0 ∧ prRlim (S.protOf l) ≤ (S.chan l).retry + 1)) →
      (A = S.modChan l fun x => { x with retry := x.retry + 1, lastThermal := S.dieNow }) →
      (diag = none → B = A) → (∀ d, diag = some d → B = if A.linked (quadOf l) then A.raiseDiag d.1 d.2 else A) →
      S.offReport l true diag = if hit = true ∧ (S.chan l).latch = false then B.latchUnit l else B) ∧
    (∀ d : ChanId × Nat, S.offReport l false none = S ∧
      S.offReport l false (some d) = if S.linked (quadOf l) then S.raiseDiag d.1 d.2 else S)

/-- Buttress and what runs in time (R42, R43, R191, R197, R206, R219, R224, R225, R230, R241–R245, R252, R387). In each frame
the requests are tested in the order of R42; one that fails no test of R241 is granted, a hard one is fired over budget or not,
another waits, and from D_max on DPOL refuses it or admits it, with OVERBUDGET. A test pulse starts where one is due, in
rotation, none runs in the quadrant and 10 % of headroom are left, and ends 200 µs after the driver switched on. A generator's
edge follows its phase, with the change that is due; between its old period and its new grid it is off. Of the model's own
choices it rests on log entries 18, 39, 54, 55, 58, 61. -/
def Obligations.Buttress : Prop :=
  ∀ (dt : Nat) (s S H : State) (q : QuadId), S = s.elapse dt → S.up = true → S.pair.st = .single ∨ S.pair.st = .active →
    (H = { S with reqs := S.reqs.map fun r => if quadOf r.chan = q ∧ S.readyReq r = false ∧ r.tested = none
      then { r with frame := S.frameNo } else r }) →
    ((S.quad q).statusMiss = true → exec (.switchOnAdmit dt q) s = .next S ∧
      ∀ c, quadOf (S.lead c) = q → exec (.deferralLimit dt c) s = .next S) ∧
    ((S.quad q).statusMiss = false → ∀ cand : Req → Prop,
      (∀ r, cand r ↔ r ∈ H.reqs ∧ quadOf r.chan = q ∧ H.readyReq r = true ∧ r.tested ≠ some H.frameNo) →
      ((∀ r, ¬ cand r) → exec (.switchOnAdmit dt q) s = .next H) ∧
      ((∃ r, cand r) → ∃ r, cand r ∧ (∀ x, cand x → x.before r = false) ∧
        (r.rank = 0 → exec (.switchOnAdmit dt q) s = .next (if H.testReq r = 0 then H.grant r false
          else (H.overBudget r 1 (H.testReq r)).grant r false)) ∧
        (r.rank ≠ 0 → H.testReq r = 0 → exec (.switchOnAdmit dt q) s = .next (H.grant r (r.frame < H.frameNo))) ∧
        (r.rank ≠ 0 → H.testReq r ≠ 0 → ∀ A : State, (A = { H with reqs := H.reqs.map fun x =>
            if x.seq = r.seq then { x with tested := some H.frameNo, failed := H.testReq r } else x }) →
          exec (.switchOnAdmit dt q) s = .next (if r.failed = 0 ∧ r.src ≠ .restart
            then A.modQuad q fun x => { x with deferred := x.deferred + 1 } else A)))) ∧
    (∀ a b : Req, a.before b = true ↔ a.rank < b.rank ∨ (a.rank = b.rank ∧ (a.frame < b.frame ∨ (a.frame = b.frame ∧
      (a.key < b.key ∨ (a.key = b.key ∧ a.chan.val < b.chan.val)))))) ∧
    (∀ r : Req, H.testReq r = 0 ↔ H.frozen (quadOf r.chan) = false ∧ (∀ m ∈ H.members r.chan, H.tj m < 150) ∧
      (r.opens H = true → H.windows (quadOf r.chan) < qbKinr (H.quad (quadOf r.chan)).qbudw) ∧
      H.standingCur false (quadOf r.chan) + (H.asks r).1 ≤ H.iEff (quadOf r.chan) ∧
      H.standingCond false (quadOf r.chan) + (H.asks r).2 ≤ H.pBud (quadOf r.chan) ∧ H.pPkg false + (H.asks r).2 ≤ H.pPKG) ∧
    (∀ (c l : ChanId) (r : Req) (l1 l2 : List Req) (w : Word64), l = S.lead c → quadOf l = q → (S.quad q).statusMiss = false →
      H.reqs = l1 ++ r :: l2 → r.chan = l → r.rank = 1 ∨ r.rank = 2 → (∀ x ∈ l1, x.chan ≠ l ∨ x.rank = 0 ∨ x.rank = 3) →
      w = (S.chan l).budw →
      (H.readyReq r = true → r.frame + 100 * buDmax w ≤ H.frameNo → H.testReq r ≠ 0 →
        (buRefuse w = true → exec (.deferralLimit dt c) s = .next (H.refuse r (H.testReq r))) ∧
        (buRefuse w = false → H.testReq r = 1 → exec (.deferralLimit dt c) s = .next H) ∧
        (buRefuse w = false → H.testReq r ≠ 1 → exec (.deferralLimit dt c) s =
          .next ((H.overBudget r 2 (H.testReq r)).grant r (r.frame < H.frameNo)))) ∧
      (H.readyReq r = false ∨ H.frameNo < r.frame + 100 * buDmax w ∨ H.testReq r = 0 →
        exec (.deferralLimit dt c) s = .next H)) ∧
    (∀ c : ChanId, quadOf (S.lead c) = q → (S.quad q).statusMiss = false →
      (∀ r ∈ H.reqs, r.chan ≠ S.lead c ∨ r.rank = 0 ∨ r.rank = 3) → exec (.deferralLimit dt c) s = .next H) ∧
    (∀ (c : ChanId) (k : Nat) (B : State), quadOf c = q → k = S.now →
      (B = S.modQuad q fun x => { x with
        testDelays := x.testDelays + if (S.chan c).testFrom + 1000000000 < k then 1 else 0 }) →
      (S.testDue c = true → (∀ d ∈ quadChans q, S.testDue d = true → (S.chan c).testKey ≤ (S.chan d).testKey) →
        (∀ d ∈ quadChans q, (S.chan d).test = .idle) → 1 / 10 ≤ S.headroom q (S.inom c) →
        exec (.testPulseStart dt c) s = .next ((B.members c).foldl (fun t m => t.modChan m fun x => { x with
          test := .running, testEnd := none, chgAt := k, testLast := some k }) B)) ∧
      (S.testDue c = false ∨ (∃ d ∈ quadChans q, S.testDue d = true ∧ (S.chan d).testKey < (S.chan c).testKey) ∨
          (∃ d ∈ quadChans q, (S.chan d).test ≠ .idle) ∨ S.headroom q (S.inom c) < 1 / 10 →
        exec (.testPulseStart dt c) s = .next S) ∧
      (∀ (rose roseOdd : Bool) (l : ChanId) (t : Nat) (see : State → ChanId → State), l = S.lead c → S.linked q = true →
        (∀ u m, see u m = if (if m = l then rose else roseOdd) then u.clearDiag m 9
          else if bit (u.chan m).standing 9 then u else u.raiseDiag m 9) →
        (S.chan l).test = .running → (S.chan l).testEnd = some t →
        (S.dieNow < t → exec (.testPulseEnd dt c (rose, roseOdd)) s = .next S) ∧
        (t ≤ S.dieNow → S.demand l = false ∨ S.fieldOff l = true → exec (.testPulseEnd dt c (rose, roseOdd)) s =
          .next ((S.members l).foldl (fun u m => (see u m).modChan m fun x => { x with
            test := .ending, testEnd := none, chgAt := k }) S)) ∧
        (t ≤ S.dieNow → S.demand l = true → S.fieldOff l = false → exec (.testPulseEnd dt c (rose, roseOdd)) s =
          .next ((S.members l).foldl (fun u m => (see u m).modChan m fun x => { x with
            test := .idle, testEnd := none, settle := some (k + chSettle (u.chwOf m) * 1000), checkDue := true, ovFrom := k }) S)))) ∧
    (∀ c : ChanId, ((S.chan c).gen = none → exec (.pulseEdge dt c) s = .next S) ∧
      (∀ (g h : Gen) (lvl : Bool) (x : Chan) (edge on : Nat) (over_ : Prop) (A : State), x = S.chan c → x.gen = some g →
        h = S.genNext c g → lvl = h.levelAt x.budw S.now → edge = h.lastEdge x.budw S.now → on = genOn (g.runs x.budw) →
        (over_ ↔ g.lvl = true ∧ (lvl = false ∨ on = genPeriod g.pulw) ∧ x.drv = true ∧ edge ≤ x.senseAt + on ∧
          x.senseAt < edge) →
        (over_ → A = S.modChan c fun x => { x with
          gen := some { h with lvl := lvl, measured := some (S.unitUa c) }, chgAt := if lvl = g.lvl then x.chgAt else edge - 1600 }) →
        (¬ over_ → A = S.modChan c fun x => { x with
          gen := some { h with lvl := lvl, measured := g.measured }, chgAt := if lvl = g.lvl then x.chgAt else edge - 1600 }) →
        exec (.pulseEdge dt c) s = .next (if lvl = g.lvl then A else A.pwmTrigger c lvl edge)) ∧
      ∀ g : Gen, (g.next = none → S.genNext c g = S.respreadGen c g) ∧
        ∀ (w : Word64) (e at_ : Nat), g.next = some (w, e) →
          (at_ = if genStartAnchored w then e else gridStart w (S.spreadPhase c w) e) →
          (at_ ≤ S.now → S.genNext c g = { g with
            pulw := w, start := at_, phase := S.spreadPhase c w, next := none, hold := 0, onUntil := 0 }) ∧
          (S.now < at_ → S.genNext c g = S.respreadGen c g) ∧ ∀ (b : Word64) (t : Nat), e ≤ t → g.levelAt b t = false)

/-- Safe levels and their triggers (R22, R26, R31, R106, R109, R110, R163–R170, R191, R197, R212–R216). The level that CORE asks
for is that of the first row of R212 that applies, with a test pulse over an off one; the die decides by its last good frame and
holds its drivers in a silence. The first trigger that acts on a channel stops its generator, withdraws its requests and takes
the level to hold; the last one to clear leaves an armed channel at its safe level. SAFE_N acts on every quadrant and clears 1 ms
after its last low, the watchdog as ACT says; a safe ON or PULSE comes at most two channels a frame. Of the model's own choices
it rests on log entries 95, 97 and 100. -/
def Obligations.SafeLevels : Prop :=
  ∀ (dt : Nat) (s S : State), S = s.elapse dt →
    (∀ (c l : ChanId) (q : QuadId) (x : Chan) (k : Quad) (off trig : Prop) (safe : Bool → Prop)
      (ranked : Bool → Bool → Bool → Prop),
      l = S.lead c → q = quadOf c → x = S.chan l → k = S.quad q →
      (off ↔ S.isOutput c = false ∨ (∃ m ∈ S.members c, (S.chan m).cause ≠ .none ∨ (S.chan m).reverse = true) ∨
        (x.latch = true ∧ x.drv = false) ∨ k.hot = true ∨ k.lclass = .under ∨ k.lclass = .over ∨ k.supLatch = true ∨
        S.waitsRestart l = true ∨ l ∈ S.pair.ons) →
      (trig ↔ S.safeN = true ∨ k.hwTrig = true ∨ k.disTrig = true ∨ k.fwTrig = true ∨
        (S.encSafe = true ∧ S.courseOwned c = true ∧ x.encOut = false)) →
      (∀ armed own lvl, ranked armed own lvl ↔
        (k.released = true ∨ (k.fwTrig = true ∧ S.inPair = true) → lvl = false) ∧
        (k.released = false → ¬ (k.fwTrig = true ∧ S.inPair = true) →
          (trig ∨ (armed = true ∧ x.safeOn = true) → safe lvl) ∧
          (¬ trig → armed = false ∨ x.safeOn = false → lvl = (armed && own)))) →
      (∀ lvl, safe lvl ↔ (x.safe = .off → lvl = false) ∧ (x.safe = .on → lvl = x.safeGate) ∧
        (x.safe = .hold → lvl = (x.held && (k.armed || k.dieArmed || x.drv))) ∧
        (∀ t, x.safe = .pulse → x.safeStart = some t →
          lvl = (x.safeGate && safeTrain x.safePer x.safeDuty (localOf l).val t S.clock)) ∧
        (x.safe = .pulse → x.safeStart = none → lvl = false)) →
      (off → S.level c = false ∧ S.dieLevel c = false) ∧
      (¬ off → ∃ d : Bool, S.level c = (d || decide ((S.chan c).test = .running)) ∧
        (∀ g, x.gen = some g → ranked k.armed g.lvl d) ∧ (x.gen = none → ranked k.armed x.ref d)) ∧
      (¬ off → S.holding q = true → S.dieLevel c = (S.chan c).drv) ∧
      (¬ off → S.holding q = false → ranked k.dieArmed (S.chan c).cmd (S.dieLevel c)) ∧
      (S.holding q = true ↔ S.safeN = false ∧ k.fwTrig = false ∧ k.released = false ∧
        ∃ t, k.lastGood = some t ∧ t + 1000 < S.clock)) ∧
    (∀ (c : ChanId) (U V : State), U = (if S.lead c = c then S.withdraw c else S) →
      ((U.chan c).safeNew = none ∨ U.staleChan c = true → V = U) →
      (U.staleChan c = false → ∀ k per duty, (U.chan c).safeNew = some (k, per, duty) →
        V = U.modChan c fun x => { x with safe := k, safePer := per, safeDuty := duty, safeNew := none }) →
      ∀ on : Bool, (on = true ↔ (V.chan c).safe = .on ∧ (V.chan c).drv = true ∧ (V.chan c).test = .idle) →
      S.takeSafe c = V.modChan c fun x => { x with
        gen := none, ref := false, chgAt := V.now, held := x.drv && decide (x.test = .idle), safeOn := true,
        test := if x.test = .idle then .idle else .ending, testEnd := none,
        safeStart := if on then some V.clock else none, safeGate := on, safeEdged := on }) ∧
    (∀ c : ChanId, ((S.quad (quadOf c)).armed = true → S.leaveSafe c = S) ∧
      ((S.quad (quadOf c)).armed = false → S.leaveSafe c = S.modChan c fun x => { x with
        safeOn := false, safeStart := none, safeGate := false })) ∧
    (∀ A : State, (A = { S with safeNAt := S.clock }) →
      (S.safeN = false → exec (.safeNLow dt) s = .next ((A.retrigger fun t => { t with safeN := true }).driveSelf fun _ => true)) ∧
      (S.safeN = true → exec (.safeNLow dt) s = .next A)) ∧
    (S.safeN = true → S.safeNAt + 1000000 ≤ S.clock → exec (.safeNClear dt) s =
      .next ((S.retrigger fun t => { t with safeN := false }).driveSelf fun _ => true)) ∧
    (S.safeN = false ∨ S.clock < S.safeNAt + 1000000 → exec (.safeNClear dt) s = .next S) ∧
    (∀ c l : ChanId, l = S.lead c → S.powered (quadOf c) = true →
      ((S.chan l).safe = .pulse → (S.chan l).safeGate = true →
        exec (.safePulseEdge dt c) s = .next (S.driveSelf fun m => (S.members l).contains m)) ∧
      ((S.chan l).safe ≠ .pulse ∨ (S.chan l).safeGate = false → exec (.safePulseEdge dt c) s = .next S)) ∧
    (∀ (q : QuadId) (l : ChanId), l ∈ S.safeWaits q ↔ l ∈ S.leads q ∧ S.safeUnder l (S.quad q).dieArmed = true ∧
      ((S.chan l).safe = .on ∨ (S.chan l).safe = .pulse) ∧ (S.chan l).safeGate = false ∧ S.fieldOff l = false ∧
      S.coolEnough l = true ∧ S.holding q = false ∧ (S.quad q).released = false ∧
      ((S.quad q).fwTrig = true → S.inPair = false)) ∧
    (∀ (q : QuadId) (f : Nat) (go : List ChanId) (A : State), S.powered q = true → f = S.dieNow / 1000 →
      ((S.quad q).safeFrame = some f → exec (.safeSwitchOn dt q) s = .next S) ∧
      ((S.quad q).safeFrame ≠ some f → (S.safeWaits q = [] → go = []) → (∀ a, S.safeWaits q = [a] → go = [a]) →
        (∀ a b r, S.safeWaits q = a :: b :: r → go = if S.ganged a = true ∨ S.ganged b = true then [a] else [a, b]) →
        A = go.foldl (fun t l => t.modChan l fun x => { x with
          safeGate := true, safeStart := some (x.safeStart.getD S.clock) }) S →
        ∀ B : State, B = (if go = [] then A else A.modQuad q fun x => { x with safeFrame := some f }) →
        exec (.safeSwitchOn dt q) s = .next (B.driveSelf fun c => (go.flatMap B.members).contains c))) ∧
    (S.up = true → S.pair.st = .single ∨ S.pair.st = .active → S.host.wdPeriod ≠ 0 → S.host.wdFired = false →
      (S.now < S.host.wdLast + S.host.wdNs → exec (.hostWatchdogExpiry dt) s = .next S) ∧
      (S.host.wdLast + S.host.wdNs ≤ S.now → ∀ (act : QuadId → Nat) (A B : State), (∀ q, act q = fld S.host.wdAct (2 * q.val) 2) →
        A = ((S.modHost fun h => { h with wdExpired := true, wdFired := true }).noteSet 12).raiseCause 0 →
        (B = (List.finRange 4).foldl (fun t q => if act q = 0 then t else if act q = 2 then t.disarmQuad q
          else t.retrigger fun u => u.modQuad q fun x => { x with hwTrig := true }) A) →
        exec (.hostWatchdogExpiry dt) s = .next (if ∃ q, act q = 2 then B.configured none else B)))
end

