-- ==== Sys2Proof/Laws/State.lean ====
section
/-!
SUPPORT. What each update of one part of the state leaves in every field: true by definition, so that no proof unfolds a
record update.
-/
namespace Sys2Proof.Machine
open Sys2Proof

@[simp] theorem State.modChan_pending (s : State) (c : ChanId) (f : Chan → Chan) : (s.modChan c f).pending = s.pending := rfl
@[simp] theorem State.modChan_clock (s : State) (c : ChanId) (f : Chan → Chan) : (s.modChan c f).clock = s.clock := rfl
@[simp] theorem State.modChan_zero (s : State) (c : ChanId) (f : Chan → Chan) : (s.modChan c f).zero = s.zero := rfl
@[simp] theorem State.modChan_freeCtr (s : State) (c : ChanId) (f : Chan → Chan) : (s.modChan c f).freeCtr = s.freeCtr := rfl
@[simp] theorem State.modChan_por (s : State) (c : ChanId) (f : Chan → Chan) : (s.modChan c f).por = s.por := rfl
@[simp] theorem State.modChan_rails (s : State) (c : ChanId) (f : Chan → Chan) : (s.modChan c f).rails = s.rails := rfl
@[simp] theorem State.modChan_viso (s : State) (c : ChanId) (f : Chan → Chan) : (s.modChan c f).viso = s.viso := rfl
@[simp] theorem State.modChan_clk25 (s : State) (c : ChanId) (f : Chan → Chan) : (s.modChan c f).clk25 = s.clk25 := rfl
@[simp] theorem State.modChan_dormantReq (s : State) (c : ChanId) (f : Chan → Chan) : (s.modChan c f).dormantReq = s.dormantReq := rfl
@[simp] theorem State.modChan_dormant (s : State) (c : ChanId) (f : Chan → Chan) : (s.modChan c f).dormant = s.dormant := rfl
@[simp] theorem State.modChan_wokeDormant (s : State) (c : ChanId) (f : Chan → Chan) : (s.modChan c f).wokeDormant = s.wokeDormant := rfl
@[simp] theorem State.modChan_straps (s : State) (c : ChanId) (f : Chan → Chan) : (s.modChan c f).straps = s.straps := rfl
@[simp] theorem State.modChan_strapsNow (s : State) (c : ChanId) (f : Chan → Chan) : (s.modChan c f).strapsNow = s.strapsNow := rfl
@[simp] theorem State.modChan_throttled (s : State) (c : ChanId) (f : Chan → Chan) : (s.modChan c f).throttled = s.throttled := rfl
@[simp] theorem State.modChan_safeN (s : State) (c : ChanId) (f : Chan → Chan) : (s.modChan c f).safeN = s.safeN := rfl
@[simp] theorem State.modChan_safeNAt (s : State) (c : ChanId) (f : Chan → Chan) : (s.modChan c f).safeNAt = s.safeNAt := rfl
@[simp] theorem State.modChan_encSafe (s : State) (c : ChanId) (f : Chan → Chan) : (s.modChan c f).encSafe = s.encSafe := rfl
@[simp] theorem State.modChan_visoLost (s : State) (c : ChanId) (f : Chan → Chan) : (s.modChan c f).visoLost = s.visoLost := rfl
@[simp] theorem State.modChan_devw (s : State) (c : ChanId) (f : Chan → Chan) : (s.modChan c f).devw = s.devw := rfl
@[simp] theorem State.modChan_devwNew (s : State) (c : ChanId) (f : Chan → Chan) : (s.modChan c f).devwNew = s.devwNew := rfl
@[simp] theorem State.modChan_logicMw (s : State) (c : ChanId) (f : Chan → Chan) : (s.modChan c f).logicMw = s.logicMw := rfl
@[simp] theorem State.modChan_visoMw (s : State) (c : ChanId) (f : Chan → Chan) : (s.modChan c f).visoMw = s.visoMw := rfl
@[simp] theorem State.modChan_faultMask (s : State) (c : ChanId) (f : Chan → Chan) : (s.modChan c f).faultMask = s.faultMask := rfl
@[simp] theorem State.modChan_syncw (s : State) (c : ChanId) (f : Chan → Chan) : (s.modChan c f).syncw = s.syncw := rfl
@[simp] theorem State.modChan_flush (s : State) (c : ChanId) (f : Chan → Chan) : (s.modChan c f).flush = s.flush := rfl
@[simp] theorem State.modChan_routes (s : State) (c : ChanId) (f : Chan → Chan) : (s.modChan c f).routes = s.routes := rfl
@[simp] theorem State.modChan_host (s : State) (c : ChanId) (f : Chan → Chan) : (s.modChan c f).host = s.host := rfl
@[simp] theorem State.modChan_msix (s : State) (c : ChanId) (f : Chan → Chan) : (s.modChan c f).msix = s.msix := rfl
@[simp] theorem State.modChan_queues (s : State) (c : ChanId) (f : Chan → Chan) : (s.modChan c f).queues = s.queues := rfl
@[simp] theorem State.modChan_out (s : State) (c : ChanId) (f : Chan → Chan) : (s.modChan c f).out = s.out := rfl
@[simp] theorem State.modChan_outWait (s : State) (c : ChanId) (f : Chan → Chan) : (s.modChan c f).outWait = s.outWait := rfl
@[simp] theorem State.modChan_staging (s : State) (c : ChanId) (f : Chan → Chan) : (s.modChan c f).staging = s.staging := rfl
@[simp] theorem State.modChan_fieldDue (s : State) (c : ChanId) (f : Chan → Chan) : (s.modChan c f).fieldDue = s.fieldDue := rfl
@[simp] theorem State.modChan_ops (s : State) (c : ChanId) (f : Chan → Chan) : (s.modChan c f).ops = s.ops := rfl
@[simp] theorem State.modChan_chans (s : State) (c : ChanId) (f : Chan → Chan) : (s.modChan c f).chans = s.chans.set c (f s.chans[c]) := rfl
@[simp] theorem State.modChan_quads (s : State) (c : ChanId) (f : Chan → Chan) : (s.modChan c f).quads = s.quads := rfl
@[simp] theorem State.modChan_reqs (s : State) (c : ChanId) (f : Chan → Chan) : (s.modChan c f).reqs = s.reqs := rfl
@[simp] theorem State.modChan_reqSeq (s : State) (c : ChanId) (f : Chan → Chan) : (s.modChan c f).reqSeq = s.reqSeq := rfl
@[simp] theorem State.modChan_fetchSeq (s : State) (c : ChanId) (f : Chan → Chan) : (s.modChan c f).fetchSeq = s.fetchSeq := rfl
@[simp] theorem State.modChan_ang (s : State) (c : ChanId) (f : Chan → Chan) : (s.modChan c f).ang = s.ang := rfl
@[simp] theorem State.modChan_course (s : State) (c : ChanId) (f : Chan → Chan) : (s.modChan c f).course = s.course := rfl
@[simp] theorem State.modChan_meas (s : State) (c : ChanId) (f : Chan → Chan) : (s.modChan c f).meas = s.meas := rfl
@[simp] theorem State.modChan_chains (s : State) (c : ChanId) (f : Chan → Chan) : (s.modChan c f).chains = s.chains := rfl
@[simp] theorem State.modChan_syncTick (s : State) (c : ChanId) (f : Chan → Chan) : (s.modChan c f).syncTick = s.syncTick := rfl
@[simp] theorem State.modChan_syncMerged (s : State) (c : ChanId) (f : Chan → Chan) : (s.modChan c f).syncMerged = s.syncMerged := rfl
@[simp] theorem State.modChan_syncOut (s : State) (c : ChanId) (f : Chan → Chan) : (s.modChan c f).syncOut = s.syncOut := rfl
@[simp] theorem State.modChan_arch (s : State) (c : ChanId) (f : Chan → Chan) : (s.modChan c f).arch = s.arch := rfl
@[simp] theorem State.modChan_vault (s : State) (c : ChanId) (f : Chan → Chan) : (s.modChan c f).vault = s.vault := rfl
@[simp] theorem State.modChan_plumb (s : State) (c : ChanId) (f : Chan → Chan) : (s.modChan c f).plumb = s.plumb := rfl
@[simp] theorem State.modChan_serial (s : State) (c : ChanId) (f : Chan → Chan) : (s.modChan c f).serial = s.serial := rfl
@[simp] theorem State.modChan_mason (s : State) (c : ChanId) (f : Chan → Chan) : (s.modChan c f).mason = s.mason := rfl
@[simp] theorem State.modChan_rows (s : State) (c : ChanId) (f : Chan → Chan) : (s.modChan c f).rows = s.rows := rfl
@[simp] theorem State.modChan_locked (s : State) (c : ChanId) (f : Chan → Chan) : (s.modChan c f).locked = s.locked := rfl
@[simp] theorem State.modChan_cfgGen (s : State) (c : ChanId) (f : Chan → Chan) : (s.modChan c f).cfgGen = s.cfgGen := rfl
@[simp] theorem State.modChan_pair (s : State) (c : ChanId) (f : Chan → Chan) : (s.modChan c f).pair = s.pair := rfl
@[simp] theorem State.modChan_plinth (s : State) (c : ChanId) (f : Chan → Chan) : (s.modChan c f).plinth = s.plinth := rfl

@[simp] theorem State.modQuad_pending (s : State) (q : QuadId) (f : Quad → Quad) : (s.modQuad q f).pending = s.pending := rfl
@[simp] theorem State.modQuad_clock (s : State) (q : QuadId) (f : Quad → Quad) : (s.modQuad q f).clock = s.clock := rfl
@[simp] theorem State.modQuad_zero (s : State) (q : QuadId) (f : Quad → Quad) : (s.modQuad q f).zero = s.zero := rfl
@[simp] theorem State.modQuad_freeCtr (s : State) (q : QuadId) (f : Quad → Quad) : (s.modQuad q f).freeCtr = s.freeCtr := rfl
@[simp] theorem State.modQuad_por (s : State) (q : QuadId) (f : Quad → Quad) : (s.modQuad q f).por = s.por := rfl
@[simp] theorem State.modQuad_rails (s : State) (q : QuadId) (f : Quad → Quad) : (s.modQuad q f).rails = s.rails := rfl
@[simp] theorem State.modQuad_viso (s : State) (q : QuadId) (f : Quad → Quad) : (s.modQuad q f).viso = s.viso := rfl
@[simp] theorem State.modQuad_clk25 (s : State) (q : QuadId) (f : Quad → Quad) : (s.modQuad q f).clk25 = s.clk25 := rfl
@[simp] theorem State.modQuad_dormantReq (s : State) (q : QuadId) (f : Quad → Quad) : (s.modQuad q f).dormantReq = s.dormantReq := rfl
@[simp] theorem State.modQuad_dormant (s : State) (q : QuadId) (f : Quad → Quad) : (s.modQuad q f).dormant = s.dormant := rfl
@[simp] theorem State.modQuad_wokeDormant (s : State) (q : QuadId) (f : Quad → Quad) : (s.modQuad q f).wokeDormant = s.wokeDormant := rfl
@[simp] theorem State.modQuad_straps (s : State) (q : QuadId) (f : Quad → Quad) : (s.modQuad q f).straps = s.straps := rfl
@[simp] theorem State.modQuad_strapsNow (s : State) (q : QuadId) (f : Quad → Quad) : (s.modQuad q f).strapsNow = s.strapsNow := rfl
@[simp] theorem State.modQuad_throttled (s : State) (q : QuadId) (f : Quad → Quad) : (s.modQuad q f).throttled = s.throttled := rfl
@[simp] theorem State.modQuad_safeN (s : State) (q : QuadId) (f : Quad → Quad) : (s.modQuad q f).safeN = s.safeN := rfl
@[simp] theorem State.modQuad_safeNAt (s : State) (q : QuadId) (f : Quad → Quad) : (s.modQuad q f).safeNAt = s.safeNAt := rfl
@[simp] theorem State.modQuad_encSafe (s : State) (q : QuadId) (f : Quad → Quad) : (s.modQuad q f).encSafe = s.encSafe := rfl
@[simp] theorem State.modQuad_visoLost (s : State) (q : QuadId) (f : Quad → Quad) : (s.modQuad q f).visoLost = s.visoLost := rfl
@[simp] theorem State.modQuad_devw (s : State) (q : QuadId) (f : Quad → Quad) : (s.modQuad q f).devw = s.devw := rfl
@[simp] theorem State.modQuad_devwNew (s : State) (q : QuadId) (f : Quad → Quad) : (s.modQuad q f).devwNew = s.devwNew := rfl
@[simp] theorem State.modQuad_logicMw (s : State) (q : QuadId) (f : Quad → Quad) : (s.modQuad q f).logicMw = s.logicMw := rfl
@[simp] theorem State.modQuad_visoMw (s : State) (q : QuadId) (f : Quad → Quad) : (s.modQuad q f).visoMw = s.visoMw := rfl
@[simp] theorem State.modQuad_faultMask (s : State) (q : QuadId) (f : Quad → Quad) : (s.modQuad q f).faultMask = s.faultMask := rfl
@[simp] theorem State.modQuad_syncw (s : State) (q : QuadId) (f : Quad → Quad) : (s.modQuad q f).syncw = s.syncw := rfl
@[simp] theorem State.modQuad_flush (s : State) (q : QuadId) (f : Quad → Quad) : (s.modQuad q f).flush = s.flush := rfl
@[simp] theorem State.modQuad_routes (s : State) (q : QuadId) (f : Quad → Quad) : (s.modQuad q f).routes = s.routes := rfl
@[simp] theorem State.modQuad_host (s : State) (q : QuadId) (f : Quad → Quad) : (s.modQuad q f).host = s.host := rfl
@[simp] theorem State.modQuad_msix (s : State) (q : QuadId) (f : Quad → Quad) : (s.modQuad q f).msix = s.msix := rfl
@[simp] theorem State.modQuad_queues (s : State) (q : QuadId) (f : Quad → Quad) : (s.modQuad q f).queues = s.queues := rfl
@[simp] theorem State.modQuad_out (s : State) (q : QuadId) (f : Quad → Quad) : (s.modQuad q f).out = s.out := rfl
@[simp] theorem State.modQuad_outWait (s : State) (q : QuadId) (f : Quad → Quad) : (s.modQuad q f).outWait = s.outWait := rfl
@[simp] theorem State.modQuad_staging (s : State) (q : QuadId) (f : Quad → Quad) : (s.modQuad q f).staging = s.staging := rfl
@[simp] theorem State.modQuad_fieldDue (s : State) (q : QuadId) (f : Quad → Quad) : (s.modQuad q f).fieldDue = s.fieldDue := rfl
@[simp] theorem State.modQuad_ops (s : State) (q : QuadId) (f : Quad → Quad) : (s.modQuad q f).ops = s.ops := rfl
@[simp] theorem State.modQuad_chans (s : State) (q : QuadId) (f : Quad → Quad) : (s.modQuad q f).chans = s.chans := rfl
@[simp] theorem State.modQuad_quads (s : State) (q : QuadId) (f : Quad → Quad) : (s.modQuad q f).quads = s.quads.set q (f s.quads[q]) := rfl
@[simp] theorem State.modQuad_reqs (s : State) (q : QuadId) (f : Quad → Quad) : (s.modQuad q f).reqs = s.reqs := rfl
@[simp] theorem State.modQuad_reqSeq (s : State) (q : QuadId) (f : Quad → Quad) : (s.modQuad q f).reqSeq = s.reqSeq := rfl
@[simp] theorem State.modQuad_fetchSeq (s : State) (q : QuadId) (f : Quad → Quad) : (s.modQuad q f).fetchSeq = s.fetchSeq := rfl
@[simp] theorem State.modQuad_ang (s : State) (q : QuadId) (f : Quad → Quad) : (s.modQuad q f).ang = s.ang := rfl
@[simp] theorem State.modQuad_course (s : State) (q : QuadId) (f : Quad → Quad) : (s.modQuad q f).course = s.course := rfl
@[simp] theorem State.modQuad_meas (s : State) (q : QuadId) (f : Quad → Quad) : (s.modQuad q f).meas = s.meas := rfl
@[simp] theorem State.modQuad_chains (s : State) (q : QuadId) (f : Quad → Quad) : (s.modQuad q f).chains = s.chains := rfl
@[simp] theorem State.modQuad_syncTick (s : State) (q : QuadId) (f : Quad → Quad) : (s.modQuad q f).syncTick = s.syncTick := rfl
@[simp] theorem State.modQuad_syncMerged (s : State) (q : QuadId) (f : Quad → Quad) : (s.modQuad q f).syncMerged = s.syncMerged := rfl
@[simp] theorem State.modQuad_syncOut (s : State) (q : QuadId) (f : Quad → Quad) : (s.modQuad q f).syncOut = s.syncOut := rfl
@[simp] theorem State.modQuad_arch (s : State) (q : QuadId) (f : Quad → Quad) : (s.modQuad q f).arch = s.arch := rfl
@[simp] theorem State.modQuad_vault (s : State) (q : QuadId) (f : Quad → Quad) : (s.modQuad q f).vault = s.vault := rfl
@[simp] theorem State.modQuad_plumb (s : State) (q : QuadId) (f : Quad → Quad) : (s.modQuad q f).plumb = s.plumb := rfl
@[simp] theorem State.modQuad_serial (s : State) (q : QuadId) (f : Quad → Quad) : (s.modQuad q f).serial = s.serial := rfl
@[simp] theorem State.modQuad_mason (s : State) (q : QuadId) (f : Quad → Quad) : (s.modQuad q f).mason = s.mason := rfl
@[simp] theorem State.modQuad_rows (s : State) (q : QuadId) (f : Quad → Quad) : (s.modQuad q f).rows = s.rows := rfl
@[simp] theorem State.modQuad_locked (s : State) (q : QuadId) (f : Quad → Quad) : (s.modQuad q f).locked = s.locked := rfl
@[simp] theorem State.modQuad_cfgGen (s : State) (q : QuadId) (f : Quad → Quad) : (s.modQuad q f).cfgGen = s.cfgGen := rfl
@[simp] theorem State.modQuad_pair (s : State) (q : QuadId) (f : Quad → Quad) : (s.modQuad q f).pair = s.pair := rfl
@[simp] theorem State.modQuad_plinth (s : State) (q : QuadId) (f : Quad → Quad) : (s.modQuad q f).plinth = s.plinth := rfl

@[simp] theorem State.modQueue_pending (s : State) (q : QueueId) (f : Queue → Queue) : (s.modQueue q f).pending = s.pending := rfl
@[simp] theorem State.modQueue_clock (s : State) (q : QueueId) (f : Queue → Queue) : (s.modQueue q f).clock = s.clock := rfl
@[simp] theorem State.modQueue_zero (s : State) (q : QueueId) (f : Queue → Queue) : (s.modQueue q f).zero = s.zero := rfl
@[simp] theorem State.modQueue_freeCtr (s : State) (q : QueueId) (f : Queue → Queue) : (s.modQueue q f).freeCtr = s.freeCtr := rfl
@[simp] theorem State.modQueue_por (s : State) (q : QueueId) (f : Queue → Queue) : (s.modQueue q f).por = s.por := rfl
@[simp] theorem State.modQueue_rails (s : State) (q : QueueId) (f : Queue → Queue) : (s.modQueue q f).rails = s.rails := rfl
@[simp] theorem State.modQueue_viso (s : State) (q : QueueId) (f : Queue → Queue) : (s.modQueue q f).viso = s.viso := rfl
@[simp] theorem State.modQueue_clk25 (s : State) (q : QueueId) (f : Queue → Queue) : (s.modQueue q f).clk25 = s.clk25 := rfl
@[simp] theorem State.modQueue_dormantReq (s : State) (q : QueueId) (f : Queue → Queue) : (s.modQueue q f).dormantReq = s.dormantReq := rfl
@[simp] theorem State.modQueue_dormant (s : State) (q : QueueId) (f : Queue → Queue) : (s.modQueue q f).dormant = s.dormant := rfl
@[simp] theorem State.modQueue_wokeDormant (s : State) (q : QueueId) (f : Queue → Queue) : (s.modQueue q f).wokeDormant = s.wokeDormant := rfl
@[simp] theorem State.modQueue_straps (s : State) (q : QueueId) (f : Queue → Queue) : (s.modQueue q f).straps = s.straps := rfl
@[simp] theorem State.modQueue_strapsNow (s : State) (q : QueueId) (f : Queue → Queue) : (s.modQueue q f).strapsNow = s.strapsNow := rfl
@[simp] theorem State.modQueue_throttled (s : State) (q : QueueId) (f : Queue → Queue) : (s.modQueue q f).throttled = s.throttled := rfl
@[simp] theorem State.modQueue_safeN (s : State) (q : QueueId) (f : Queue → Queue) : (s.modQueue q f).safeN = s.safeN := rfl
@[simp] theorem State.modQueue_safeNAt (s : State) (q : QueueId) (f : Queue → Queue) : (s.modQueue q f).safeNAt = s.safeNAt := rfl
@[simp] theorem State.modQueue_encSafe (s : State) (q : QueueId) (f : Queue → Queue) : (s.modQueue q f).encSafe = s.encSafe := rfl
@[simp] theorem State.modQueue_visoLost (s : State) (q : QueueId) (f : Queue → Queue) : (s.modQueue q f).visoLost = s.visoLost := rfl
@[simp] theorem State.modQueue_devw (s : State) (q : QueueId) (f : Queue → Queue) : (s.modQueue q f).devw = s.devw := rfl
@[simp] theorem State.modQueue_devwNew (s : State) (q : QueueId) (f : Queue → Queue) : (s.modQueue q f).devwNew = s.devwNew := rfl
@[simp] theorem State.modQueue_logicMw (s : State) (q : QueueId) (f : Queue → Queue) : (s.modQueue q f).logicMw = s.logicMw := rfl
@[simp] theorem State.modQueue_visoMw (s : State) (q : QueueId) (f : Queue → Queue) : (s.modQueue q f).visoMw = s.visoMw := rfl
@[simp] theorem State.modQueue_faultMask (s : State) (q : QueueId) (f : Queue → Queue) : (s.modQueue q f).faultMask = s.faultMask := rfl
@[simp] theorem State.modQueue_syncw (s : State) (q : QueueId) (f : Queue → Queue) : (s.modQueue q f).syncw = s.syncw := rfl
@[simp] theorem State.modQueue_flush (s : State) (q : QueueId) (f : Queue → Queue) : (s.modQueue q f).flush = s.flush := rfl
@[simp] theorem State.modQueue_routes (s : State) (q : QueueId) (f : Queue → Queue) : (s.modQueue q f).routes = s.routes := rfl
@[simp] theorem State.modQueue_host (s : State) (q : QueueId) (f : Queue → Queue) : (s.modQueue q f).host = s.host := rfl
@[simp] theorem State.modQueue_msix (s : State) (q : QueueId) (f : Queue → Queue) : (s.modQueue q f).msix = s.msix := rfl
@[simp] theorem State.modQueue_queues (s : State) (q : QueueId) (f : Queue → Queue) : (s.modQueue q f).queues = s.queues.set q (f s.queues[q]) := rfl
@[simp] theorem State.modQueue_out (s : State) (q : QueueId) (f : Queue → Queue) : (s.modQueue q f).out = s.out := rfl
@[simp] theorem State.modQueue_outWait (s : State) (q : QueueId) (f : Queue → Queue) : (s.modQueue q f).outWait = s.outWait := rfl
@[simp] theorem State.modQueue_staging (s : State) (q : QueueId) (f : Queue → Queue) : (s.modQueue q f).staging = s.staging := rfl
@[simp] theorem State.modQueue_fieldDue (s : State) (q : QueueId) (f : Queue → Queue) : (s.modQueue q f).fieldDue = s.fieldDue := rfl
@[simp] theorem State.modQueue_ops (s : State) (q : QueueId) (f : Queue → Queue) : (s.modQueue q f).ops = s.ops := rfl
@[simp] theorem State.modQueue_chans (s : State) (q : QueueId) (f : Queue → Queue) : (s.modQueue q f).chans = s.chans := rfl
@[simp] theorem State.modQueue_quads (s : State) (q : QueueId) (f : Queue → Queue) : (s.modQueue q f).quads = s.quads := rfl
@[simp] theorem State.modQueue_reqs (s : State) (q : QueueId) (f : Queue → Queue) : (s.modQueue q f).reqs = s.reqs := rfl
@[simp] theorem State.modQueue_reqSeq (s : State) (q : QueueId) (f : Queue → Queue) : (s.modQueue q f).reqSeq = s.reqSeq := rfl
@[simp] theorem State.modQueue_fetchSeq (s : State) (q : QueueId) (f : Queue → Queue) : (s.modQueue q f).fetchSeq = s.fetchSeq := rfl
@[simp] theorem State.modQueue_ang (s : State) (q : QueueId) (f : Queue → Queue) : (s.modQueue q f).ang = s.ang := rfl
@[simp] theorem State.modQueue_course (s : State) (q : QueueId) (f : Queue → Queue) : (s.modQueue q f).course = s.course := rfl
@[simp] theorem State.modQueue_meas (s : State) (q : QueueId) (f : Queue → Queue) : (s.modQueue q f).meas = s.meas := rfl
@[simp] theorem State.modQueue_chains (s : State) (q : QueueId) (f : Queue → Queue) : (s.modQueue q f).chains = s.chains := rfl
@[simp] theorem State.modQueue_syncTick (s : State) (q : QueueId) (f : Queue → Queue) : (s.modQueue q f).syncTick = s.syncTick := rfl
@[simp] theorem State.modQueue_syncMerged (s : State) (q : QueueId) (f : Queue → Queue) : (s.modQueue q f).syncMerged = s.syncMerged := rfl
@[simp] theorem State.modQueue_syncOut (s : State) (q : QueueId) (f : Queue → Queue) : (s.modQueue q f).syncOut = s.syncOut := rfl
@[simp] theorem State.modQueue_arch (s : State) (q : QueueId) (f : Queue → Queue) : (s.modQueue q f).arch = s.arch := rfl
@[simp] theorem State.modQueue_vault (s : State) (q : QueueId) (f : Queue → Queue) : (s.modQueue q f).vault = s.vault := rfl
@[simp] theorem State.modQueue_plumb (s : State) (q : QueueId) (f : Queue → Queue) : (s.modQueue q f).plumb = s.plumb := rfl
@[simp] theorem State.modQueue_serial (s : State) (q : QueueId) (f : Queue → Queue) : (s.modQueue q f).serial = s.serial := rfl
@[simp] theorem State.modQueue_mason (s : State) (q : QueueId) (f : Queue → Queue) : (s.modQueue q f).mason = s.mason := rfl
@[simp] theorem State.modQueue_rows (s : State) (q : QueueId) (f : Queue → Queue) : (s.modQueue q f).rows = s.rows := rfl
@[simp] theorem State.modQueue_locked (s : State) (q : QueueId) (f : Queue → Queue) : (s.modQueue q f).locked = s.locked := rfl
@[simp] theorem State.modQueue_cfgGen (s : State) (q : QueueId) (f : Queue → Queue) : (s.modQueue q f).cfgGen = s.cfgGen := rfl
@[simp] theorem State.modQueue_pair (s : State) (q : QueueId) (f : Queue → Queue) : (s.modQueue q f).pair = s.pair := rfl
@[simp] theorem State.modQueue_plinth (s : State) (q : QueueId) (f : Queue → Queue) : (s.modQueue q f).plinth = s.plinth := rfl

@[simp] theorem State.modHost_pending (s : State) (f : HostRegs → HostRegs) : (s.modHost f).pending = s.pending := rfl
@[simp] theorem State.modHost_clock (s : State) (f : HostRegs → HostRegs) : (s.modHost f).clock = s.clock := rfl
@[simp] theorem State.modHost_zero (s : State) (f : HostRegs → HostRegs) : (s.modHost f).zero = s.zero := rfl
@[simp] theorem State.modHost_freeCtr (s : State) (f : HostRegs → HostRegs) : (s.modHost f).freeCtr = s.freeCtr := rfl
@[simp] theorem State.modHost_por (s : State) (f : HostRegs → HostRegs) : (s.modHost f).por = s.por := rfl
@[simp] theorem State.modHost_rails (s : State) (f : HostRegs → HostRegs) : (s.modHost f).rails = s.rails := rfl
@[simp] theorem State.modHost_viso (s : State) (f : HostRegs → HostRegs) : (s.modHost f).viso = s.viso := rfl
@[simp] theorem State.modHost_clk25 (s : State) (f : HostRegs → HostRegs) : (s.modHost f).clk25 = s.clk25 := rfl
@[simp] theorem State.modHost_dormantReq (s : State) (f : HostRegs → HostRegs) : (s.modHost f).dormantReq = s.dormantReq := rfl
@[simp] theorem State.modHost_dormant (s : State) (f : HostRegs → HostRegs) : (s.modHost f).dormant = s.dormant := rfl
@[simp] theorem State.modHost_wokeDormant (s : State) (f : HostRegs → HostRegs) : (s.modHost f).wokeDormant = s.wokeDormant := rfl
@[simp] theorem State.modHost_straps (s : State) (f : HostRegs → HostRegs) : (s.modHost f).straps = s.straps := rfl
@[simp] theorem State.modHost_strapsNow (s : State) (f : HostRegs → HostRegs) : (s.modHost f).strapsNow = s.strapsNow := rfl
@[simp] theorem State.modHost_throttled (s : State) (f : HostRegs → HostRegs) : (s.modHost f).throttled = s.throttled := rfl
@[simp] theorem State.modHost_safeN (s : State) (f : HostRegs → HostRegs) : (s.modHost f).safeN = s.safeN := rfl
@[simp] theorem State.modHost_safeNAt (s : State) (f : HostRegs → HostRegs) : (s.modHost f).safeNAt = s.safeNAt := rfl
@[simp] theorem State.modHost_encSafe (s : State) (f : HostRegs → HostRegs) : (s.modHost f).encSafe = s.encSafe := rfl
@[simp] theorem State.modHost_visoLost (s : State) (f : HostRegs → HostRegs) : (s.modHost f).visoLost = s.visoLost := rfl
@[simp] theorem State.modHost_devw (s : State) (f : HostRegs → HostRegs) : (s.modHost f).devw = s.devw := rfl
@[simp] theorem State.modHost_devwNew (s : State) (f : HostRegs → HostRegs) : (s.modHost f).devwNew = s.devwNew := rfl
@[simp] theorem State.modHost_logicMw (s : State) (f : HostRegs → HostRegs) : (s.modHost f).logicMw = s.logicMw := rfl
@[simp] theorem State.modHost_visoMw (s : State) (f : HostRegs → HostRegs) : (s.modHost f).visoMw = s.visoMw := rfl
@[simp] theorem State.modHost_faultMask (s : State) (f : HostRegs → HostRegs) : (s.modHost f).faultMask = s.faultMask := rfl
@[simp] theorem State.modHost_syncw (s : State) (f : HostRegs → HostRegs) : (s.modHost f).syncw = s.syncw := rfl
@[simp] theorem State.modHost_flush (s : State) (f : HostRegs → HostRegs) : (s.modHost f).flush = s.flush := rfl
@[simp] theorem State.modHost_routes (s : State) (f : HostRegs → HostRegs) : (s.modHost f).routes = s.routes := rfl
@[simp] theorem State.modHost_host (s : State) (f : HostRegs → HostRegs) : (s.modHost f).host = f s.host := rfl
@[simp] theorem State.modHost_msix (s : State) (f : HostRegs → HostRegs) : (s.modHost f).msix = s.msix := rfl
@[simp] theorem State.modHost_queues (s : State) (f : HostRegs → HostRegs) : (s.modHost f).queues = s.queues := rfl
@[simp] theorem State.modHost_out (s : State) (f : HostRegs → HostRegs) : (s.modHost f).out = s.out := rfl
@[simp] theorem State.modHost_outWait (s : State) (f : HostRegs → HostRegs) : (s.modHost f).outWait = s.outWait := rfl
@[simp] theorem State.modHost_staging (s : State) (f : HostRegs → HostRegs) : (s.modHost f).staging = s.staging := rfl
@[simp] theorem State.modHost_fieldDue (s : State) (f : HostRegs → HostRegs) : (s.modHost f).fieldDue = s.fieldDue := rfl
@[simp] theorem State.modHost_ops (s : State) (f : HostRegs → HostRegs) : (s.modHost f).ops = s.ops := rfl
@[simp] theorem State.modHost_chans (s : State) (f : HostRegs → HostRegs) : (s.modHost f).chans = s.chans := rfl
@[simp] theorem State.modHost_quads (s : State) (f : HostRegs → HostRegs) : (s.modHost f).quads = s.quads := rfl
@[simp] theorem State.modHost_reqs (s : State) (f : HostRegs → HostRegs) : (s.modHost f).reqs = s.reqs := rfl
@[simp] theorem State.modHost_reqSeq (s : State) (f : HostRegs → HostRegs) : (s.modHost f).reqSeq = s.reqSeq := rfl
@[simp] theorem State.modHost_fetchSeq (s : State) (f : HostRegs → HostRegs) : (s.modHost f).fetchSeq = s.fetchSeq := rfl
@[simp] theorem State.modHost_ang (s : State) (f : HostRegs → HostRegs) : (s.modHost f).ang = s.ang := rfl
@[simp] theorem State.modHost_course (s : State) (f : HostRegs → HostRegs) : (s.modHost f).course = s.course := rfl
@[simp] theorem State.modHost_meas (s : State) (f : HostRegs → HostRegs) : (s.modHost f).meas = s.meas := rfl
@[simp] theorem State.modHost_chains (s : State) (f : HostRegs → HostRegs) : (s.modHost f).chains = s.chains := rfl
@[simp] theorem State.modHost_syncTick (s : State) (f : HostRegs → HostRegs) : (s.modHost f).syncTick = s.syncTick := rfl
@[simp] theorem State.modHost_syncMerged (s : State) (f : HostRegs → HostRegs) : (s.modHost f).syncMerged = s.syncMerged := rfl
@[simp] theorem State.modHost_syncOut (s : State) (f : HostRegs → HostRegs) : (s.modHost f).syncOut = s.syncOut := rfl
@[simp] theorem State.modHost_arch (s : State) (f : HostRegs → HostRegs) : (s.modHost f).arch = s.arch := rfl
@[simp] theorem State.modHost_vault (s : State) (f : HostRegs → HostRegs) : (s.modHost f).vault = s.vault := rfl
@[simp] theorem State.modHost_plumb (s : State) (f : HostRegs → HostRegs) : (s.modHost f).plumb = s.plumb := rfl
@[simp] theorem State.modHost_serial (s : State) (f : HostRegs → HostRegs) : (s.modHost f).serial = s.serial := rfl
@[simp] theorem State.modHost_mason (s : State) (f : HostRegs → HostRegs) : (s.modHost f).mason = s.mason := rfl
@[simp] theorem State.modHost_rows (s : State) (f : HostRegs → HostRegs) : (s.modHost f).rows = s.rows := rfl
@[simp] theorem State.modHost_locked (s : State) (f : HostRegs → HostRegs) : (s.modHost f).locked = s.locked := rfl
@[simp] theorem State.modHost_cfgGen (s : State) (f : HostRegs → HostRegs) : (s.modHost f).cfgGen = s.cfgGen := rfl
@[simp] theorem State.modHost_pair (s : State) (f : HostRegs → HostRegs) : (s.modHost f).pair = s.pair := rfl
@[simp] theorem State.modHost_plinth (s : State) (f : HostRegs → HostRegs) : (s.modHost f).plinth = s.plinth := rfl

@[simp] theorem State.modAng_pending (s : State) (f : Ang → Ang) : (s.modAng f).pending = s.pending := rfl
@[simp] theorem State.modAng_clock (s : State) (f : Ang → Ang) : (s.modAng f).clock = s.clock := rfl
@[simp] theorem State.modAng_zero (s : State) (f : Ang → Ang) : (s.modAng f).zero = s.zero := rfl
@[simp] theorem State.modAng_freeCtr (s : State) (f : Ang → Ang) : (s.modAng f).freeCtr = s.freeCtr := rfl
@[simp] theorem State.modAng_por (s : State) (f : Ang → Ang) : (s.modAng f).por = s.por := rfl
@[simp] theorem State.modAng_rails (s : State) (f : Ang → Ang) : (s.modAng f).rails = s.rails := rfl
@[simp] theorem State.modAng_viso (s : State) (f : Ang → Ang) : (s.modAng f).viso = s.viso := rfl
@[simp] theorem State.modAng_clk25 (s : State) (f : Ang → Ang) : (s.modAng f).clk25 = s.clk25 := rfl
@[simp] theorem State.modAng_dormantReq (s : State) (f : Ang → Ang) : (s.modAng f).dormantReq = s.dormantReq := rfl
@[simp] theorem State.modAng_dormant (s : State) (f : Ang → Ang) : (s.modAng f).dormant = s.dormant := rfl
@[simp] theorem State.modAng_wokeDormant (s : State) (f : Ang → Ang) : (s.modAng f).wokeDormant = s.wokeDormant := rfl
@[simp] theorem State.modAng_straps (s : State) (f : Ang → Ang) : (s.modAng f).straps = s.straps := rfl
@[simp] theorem State.modAng_strapsNow (s : State) (f : Ang → Ang) : (s.modAng f).strapsNow = s.strapsNow := rfl
@[simp] theorem State.modAng_throttled (s : State) (f : Ang → Ang) : (s.modAng f).throttled = s.throttled := rfl
@[simp] theorem State.modAng_safeN (s : State) (f : Ang → Ang) : (s.modAng f).safeN = s.safeN := rfl
@[simp] theorem State.modAng_safeNAt (s : State) (f : Ang → Ang) : (s.modAng f).safeNAt = s.safeNAt := rfl
@[simp] theorem State.modAng_encSafe (s : State) (f : Ang → Ang) : (s.modAng f).encSafe = s.encSafe := rfl
@[simp] theorem State.modAng_visoLost (s : State) (f : Ang → Ang) : (s.modAng f).visoLost = s.visoLost := rfl
@[simp] theorem State.modAng_devw (s : State) (f : Ang → Ang) : (s.modAng f).devw = s.devw := rfl
@[simp] theorem State.modAng_devwNew (s : State) (f : Ang → Ang) : (s.modAng f).devwNew = s.devwNew := rfl
@[simp] theorem State.modAng_logicMw (s : State) (f : Ang → Ang) : (s.modAng f).logicMw = s.logicMw := rfl
@[simp] theorem State.modAng_visoMw (s : State) (f : Ang → Ang) : (s.modAng f).visoMw = s.visoMw := rfl
@[simp] theorem State.modAng_faultMask (s : State) (f : Ang → Ang) : (s.modAng f).faultMask = s.faultMask := rfl
@[simp] theorem State.modAng_syncw (s : State) (f : Ang → Ang) : (s.modAng f).syncw = s.syncw := rfl
@[simp] theorem State.modAng_flush (s : State) (f : Ang → Ang) : (s.modAng f).flush = s.flush := rfl
@[simp] theorem State.modAng_routes (s : State) (f : Ang → Ang) : (s.modAng f).routes = s.routes := rfl
@[simp] theorem State.modAng_host (s : State) (f : Ang → Ang) : (s.modAng f).host = s.host := rfl
@[simp] theorem State.modAng_msix (s : State) (f : Ang → Ang) : (s.modAng f).msix = s.msix := rfl
@[simp] theorem State.modAng_queues (s : State) (f : Ang → Ang) : (s.modAng f).queues = s.queues := rfl
@[simp] theorem State.modAng_out (s : State) (f : Ang → Ang) : (s.modAng f).out = s.out := rfl
@[simp] theorem State.modAng_outWait (s : State) (f : Ang → Ang) : (s.modAng f).outWait = s.outWait := rfl
@[simp] theorem State.modAng_staging (s : State) (f : Ang → Ang) : (s.modAng f).staging = s.staging := rfl
@[simp] theorem State.modAng_fieldDue (s : State) (f : Ang → Ang) : (s.modAng f).fieldDue = s.fieldDue := rfl
@[simp] theorem State.modAng_ops (s : State) (f : Ang → Ang) : (s.modAng f).ops = s.ops := rfl
@[simp] theorem State.modAng_chans (s : State) (f : Ang → Ang) : (s.modAng f).chans = s.chans := rfl
@[simp] theorem State.modAng_quads (s : State) (f : Ang → Ang) : (s.modAng f).quads = s.quads := rfl
@[simp] theorem State.modAng_reqs (s : State) (f : Ang → Ang) : (s.modAng f).reqs = s.reqs := rfl
@[simp] theorem State.modAng_reqSeq (s : State) (f : Ang → Ang) : (s.modAng f).reqSeq = s.reqSeq := rfl
@[simp] theorem State.modAng_fetchSeq (s : State) (f : Ang → Ang) : (s.modAng f).fetchSeq = s.fetchSeq := rfl
@[simp] theorem State.modAng_ang (s : State) (f : Ang → Ang) : (s.modAng f).ang = f s.ang := rfl
@[simp] theorem State.modAng_course (s : State) (f : Ang → Ang) : (s.modAng f).course = s.course := rfl
@[simp] theorem State.modAng_meas (s : State) (f : Ang → Ang) : (s.modAng f).meas = s.meas := rfl
@[simp] theorem State.modAng_chains (s : State) (f : Ang → Ang) : (s.modAng f).chains = s.chains := rfl
@[simp] theorem State.modAng_syncTick (s : State) (f : Ang → Ang) : (s.modAng f).syncTick = s.syncTick := rfl
@[simp] theorem State.modAng_syncMerged (s : State) (f : Ang → Ang) : (s.modAng f).syncMerged = s.syncMerged := rfl
@[simp] theorem State.modAng_syncOut (s : State) (f : Ang → Ang) : (s.modAng f).syncOut = s.syncOut := rfl
@[simp] theorem State.modAng_arch (s : State) (f : Ang → Ang) : (s.modAng f).arch = s.arch := rfl
@[simp] theorem State.modAng_vault (s : State) (f : Ang → Ang) : (s.modAng f).vault = s.vault := rfl
@[simp] theorem State.modAng_plumb (s : State) (f : Ang → Ang) : (s.modAng f).plumb = s.plumb := rfl
@[simp] theorem State.modAng_serial (s : State) (f : Ang → Ang) : (s.modAng f).serial = s.serial := rfl
@[simp] theorem State.modAng_mason (s : State) (f : Ang → Ang) : (s.modAng f).mason = s.mason := rfl
@[simp] theorem State.modAng_rows (s : State) (f : Ang → Ang) : (s.modAng f).rows = s.rows := rfl
@[simp] theorem State.modAng_locked (s : State) (f : Ang → Ang) : (s.modAng f).locked = s.locked := rfl
@[simp] theorem State.modAng_cfgGen (s : State) (f : Ang → Ang) : (s.modAng f).cfgGen = s.cfgGen := rfl
@[simp] theorem State.modAng_pair (s : State) (f : Ang → Ang) : (s.modAng f).pair = s.pair := rfl
@[simp] theorem State.modAng_plinth (s : State) (f : Ang → Ang) : (s.modAng f).plinth = s.plinth := rfl

@[simp] theorem State.modCourse_pending (s : State) (f : Course → Course) : (s.modCourse f).pending = s.pending := rfl
@[simp] theorem State.modCourse_clock (s : State) (f : Course → Course) : (s.modCourse f).clock = s.clock := rfl
@[simp] theorem State.modCourse_zero (s : State) (f : Course → Course) : (s.modCourse f).zero = s.zero := rfl
@[simp] theorem State.modCourse_freeCtr (s : State) (f : Course → Course) : (s.modCourse f).freeCtr = s.freeCtr := rfl
@[simp] theorem State.modCourse_por (s : State) (f : Course → Course) : (s.modCourse f).por = s.por := rfl
@[simp] theorem State.modCourse_rails (s : State) (f : Course → Course) : (s.modCourse f).rails = s.rails := rfl
@[simp] theorem State.modCourse_viso (s : State) (f : Course → Course) : (s.modCourse f).viso = s.viso := rfl
@[simp] theorem State.modCourse_clk25 (s : State) (f : Course → Course) : (s.modCourse f).clk25 = s.clk25 := rfl
@[simp] theorem State.modCourse_dormantReq (s : State) (f : Course → Course) : (s.modCourse f).dormantReq = s.dormantReq := rfl
@[simp] theorem State.modCourse_dormant (s : State) (f : Course → Course) : (s.modCourse f).dormant = s.dormant := rfl
@[simp] theorem State.modCourse_wokeDormant (s : State) (f : Course → Course) : (s.modCourse f).wokeDormant = s.wokeDormant := rfl
@[simp] theorem State.modCourse_straps (s : State) (f : Course → Course) : (s.modCourse f).straps = s.straps := rfl
@[simp] theorem State.modCourse_strapsNow (s : State) (f : Course → Course) : (s.modCourse f).strapsNow = s.strapsNow := rfl
@[simp] theorem State.modCourse_throttled (s : State) (f : Course → Course) : (s.modCourse f).throttled = s.throttled := rfl
@[simp] theorem State.modCourse_safeN (s : State) (f : Course → Course) : (s.modCourse f).safeN = s.safeN := rfl
@[simp] theorem State.modCourse_safeNAt (s : State) (f : Course → Course) : (s.modCourse f).safeNAt = s.safeNAt := rfl
@[simp] theorem State.modCourse_encSafe (s : State) (f : Course → Course) : (s.modCourse f).encSafe = s.encSafe := rfl
@[simp] theorem State.modCourse_visoLost (s : State) (f : Course → Course) : (s.modCourse f).visoLost = s.visoLost := rfl
@[simp] theorem State.modCourse_devw (s : State) (f : Course → Course) : (s.modCourse f).devw = s.devw := rfl
@[simp] theorem State.modCourse_devwNew (s : State) (f : Course → Course) : (s.modCourse f).devwNew = s.devwNew := rfl
@[simp] theorem State.modCourse_logicMw (s : State) (f : Course → Course) : (s.modCourse f).logicMw = s.logicMw := rfl
@[simp] theorem State.modCourse_visoMw (s : State) (f : Course → Course) : (s.modCourse f).visoMw = s.visoMw := rfl
@[simp] theorem State.modCourse_faultMask (s : State) (f : Course → Course) : (s.modCourse f).faultMask = s.faultMask := rfl
@[simp] theorem State.modCourse_syncw (s : State) (f : Course → Course) : (s.modCourse f).syncw = s.syncw := rfl
@[simp] theorem State.modCourse_flush (s : State) (f : Course → Course) : (s.modCourse f).flush = s.flush := rfl
@[simp] theorem State.modCourse_routes (s : State) (f : Course → Course) : (s.modCourse f).routes = s.routes := rfl
@[simp] theorem State.modCourse_host (s : State) (f : Course → Course) : (s.modCourse f).host = s.host := rfl
@[simp] theorem State.modCourse_msix (s : State) (f : Course → Course) : (s.modCourse f).msix = s.msix := rfl
@[simp] theorem State.modCourse_queues (s : State) (f : Course → Course) : (s.modCourse f).queues = s.queues := rfl
@[simp] theorem State.modCourse_out (s : State) (f : Course → Course) : (s.modCourse f).out = s.out := rfl
@[simp] theorem State.modCourse_outWait (s : State) (f : Course → Course) : (s.modCourse f).outWait = s.outWait := rfl
@[simp] theorem State.modCourse_staging (s : State) (f : Course → Course) : (s.modCourse f).staging = s.staging := rfl
@[simp] theorem State.modCourse_fieldDue (s : State) (f : Course → Course) : (s.modCourse f).fieldDue = s.fieldDue := rfl
@[simp] theorem State.modCourse_ops (s : State) (f : Course → Course) : (s.modCourse f).ops = s.ops := rfl
@[simp] theorem State.modCourse_chans (s : State) (f : Course → Course) : (s.modCourse f).chans = s.chans := rfl
@[simp] theorem State.modCourse_quads (s : State) (f : Course → Course) : (s.modCourse f).quads = s.quads := rfl
@[simp] theorem State.modCourse_reqs (s : State) (f : Course → Course) : (s.modCourse f).reqs = s.reqs := rfl
@[simp] theorem State.modCourse_reqSeq (s : State) (f : Course → Course) : (s.modCourse f).reqSeq = s.reqSeq := rfl
@[simp] theorem State.modCourse_fetchSeq (s : State) (f : Course → Course) : (s.modCourse f).fetchSeq = s.fetchSeq := rfl
@[simp] theorem State.modCourse_ang (s : State) (f : Course → Course) : (s.modCourse f).ang = s.ang := rfl
@[simp] theorem State.modCourse_course (s : State) (f : Course → Course) : (s.modCourse f).course = f s.course := rfl
@[simp] theorem State.modCourse_meas (s : State) (f : Course → Course) : (s.modCourse f).meas = s.meas := rfl
@[simp] theorem State.modCourse_chains (s : State) (f : Course → Course) : (s.modCourse f).chains = s.chains := rfl
@[simp] theorem State.modCourse_syncTick (s : State) (f : Course → Course) : (s.modCourse f).syncTick = s.syncTick := rfl
@[simp] theorem State.modCourse_syncMerged (s : State) (f : Course → Course) : (s.modCourse f).syncMerged = s.syncMerged := rfl
@[simp] theorem State.modCourse_syncOut (s : State) (f : Course → Course) : (s.modCourse f).syncOut = s.syncOut := rfl
@[simp] theorem State.modCourse_arch (s : State) (f : Course → Course) : (s.modCourse f).arch = s.arch := rfl
@[simp] theorem State.modCourse_vault (s : State) (f : Course → Course) : (s.modCourse f).vault = s.vault := rfl
@[simp] theorem State.modCourse_plumb (s : State) (f : Course → Course) : (s.modCourse f).plumb = s.plumb := rfl
@[simp] theorem State.modCourse_serial (s : State) (f : Course → Course) : (s.modCourse f).serial = s.serial := rfl
@[simp] theorem State.modCourse_mason (s : State) (f : Course → Course) : (s.modCourse f).mason = s.mason := rfl
@[simp] theorem State.modCourse_rows (s : State) (f : Course → Course) : (s.modCourse f).rows = s.rows := rfl
@[simp] theorem State.modCourse_locked (s : State) (f : Course → Course) : (s.modCourse f).locked = s.locked := rfl
@[simp] theorem State.modCourse_cfgGen (s : State) (f : Course → Course) : (s.modCourse f).cfgGen = s.cfgGen := rfl
@[simp] theorem State.modCourse_pair (s : State) (f : Course → Course) : (s.modCourse f).pair = s.pair := rfl
@[simp] theorem State.modCourse_plinth (s : State) (f : Course → Course) : (s.modCourse f).plinth = s.plinth := rfl

@[simp] theorem State.modMeas_pending (s : State) (q : QuadId) (f : Meas → Meas) : (s.modMeas q f).pending = s.pending := rfl
@[simp] theorem State.modMeas_clock (s : State) (q : QuadId) (f : Meas → Meas) : (s.modMeas q f).clock = s.clock := rfl
@[simp] theorem State.modMeas_zero (s : State) (q : QuadId) (f : Meas → Meas) : (s.modMeas q f).zero = s.zero := rfl
@[simp] theorem State.modMeas_freeCtr (s : State) (q : QuadId) (f : Meas → Meas) : (s.modMeas q f).freeCtr = s.freeCtr := rfl
@[simp] theorem State.modMeas_por (s : State) (q : QuadId) (f : Meas → Meas) : (s.modMeas q f).por = s.por := rfl
@[simp] theorem State.modMeas_rails (s : State) (q : QuadId) (f : Meas → Meas) : (s.modMeas q f).rails = s.rails := rfl
@[simp] theorem State.modMeas_viso (s : State) (q : QuadId) (f : Meas → Meas) : (s.modMeas q f).viso = s.viso := rfl
@[simp] theorem State.modMeas_clk25 (s : State) (q : QuadId) (f : Meas → Meas) : (s.modMeas q f).clk25 = s.clk25 := rfl
@[simp] theorem State.modMeas_dormantReq (s : State) (q : QuadId) (f : Meas → Meas) : (s.modMeas q f).dormantReq = s.dormantReq := rfl
@[simp] theorem State.modMeas_dormant (s : State) (q : QuadId) (f : Meas → Meas) : (s.modMeas q f).dormant = s.dormant := rfl
@[simp] theorem State.modMeas_wokeDormant (s : State) (q : QuadId) (f : Meas → Meas) : (s.modMeas q f).wokeDormant = s.wokeDormant := rfl
@[simp] theorem State.modMeas_straps (s : State) (q : QuadId) (f : Meas → Meas) : (s.modMeas q f).straps = s.straps := rfl
@[simp] theorem State.modMeas_strapsNow (s : State) (q : QuadId) (f : Meas → Meas) : (s.modMeas q f).strapsNow = s.strapsNow := rfl
@[simp] theorem State.modMeas_throttled (s : State) (q : QuadId) (f : Meas → Meas) : (s.modMeas q f).throttled = s.throttled := rfl
@[simp] theorem State.modMeas_safeN (s : State) (q : QuadId) (f : Meas → Meas) : (s.modMeas q f).safeN = s.safeN := rfl
@[simp] theorem State.modMeas_safeNAt (s : State) (q : QuadId) (f : Meas → Meas) : (s.modMeas q f).safeNAt = s.safeNAt := rfl
@[simp] theorem State.modMeas_encSafe (s : State) (q : QuadId) (f : Meas → Meas) : (s.modMeas q f).encSafe = s.encSafe := rfl
@[simp] theorem State.modMeas_visoLost (s : State) (q : QuadId) (f : Meas → Meas) : (s.modMeas q f).visoLost = s.visoLost := rfl
@[simp] theorem State.modMeas_devw (s : State) (q : QuadId) (f : Meas → Meas) : (s.modMeas q f).devw = s.devw := rfl
@[simp] theorem State.modMeas_devwNew (s : State) (q : QuadId) (f : Meas → Meas) : (s.modMeas q f).devwNew = s.devwNew := rfl
@[simp] theorem State.modMeas_logicMw (s : State) (q : QuadId) (f : Meas → Meas) : (s.modMeas q f).logicMw = s.logicMw := rfl
@[simp] theorem State.modMeas_visoMw (s : State) (q : QuadId) (f : Meas → Meas) : (s.modMeas q f).visoMw = s.visoMw := rfl
@[simp] theorem State.modMeas_faultMask (s : State) (q : QuadId) (f : Meas → Meas) : (s.modMeas q f).faultMask = s.faultMask := rfl
@[simp] theorem State.modMeas_syncw (s : State) (q : QuadId) (f : Meas → Meas) : (s.modMeas q f).syncw = s.syncw := rfl
@[simp] theorem State.modMeas_flush (s : State) (q : QuadId) (f : Meas → Meas) : (s.modMeas q f).flush = s.flush := rfl
@[simp] theorem State.modMeas_routes (s : State) (q : QuadId) (f : Meas → Meas) : (s.modMeas q f).routes = s.routes := rfl
@[simp] theorem State.modMeas_host (s : State) (q : QuadId) (f : Meas → Meas) : (s.modMeas q f).host = s.host := rfl
@[simp] theorem State.modMeas_msix (s : State) (q : QuadId) (f : Meas → Meas) : (s.modMeas q f).msix = s.msix := rfl
@[simp] theorem State.modMeas_queues (s : State) (q : QuadId) (f : Meas → Meas) : (s.modMeas q f).queues = s.queues := rfl
@[simp] theorem State.modMeas_out (s : State) (q : QuadId) (f : Meas → Meas) : (s.modMeas q f).out = s.out := rfl
@[simp] theorem State.modMeas_outWait (s : State) (q : QuadId) (f : Meas → Meas) : (s.modMeas q f).outWait = s.outWait := rfl
@[simp] theorem State.modMeas_staging (s : State) (q : QuadId) (f : Meas → Meas) : (s.modMeas q f).staging = s.staging := rfl
@[simp] theorem State.modMeas_fieldDue (s : State) (q : QuadId) (f : Meas → Meas) : (s.modMeas q f).fieldDue = s.fieldDue := rfl
@[simp] theorem State.modMeas_ops (s : State) (q : QuadId) (f : Meas → Meas) : (s.modMeas q f).ops = s.ops := rfl
@[simp] theorem State.modMeas_chans (s : State) (q : QuadId) (f : Meas → Meas) : (s.modMeas q f).chans = s.chans := rfl
@[simp] theorem State.modMeas_quads (s : State) (q : QuadId) (f : Meas → Meas) : (s.modMeas q f).quads = s.quads := rfl
@[simp] theorem State.modMeas_reqs (s : State) (q : QuadId) (f : Meas → Meas) : (s.modMeas q f).reqs = s.reqs := rfl
@[simp] theorem State.modMeas_reqSeq (s : State) (q : QuadId) (f : Meas → Meas) : (s.modMeas q f).reqSeq = s.reqSeq := rfl
@[simp] theorem State.modMeas_fetchSeq (s : State) (q : QuadId) (f : Meas → Meas) : (s.modMeas q f).fetchSeq = s.fetchSeq := rfl
@[simp] theorem State.modMeas_ang (s : State) (q : QuadId) (f : Meas → Meas) : (s.modMeas q f).ang = s.ang := rfl
@[simp] theorem State.modMeas_course (s : State) (q : QuadId) (f : Meas → Meas) : (s.modMeas q f).course = s.course := rfl
@[simp] theorem State.modMeas_meas (s : State) (q : QuadId) (f : Meas → Meas) : (s.modMeas q f).meas = s.meas.set q (f s.meas[q]) := rfl
@[simp] theorem State.modMeas_chains (s : State) (q : QuadId) (f : Meas → Meas) : (s.modMeas q f).chains = s.chains := rfl
@[simp] theorem State.modMeas_syncTick (s : State) (q : QuadId) (f : Meas → Meas) : (s.modMeas q f).syncTick = s.syncTick := rfl
@[simp] theorem State.modMeas_syncMerged (s : State) (q : QuadId) (f : Meas → Meas) : (s.modMeas q f).syncMerged = s.syncMerged := rfl
@[simp] theorem State.modMeas_syncOut (s : State) (q : QuadId) (f : Meas → Meas) : (s.modMeas q f).syncOut = s.syncOut := rfl
@[simp] theorem State.modMeas_arch (s : State) (q : QuadId) (f : Meas → Meas) : (s.modMeas q f).arch = s.arch := rfl
@[simp] theorem State.modMeas_vault (s : State) (q : QuadId) (f : Meas → Meas) : (s.modMeas q f).vault = s.vault := rfl
@[simp] theorem State.modMeas_plumb (s : State) (q : QuadId) (f : Meas → Meas) : (s.modMeas q f).plumb = s.plumb := rfl
@[simp] theorem State.modMeas_serial (s : State) (q : QuadId) (f : Meas → Meas) : (s.modMeas q f).serial = s.serial := rfl
@[simp] theorem State.modMeas_mason (s : State) (q : QuadId) (f : Meas → Meas) : (s.modMeas q f).mason = s.mason := rfl
@[simp] theorem State.modMeas_rows (s : State) (q : QuadId) (f : Meas → Meas) : (s.modMeas q f).rows = s.rows := rfl
@[simp] theorem State.modMeas_locked (s : State) (q : QuadId) (f : Meas → Meas) : (s.modMeas q f).locked = s.locked := rfl
@[simp] theorem State.modMeas_cfgGen (s : State) (q : QuadId) (f : Meas → Meas) : (s.modMeas q f).cfgGen = s.cfgGen := rfl
@[simp] theorem State.modMeas_pair (s : State) (q : QuadId) (f : Meas → Meas) : (s.modMeas q f).pair = s.pair := rfl
@[simp] theorem State.modMeas_plinth (s : State) (q : QuadId) (f : Meas → Meas) : (s.modMeas q f).plinth = s.plinth := rfl

@[simp] theorem State.modChain_pending (s : State) (k : ChainId) (f : Chain → Chain) : (s.modChain k f).pending = s.pending := rfl
@[simp] theorem State.modChain_clock (s : State) (k : ChainId) (f : Chain → Chain) : (s.modChain k f).clock = s.clock := rfl
@[simp] theorem State.modChain_zero (s : State) (k : ChainId) (f : Chain → Chain) : (s.modChain k f).zero = s.zero := rfl
@[simp] theorem State.modChain_freeCtr (s : State) (k : ChainId) (f : Chain → Chain) : (s.modChain k f).freeCtr = s.freeCtr := rfl
@[simp] theorem State.modChain_por (s : State) (k : ChainId) (f : Chain → Chain) : (s.modChain k f).por = s.por := rfl
@[simp] theorem State.modChain_rails (s : State) (k : ChainId) (f : Chain → Chain) : (s.modChain k f).rails = s.rails := rfl
@[simp] theorem State.modChain_viso (s : State) (k : ChainId) (f : Chain → Chain) : (s.modChain k f).viso = s.viso := rfl
@[simp] theorem State.modChain_clk25 (s : State) (k : ChainId) (f : Chain → Chain) : (s.modChain k f).clk25 = s.clk25 := rfl
@[simp] theorem State.modChain_dormantReq (s : State) (k : ChainId) (f : Chain → Chain) : (s.modChain k f).dormantReq = s.dormantReq := rfl
@[simp] theorem State.modChain_dormant (s : State) (k : ChainId) (f : Chain → Chain) : (s.modChain k f).dormant = s.dormant := rfl
@[simp] theorem State.modChain_wokeDormant (s : State) (k : ChainId) (f : Chain → Chain) : (s.modChain k f).wokeDormant = s.wokeDormant := rfl
@[simp] theorem State.modChain_straps (s : State) (k : ChainId) (f : Chain → Chain) : (s.modChain k f).straps = s.straps := rfl
@[simp] theorem State.modChain_strapsNow (s : State) (k : ChainId) (f : Chain → Chain) : (s.modChain k f).strapsNow = s.strapsNow := rfl
@[simp] theorem State.modChain_throttled (s : State) (k : ChainId) (f : Chain → Chain) : (s.modChain k f).throttled = s.throttled := rfl
@[simp] theorem State.modChain_safeN (s : State) (k : ChainId) (f : Chain → Chain) : (s.modChain k f).safeN = s.safeN := rfl
@[simp] theorem State.modChain_safeNAt (s : State) (k : ChainId) (f : Chain → Chain) : (s.modChain k f).safeNAt = s.safeNAt := rfl
@[simp] theorem State.modChain_encSafe (s : State) (k : ChainId) (f : Chain → Chain) : (s.modChain k f).encSafe = s.encSafe := rfl
@[simp] theorem State.modChain_visoLost (s : State) (k : ChainId) (f : Chain → Chain) : (s.modChain k f).visoLost = s.visoLost := rfl
@[simp] theorem State.modChain_devw (s : State) (k : ChainId) (f : Chain → Chain) : (s.modChain k f).devw = s.devw := rfl
@[simp] theorem State.modChain_devwNew (s : State) (k : ChainId) (f : Chain → Chain) : (s.modChain k f).devwNew = s.devwNew := rfl
@[simp] theorem State.modChain_logicMw (s : State) (k : ChainId) (f : Chain → Chain) : (s.modChain k f).logicMw = s.logicMw := rfl
@[simp] theorem State.modChain_visoMw (s : State) (k : ChainId) (f : Chain → Chain) : (s.modChain k f).visoMw = s.visoMw := rfl
@[simp] theorem State.modChain_faultMask (s : State) (k : ChainId) (f : Chain → Chain) : (s.modChain k f).faultMask = s.faultMask := rfl
@[simp] theorem State.modChain_syncw (s : State) (k : ChainId) (f : Chain → Chain) : (s.modChain k f).syncw = s.syncw := rfl
@[simp] theorem State.modChain_flush (s : State) (k : ChainId) (f : Chain → Chain) : (s.modChain k f).flush = s.flush := rfl
@[simp] theorem State.modChain_routes (s : State) (k : ChainId) (f : Chain → Chain) : (s.modChain k f).routes = s.routes := rfl
@[simp] theorem State.modChain_host (s : State) (k : ChainId) (f : Chain → Chain) : (s.modChain k f).host = s.host := rfl
@[simp] theorem State.modChain_msix (s : State) (k : ChainId) (f : Chain → Chain) : (s.modChain k f).msix = s.msix := rfl
@[simp] theorem State.modChain_queues (s : State) (k : ChainId) (f : Chain → Chain) : (s.modChain k f).queues = s.queues := rfl
@[simp] theorem State.modChain_out (s : State) (k : ChainId) (f : Chain → Chain) : (s.modChain k f).out = s.out := rfl
@[simp] theorem State.modChain_outWait (s : State) (k : ChainId) (f : Chain → Chain) : (s.modChain k f).outWait = s.outWait := rfl
@[simp] theorem State.modChain_staging (s : State) (k : ChainId) (f : Chain → Chain) : (s.modChain k f).staging = s.staging := rfl
@[simp] theorem State.modChain_fieldDue (s : State) (k : ChainId) (f : Chain → Chain) : (s.modChain k f).fieldDue = s.fieldDue := rfl
@[simp] theorem State.modChain_ops (s : State) (k : ChainId) (f : Chain → Chain) : (s.modChain k f).ops = s.ops := rfl
@[simp] theorem State.modChain_chans (s : State) (k : ChainId) (f : Chain → Chain) : (s.modChain k f).chans = s.chans := rfl
@[simp] theorem State.modChain_quads (s : State) (k : ChainId) (f : Chain → Chain) : (s.modChain k f).quads = s.quads := rfl
@[simp] theorem State.modChain_reqs (s : State) (k : ChainId) (f : Chain → Chain) : (s.modChain k f).reqs = s.reqs := rfl
@[simp] theorem State.modChain_reqSeq (s : State) (k : ChainId) (f : Chain → Chain) : (s.modChain k f).reqSeq = s.reqSeq := rfl
@[simp] theorem State.modChain_fetchSeq (s : State) (k : ChainId) (f : Chain → Chain) : (s.modChain k f).fetchSeq = s.fetchSeq := rfl
@[simp] theorem State.modChain_ang (s : State) (k : ChainId) (f : Chain → Chain) : (s.modChain k f).ang = s.ang := rfl
@[simp] theorem State.modChain_course (s : State) (k : ChainId) (f : Chain → Chain) : (s.modChain k f).course = s.course := rfl
@[simp] theorem State.modChain_meas (s : State) (k : ChainId) (f : Chain → Chain) : (s.modChain k f).meas = s.meas := rfl
@[simp] theorem State.modChain_chains (s : State) (k : ChainId) (f : Chain → Chain) : (s.modChain k f).chains = s.chains.set k (f s.chains[k]) := rfl
@[simp] theorem State.modChain_syncTick (s : State) (k : ChainId) (f : Chain → Chain) : (s.modChain k f).syncTick = s.syncTick := rfl
@[simp] theorem State.modChain_syncMerged (s : State) (k : ChainId) (f : Chain → Chain) : (s.modChain k f).syncMerged = s.syncMerged := rfl
@[simp] theorem State.modChain_syncOut (s : State) (k : ChainId) (f : Chain → Chain) : (s.modChain k f).syncOut = s.syncOut := rfl
@[simp] theorem State.modChain_arch (s : State) (k : ChainId) (f : Chain → Chain) : (s.modChain k f).arch = s.arch := rfl
@[simp] theorem State.modChain_vault (s : State) (k : ChainId) (f : Chain → Chain) : (s.modChain k f).vault = s.vault := rfl
@[simp] theorem State.modChain_plumb (s : State) (k : ChainId) (f : Chain → Chain) : (s.modChain k f).plumb = s.plumb := rfl
@[simp] theorem State.modChain_serial (s : State) (k : ChainId) (f : Chain → Chain) : (s.modChain k f).serial = s.serial := rfl
@[simp] theorem State.modChain_mason (s : State) (k : ChainId) (f : Chain → Chain) : (s.modChain k f).mason = s.mason := rfl
@[simp] theorem State.modChain_rows (s : State) (k : ChainId) (f : Chain → Chain) : (s.modChain k f).rows = s.rows := rfl
@[simp] theorem State.modChain_locked (s : State) (k : ChainId) (f : Chain → Chain) : (s.modChain k f).locked = s.locked := rfl
@[simp] theorem State.modChain_cfgGen (s : State) (k : ChainId) (f : Chain → Chain) : (s.modChain k f).cfgGen = s.cfgGen := rfl
@[simp] theorem State.modChain_pair (s : State) (k : ChainId) (f : Chain → Chain) : (s.modChain k f).pair = s.pair := rfl
@[simp] theorem State.modChain_plinth (s : State) (k : ChainId) (f : Chain → Chain) : (s.modChain k f).plinth = s.plinth := rfl

@[simp] theorem State.modArch_pending (s : State) (f : Arch → Arch) : (s.modArch f).pending = s.pending := rfl
@[simp] theorem State.modArch_clock (s : State) (f : Arch → Arch) : (s.modArch f).clock = s.clock := rfl
@[simp] theorem State.modArch_zero (s : State) (f : Arch → Arch) : (s.modArch f).zero = s.zero := rfl
@[simp] theorem State.modArch_freeCtr (s : State) (f : Arch → Arch) : (s.modArch f).freeCtr = s.freeCtr := rfl
@[simp] theorem State.modArch_por (s : State) (f : Arch → Arch) : (s.modArch f).por = s.por := rfl
@[simp] theorem State.modArch_rails (s : State) (f : Arch → Arch) : (s.modArch f).rails = s.rails := rfl
@[simp] theorem State.modArch_viso (s : State) (f : Arch → Arch) : (s.modArch f).viso = s.viso := rfl
@[simp] theorem State.modArch_clk25 (s : State) (f : Arch → Arch) : (s.modArch f).clk25 = s.clk25 := rfl
@[simp] theorem State.modArch_dormantReq (s : State) (f : Arch → Arch) : (s.modArch f).dormantReq = s.dormantReq := rfl
@[simp] theorem State.modArch_dormant (s : State) (f : Arch → Arch) : (s.modArch f).dormant = s.dormant := rfl
@[simp] theorem State.modArch_wokeDormant (s : State) (f : Arch → Arch) : (s.modArch f).wokeDormant = s.wokeDormant := rfl
@[simp] theorem State.modArch_straps (s : State) (f : Arch → Arch) : (s.modArch f).straps = s.straps := rfl
@[simp] theorem State.modArch_strapsNow (s : State) (f : Arch → Arch) : (s.modArch f).strapsNow = s.strapsNow := rfl
@[simp] theorem State.modArch_throttled (s : State) (f : Arch → Arch) : (s.modArch f).throttled = s.throttled := rfl
@[simp] theorem State.modArch_safeN (s : State) (f : Arch → Arch) : (s.modArch f).safeN = s.safeN := rfl
@[simp] theorem State.modArch_safeNAt (s : State) (f : Arch → Arch) : (s.modArch f).safeNAt = s.safeNAt := rfl
@[simp] theorem State.modArch_encSafe (s : State) (f : Arch → Arch) : (s.modArch f).encSafe = s.encSafe := rfl
@[simp] theorem State.modArch_visoLost (s : State) (f : Arch → Arch) : (s.modArch f).visoLost = s.visoLost := rfl
@[simp] theorem State.modArch_devw (s : State) (f : Arch → Arch) : (s.modArch f).devw = s.devw := rfl
@[simp] theorem State.modArch_devwNew (s : State) (f : Arch → Arch) : (s.modArch f).devwNew = s.devwNew := rfl
@[simp] theorem State.modArch_logicMw (s : State) (f : Arch → Arch) : (s.modArch f).logicMw = s.logicMw := rfl
@[simp] theorem State.modArch_visoMw (s : State) (f : Arch → Arch) : (s.modArch f).visoMw = s.visoMw := rfl
@[simp] theorem State.modArch_faultMask (s : State) (f : Arch → Arch) : (s.modArch f).faultMask = s.faultMask := rfl
@[simp] theorem State.modArch_syncw (s : State) (f : Arch → Arch) : (s.modArch f).syncw = s.syncw := rfl
@[simp] theorem State.modArch_flush (s : State) (f : Arch → Arch) : (s.modArch f).flush = s.flush := rfl
@[simp] theorem State.modArch_routes (s : State) (f : Arch → Arch) : (s.modArch f).routes = s.routes := rfl
@[simp] theorem State.modArch_host (s : State) (f : Arch → Arch) : (s.modArch f).host = s.host := rfl
@[simp] theorem State.modArch_msix (s : State) (f : Arch → Arch) : (s.modArch f).msix = s.msix := rfl
@[simp] theorem State.modArch_queues (s : State) (f : Arch → Arch) : (s.modArch f).queues = s.queues := rfl
@[simp] theorem State.modArch_out (s : State) (f : Arch → Arch) : (s.modArch f).out = s.out := rfl
@[simp] theorem State.modArch_outWait (s : State) (f : Arch → Arch) : (s.modArch f).outWait = s.outWait := rfl
@[simp] theorem State.modArch_staging (s : State) (f : Arch → Arch) : (s.modArch f).staging = s.staging := rfl
@[simp] theorem State.modArch_fieldDue (s : State) (f : Arch → Arch) : (s.modArch f).fieldDue = s.fieldDue := rfl
@[simp] theorem State.modArch_ops (s : State) (f : Arch → Arch) : (s.modArch f).ops = s.ops := rfl
@[simp] theorem State.modArch_chans (s : State) (f : Arch → Arch) : (s.modArch f).chans = s.chans := rfl
@[simp] theorem State.modArch_quads (s : State) (f : Arch → Arch) : (s.modArch f).quads = s.quads := rfl
@[simp] theorem State.modArch_reqs (s : State) (f : Arch → Arch) : (s.modArch f).reqs = s.reqs := rfl
@[simp] theorem State.modArch_reqSeq (s : State) (f : Arch → Arch) : (s.modArch f).reqSeq = s.reqSeq := rfl
@[simp] theorem State.modArch_fetchSeq (s : State) (f : Arch → Arch) : (s.modArch f).fetchSeq = s.fetchSeq := rfl
@[simp] theorem State.modArch_ang (s : State) (f : Arch → Arch) : (s.modArch f).ang = s.ang := rfl
@[simp] theorem State.modArch_course (s : State) (f : Arch → Arch) : (s.modArch f).course = s.course := rfl
@[simp] theorem State.modArch_meas (s : State) (f : Arch → Arch) : (s.modArch f).meas = s.meas := rfl
@[simp] theorem State.modArch_chains (s : State) (f : Arch → Arch) : (s.modArch f).chains = s.chains := rfl
@[simp] theorem State.modArch_syncTick (s : State) (f : Arch → Arch) : (s.modArch f).syncTick = s.syncTick := rfl
@[simp] theorem State.modArch_syncMerged (s : State) (f : Arch → Arch) : (s.modArch f).syncMerged = s.syncMerged := rfl
@[simp] theorem State.modArch_syncOut (s : State) (f : Arch → Arch) : (s.modArch f).syncOut = s.syncOut := rfl
@[simp] theorem State.modArch_arch (s : State) (f : Arch → Arch) : (s.modArch f).arch = f s.arch := rfl
@[simp] theorem State.modArch_vault (s : State) (f : Arch → Arch) : (s.modArch f).vault = s.vault := rfl
@[simp] theorem State.modArch_plumb (s : State) (f : Arch → Arch) : (s.modArch f).plumb = s.plumb := rfl
@[simp] theorem State.modArch_serial (s : State) (f : Arch → Arch) : (s.modArch f).serial = s.serial := rfl
@[simp] theorem State.modArch_mason (s : State) (f : Arch → Arch) : (s.modArch f).mason = s.mason := rfl
@[simp] theorem State.modArch_rows (s : State) (f : Arch → Arch) : (s.modArch f).rows = s.rows := rfl
@[simp] theorem State.modArch_locked (s : State) (f : Arch → Arch) : (s.modArch f).locked = s.locked := rfl
@[simp] theorem State.modArch_cfgGen (s : State) (f : Arch → Arch) : (s.modArch f).cfgGen = s.cfgGen := rfl
@[simp] theorem State.modArch_pair (s : State) (f : Arch → Arch) : (s.modArch f).pair = s.pair := rfl
@[simp] theorem State.modArch_plinth (s : State) (f : Arch → Arch) : (s.modArch f).plinth = s.plinth := rfl

@[simp] theorem State.modPlumb_pending (s : State) (x : CtxId) (f : Plumb → Plumb) : (s.modPlumb x f).pending = s.pending := rfl
@[simp] theorem State.modPlumb_clock (s : State) (x : CtxId) (f : Plumb → Plumb) : (s.modPlumb x f).clock = s.clock := rfl
@[simp] theorem State.modPlumb_zero (s : State) (x : CtxId) (f : Plumb → Plumb) : (s.modPlumb x f).zero = s.zero := rfl
@[simp] theorem State.modPlumb_freeCtr (s : State) (x : CtxId) (f : Plumb → Plumb) : (s.modPlumb x f).freeCtr = s.freeCtr := rfl
@[simp] theorem State.modPlumb_por (s : State) (x : CtxId) (f : Plumb → Plumb) : (s.modPlumb x f).por = s.por := rfl
@[simp] theorem State.modPlumb_rails (s : State) (x : CtxId) (f : Plumb → Plumb) : (s.modPlumb x f).rails = s.rails := rfl
@[simp] theorem State.modPlumb_viso (s : State) (x : CtxId) (f : Plumb → Plumb) : (s.modPlumb x f).viso = s.viso := rfl
@[simp] theorem State.modPlumb_clk25 (s : State) (x : CtxId) (f : Plumb → Plumb) : (s.modPlumb x f).clk25 = s.clk25 := rfl
@[simp] theorem State.modPlumb_dormantReq (s : State) (x : CtxId) (f : Plumb → Plumb) : (s.modPlumb x f).dormantReq = s.dormantReq := rfl
@[simp] theorem State.modPlumb_dormant (s : State) (x : CtxId) (f : Plumb → Plumb) : (s.modPlumb x f).dormant = s.dormant := rfl
@[simp] theorem State.modPlumb_wokeDormant (s : State) (x : CtxId) (f : Plumb → Plumb) : (s.modPlumb x f).wokeDormant = s.wokeDormant := rfl
@[simp] theorem State.modPlumb_straps (s : State) (x : CtxId) (f : Plumb → Plumb) : (s.modPlumb x f).straps = s.straps := rfl
@[simp] theorem State.modPlumb_strapsNow (s : State) (x : CtxId) (f : Plumb → Plumb) : (s.modPlumb x f).strapsNow = s.strapsNow := rfl
@[simp] theorem State.modPlumb_throttled (s : State) (x : CtxId) (f : Plumb → Plumb) : (s.modPlumb x f).throttled = s.throttled := rfl
@[simp] theorem State.modPlumb_safeN (s : State) (x : CtxId) (f : Plumb → Plumb) : (s.modPlumb x f).safeN = s.safeN := rfl
@[simp] theorem State.modPlumb_safeNAt (s : State) (x : CtxId) (f : Plumb → Plumb) : (s.modPlumb x f).safeNAt = s.safeNAt := rfl
@[simp] theorem State.modPlumb_encSafe (s : State) (x : CtxId) (f : Plumb → Plumb) : (s.modPlumb x f).encSafe = s.encSafe := rfl
@[simp] theorem State.modPlumb_visoLost (s : State) (x : CtxId) (f : Plumb → Plumb) : (s.modPlumb x f).visoLost = s.visoLost := rfl
@[simp] theorem State.modPlumb_devw (s : State) (x : CtxId) (f : Plumb → Plumb) : (s.modPlumb x f).devw = s.devw := rfl
@[simp] theorem State.modPlumb_devwNew (s : State) (x : CtxId) (f : Plumb → Plumb) : (s.modPlumb x f).devwNew = s.devwNew := rfl
@[simp] theorem State.modPlumb_logicMw (s : State) (x : CtxId) (f : Plumb → Plumb) : (s.modPlumb x f).logicMw = s.logicMw := rfl
@[simp] theorem State.modPlumb_visoMw (s : State) (x : CtxId) (f : Plumb → Plumb) : (s.modPlumb x f).visoMw = s.visoMw := rfl
@[simp] theorem State.modPlumb_faultMask (s : State) (x : CtxId) (f : Plumb → Plumb) : (s.modPlumb x f).faultMask = s.faultMask := rfl
@[simp] theorem State.modPlumb_syncw (s : State) (x : CtxId) (f : Plumb → Plumb) : (s.modPlumb x f).syncw = s.syncw := rfl
@[simp] theorem State.modPlumb_flush (s : State) (x : CtxId) (f : Plumb → Plumb) : (s.modPlumb x f).flush = s.flush := rfl
@[simp] theorem State.modPlumb_routes (s : State) (x : CtxId) (f : Plumb → Plumb) : (s.modPlumb x f).routes = s.routes := rfl
@[simp] theorem State.modPlumb_host (s : State) (x : CtxId) (f : Plumb → Plumb) : (s.modPlumb x f).host = s.host := rfl
@[simp] theorem State.modPlumb_msix (s : State) (x : CtxId) (f : Plumb → Plumb) : (s.modPlumb x f).msix = s.msix := rfl
@[simp] theorem State.modPlumb_queues (s : State) (x : CtxId) (f : Plumb → Plumb) : (s.modPlumb x f).queues = s.queues := rfl
@[simp] theorem State.modPlumb_out (s : State) (x : CtxId) (f : Plumb → Plumb) : (s.modPlumb x f).out = s.out := rfl
@[simp] theorem State.modPlumb_outWait (s : State) (x : CtxId) (f : Plumb → Plumb) : (s.modPlumb x f).outWait = s.outWait := rfl
@[simp] theorem State.modPlumb_staging (s : State) (x : CtxId) (f : Plumb → Plumb) : (s.modPlumb x f).staging = s.staging := rfl
@[simp] theorem State.modPlumb_fieldDue (s : State) (x : CtxId) (f : Plumb → Plumb) : (s.modPlumb x f).fieldDue = s.fieldDue := rfl
@[simp] theorem State.modPlumb_ops (s : State) (x : CtxId) (f : Plumb → Plumb) : (s.modPlumb x f).ops = s.ops := rfl
@[simp] theorem State.modPlumb_chans (s : State) (x : CtxId) (f : Plumb → Plumb) : (s.modPlumb x f).chans = s.chans := rfl
@[simp] theorem State.modPlumb_quads (s : State) (x : CtxId) (f : Plumb → Plumb) : (s.modPlumb x f).quads = s.quads := rfl
@[simp] theorem State.modPlumb_reqs (s : State) (x : CtxId) (f : Plumb → Plumb) : (s.modPlumb x f).reqs = s.reqs := rfl
@[simp] theorem State.modPlumb_reqSeq (s : State) (x : CtxId) (f : Plumb → Plumb) : (s.modPlumb x f).reqSeq = s.reqSeq := rfl
@[simp] theorem State.modPlumb_fetchSeq (s : State) (x : CtxId) (f : Plumb → Plumb) : (s.modPlumb x f).fetchSeq = s.fetchSeq := rfl
@[simp] theorem State.modPlumb_ang (s : State) (x : CtxId) (f : Plumb → Plumb) : (s.modPlumb x f).ang = s.ang := rfl
@[simp] theorem State.modPlumb_course (s : State) (x : CtxId) (f : Plumb → Plumb) : (s.modPlumb x f).course = s.course := rfl
@[simp] theorem State.modPlumb_meas (s : State) (x : CtxId) (f : Plumb → Plumb) : (s.modPlumb x f).meas = s.meas := rfl
@[simp] theorem State.modPlumb_chains (s : State) (x : CtxId) (f : Plumb → Plumb) : (s.modPlumb x f).chains = s.chains := rfl
@[simp] theorem State.modPlumb_syncTick (s : State) (x : CtxId) (f : Plumb → Plumb) : (s.modPlumb x f).syncTick = s.syncTick := rfl
@[simp] theorem State.modPlumb_syncMerged (s : State) (x : CtxId) (f : Plumb → Plumb) : (s.modPlumb x f).syncMerged = s.syncMerged := rfl
@[simp] theorem State.modPlumb_syncOut (s : State) (x : CtxId) (f : Plumb → Plumb) : (s.modPlumb x f).syncOut = s.syncOut := rfl
@[simp] theorem State.modPlumb_arch (s : State) (x : CtxId) (f : Plumb → Plumb) : (s.modPlumb x f).arch = s.arch := rfl
@[simp] theorem State.modPlumb_vault (s : State) (x : CtxId) (f : Plumb → Plumb) : (s.modPlumb x f).vault = s.vault := rfl
@[simp] theorem State.modPlumb_plumb (s : State) (x : CtxId) (f : Plumb → Plumb) : (s.modPlumb x f).plumb = s.plumb.set x (f s.plumb[x]) := rfl
@[simp] theorem State.modPlumb_serial (s : State) (x : CtxId) (f : Plumb → Plumb) : (s.modPlumb x f).serial = s.serial := rfl
@[simp] theorem State.modPlumb_mason (s : State) (x : CtxId) (f : Plumb → Plumb) : (s.modPlumb x f).mason = s.mason := rfl
@[simp] theorem State.modPlumb_rows (s : State) (x : CtxId) (f : Plumb → Plumb) : (s.modPlumb x f).rows = s.rows := rfl
@[simp] theorem State.modPlumb_locked (s : State) (x : CtxId) (f : Plumb → Plumb) : (s.modPlumb x f).locked = s.locked := rfl
@[simp] theorem State.modPlumb_cfgGen (s : State) (x : CtxId) (f : Plumb → Plumb) : (s.modPlumb x f).cfgGen = s.cfgGen := rfl
@[simp] theorem State.modPlumb_pair (s : State) (x : CtxId) (f : Plumb → Plumb) : (s.modPlumb x f).pair = s.pair := rfl
@[simp] theorem State.modPlumb_plinth (s : State) (x : CtxId) (f : Plumb → Plumb) : (s.modPlumb x f).plinth = s.plinth := rfl

@[simp] theorem State.modSerial_pending (s : State) (f : Serial → Serial) : (s.modSerial f).pending = s.pending := rfl
@[simp] theorem State.modSerial_clock (s : State) (f : Serial → Serial) : (s.modSerial f).clock = s.clock := rfl
@[simp] theorem State.modSerial_zero (s : State) (f : Serial → Serial) : (s.modSerial f).zero = s.zero := rfl
@[simp] theorem State.modSerial_freeCtr (s : State) (f : Serial → Serial) : (s.modSerial f).freeCtr = s.freeCtr := rfl
@[simp] theorem State.modSerial_por (s : State) (f : Serial → Serial) : (s.modSerial f).por = s.por := rfl
@[simp] theorem State.modSerial_rails (s : State) (f : Serial → Serial) : (s.modSerial f).rails = s.rails := rfl
@[simp] theorem State.modSerial_viso (s : State) (f : Serial → Serial) : (s.modSerial f).viso = s.viso := rfl
@[simp] theorem State.modSerial_clk25 (s : State) (f : Serial → Serial) : (s.modSerial f).clk25 = s.clk25 := rfl
@[simp] theorem State.modSerial_dormantReq (s : State) (f : Serial → Serial) : (s.modSerial f).dormantReq = s.dormantReq := rfl
@[simp] theorem State.modSerial_dormant (s : State) (f : Serial → Serial) : (s.modSerial f).dormant = s.dormant := rfl
@[simp] theorem State.modSerial_wokeDormant (s : State) (f : Serial → Serial) : (s.modSerial f).wokeDormant = s.wokeDormant := rfl
@[simp] theorem State.modSerial_straps (s : State) (f : Serial → Serial) : (s.modSerial f).straps = s.straps := rfl
@[simp] theorem State.modSerial_strapsNow (s : State) (f : Serial → Serial) : (s.modSerial f).strapsNow = s.strapsNow := rfl
@[simp] theorem State.modSerial_throttled (s : State) (f : Serial → Serial) : (s.modSerial f).throttled = s.throttled := rfl
@[simp] theorem State.modSerial_safeN (s : State) (f : Serial → Serial) : (s.modSerial f).safeN = s.safeN := rfl
@[simp] theorem State.modSerial_safeNAt (s : State) (f : Serial → Serial) : (s.modSerial f).safeNAt = s.safeNAt := rfl
@[simp] theorem State.modSerial_encSafe (s : State) (f : Serial → Serial) : (s.modSerial f).encSafe = s.encSafe := rfl
@[simp] theorem State.modSerial_visoLost (s : State) (f : Serial → Serial) : (s.modSerial f).visoLost = s.visoLost := rfl
@[simp] theorem State.modSerial_devw (s : State) (f : Serial → Serial) : (s.modSerial f).devw = s.devw := rfl
@[simp] theorem State.modSerial_devwNew (s : State) (f : Serial → Serial) : (s.modSerial f).devwNew = s.devwNew := rfl
@[simp] theorem State.modSerial_logicMw (s : State) (f : Serial → Serial) : (s.modSerial f).logicMw = s.logicMw := rfl
@[simp] theorem State.modSerial_visoMw (s : State) (f : Serial → Serial) : (s.modSerial f).visoMw = s.visoMw := rfl
@[simp] theorem State.modSerial_faultMask (s : State) (f : Serial → Serial) : (s.modSerial f).faultMask = s.faultMask := rfl
@[simp] theorem State.modSerial_syncw (s : State) (f : Serial → Serial) : (s.modSerial f).syncw = s.syncw := rfl
@[simp] theorem State.modSerial_flush (s : State) (f : Serial → Serial) : (s.modSerial f).flush = s.flush := rfl
@[simp] theorem State.modSerial_routes (s : State) (f : Serial → Serial) : (s.modSerial f).routes = s.routes := rfl
@[simp] theorem State.modSerial_host (s : State) (f : Serial → Serial) : (s.modSerial f).host = s.host := rfl
@[simp] theorem State.modSerial_msix (s : State) (f : Serial → Serial) : (s.modSerial f).msix = s.msix := rfl
@[simp] theorem State.modSerial_queues (s : State) (f : Serial → Serial) : (s.modSerial f).queues = s.queues := rfl
@[simp] theorem State.modSerial_out (s : State) (f : Serial → Serial) : (s.modSerial f).out = s.out := rfl
@[simp] theorem State.modSerial_outWait (s : State) (f : Serial → Serial) : (s.modSerial f).outWait = s.outWait := rfl
@[simp] theorem State.modSerial_staging (s : State) (f : Serial → Serial) : (s.modSerial f).staging = s.staging := rfl
@[simp] theorem State.modSerial_fieldDue (s : State) (f : Serial → Serial) : (s.modSerial f).fieldDue = s.fieldDue := rfl
@[simp] theorem State.modSerial_ops (s : State) (f : Serial → Serial) : (s.modSerial f).ops = s.ops := rfl
@[simp] theorem State.modSerial_chans (s : State) (f : Serial → Serial) : (s.modSerial f).chans = s.chans := rfl
@[simp] theorem State.modSerial_quads (s : State) (f : Serial → Serial) : (s.modSerial f).quads = s.quads := rfl
@[simp] theorem State.modSerial_reqs (s : State) (f : Serial → Serial) : (s.modSerial f).reqs = s.reqs := rfl
@[simp] theorem State.modSerial_reqSeq (s : State) (f : Serial → Serial) : (s.modSerial f).reqSeq = s.reqSeq := rfl
@[simp] theorem State.modSerial_fetchSeq (s : State) (f : Serial → Serial) : (s.modSerial f).fetchSeq = s.fetchSeq := rfl
@[simp] theorem State.modSerial_ang (s : State) (f : Serial → Serial) : (s.modSerial f).ang = s.ang := rfl
@[simp] theorem State.modSerial_course (s : State) (f : Serial → Serial) : (s.modSerial f).course = s.course := rfl
@[simp] theorem State.modSerial_meas (s : State) (f : Serial → Serial) : (s.modSerial f).meas = s.meas := rfl
@[simp] theorem State.modSerial_chains (s : State) (f : Serial → Serial) : (s.modSerial f).chains = s.chains := rfl
@[simp] theorem State.modSerial_syncTick (s : State) (f : Serial → Serial) : (s.modSerial f).syncTick = s.syncTick := rfl
@[simp] theorem State.modSerial_syncMerged (s : State) (f : Serial → Serial) : (s.modSerial f).syncMerged = s.syncMerged := rfl
@[simp] theorem State.modSerial_syncOut (s : State) (f : Serial → Serial) : (s.modSerial f).syncOut = s.syncOut := rfl
@[simp] theorem State.modSerial_arch (s : State) (f : Serial → Serial) : (s.modSerial f).arch = s.arch := rfl
@[simp] theorem State.modSerial_vault (s : State) (f : Serial → Serial) : (s.modSerial f).vault = s.vault := rfl
@[simp] theorem State.modSerial_plumb (s : State) (f : Serial → Serial) : (s.modSerial f).plumb = s.plumb := rfl
@[simp] theorem State.modSerial_serial (s : State) (f : Serial → Serial) : (s.modSerial f).serial = f s.serial := rfl
@[simp] theorem State.modSerial_mason (s : State) (f : Serial → Serial) : (s.modSerial f).mason = s.mason := rfl
@[simp] theorem State.modSerial_rows (s : State) (f : Serial → Serial) : (s.modSerial f).rows = s.rows := rfl
@[simp] theorem State.modSerial_locked (s : State) (f : Serial → Serial) : (s.modSerial f).locked = s.locked := rfl
@[simp] theorem State.modSerial_cfgGen (s : State) (f : Serial → Serial) : (s.modSerial f).cfgGen = s.cfgGen := rfl
@[simp] theorem State.modSerial_pair (s : State) (f : Serial → Serial) : (s.modSerial f).pair = s.pair := rfl
@[simp] theorem State.modSerial_plinth (s : State) (f : Serial → Serial) : (s.modSerial f).plinth = s.plinth := rfl

@[simp] theorem State.modMason_pending (s : State) (f : Mason → Mason) : (s.modMason f).pending = s.pending := rfl
@[simp] theorem State.modMason_clock (s : State) (f : Mason → Mason) : (s.modMason f).clock = s.clock := rfl
@[simp] theorem State.modMason_zero (s : State) (f : Mason → Mason) : (s.modMason f).zero = s.zero := rfl
@[simp] theorem State.modMason_freeCtr (s : State) (f : Mason → Mason) : (s.modMason f).freeCtr = s.freeCtr := rfl
@[simp] theorem State.modMason_por (s : State) (f : Mason → Mason) : (s.modMason f).por = s.por := rfl
@[simp] theorem State.modMason_rails (s : State) (f : Mason → Mason) : (s.modMason f).rails = s.rails := rfl
@[simp] theorem State.modMason_viso (s : State) (f : Mason → Mason) : (s.modMason f).viso = s.viso := rfl
@[simp] theorem State.modMason_clk25 (s : State) (f : Mason → Mason) : (s.modMason f).clk25 = s.clk25 := rfl
@[simp] theorem State.modMason_dormantReq (s : State) (f : Mason → Mason) : (s.modMason f).dormantReq = s.dormantReq := rfl
@[simp] theorem State.modMason_dormant (s : State) (f : Mason → Mason) : (s.modMason f).dormant = s.dormant := rfl
@[simp] theorem State.modMason_wokeDormant (s : State) (f : Mason → Mason) : (s.modMason f).wokeDormant = s.wokeDormant := rfl
@[simp] theorem State.modMason_straps (s : State) (f : Mason → Mason) : (s.modMason f).straps = s.straps := rfl
@[simp] theorem State.modMason_strapsNow (s : State) (f : Mason → Mason) : (s.modMason f).strapsNow = s.strapsNow := rfl
@[simp] theorem State.modMason_throttled (s : State) (f : Mason → Mason) : (s.modMason f).throttled = s.throttled := rfl
@[simp] theorem State.modMason_safeN (s : State) (f : Mason → Mason) : (s.modMason f).safeN = s.safeN := rfl
@[simp] theorem State.modMason_safeNAt (s : State) (f : Mason → Mason) : (s.modMason f).safeNAt = s.safeNAt := rfl
@[simp] theorem State.modMason_encSafe (s : State) (f : Mason → Mason) : (s.modMason f).encSafe = s.encSafe := rfl
@[simp] theorem State.modMason_visoLost (s : State) (f : Mason → Mason) : (s.modMason f).visoLost = s.visoLost := rfl
@[simp] theorem State.modMason_devw (s : State) (f : Mason → Mason) : (s.modMason f).devw = s.devw := rfl
@[simp] theorem State.modMason_devwNew (s : State) (f : Mason → Mason) : (s.modMason f).devwNew = s.devwNew := rfl
@[simp] theorem State.modMason_logicMw (s : State) (f : Mason → Mason) : (s.modMason f).logicMw = s.logicMw := rfl
@[simp] theorem State.modMason_visoMw (s : State) (f : Mason → Mason) : (s.modMason f).visoMw = s.visoMw := rfl
@[simp] theorem State.modMason_faultMask (s : State) (f : Mason → Mason) : (s.modMason f).faultMask = s.faultMask := rfl
@[simp] theorem State.modMason_syncw (s : State) (f : Mason → Mason) : (s.modMason f).syncw = s.syncw := rfl
@[simp] theorem State.modMason_flush (s : State) (f : Mason → Mason) : (s.modMason f).flush = s.flush := rfl
@[simp] theorem State.modMason_routes (s : State) (f : Mason → Mason) : (s.modMason f).routes = s.routes := rfl
@[simp] theorem State.modMason_host (s : State) (f : Mason → Mason) : (s.modMason f).host = s.host := rfl
@[simp] theorem State.modMason_msix (s : State) (f : Mason → Mason) : (s.modMason f).msix = s.msix := rfl
@[simp] theorem State.modMason_queues (s : State) (f : Mason → Mason) : (s.modMason f).queues = s.queues := rfl
@[simp] theorem State.modMason_out (s : State) (f : Mason → Mason) : (s.modMason f).out = s.out := rfl
@[simp] theorem State.modMason_outWait (s : State) (f : Mason → Mason) : (s.modMason f).outWait = s.outWait := rfl
@[simp] theorem State.modMason_staging (s : State) (f : Mason → Mason) : (s.modMason f).staging = s.staging := rfl
@[simp] theorem State.modMason_fieldDue (s : State) (f : Mason → Mason) : (s.modMason f).fieldDue = s.fieldDue := rfl
@[simp] theorem State.modMason_ops (s : State) (f : Mason → Mason) : (s.modMason f).ops = s.ops := rfl
@[simp] theorem State.modMason_chans (s : State) (f : Mason → Mason) : (s.modMason f).chans = s.chans := rfl
@[simp] theorem State.modMason_quads (s : State) (f : Mason → Mason) : (s.modMason f).quads = s.quads := rfl
@[simp] theorem State.modMason_reqs (s : State) (f : Mason → Mason) : (s.modMason f).reqs = s.reqs := rfl
@[simp] theorem State.modMason_reqSeq (s : State) (f : Mason → Mason) : (s.modMason f).reqSeq = s.reqSeq := rfl
@[simp] theorem State.modMason_fetchSeq (s : State) (f : Mason → Mason) : (s.modMason f).fetchSeq = s.fetchSeq := rfl
@[simp] theorem State.modMason_ang (s : State) (f : Mason → Mason) : (s.modMason f).ang = s.ang := rfl
@[simp] theorem State.modMason_course (s : State) (f : Mason → Mason) : (s.modMason f).course = s.course := rfl
@[simp] theorem State.modMason_meas (s : State) (f : Mason → Mason) : (s.modMason f).meas = s.meas := rfl
@[simp] theorem State.modMason_chains (s : State) (f : Mason → Mason) : (s.modMason f).chains = s.chains := rfl
@[simp] theorem State.modMason_syncTick (s : State) (f : Mason → Mason) : (s.modMason f).syncTick = s.syncTick := rfl
@[simp] theorem State.modMason_syncMerged (s : State) (f : Mason → Mason) : (s.modMason f).syncMerged = s.syncMerged := rfl
@[simp] theorem State.modMason_syncOut (s : State) (f : Mason → Mason) : (s.modMason f).syncOut = s.syncOut := rfl
@[simp] theorem State.modMason_arch (s : State) (f : Mason → Mason) : (s.modMason f).arch = s.arch := rfl
@[simp] theorem State.modMason_vault (s : State) (f : Mason → Mason) : (s.modMason f).vault = s.vault := rfl
@[simp] theorem State.modMason_plumb (s : State) (f : Mason → Mason) : (s.modMason f).plumb = s.plumb := rfl
@[simp] theorem State.modMason_serial (s : State) (f : Mason → Mason) : (s.modMason f).serial = s.serial := rfl
@[simp] theorem State.modMason_mason (s : State) (f : Mason → Mason) : (s.modMason f).mason = f s.mason := rfl
@[simp] theorem State.modMason_rows (s : State) (f : Mason → Mason) : (s.modMason f).rows = s.rows := rfl
@[simp] theorem State.modMason_locked (s : State) (f : Mason → Mason) : (s.modMason f).locked = s.locked := rfl
@[simp] theorem State.modMason_cfgGen (s : State) (f : Mason → Mason) : (s.modMason f).cfgGen = s.cfgGen := rfl
@[simp] theorem State.modMason_pair (s : State) (f : Mason → Mason) : (s.modMason f).pair = s.pair := rfl
@[simp] theorem State.modMason_plinth (s : State) (f : Mason → Mason) : (s.modMason f).plinth = s.plinth := rfl

@[simp] theorem State.modPair_pending (s : State) (f : Pair → Pair) : (s.modPair f).pending = s.pending := rfl
@[simp] theorem State.modPair_clock (s : State) (f : Pair → Pair) : (s.modPair f).clock = s.clock := rfl
@[simp] theorem State.modPair_zero (s : State) (f : Pair → Pair) : (s.modPair f).zero = s.zero := rfl
@[simp] theorem State.modPair_freeCtr (s : State) (f : Pair → Pair) : (s.modPair f).freeCtr = s.freeCtr := rfl
@[simp] theorem State.modPair_por (s : State) (f : Pair → Pair) : (s.modPair f).por = s.por := rfl
@[simp] theorem State.modPair_rails (s : State) (f : Pair → Pair) : (s.modPair f).rails = s.rails := rfl
@[simp] theorem State.modPair_viso (s : State) (f : Pair → Pair) : (s.modPair f).viso = s.viso := rfl
@[simp] theorem State.modPair_clk25 (s : State) (f : Pair → Pair) : (s.modPair f).clk25 = s.clk25 := rfl
@[simp] theorem State.modPair_dormantReq (s : State) (f : Pair → Pair) : (s.modPair f).dormantReq = s.dormantReq := rfl
@[simp] theorem State.modPair_dormant (s : State) (f : Pair → Pair) : (s.modPair f).dormant = s.dormant := rfl
@[simp] theorem State.modPair_wokeDormant (s : State) (f : Pair → Pair) : (s.modPair f).wokeDormant = s.wokeDormant := rfl
@[simp] theorem State.modPair_straps (s : State) (f : Pair → Pair) : (s.modPair f).straps = s.straps := rfl
@[simp] theorem State.modPair_strapsNow (s : State) (f : Pair → Pair) : (s.modPair f).strapsNow = s.strapsNow := rfl
@[simp] theorem State.modPair_throttled (s : State) (f : Pair → Pair) : (s.modPair f).throttled = s.throttled := rfl
@[simp] theorem State.modPair_safeN (s : State) (f : Pair → Pair) : (s.modPair f).safeN = s.safeN := rfl
@[simp] theorem State.modPair_safeNAt (s : State) (f : Pair → Pair) : (s.modPair f).safeNAt = s.safeNAt := rfl
@[simp] theorem State.modPair_encSafe (s : State) (f : Pair → Pair) : (s.modPair f).encSafe = s.encSafe := rfl
@[simp] theorem State.modPair_visoLost (s : State) (f : Pair → Pair) : (s.modPair f).visoLost = s.visoLost := rfl
@[simp] theorem State.modPair_devw (s : State) (f : Pair → Pair) : (s.modPair f).devw = s.devw := rfl
@[simp] theorem State.modPair_devwNew (s : State) (f : Pair → Pair) : (s.modPair f).devwNew = s.devwNew := rfl
@[simp] theorem State.modPair_logicMw (s : State) (f : Pair → Pair) : (s.modPair f).logicMw = s.logicMw := rfl
@[simp] theorem State.modPair_visoMw (s : State) (f : Pair → Pair) : (s.modPair f).visoMw = s.visoMw := rfl
@[simp] theorem State.modPair_faultMask (s : State) (f : Pair → Pair) : (s.modPair f).faultMask = s.faultMask := rfl
@[simp] theorem State.modPair_syncw (s : State) (f : Pair → Pair) : (s.modPair f).syncw = s.syncw := rfl
@[simp] theorem State.modPair_flush (s : State) (f : Pair → Pair) : (s.modPair f).flush = s.flush := rfl
@[simp] theorem State.modPair_routes (s : State) (f : Pair → Pair) : (s.modPair f).routes = s.routes := rfl
@[simp] theorem State.modPair_host (s : State) (f : Pair → Pair) : (s.modPair f).host = s.host := rfl
@[simp] theorem State.modPair_msix (s : State) (f : Pair → Pair) : (s.modPair f).msix = s.msix := rfl
@[simp] theorem State.modPair_queues (s : State) (f : Pair → Pair) : (s.modPair f).queues = s.queues := rfl
@[simp] theorem State.modPair_out (s : State) (f : Pair → Pair) : (s.modPair f).out = s.out := rfl
@[simp] theorem State.modPair_outWait (s : State) (f : Pair → Pair) : (s.modPair f).outWait = s.outWait := rfl
@[simp] theorem State.modPair_staging (s : State) (f : Pair → Pair) : (s.modPair f).staging = s.staging := rfl
@[simp] theorem State.modPair_fieldDue (s : State) (f : Pair → Pair) : (s.modPair f).fieldDue = s.fieldDue := rfl
@[simp] theorem State.modPair_ops (s : State) (f : Pair → Pair) : (s.modPair f).ops = s.ops := rfl
@[simp] theorem State.modPair_chans (s : State) (f : Pair → Pair) : (s.modPair f).chans = s.chans := rfl
@[simp] theorem State.modPair_quads (s : State) (f : Pair → Pair) : (s.modPair f).quads = s.quads := rfl
@[simp] theorem State.modPair_reqs (s : State) (f : Pair → Pair) : (s.modPair f).reqs = s.reqs := rfl
@[simp] theorem State.modPair_reqSeq (s : State) (f : Pair → Pair) : (s.modPair f).reqSeq = s.reqSeq := rfl
@[simp] theorem State.modPair_fetchSeq (s : State) (f : Pair → Pair) : (s.modPair f).fetchSeq = s.fetchSeq := rfl
@[simp] theorem State.modPair_ang (s : State) (f : Pair → Pair) : (s.modPair f).ang = s.ang := rfl
@[simp] theorem State.modPair_course (s : State) (f : Pair → Pair) : (s.modPair f).course = s.course := rfl
@[simp] theorem State.modPair_meas (s : State) (f : Pair → Pair) : (s.modPair f).meas = s.meas := rfl
@[simp] theorem State.modPair_chains (s : State) (f : Pair → Pair) : (s.modPair f).chains = s.chains := rfl
@[simp] theorem State.modPair_syncTick (s : State) (f : Pair → Pair) : (s.modPair f).syncTick = s.syncTick := rfl
@[simp] theorem State.modPair_syncMerged (s : State) (f : Pair → Pair) : (s.modPair f).syncMerged = s.syncMerged := rfl
@[simp] theorem State.modPair_syncOut (s : State) (f : Pair → Pair) : (s.modPair f).syncOut = s.syncOut := rfl
@[simp] theorem State.modPair_arch (s : State) (f : Pair → Pair) : (s.modPair f).arch = s.arch := rfl
@[simp] theorem State.modPair_vault (s : State) (f : Pair → Pair) : (s.modPair f).vault = s.vault := rfl
@[simp] theorem State.modPair_plumb (s : State) (f : Pair → Pair) : (s.modPair f).plumb = s.plumb := rfl
@[simp] theorem State.modPair_serial (s : State) (f : Pair → Pair) : (s.modPair f).serial = s.serial := rfl
@[simp] theorem State.modPair_mason (s : State) (f : Pair → Pair) : (s.modPair f).mason = s.mason := rfl
@[simp] theorem State.modPair_rows (s : State) (f : Pair → Pair) : (s.modPair f).rows = s.rows := rfl
@[simp] theorem State.modPair_locked (s : State) (f : Pair → Pair) : (s.modPair f).locked = s.locked := rfl
@[simp] theorem State.modPair_cfgGen (s : State) (f : Pair → Pair) : (s.modPair f).cfgGen = s.cfgGen := rfl
@[simp] theorem State.modPair_pair (s : State) (f : Pair → Pair) : (s.modPair f).pair = f s.pair := rfl
@[simp] theorem State.modPair_plinth (s : State) (f : Pair → Pair) : (s.modPair f).plinth = s.plinth := rfl

@[simp] theorem State.elapse_pending (s : State) (dt : Nat) : (s.elapse dt).pending = s.pending := rfl
@[simp] theorem State.elapse_clock (s : State) (dt : Nat) : (s.elapse dt).clock = s.clock + 8 * dt := rfl
@[simp] theorem State.elapse_zero (s : State) (dt : Nat) : (s.elapse dt).zero = s.zero := rfl
@[simp] theorem State.elapse_freeCtr (s : State) (dt : Nat) : (s.elapse dt).freeCtr = s.freeCtr := rfl
@[simp] theorem State.elapse_por (s : State) (dt : Nat) : (s.elapse dt).por = s.por := rfl
@[simp] theorem State.elapse_rails (s : State) (dt : Nat) : (s.elapse dt).rails = s.rails := rfl
@[simp] theorem State.elapse_viso (s : State) (dt : Nat) : (s.elapse dt).viso = s.viso := rfl
@[simp] theorem State.elapse_clk25 (s : State) (dt : Nat) : (s.elapse dt).clk25 = s.clk25 := rfl
@[simp] theorem State.elapse_dormantReq (s : State) (dt : Nat) : (s.elapse dt).dormantReq = s.dormantReq := rfl
@[simp] theorem State.elapse_dormant (s : State) (dt : Nat) : (s.elapse dt).dormant = s.dormant := rfl
@[simp] theorem State.elapse_wokeDormant (s : State) (dt : Nat) : (s.elapse dt).wokeDormant = s.wokeDormant := rfl
@[simp] theorem State.elapse_straps (s : State) (dt : Nat) : (s.elapse dt).straps = s.straps := rfl
@[simp] theorem State.elapse_strapsNow (s : State) (dt : Nat) : (s.elapse dt).strapsNow = s.strapsNow := rfl
@[simp] theorem State.elapse_throttled (s : State) (dt : Nat) : (s.elapse dt).throttled = s.throttled := rfl
@[simp] theorem State.elapse_safeN (s : State) (dt : Nat) : (s.elapse dt).safeN = s.safeN := rfl
@[simp] theorem State.elapse_safeNAt (s : State) (dt : Nat) : (s.elapse dt).safeNAt = s.safeNAt := rfl
@[simp] theorem State.elapse_encSafe (s : State) (dt : Nat) : (s.elapse dt).encSafe = s.encSafe := rfl
@[simp] theorem State.elapse_visoLost (s : State) (dt : Nat) : (s.elapse dt).visoLost = s.visoLost := rfl
@[simp] theorem State.elapse_devw (s : State) (dt : Nat) : (s.elapse dt).devw = s.devw := rfl
@[simp] theorem State.elapse_devwNew (s : State) (dt : Nat) : (s.elapse dt).devwNew = s.devwNew := rfl
@[simp] theorem State.elapse_logicMw (s : State) (dt : Nat) : (s.elapse dt).logicMw = s.logicMw := rfl
@[simp] theorem State.elapse_visoMw (s : State) (dt : Nat) : (s.elapse dt).visoMw = s.visoMw := rfl
@[simp] theorem State.elapse_faultMask (s : State) (dt : Nat) : (s.elapse dt).faultMask = s.faultMask := rfl
@[simp] theorem State.elapse_syncw (s : State) (dt : Nat) : (s.elapse dt).syncw = s.syncw := rfl
@[simp] theorem State.elapse_flush (s : State) (dt : Nat) : (s.elapse dt).flush = s.flush := rfl
@[simp] theorem State.elapse_routes (s : State) (dt : Nat) : (s.elapse dt).routes = s.routes := rfl
@[simp] theorem State.elapse_host (s : State) (dt : Nat) : (s.elapse dt).host = s.host := rfl
@[simp] theorem State.elapse_msix (s : State) (dt : Nat) : (s.elapse dt).msix = s.msix := rfl
@[simp] theorem State.elapse_queues (s : State) (dt : Nat) : (s.elapse dt).queues = s.queues := rfl
@[simp] theorem State.elapse_out (s : State) (dt : Nat) : (s.elapse dt).out = s.out := rfl
@[simp] theorem State.elapse_outWait (s : State) (dt : Nat) : (s.elapse dt).outWait = s.outWait := rfl
@[simp] theorem State.elapse_staging (s : State) (dt : Nat) : (s.elapse dt).staging = s.staging := rfl
@[simp] theorem State.elapse_fieldDue (s : State) (dt : Nat) : (s.elapse dt).fieldDue = s.fieldDue := rfl
@[simp] theorem State.elapse_ops (s : State) (dt : Nat) : (s.elapse dt).ops = s.ops := rfl
@[simp] theorem State.elapse_chans (s : State) (dt : Nat) : (s.elapse dt).chans = s.chans := rfl
@[simp] theorem State.elapse_quads (s : State) (dt : Nat) : (s.elapse dt).quads = s.quads := rfl
@[simp] theorem State.elapse_reqs (s : State) (dt : Nat) : (s.elapse dt).reqs = s.reqs := rfl
@[simp] theorem State.elapse_reqSeq (s : State) (dt : Nat) : (s.elapse dt).reqSeq = s.reqSeq := rfl
@[simp] theorem State.elapse_fetchSeq (s : State) (dt : Nat) : (s.elapse dt).fetchSeq = s.fetchSeq := rfl
@[simp] theorem State.elapse_ang (s : State) (dt : Nat) : (s.elapse dt).ang = s.ang := rfl
@[simp] theorem State.elapse_course (s : State) (dt : Nat) : (s.elapse dt).course = s.course := rfl
@[simp] theorem State.elapse_meas (s : State) (dt : Nat) : (s.elapse dt).meas = s.meas := rfl
@[simp] theorem State.elapse_chains (s : State) (dt : Nat) : (s.elapse dt).chains = s.chains := rfl
@[simp] theorem State.elapse_syncTick (s : State) (dt : Nat) : (s.elapse dt).syncTick = s.syncTick := rfl
@[simp] theorem State.elapse_syncMerged (s : State) (dt : Nat) : (s.elapse dt).syncMerged = s.syncMerged := rfl
@[simp] theorem State.elapse_syncOut (s : State) (dt : Nat) : (s.elapse dt).syncOut = s.syncOut := rfl
@[simp] theorem State.elapse_arch (s : State) (dt : Nat) : (s.elapse dt).arch = s.arch := rfl
@[simp] theorem State.elapse_vault (s : State) (dt : Nat) : (s.elapse dt).vault = s.vault := rfl
@[simp] theorem State.elapse_plumb (s : State) (dt : Nat) : (s.elapse dt).plumb = s.plumb := rfl
@[simp] theorem State.elapse_serial (s : State) (dt : Nat) : (s.elapse dt).serial = s.serial := rfl
@[simp] theorem State.elapse_mason (s : State) (dt : Nat) : (s.elapse dt).mason = s.mason := rfl
@[simp] theorem State.elapse_rows (s : State) (dt : Nat) : (s.elapse dt).rows = s.rows := rfl
@[simp] theorem State.elapse_locked (s : State) (dt : Nat) : (s.elapse dt).locked = s.locked := rfl
@[simp] theorem State.elapse_cfgGen (s : State) (dt : Nat) : (s.elapse dt).cfgGen = s.cfgGen := rfl
@[simp] theorem State.elapse_pair (s : State) (dt : Nat) : (s.elapse dt).pair = s.pair := rfl
@[simp] theorem State.elapse_plinth (s : State) (dt : Nat) : (s.elapse dt).plinth = s.plinth := rfl

@[simp] theorem State.useFresh_pending (s : State) : (s.useFresh).pending = s.pending := rfl
@[simp] theorem State.useFresh_clock (s : State) : (s.useFresh).clock = s.clock := rfl
@[simp] theorem State.useFresh_zero (s : State) : (s.useFresh).zero = s.zero := rfl
@[simp] theorem State.useFresh_freeCtr (s : State) : (s.useFresh).freeCtr = s.freeCtr + 1 := rfl
@[simp] theorem State.useFresh_por (s : State) : (s.useFresh).por = s.por := rfl
@[simp] theorem State.useFresh_rails (s : State) : (s.useFresh).rails = s.rails := rfl
@[simp] theorem State.useFresh_viso (s : State) : (s.useFresh).viso = s.viso := rfl
@[simp] theorem State.useFresh_clk25 (s : State) : (s.useFresh).clk25 = s.clk25 := rfl
@[simp] theorem State.useFresh_dormantReq (s : State) : (s.useFresh).dormantReq = s.dormantReq := rfl
@[simp] theorem State.useFresh_dormant (s : State) : (s.useFresh).dormant = s.dormant := rfl
@[simp] theorem State.useFresh_wokeDormant (s : State) : (s.useFresh).wokeDormant = s.wokeDormant := rfl
@[simp] theorem State.useFresh_straps (s : State) : (s.useFresh).straps = s.straps := rfl
@[simp] theorem State.useFresh_strapsNow (s : State) : (s.useFresh).strapsNow = s.strapsNow := rfl
@[simp] theorem State.useFresh_throttled (s : State) : (s.useFresh).throttled = s.throttled := rfl
@[simp] theorem State.useFresh_safeN (s : State) : (s.useFresh).safeN = s.safeN := rfl
@[simp] theorem State.useFresh_safeNAt (s : State) : (s.useFresh).safeNAt = s.safeNAt := rfl
@[simp] theorem State.useFresh_encSafe (s : State) : (s.useFresh).encSafe = s.encSafe := rfl
@[simp] theorem State.useFresh_visoLost (s : State) : (s.useFresh).visoLost = s.visoLost := rfl
@[simp] theorem State.useFresh_devw (s : State) : (s.useFresh).devw = s.devw := rfl
@[simp] theorem State.useFresh_devwNew (s : State) : (s.useFresh).devwNew = s.devwNew := rfl
@[simp] theorem State.useFresh_logicMw (s : State) : (s.useFresh).logicMw = s.logicMw := rfl
@[simp] theorem State.useFresh_visoMw (s : State) : (s.useFresh).visoMw = s.visoMw := rfl
@[simp] theorem State.useFresh_faultMask (s : State) : (s.useFresh).faultMask = s.faultMask := rfl
@[simp] theorem State.useFresh_syncw (s : State) : (s.useFresh).syncw = s.syncw := rfl
@[simp] theorem State.useFresh_flush (s : State) : (s.useFresh).flush = s.flush := rfl
@[simp] theorem State.useFresh_routes (s : State) : (s.useFresh).routes = s.routes := rfl
@[simp] theorem State.useFresh_host (s : State) : (s.useFresh).host = s.host := rfl
@[simp] theorem State.useFresh_msix (s : State) : (s.useFresh).msix = s.msix := rfl
@[simp] theorem State.useFresh_queues (s : State) : (s.useFresh).queues = s.queues := rfl
@[simp] theorem State.useFresh_out (s : State) : (s.useFresh).out = s.out := rfl
@[simp] theorem State.useFresh_outWait (s : State) : (s.useFresh).outWait = s.outWait := rfl
@[simp] theorem State.useFresh_staging (s : State) : (s.useFresh).staging = s.staging := rfl
@[simp] theorem State.useFresh_fieldDue (s : State) : (s.useFresh).fieldDue = s.fieldDue := rfl
@[simp] theorem State.useFresh_ops (s : State) : (s.useFresh).ops = s.ops := rfl
@[simp] theorem State.useFresh_chans (s : State) : (s.useFresh).chans = s.chans := rfl
@[simp] theorem State.useFresh_quads (s : State) : (s.useFresh).quads = s.quads := rfl
@[simp] theorem State.useFresh_reqs (s : State) : (s.useFresh).reqs = s.reqs := rfl
@[simp] theorem State.useFresh_reqSeq (s : State) : (s.useFresh).reqSeq = s.reqSeq := rfl
@[simp] theorem State.useFresh_fetchSeq (s : State) : (s.useFresh).fetchSeq = s.fetchSeq := rfl
@[simp] theorem State.useFresh_ang (s : State) : (s.useFresh).ang = s.ang := rfl
@[simp] theorem State.useFresh_course (s : State) : (s.useFresh).course = s.course := rfl
@[simp] theorem State.useFresh_meas (s : State) : (s.useFresh).meas = s.meas := rfl
@[simp] theorem State.useFresh_chains (s : State) : (s.useFresh).chains = s.chains := rfl
@[simp] theorem State.useFresh_syncTick (s : State) : (s.useFresh).syncTick = s.syncTick := rfl
@[simp] theorem State.useFresh_syncMerged (s : State) : (s.useFresh).syncMerged = s.syncMerged := rfl
@[simp] theorem State.useFresh_syncOut (s : State) : (s.useFresh).syncOut = s.syncOut := rfl
@[simp] theorem State.useFresh_arch (s : State) : (s.useFresh).arch = s.arch := rfl
@[simp] theorem State.useFresh_vault (s : State) : (s.useFresh).vault = s.vault := rfl
@[simp] theorem State.useFresh_plumb (s : State) : (s.useFresh).plumb = s.plumb := rfl
@[simp] theorem State.useFresh_serial (s : State) : (s.useFresh).serial = s.serial := rfl
@[simp] theorem State.useFresh_mason (s : State) : (s.useFresh).mason = s.mason := rfl
@[simp] theorem State.useFresh_rows (s : State) : (s.useFresh).rows = s.rows := rfl
@[simp] theorem State.useFresh_locked (s : State) : (s.useFresh).locked = s.locked := rfl
@[simp] theorem State.useFresh_cfgGen (s : State) : (s.useFresh).cfgGen = s.cfgGen := rfl
@[simp] theorem State.useFresh_pair (s : State) : (s.useFresh).pair = s.pair := rfl
@[simp] theorem State.useFresh_plinth (s : State) : (s.useFresh).plinth = s.plinth := rfl

@[simp] theorem State.modChan_chan (s : State) (c d : ChanId) (f : Chan → Chan) :
    (s.modChan c f).chan d = if c = d then f (s.chan c) else s.chan d := by
  simp only [State.chan, State.modChan_chans]
  by_cases h : c = d
  · subst h; simp
  · have hv : c.val ≠ d.val := fun e => h (Fin.ext e)
    simp [Vector.getElem_set, hv, h]
@[simp] theorem State.modQuad_quad (s : State) (q r : QuadId) (f : Quad → Quad) :
    (s.modQuad q f).quad r = if q = r then f (s.quad q) else s.quad r := by
  simp only [State.quad, State.modQuad_quads]
  by_cases h : q = r
  · subst h; simp
  · have hv : q.val ≠ r.val := fun e => h (Fin.ext e)
    simp [Vector.getElem_set, hv, h]
@[simp] theorem State.modQueue_queue (s : State) (q r : QueueId) (f : Queue → Queue) :
    (s.modQueue q f).queue r = if q = r then f (s.queue q) else s.queue r := by
  simp only [State.queue, State.modQueue_queues]
  by_cases h : q = r
  · subst h; simp
  · have hv : q.val ≠ r.val := fun e => h (Fin.ext e)
    simp [Vector.getElem_set, hv, h]
@[simp] theorem State.modChan_quad (s : State) (c : ChanId) (f : Chan → Chan) (d : QuadId) : (s.modChan c f).quad d = s.quad d := rfl
@[simp] theorem State.modChan_queue (s : State) (c : ChanId) (f : Chan → Chan) (d : QueueId) : (s.modChan c f).queue d = s.queue d := rfl
@[simp] theorem State.modQuad_chan (s : State) (q : QuadId) (f : Quad → Quad) (d : ChanId) : (s.modQuad q f).chan d = s.chan d := rfl
@[simp] theorem State.modQuad_queue (s : State) (q : QuadId) (f : Quad → Quad) (d : QueueId) : (s.modQuad q f).queue d = s.queue d := rfl
@[simp] theorem State.modQueue_chan (s : State) (q : QueueId) (f : Queue → Queue) (d : ChanId) : (s.modQueue q f).chan d = s.chan d := rfl
@[simp] theorem State.modQueue_quad (s : State) (q : QueueId) (f : Queue → Queue) (d : QuadId) : (s.modQueue q f).quad d = s.quad d := rfl
@[simp] theorem State.modHost_chan (s : State) (f : HostRegs → HostRegs) (d : ChanId) : (s.modHost f).chan d = s.chan d := rfl
@[simp] theorem State.modHost_quad (s : State) (f : HostRegs → HostRegs) (d : QuadId) : (s.modHost f).quad d = s.quad d := rfl
@[simp] theorem State.modHost_queue (s : State) (f : HostRegs → HostRegs) (d : QueueId) : (s.modHost f).queue d = s.queue d := rfl
@[simp] theorem State.modAng_chan (s : State) (f : Ang → Ang) (d : ChanId) : (s.modAng f).chan d = s.chan d := rfl
@[simp] theorem State.modAng_quad (s : State) (f : Ang → Ang) (d : QuadId) : (s.modAng f).quad d = s.quad d := rfl
@[simp] theorem State.modAng_queue (s : State) (f : Ang → Ang) (d : QueueId) : (s.modAng f).queue d = s.queue d := rfl
@[simp] theorem State.modCourse_chan (s : State) (f : Course → Course) (d : ChanId) : (s.modCourse f).chan d = s.chan d := rfl
@[simp] theorem State.modCourse_quad (s : State) (f : Course → Course) (d : QuadId) : (s.modCourse f).quad d = s.quad d := rfl
@[simp] theorem State.modCourse_queue (s : State) (f : Course → Course) (d : QueueId) : (s.modCourse f).queue d = s.queue d := rfl
@[simp] theorem State.modMeas_chan (s : State) (q : QuadId) (f : Meas → Meas) (d : ChanId) : (s.modMeas q f).chan d = s.chan d := rfl
@[simp] theorem State.modMeas_quad (s : State) (q : QuadId) (f : Meas → Meas) (d : QuadId) : (s.modMeas q f).quad d = s.quad d := rfl
@[simp] theorem State.modMeas_queue (s : State) (q : QuadId) (f : Meas → Meas) (d : QueueId) : (s.modMeas q f).queue d = s.queue d := rfl
@[simp] theorem State.modChain_chan (s : State) (k : ChainId) (f : Chain → Chain) (d : ChanId) : (s.modChain k f).chan d = s.chan d := rfl
@[simp] theorem State.modChain_quad (s : State) (k : ChainId) (f : Chain → Chain) (d : QuadId) : (s.modChain k f).quad d = s.quad d := rfl
@[simp] theorem State.modChain_queue (s : State) (k : ChainId) (f : Chain → Chain) (d : QueueId) : (s.modChain k f).queue d = s.queue d := rfl
@[simp] theorem State.modArch_chan (s : State) (f : Arch → Arch) (d : ChanId) : (s.modArch f).chan d = s.chan d := rfl
@[simp] theorem State.modArch_quad (s : State) (f : Arch → Arch) (d : QuadId) : (s.modArch f).quad d = s.quad d := rfl
@[simp] theorem State.modArch_queue (s : State) (f : Arch → Arch) (d : QueueId) : (s.modArch f).queue d = s.queue d := rfl
@[simp] theorem State.modPlumb_chan (s : State) (x : CtxId) (f : Plumb → Plumb) (d : ChanId) : (s.modPlumb x f).chan d = s.chan d := rfl
@[simp] theorem State.modPlumb_quad (s : State) (x : CtxId) (f : Plumb → Plumb) (d : QuadId) : (s.modPlumb x f).quad d = s.quad d := rfl
@[simp] theorem State.modPlumb_queue (s : State) (x : CtxId) (f : Plumb → Plumb) (d : QueueId) : (s.modPlumb x f).queue d = s.queue d := rfl
@[simp] theorem State.modSerial_chan (s : State) (f : Serial → Serial) (d : ChanId) : (s.modSerial f).chan d = s.chan d := rfl
@[simp] theorem State.modSerial_quad (s : State) (f : Serial → Serial) (d : QuadId) : (s.modSerial f).quad d = s.quad d := rfl
@[simp] theorem State.modSerial_queue (s : State) (f : Serial → Serial) (d : QueueId) : (s.modSerial f).queue d = s.queue d := rfl
@[simp] theorem State.modMason_chan (s : State) (f : Mason → Mason) (d : ChanId) : (s.modMason f).chan d = s.chan d := rfl
@[simp] theorem State.modMason_quad (s : State) (f : Mason → Mason) (d : QuadId) : (s.modMason f).quad d = s.quad d := rfl
@[simp] theorem State.modMason_queue (s : State) (f : Mason → Mason) (d : QueueId) : (s.modMason f).queue d = s.queue d := rfl
@[simp] theorem State.modPair_chan (s : State) (f : Pair → Pair) (d : ChanId) : (s.modPair f).chan d = s.chan d := rfl
@[simp] theorem State.modPair_quad (s : State) (f : Pair → Pair) (d : QuadId) : (s.modPair f).quad d = s.quad d := rfl
@[simp] theorem State.modPair_queue (s : State) (f : Pair → Pair) (d : QueueId) : (s.modPair f).queue d = s.queue d := rfl
@[simp] theorem State.elapse_chan (s : State) (dt : Nat) (d : ChanId) : (s.elapse dt).chan d = s.chan d := rfl
@[simp] theorem State.elapse_quad (s : State) (dt : Nat) (d : QuadId) : (s.elapse dt).quad d = s.quad d := rfl
@[simp] theorem State.elapse_queue (s : State) (dt : Nat) (d : QueueId) : (s.elapse dt).queue d = s.queue d := rfl
@[simp] theorem State.useFresh_chan (s : State) (d : ChanId) : (s.useFresh).chan d = s.chan d := rfl
@[simp] theorem State.useFresh_quad (s : State) (d : QuadId) : (s.useFresh).quad d = s.quad d := rfl
@[simp] theorem State.useFresh_queue (s : State) (d : QueueId) : (s.useFresh).queue d = s.queue d := rfl

end Sys2Proof.Machine
end

