-- ==== Sys2Proof/Laws/FrameKeep.lean ====
section
/-!
SUPPORT. What almost every meaning leaves alone: queue of commands, clock, device time's origin, resets, rails, straps, access tables and Plinth (R57, R76, R512, R596).
-/
namespace Sys2Proof.Machine
open Sys2Proof

/-- Their values together. -/
abbrev KeepT := (List Instr) × Nat × Nat × Bool × (BitVec 4) × Bool × Bool × Bool × (BitVec 5) × (Vector Word64 22) × Bool × (List Host.Cell)
/-- The fields that this file is about. -/
def State.keep (s : State) : KeepT := (s.pending, s.clock, s.zero, s.por, s.rails, s.clk25, s.dormant, s.wokeDormant, s.straps, s.rows, s.locked, s.plinth)
theorem keep_mk (X : State) (freeCtr : Nat) (viso : Bool) (dormantReq : Bool) (strapsNow : BitVec 5) (throttled : Bool) (safeN : Bool) (safeNAt : Nat) (encSafe : Bool) (visoLost : Bool) (devw : Word64) (devwNew : Option Word64) (logicMw : Nat) (visoMw : Nat) (faultMask : BitVec 5) (syncw : BitVec 4) (flush : Nat) (routes : Vector Byte 10) (host : HostRegs) (msix : Vector MsixEntry 68) (queues : Vector Queue 64) (out : List HostOut) (outWait : List HostOut) (staging : List (Record × Option (QueueId × Word32))) (fieldDue : Option Byte) (ops : List Op) (chans : Vector Chan 128) (quads : Vector Quad 4) (reqs : List Req) (reqSeq : Nat) (fetchSeq : Nat) (ang : Ang) (course : Course) (meas : Vector Meas 4) (chains : Vector Chain 16) (syncTick : Option Nat) (syncMerged : Nat) (syncOut : Nat) (arch : Arch) (vault : Vault) (plumb : Vector Plumb 8) (serial : Serial) (mason : Mason) (cfgGen : Word32) (pair : Pair) :
    State.keep ⟨X.pending, X.clock, X.zero, freeCtr, X.por, X.rails, viso, X.clk25, dormantReq, X.dormant, X.wokeDormant, X.straps, strapsNow, throttled, safeN, safeNAt, encSafe, visoLost, devw, devwNew, logicMw, visoMw, faultMask, syncw, flush, routes, host, msix, queues, out, outWait, staging, fieldDue, ops, chans, quads, reqs, reqSeq, fetchSeq, ang, course, meas, chains, syncTick, syncMerged, syncOut, arch, vault, plumb, serial, mason, X.rows, X.locked, cfgGen, pair, X.plinth⟩ = X.keep := rfl
theorem keep_pair {β : Type} {p : State × β} {a : State} {b : β} (h : p = (a, b)) {x : KeepT} (hk : p.1.keep = x) : a.keep = x := by
  subst h; exact hk
theorem foldl_keep {α : Type} (f : State → α → State) (h : ∀ s a, (f s a).keep = s.keep) (l : List α) (s : State) :
    (l.foldl f s).keep = s.keep := by
  induction l generalizing s with
  | nil => rfl
  | cons a l ih => simp only [List.foldl_cons]; rw [ih, h]
theorem foldl_keep1 {α β : Type} (f : State × β → α → State × β) (h : ∀ s a, (f s a).1.keep = s.1.keep) (l : List α) (s : State × β) :
    (l.foldl f s).1.keep = s.1.keep := by
  induction l generalizing s with
  | nil => rfl
  | cons a l ih => simp only [List.foldl_cons]; rw [ih, h]

theorem State.modChan_keep (s : State) (c : ChanId) (f : Chan → Chan) : (State.modChan s c f).keep = s.keep := by
  unfold State.modChan
  try dsimp only
  repeat' first
    | with_reducible rfl
    | (intro _)
    | (with_reducible refine Eq.trans (foldl_keep _ ?_ _ _) ?_)
    | (with_reducible refine Eq.trans (foldl_keep1 _ ?_ _ _) ?_)
    | split
    | (simp only [keep_mk])
    | (dsimp only)
theorem State.leaveSafe_keep (s : State) (c : ChanId) : (State.leaveSafe s c).keep = s.keep := by
  unfold State.leaveSafe
  try dsimp only
  repeat' first
    | with_reducible rfl
    | (intro _)
    | (with_reducible refine Eq.trans (State.modChan_keep _ _ _) ?_)
    | (with_reducible refine Eq.trans (foldl_keep _ ?_ _ _) ?_)
    | (with_reducible refine Eq.trans (foldl_keep1 _ ?_ _ _) ?_)
    | split
    | (simp only [keep_mk])
    | (dsimp only)
theorem State.modChain_keep (s : State) (k : ChainId) (f : Chain → Chain) : (State.modChain s k f).keep = s.keep := by
  unfold State.modChain
  try dsimp only
  repeat' first
    | with_reducible rfl
    | (intro _)
    | (with_reducible refine Eq.trans (foldl_keep _ ?_ _ _) ?_)
    | (with_reducible refine Eq.trans (foldl_keep1 _ ?_ _ _) ?_)
    | split
    | (simp only [keep_mk])
    | (dsimp only)
theorem State.useFresh_keep (s : State) : (State.useFresh s).keep = s.keep := by
  unfold State.useFresh
  try dsimp only
  repeat' first
    | with_reducible rfl
    | (intro _)
    | (with_reducible refine Eq.trans (foldl_keep _ ?_ _ _) ?_)
    | (with_reducible refine Eq.trans (foldl_keep1 _ ?_ _ _) ?_)
    | split
    | (simp only [keep_mk])
    | (dsimp only)
theorem State.stage_keep (s : State) (r : Record) (who : optParam (Option (QueueId × Word32)) none) : (State.stage s r who).1.keep = s.keep := by
  unfold State.stage
  try dsimp only
  repeat' first
    | with_reducible rfl
    | (intro _)
    | (with_reducible refine Eq.trans (foldl_keep _ ?_ _ _) ?_)
    | (with_reducible refine Eq.trans (foldl_keep1 _ ?_ _ _) ?_)
    | split
    | (simp only [keep_mk])
    | (dsimp only)
theorem State.stageCount_keep (s : State) (r : Record) (ok : State → State) (full : State → State) (hok : ∀ u, (ok u).keep = u.keep) (hfull : ∀ u, (full u).keep = u.keep) : (State.stageCount s r ok full).keep = s.keep := by
  unfold State.stageCount
  try dsimp only
  repeat' first
    | with_reducible rfl
    | (intro _)
    | (with_reducible refine Eq.trans (hok _) ?_)
    | (with_reducible refine Eq.trans (hfull _) ?_)
    | (with_reducible refine keep_pair (by assumption) (Eq.trans (State.stage_keep _ _ _) ?_))
    | (with_reducible refine Eq.trans (State.stage_keep _ _ _) ?_)
    | (with_reducible refine Eq.trans (foldl_keep _ ?_ _ _) ?_)
    | (with_reducible refine Eq.trans (foldl_keep1 _ ?_ _ _) ?_)
    | split
    | (simp only [keep_mk])
    | (dsimp only)
theorem State.chainRecord_keep (s : State) (k : ChainId) (rflags : Word16) (t0 : Nat) (rev0 : Word32) (m : Nat) (outs : List FOut) : (State.chainRecord s k rflags t0 rev0 m outs).keep = s.keep := by
  unfold State.chainRecord
  try dsimp only
  repeat' first
    | with_reducible rfl
    | (intro _)
    | (with_reducible refine Eq.trans (State.modChain_keep _ _ _) ?_)
    | (with_reducible refine Eq.trans (State.stageCount_keep _ _ _ _ ?_ ?_) ?_)
    | (with_reducible refine Eq.trans (foldl_keep _ ?_ _ _) ?_)
    | (with_reducible refine Eq.trans (foldl_keep1 _ ?_ _ _) ?_)
    | split
    | (simp only [keep_mk])
    | (dsimp only)
theorem State.closeBatch_keep (s : State) (k : ChainId) (rflags : Word16) : (State.closeBatch s k rflags).keep = s.keep := by
  unfold State.closeBatch
  try dsimp only
  repeat' first
    | with_reducible rfl
    | (intro _)
    | (with_reducible refine Eq.trans (State.modChain_keep _ _ _) ?_)
    | (with_reducible refine Eq.trans (State.chainRecord_keep _ _ _ _ _ _ _) ?_)
    | (with_reducible refine Eq.trans (foldl_keep _ ?_ _ _) ?_)
    | (with_reducible refine Eq.trans (foldl_keep1 _ ?_ _ _) ?_)
    | split
    | (simp only [keep_mk])
    | (dsimp only)
theorem State.chainOut_keep (s : State) (k : ChainId) (o : FOut) : (State.chainOut s k o).keep = s.keep := by
  unfold State.chainOut
  try dsimp only
  repeat' first
    | with_reducible rfl
    | (intro _)
    | (with_reducible refine Eq.trans (State.modChain_keep _ _ _) ?_)
    | (with_reducible refine Eq.trans (State.closeBatch_keep _ _ _) ?_)
    | (with_reducible refine Eq.trans (foldl_keep _ ?_ _ _) ?_)
    | (with_reducible refine Eq.trans (foldl_keep1 _ ?_ _ _) ?_)
    | split
    | (simp only [keep_mk])
    | (dsimp only)
theorem State.modPair_keep (s : State) (f : Pair → Pair) : (State.modPair s f).keep = s.keep := by
  unfold State.modPair
  try dsimp only
  repeat' first
    | with_reducible rfl
    | (intro _)
    | (with_reducible refine Eq.trans (foldl_keep _ ?_ _ _) ?_)
    | (with_reducible refine Eq.trans (foldl_keep1 _ ?_ _ _) ?_)
    | split
    | (simp only [keep_mk])
    | (dsimp only)
theorem State.configured_keep (s : State) (who : Option (QueueId × Word32)) (measured : optParam Bool true) : (State.configured s who measured).keep = s.keep := by
  unfold State.configured
  try dsimp only
  repeat' first
    | with_reducible rfl
    | (intro _)
    | (with_reducible refine Eq.trans (State.useFresh_keep _) ?_)
    | (with_reducible refine Eq.trans (State.modPair_keep _ _) ?_)
    | (with_reducible refine Eq.trans (foldl_keep _ ?_ _ _) ?_)
    | (with_reducible refine Eq.trans (foldl_keep1 _ ?_ _ _) ?_)
    | split
    | (simp only [keep_mk])
    | (dsimp only)
theorem State.addOp_keep (s : State) (q : QueueId) (n : Word32) (k : OpKind) : (State.addOp s q n k).keep = s.keep := by
  unfold State.addOp
  try dsimp only
  repeat' first
    | with_reducible rfl
    | (intro _)
    | (with_reducible refine Eq.trans (foldl_keep _ ?_ _ _) ?_)
    | (with_reducible refine Eq.trans (foldl_keep1 _ ?_ _ _) ?_)
    | split
    | (simp only [keep_mk])
    | (dsimp only)
theorem State.modQueue_keep (s : State) (q : QueueId) (f : Queue → Queue) : (State.modQueue s q f).keep = s.keep := by
  unfold State.modQueue
  try dsimp only
  repeat' first
    | with_reducible rfl
    | (intro _)
    | (with_reducible refine Eq.trans (foldl_keep _ ?_ _ _) ?_)
    | (with_reducible refine Eq.trans (foldl_keep1 _ ?_ _ _) ?_)
    | split
    | (simp only [keep_mk])
    | (dsimp only)
theorem State.drained_keep (s : State) (q : QueueId) : (State.drained s q).keep = s.keep := by
  unfold State.drained
  try dsimp only
  repeat' first
    | with_reducible rfl
    | (intro _)
    | (with_reducible refine Eq.trans (State.modQueue_keep _ _ _) ?_)
    | (with_reducible refine Eq.trans (foldl_keep _ ?_ _ _) ?_)
    | (with_reducible refine Eq.trans (foldl_keep1 _ ?_ _ _) ?_)
    | split
    | (simp only [keep_mk])
    | (dsimp only)
theorem State.modMason_keep (s : State) (f : Mason → Mason) : (State.modMason s f).keep = s.keep := by
  unfold State.modMason
  try dsimp only
  repeat' first
    | with_reducible rfl
    | (intro _)
    | (with_reducible refine Eq.trans (foldl_keep _ ?_ _ _) ?_)
    | (with_reducible refine Eq.trans (foldl_keep1 _ ?_ _ _) ?_)
    | split
    | (simp only [keep_mk])
    | (dsimp only)
theorem State.emit_keep (s : State) (o : HostOut) : (State.emit s o).keep = s.keep := by
  unfold State.emit
  try dsimp only
  repeat' first
    | with_reducible rfl
    | (intro _)
    | (with_reducible refine Eq.trans (foldl_keep _ ?_ _ _) ?_)
    | (with_reducible refine Eq.trans (foldl_keep1 _ ?_ _ _) ?_)
    | split
    | (simp only [keep_mk])
    | (dsimp only)
theorem setMsix_keep (s : State) (v : VecId) (f : MsixEntry → MsixEntry) : (setMsix s v f).keep = s.keep := by
  unfold setMsix
  try dsimp only
  repeat' first
    | with_reducible rfl
    | (intro _)
    | (with_reducible refine Eq.trans (foldl_keep _ ?_ _ _) ?_)
    | (with_reducible refine Eq.trans (foldl_keep1 _ ?_ _ _) ?_)
    | split
    | (simp only [keep_mk])
    | (dsimp only)
theorem State.signal_keep (s : State) (v : VecId) : (State.signal s v).keep = s.keep := by
  unfold State.signal
  try dsimp only
  repeat' first
    | with_reducible rfl
    | (intro _)
    | (with_reducible refine Eq.trans (State.emit_keep _ _) ?_)
    | (with_reducible refine Eq.trans (setMsix_keep _ _ _) ?_)
    | (with_reducible refine Eq.trans (foldl_keep _ ?_ _ _) ?_)
    | (with_reducible refine Eq.trans (foldl_keep1 _ ?_ _ _) ?_)
    | split
    | (simp only [keep_mk])
    | (dsimp only)
theorem State.signalQueue_keep (s : State) (q : QueueId) : (State.signalQueue s q).keep = s.keep := by
  unfold State.signalQueue
  try dsimp only
  repeat' first
    | with_reducible rfl
    | (intro _)
    | (with_reducible refine Eq.trans (State.modQueue_keep _ _ _) ?_)
    | (with_reducible refine Eq.trans (State.signal_keep _ _) ?_)
    | (with_reducible refine Eq.trans (foldl_keep _ ?_ _ _) ?_)
    | (with_reducible refine Eq.trans (foldl_keep1 _ ?_ _ _) ?_)
    | split
    | (simp only [keep_mk])
    | (dsimp only)
theorem State.completeRaw_keep (s : State) (q : QueueId) (n : Word32) (st : Status) (detail : Nat) (time : Nat) (result : Mask128) : (State.completeRaw s q n st detail time result).keep = s.keep := by
  unfold State.completeRaw
  try dsimp only
  repeat' first
    | with_reducible rfl
    | (intro _)
    | (with_reducible refine Eq.trans (State.modQueue_keep _ _ _) ?_)
    | (with_reducible refine Eq.trans (State.modMason_keep _ _) ?_)
    | (with_reducible refine Eq.trans (State.emit_keep _ _) ?_)
    | (with_reducible refine Eq.trans (State.signalQueue_keep _ _) ?_)
    | (with_reducible refine Eq.trans (foldl_keep _ ?_ _ _) ?_)
    | (with_reducible refine Eq.trans (foldl_keep1 _ ?_ _ _) ?_)
    | split
    | (simp only [keep_mk])
    | (dsimp only)
theorem State.finishDrains_keep (s : State) : (State.finishDrains s).keep = s.keep := by
  unfold State.finishDrains
  try dsimp only
  repeat' first
    | with_reducible rfl
    | (intro _)
    | (with_reducible refine Eq.trans (State.modQueue_keep _ _ _) ?_)
    | (with_reducible refine Eq.trans (State.drained_keep _ _) ?_)
    | (with_reducible refine Eq.trans (State.completeRaw_keep _ _ _ _ _ _ _) ?_)
    | (with_reducible refine Eq.trans (foldl_keep _ ?_ _ _) ?_)
    | (with_reducible refine Eq.trans (foldl_keep1 _ ?_ _ _) ?_)
    | split
    | (simp only [keep_mk])
    | (dsimp only)
theorem State.complete_keep (s : State) (q : QueueId) (n : Word32) (st : Status) (detail : Nat) (time : Nat) (result : Mask128) : (State.complete s q n st detail time result).keep = s.keep := by
  unfold State.complete
  try dsimp only
  repeat' first
    | with_reducible rfl
    | (intro _)
    | (with_reducible refine Eq.trans (State.drained_keep _ _) ?_)
    | (with_reducible refine Eq.trans (State.completeRaw_keep _ _ _ _ _ _ _) ?_)
    | (with_reducible refine Eq.trans (State.finishDrains_keep _) ?_)
    | (with_reducible refine Eq.trans (foldl_keep _ ?_ _ _) ?_)
    | (with_reducible refine Eq.trans (foldl_keep1 _ ?_ _ _) ?_)
    | split
    | (simp only [keep_mk])
    | (dsimp only)
theorem State.configDone_keep (s : State) (q : QueueId) (n : Word32) (st : Status) (detail : Nat) (time : Nat) (result : Mask128) (measured : optParam Bool true) : (State.configDone s q n st detail time result measured).keep = s.keep := by
  unfold State.configDone
  try dsimp only
  repeat' first
    | with_reducible rfl
    | (intro _)
    | (with_reducible refine Eq.trans (State.configured_keep _ _ _) ?_)
    | (with_reducible refine Eq.trans (State.addOp_keep _ _ _ _) ?_)
    | (with_reducible refine Eq.trans (State.complete_keep _ _ _ _ _ _ _) ?_)
    | (with_reducible refine Eq.trans (foldl_keep _ ?_ _ _) ?_)
    | (with_reducible refine Eq.trans (foldl_keep1 _ ?_ _ _) ?_)
    | split
    | (simp only [keep_mk])
    | (dsimp only)
theorem State.configWho_keep (s : State) (who : Option (QueueId × Word32)) (st : Status) (detail : Nat) (result : Mask128) (measured : optParam Bool true) : (State.configWho s who st detail result measured).keep = s.keep := by
  unfold State.configWho
  try dsimp only
  repeat' first
    | with_reducible rfl
    | (intro _)
    | (with_reducible refine Eq.trans (State.configured_keep _ _ _) ?_)
    | (with_reducible refine Eq.trans (State.configDone_keep _ _ _ _ _ _ _ _) ?_)
    | (with_reducible refine Eq.trans (foldl_keep _ ?_ _ _) ?_)
    | (with_reducible refine Eq.trans (foldl_keep1 _ ?_ _ _) ?_)
    | split
    | (simp only [keep_mk])
    | (dsimp only)
theorem State.chainTake_keep (s : State) (k : ChainId) : (State.chainTake s k).keep = s.keep := by
  unfold State.chainTake
  try dsimp only
  repeat' first
    | with_reducible rfl
    | (intro _)
    | (with_reducible refine Eq.trans (State.modChain_keep _ _ _) ?_)
    | (with_reducible refine Eq.trans (State.useFresh_keep _) ?_)
    | (with_reducible refine Eq.trans (State.chainOut_keep _ _ _) ?_)
    | (with_reducible refine Eq.trans (State.configWho_keep _ _ _ _ _ _) ?_)
    | (with_reducible refine Eq.trans (foldl_keep _ ?_ _ _) ?_)
    | (with_reducible refine Eq.trans (foldl_keep1 _ ?_ _ _) ?_)
    | split
    | (simp only [keep_mk])
    | (dsimp only)
theorem State.chainIn_keep (s : State) (k : ChainId) (i : CIn) : (State.chainIn s k i).keep = s.keep := by
  unfold State.chainIn
  try dsimp only
  repeat' first
    | with_reducible rfl
    | (intro _)
    | (with_reducible refine Eq.trans (State.modChain_keep _ _ _) ?_)
    | (with_reducible refine Eq.trans (State.chainTake_keep _ _) ?_)
    | (with_reducible refine Eq.trans (foldl_keep _ ?_ _ _) ?_)
    | (with_reducible refine Eq.trans (foldl_keep1 _ ?_ _ _) ?_)
    | split
    | (simp only [keep_mk])
    | (dsimp only)
theorem State.gap_keep (s : State) (q : QuadId) (slot : SlotId) (stamp : Nat) : (State.gap s q slot stamp).keep = s.keep := by
  unfold State.gap
  try dsimp only
  repeat' first
    | with_reducible rfl
    | (intro _)
    | (with_reducible refine Eq.trans (State.modChain_keep _ _ _) ?_)
    | (with_reducible refine Eq.trans (State.chainIn_keep _ _ _) ?_)
    | (with_reducible refine Eq.trans (foldl_keep _ ?_ _ _) ?_)
    | (with_reducible refine Eq.trans (foldl_keep1 _ ?_ _ _) ?_)
    | split
    | (simp only [keep_mk])
    | (dsimp only)
theorem State.modMeas_keep (s : State) (q : QuadId) (f : Meas → Meas) : (State.modMeas s q f).keep = s.keep := by
  unfold State.modMeas
  try dsimp only
  repeat' first
    | with_reducible rfl
    | (intro _)
    | (with_reducible refine Eq.trans (foldl_keep _ ?_ _ _) ?_)
    | (with_reducible refine Eq.trans (foldl_keep1 _ ?_ _ _) ?_)
    | split
    | (simp only [keep_mk])
    | (dsimp only)
theorem State.modSlot_keep (s : State) (q : QuadId) (i : SlotId) (f : Slot → Slot) : (State.modSlot s q i f).keep = s.keep := by
  unfold State.modSlot
  try dsimp only
  repeat' first
    | with_reducible rfl
    | (intro _)
    | (with_reducible refine Eq.trans (State.modMeas_keep _ _ _) ?_)
    | (with_reducible refine Eq.trans (foldl_keep _ ?_ _ _) ?_)
    | (with_reducible refine Eq.trans (foldl_keep1 _ ?_ _ _) ?_)
    | split
    | (simp only [keep_mk])
    | (dsimp only)
theorem State.modAcc_keep (s : State) (q : QuadId) (i : SlotId) (f : Acc → Acc) : (State.modAcc s q i f).keep = s.keep := by
  unfold State.modAcc
  try dsimp only
  repeat' first
    | with_reducible rfl
    | (intro _)
    | (with_reducible refine Eq.trans (State.modSlot_keep _ _ _ _) ?_)
    | (with_reducible refine Eq.trans (foldl_keep _ ?_ _ _) ?_)
    | (with_reducible refine Eq.trans (foldl_keep1 _ ?_ _ _) ?_)
    | split
    | (simp only [keep_mk])
    | (dsimp only)
theorem State.countMiss_keep (s : State) (q : QuadId) (i : SlotId) (extra : optParam Word16 0) : (State.countMiss s q i extra).keep = s.keep := by
  unfold State.countMiss
  try dsimp only
  repeat' first
    | with_reducible rfl
    | (intro _)
    | (with_reducible refine Eq.trans (State.modAcc_keep _ _ _ _) ?_)
    | (with_reducible refine Eq.trans (foldl_keep _ ?_ _ _) ?_)
    | (with_reducible refine Eq.trans (foldl_keep1 _ ?_ _ _) ?_)
    | split
    | (simp only [keep_mk])
    | (dsimp only)
theorem State.slotMiss_keep (s : State) (q : QuadId) (i : SlotId) (stamp : Nat) (extra : optParam Word16 0) : (State.slotMiss s q i stamp extra).keep = s.keep := by
  unfold State.slotMiss
  try dsimp only
  repeat' first
    | with_reducible rfl
    | (intro _)
    | (with_reducible refine Eq.trans (State.gap_keep _ _ _ _) ?_)
    | (with_reducible refine Eq.trans (State.countMiss_keep _ _ _ _) ?_)
    | (with_reducible refine Eq.trans (foldl_keep _ ?_ _ _) ?_)
    | (with_reducible refine Eq.trans (foldl_keep1 _ ?_ _ _) ?_)
    | split
    | (simp only [keep_mk])
    | (dsimp only)
theorem State.trigSlot_keep (s : State) (q : QuadId) (i : SlotId) (req : Nat) (tag : optParam (Option Nat) none) : (State.trigSlot s q i req tag).keep = s.keep := by
  unfold State.trigSlot
  try dsimp only
  repeat' first
    | with_reducible rfl
    | (intro _)
    | (with_reducible refine Eq.trans (State.modSlot_keep _ _ _ _) ?_)
    | (with_reducible refine Eq.trans (State.slotMiss_keep _ _ _ _ _) ?_)
    | (with_reducible refine Eq.trans (foldl_keep _ ?_ _ _) ?_)
    | (with_reducible refine Eq.trans (foldl_keep1 _ ?_ _ _) ?_)
    | split
    | (simp only [keep_mk])
    | (dsimp only)
theorem State.abortAdmin_keep (s : State) : (State.abortAdmin s).keep = s.keep := by
  unfold State.abortAdmin
  try dsimp only
  repeat' first
    | with_reducible rfl
    | (intro _)
    | (with_reducible refine Eq.trans (State.complete_keep _ _ _ _ _ _ _) ?_)
    | (with_reducible refine Eq.trans (foldl_keep _ ?_ _ _) ?_)
    | (with_reducible refine Eq.trans (foldl_keep1 _ ?_ _ _) ?_)
    | split
    | (simp only [keep_mk])
    | (dsimp only)
theorem State.started_keep (s : State) (q : QueueId) (n : Word32) : (State.started s q n).keep = s.keep := by
  unfold State.started
  try dsimp only
  repeat' first
    | with_reducible rfl
    | (intro _)
    | (with_reducible refine Eq.trans (State.modQueue_keep _ _ _) ?_)
    | (with_reducible refine Eq.trans (foldl_keep _ ?_ _ _) ?_)
    | (with_reducible refine Eq.trans (foldl_keep1 _ ?_ _ _) ?_)
    | split
    | (simp only [keep_mk])
    | (dsimp only)
theorem State.finish_keep (s : State) (q : QueueId) (n : Word32) (st : Status) (detail : Nat) : (State.finish s q n st detail).keep = s.keep := by
  unfold State.finish
  try dsimp only
  repeat' first
    | with_reducible rfl
    | (intro _)
    | (with_reducible refine Eq.trans (State.complete_keep _ _ _ _ _ _ _) ?_)
    | (with_reducible refine Eq.trans (foldl_keep _ ?_ _ _) ?_)
    | (with_reducible refine Eq.trans (foldl_keep1 _ ?_ _ _) ?_)
    | split
    | (simp only [keep_mk])
    | (dsimp only)
theorem State.modHost_keep (s : State) (f : HostRegs → HostRegs) : (State.modHost s f).keep = s.keep := by
  unfold State.modHost
  try dsimp only
  repeat' first
    | with_reducible rfl
    | (intro _)
    | (with_reducible refine Eq.trans (foldl_keep _ ?_ _ _) ?_)
    | (with_reducible refine Eq.trans (foldl_keep1 _ ?_ _ _) ?_)
    | split
    | (simp only [keep_mk])
    | (dsimp only)
theorem State.noteSet_keep (s : State) (k : Nat) : (State.noteSet s k).keep = s.keep := by
  unfold State.noteSet
  try dsimp only
  repeat' first
    | with_reducible rfl
    | (intro _)
    | (with_reducible refine Eq.trans (State.modHost_keep _ _) ?_)
    | (with_reducible refine Eq.trans (foldl_keep _ ?_ _ _) ?_)
    | (with_reducible refine Eq.trans (foldl_keep1 _ ?_ _ _) ?_)
    | split
    | (simp only [keep_mk])
    | (dsimp only)
theorem State.deny_keep (s : State) (m : Nat) (t : Nat) (perm : Nat) : (State.deny s m t perm).keep = s.keep := by
  unfold State.deny
  try dsimp only
  repeat' first
    | with_reducible rfl
    | (intro _)
    | (with_reducible refine Eq.trans (State.modHost_keep _ _) ?_)
    | (with_reducible refine Eq.trans (State.noteSet_keep _ _) ?_)
    | (with_reducible refine Eq.trans (foldl_keep _ ?_ _ _) ?_)
    | (with_reducible refine Eq.trans (foldl_keep1 _ ?_ _ _) ?_)
    | split
    | (simp only [keep_mk])
    | (dsimp only)
theorem State.io_keep (s : State) (q : QueueId) (n : Word32) (form : Desc → Bool) (needs : Desc → List (Nat × Nat)) (bad : Desc → Bool → Option Nat) (body : Desc → State → State) (hbody : ∀ x0 u, (body x0 u).keep = u.keep) : (State.io s q n form needs bad body).keep = s.keep := by
  unfold State.io
  try dsimp only
  repeat' first
    | with_reducible rfl
    | (intro _)
    | (with_reducible refine Eq.trans (hbody _ _) ?_)
    | (with_reducible refine Eq.trans (State.started_keep _ _ _) ?_)
    | (with_reducible refine Eq.trans (State.finish_keep _ _ _ _ _) ?_)
    | (with_reducible refine Eq.trans (State.deny_keep _ _ _ _) ?_)
    | (with_reducible refine Eq.trans (foldl_keep _ ?_ _ _) ?_)
    | (with_reducible refine Eq.trans (foldl_keep1 _ ?_ _ _) ?_)
    | split
    | (simp only [keep_mk])
    | (dsimp only)
theorem State.completeWho_keep (s : State) (who : Option (QueueId × Word32)) (st : Status) (detail : Nat) (time : Nat) (result : Mask128) : (State.completeWho s who st detail time result).keep = s.keep := by
  unfold State.completeWho
  try dsimp only
  repeat' first
    | with_reducible rfl
    | (intro _)
    | (with_reducible refine Eq.trans (State.complete_keep _ _ _ _ _ _ _) ?_)
    | (with_reducible refine Eq.trans (foldl_keep _ ?_ _ _) ?_)
    | (with_reducible refine Eq.trans (foldl_keep1 _ ?_ _ _) ?_)
    | split
    | (simp only [keep_mk])
    | (dsimp only)
theorem State.modArch_keep (s : State) (f : Arch → Arch) : (State.modArch s f).keep = s.keep := by
  unfold State.modArch
  try dsimp only
  repeat' first
    | with_reducible rfl
    | (intro _)
    | (with_reducible refine Eq.trans (foldl_keep _ ?_ _ _) ?_)
    | (with_reducible refine Eq.trans (foldl_keep1 _ ?_ _ _) ?_)
    | split
    | (simp only [keep_mk])
    | (dsimp only)
theorem execArchiveRelease_keep (dt : Nat) (q : QueueId) (n : Word32) (s : State) {t : State} (h : execArchiveRelease dt q n s = .next t) : t.keep = (s.elapse dt).keep := by
  simp only [execArchiveRelease] at h
  first
    | (injection h with h; subst h)
    | (split at h; exact absurd h (by simp); injection h with h; subst h)
  repeat' first
    | with_reducible rfl
    | (intro _)
    | (with_reducible refine Eq.trans (State.finish_keep _ _ _ _ _) ?_)
    | (with_reducible refine Eq.trans (State.io_keep _ _ _ _ _ _ _ ?_) ?_)
    | (with_reducible refine Eq.trans (State.completeWho_keep _ _ _ _ _ _) ?_)
    | (with_reducible refine Eq.trans (State.modArch_keep _ _) ?_)
    | (with_reducible refine Eq.trans (foldl_keep _ ?_ _ _) ?_)
    | (with_reducible refine Eq.trans (foldl_keep1 _ ?_ _ _) ?_)
    | split
    | (simp only [keep_mk])
    | (dsimp only)
theorem State.modCourse_keep (s : State) (f : Course → Course) : (State.modCourse s f).keep = s.keep := by
  unfold State.modCourse
  try dsimp only
  repeat' first
    | with_reducible rfl
    | (intro _)
    | (with_reducible refine Eq.trans (foldl_keep _ ?_ _ _) ?_)
    | (with_reducible refine Eq.trans (foldl_keep1 _ ?_ _ _) ?_)
    | split
    | (simp only [keep_mk])
    | (dsimp only)
theorem State.restartFronts_keep (s : State) (lam : Nat → Rat) : (State.restartFronts s lam).keep = s.keep := by
  unfold State.restartFronts
  try dsimp only
  repeat' first
    | with_reducible rfl
    | (intro _)
    | (with_reducible refine Eq.trans (State.modCourse_keep _ _) ?_)
    | (with_reducible refine Eq.trans (foldl_keep _ ?_ _ _) ?_)
    | (with_reducible refine Eq.trans (foldl_keep1 _ ?_ _ _) ?_)
    | split
    | (simp only [keep_mk])
    | (dsimp only)
theorem State.archField_keep (s : State) (q : QuadId) (c : ChanId) (f : Nat) : (State.archField s q c f).keep = s.keep := by
  unfold State.archField
  try dsimp only
  repeat' first
    | with_reducible rfl
    | (intro _)
    | (with_reducible refine Eq.trans (State.modArch_keep _ _) ?_)
    | (with_reducible refine Eq.trans (foldl_keep _ ?_ _ _) ?_)
    | (with_reducible refine Eq.trans (foldl_keep1 _ ?_ _ _) ?_)
    | split
    | (simp only [keep_mk])
    | (dsimp only)
theorem State.when_keep (s : State) (b : Bool) (f : State → State) (hf : (f s).keep = s.keep) : (State.when s b f).keep = s.keep := by
  unfold State.when; split
  · exact hf
  · rfl
theorem State.modSerial_keep (s : State) (f : Serial → Serial) : (State.modSerial s f).keep = s.keep := by
  unfold State.modSerial
  try dsimp only
  repeat' first
    | with_reducible rfl
    | (intro _)
    | (with_reducible refine Eq.trans (foldl_keep _ ?_ _ _) ?_)
    | (with_reducible refine Eq.trans (foldl_keep1 _ ?_ _ _) ?_)
    | split
    | (simp only [keep_mk])
    | (dsimp only)
theorem State.completeOp_keep (s : State) (o : Op) (st : Status) (detail : Nat) (time : Nat) (result : Mask128) : (State.completeOp s o st detail time result).keep = s.keep := by
  unfold State.completeOp
  try dsimp only
  repeat' first
    | with_reducible rfl
    | (intro _)
    | (with_reducible refine Eq.trans (State.complete_keep _ _ _ _ _ _ _) ?_)
    | (with_reducible refine Eq.trans (foldl_keep _ ?_ _ _) ?_)
    | (with_reducible refine Eq.trans (foldl_keep1 _ ?_ _ _) ?_)
    | split
    | (simp only [keep_mk])
    | (dsimp only)
theorem State.abortCal_keep (s : State) : (State.abortCal s).keep = s.keep := by
  unfold State.abortCal
  try dsimp only
  repeat' first
    | with_reducible rfl
    | (intro _)
    | (with_reducible refine Eq.trans (State.completeOp_keep _ _ _ _ _ _) ?_)
    | (with_reducible refine Eq.trans (foldl_keep _ ?_ _ _) ?_)
    | (with_reducible refine Eq.trans (foldl_keep1 _ ?_ _ _) ?_)
    | split
    | (simp only [keep_mk])
    | (dsimp only)
theorem State.setDev_keep (s : State) (cause : Word32) (en : Word32) : (State.setDev s cause en).keep = s.keep := by
  unfold State.setDev
  try dsimp only
  repeat' first
    | with_reducible rfl
    | (intro _)
    | (with_reducible refine Eq.trans (State.signal_keep _ _) ?_)
    | (with_reducible refine Eq.trans (State.modHost_keep _ _) ?_)
    | (with_reducible refine Eq.trans (foldl_keep _ ?_ _ _) ?_)
    | (with_reducible refine Eq.trans (foldl_keep1 _ ?_ _ _) ?_)
    | split
    | (simp only [keep_mk])
    | (dsimp only)
theorem State.raiseCause_keep (s : State) (bitNo : Nat) : (State.raiseCause s bitNo).keep = s.keep := by
  unfold State.raiseCause
  try dsimp only
  repeat' first
    | with_reducible rfl
    | (intro _)
    | (with_reducible refine Eq.trans (State.noteSet_keep _ _) ?_)
    | (with_reducible refine Eq.trans (State.setDev_keep _ _ _) ?_)
    | (with_reducible refine Eq.trans (foldl_keep _ ?_ _ _) ?_)
    | (with_reducible refine Eq.trans (foldl_keep1 _ ?_ _ _) ?_)
    | split
    | (simp only [keep_mk])
    | (dsimp only)
theorem State.stageAny_keep (s : State) (r : Record) : (State.stageAny s r).keep = s.keep := by
  unfold State.stageAny
  try dsimp only
  repeat' first
    | with_reducible rfl
    | (intro _)
    | (with_reducible refine keep_pair (by assumption) (Eq.trans (State.stage_keep _ _ _) ?_))
    | (with_reducible refine Eq.trans (State.stage_keep _ _ _) ?_)
    | (with_reducible refine Eq.trans (foldl_keep _ ?_ _ _) ?_)
    | (with_reducible refine Eq.trans (foldl_keep1 _ ?_ _ _) ?_)
    | split
    | (simp only [keep_mk])
    | (dsimp only)
theorem State.masonRecord_keep (s : State) : (State.masonRecord s).keep = s.keep := by
  unfold State.masonRecord
  try dsimp only
  repeat' first
    | with_reducible rfl
    | (intro _)
    | (with_reducible refine Eq.trans (State.stageAny_keep _ _) ?_)
    | (with_reducible refine Eq.trans (foldl_keep _ ?_ _ _) ?_)
    | (with_reducible refine Eq.trans (foldl_keep1 _ ?_ _ _) ?_)
    | split
    | (simp only [keep_mk])
    | (dsimp only)
theorem State.setShed_keep (s : State) (k : Fin 5) : (State.setShed s k).keep = s.keep := by
  unfold State.setShed
  try dsimp only
  repeat' first
    | with_reducible rfl
    | (intro _)
    | (with_reducible refine Eq.trans (State.modMason_keep _ _) ?_)
    | (with_reducible refine Eq.trans (State.raiseCause_keep _ _) ?_)
    | (with_reducible refine Eq.trans (State.masonRecord_keep _) ?_)
    | (with_reducible refine Eq.trans (foldl_keep _ ?_ _ _) ?_)
    | (with_reducible refine Eq.trans (foldl_keep1 _ ?_ _ _) ?_)
    | split
    | (simp only [keep_mk])
    | (dsimp only)
theorem State.masonRestart_keep (s : State) : (State.masonRestart s).keep = s.keep := by
  unfold State.masonRestart
  try dsimp only
  repeat' first
    | with_reducible rfl
    | (intro _)
    | (with_reducible refine Eq.trans (State.modMason_keep _ _) ?_)
    | (with_reducible refine Eq.trans (State.abortAdmin_keep _) ?_)
    | (with_reducible refine Eq.trans (State.abortCal_keep _) ?_)
    | (with_reducible refine Eq.trans (State.raiseCause_keep _ _) ?_)
    | (with_reducible refine Eq.trans (State.setShed_keep _ _) ?_)
    | (with_reducible refine Eq.trans (foldl_keep _ ?_ _ _) ?_)
    | (with_reducible refine Eq.trans (foldl_keep1 _ ?_ _ _) ?_)
    | split
    | (simp only [keep_mk])
    | (dsimp only)
theorem State.intoImage_keep (s : State) (b : List Byte) : (State.intoImage s b).keep = s.keep := by
  unfold State.intoImage
  try dsimp only
  repeat' first
    | with_reducible rfl
    | (intro _)
    | (with_reducible refine Eq.trans (State.modMason_keep _ _) ?_)
    | (with_reducible refine Eq.trans (State.masonRestart_keep _) ?_)
    | (with_reducible refine Eq.trans (foldl_keep _ ?_ _ _) ?_)
    | (with_reducible refine Eq.trans (foldl_keep1 _ ?_ _ _) ?_)
    | split
    | (simp only [keep_mk])
    | (dsimp only)
theorem execFlashProgramEraseComplete_keep (dt : Nat) (ok : Bool) (s : State) {t : State} (h : execFlashProgramEraseComplete dt ok s = .next t) : t.keep = (s.elapse dt).keep := by
  simp only [execFlashProgramEraseComplete] at h
  first
    | (injection h with h; subst h)
    | (split at h; exact absurd h (by simp); injection h with h; subst h)
  repeat' first
    | with_reducible rfl
    | (intro _)
    | (with_reducible refine Eq.trans (State.modMason_keep _ _) ?_)
    | (with_reducible refine Eq.trans (State.finish_keep _ _ _ _ _) ?_)
    | (with_reducible refine Eq.trans (State.when_keep _ _ _ ?_) ?_)
    | (with_reducible refine Eq.trans (State.modSerial_keep _ _) ?_)
    | (with_reducible refine Eq.trans (State.masonRestart_keep _) ?_)
    | (with_reducible refine Eq.trans (State.intoImage_keep _ _) ?_)
    | (with_reducible refine Eq.trans (foldl_keep _ ?_ _ _) ?_)
    | (with_reducible refine Eq.trans (foldl_keep1 _ ?_ _ _) ?_)
    | split
    | (simp only [keep_mk])
    | (dsimp only)
theorem execLivenessGatePass_keep (dt : Nat) (s : State) {t : State} (h : execLivenessGatePass dt s = .next t) : t.keep = (s.elapse dt).keep := by
  simp only [execLivenessGatePass] at h
  first
    | (injection h with h; subst h)
    | (split at h; exact absurd h (by simp); injection h with h; subst h)
  repeat' first
    | with_reducible rfl
    | (intro _)
    | (with_reducible refine Eq.trans (State.modPair_keep _ _) ?_)
    | (with_reducible refine Eq.trans (State.when_keep _ _ _ ?_) ?_)
    | (with_reducible refine Eq.trans (foldl_keep _ ?_ _ _) ?_)
    | (with_reducible refine Eq.trans (foldl_keep1 _ ?_ _ _) ?_)
    | split
    | (simp only [keep_mk])
    | (dsimp only)
theorem State.injectDone_keep (s : State) (q : QuadId) (i : SlotId) (tag : Option Nat) : (State.injectDone s q i tag).keep = s.keep := by
  unfold State.injectDone
  try dsimp only
  repeat' first
    | with_reducible rfl
    | (intro _)
    | (with_reducible refine Eq.trans (State.completeOp_keep _ _ _ _ _ _) ?_)
    | (with_reducible refine Eq.trans (foldl_keep _ ?_ _ _) ?_)
    | (with_reducible refine Eq.trans (foldl_keep1 _ ?_ _ _) ?_)
    | split
    | (simp only [keep_mk])
    | (dsimp only)
theorem State.retire_keep (s : State) (q : QueueId) (b : RecBuf) (st : Status) : (State.retire s q b st).keep = s.keep := by
  unfold State.retire
  try dsimp only
  repeat' first
    | with_reducible rfl
    | (intro _)
    | (with_reducible refine Eq.trans (State.modQueue_keep _ _ _) ?_)
    | (with_reducible refine Eq.trans (State.complete_keep _ _ _ _ _ _ _) ?_)
    | (with_reducible refine Eq.trans (foldl_keep _ ?_ _ _) ?_)
    | (with_reducible refine Eq.trans (foldl_keep1 _ ?_ _ _) ?_)
    | split
    | (simp only [keep_mk])
    | (dsimp only)
theorem State.pairEvent_keep (s : State) (ev : Byte) (data : Word64) : (State.pairEvent s ev data).keep = s.keep := by
  unfold State.pairEvent
  try dsimp only
  repeat' first
    | with_reducible rfl
    | (intro _)
    | (with_reducible refine Eq.trans (State.raiseCause_keep _ _) ?_)
    | (with_reducible refine Eq.trans (State.stageAny_keep _ _) ?_)
    | (with_reducible refine Eq.trans (foldl_keep _ ?_ _ _) ?_)
    | (with_reducible refine Eq.trans (foldl_keep1 _ ?_ _ _) ?_)
    | split
    | (simp only [keep_mk])
    | (dsimp only)
theorem State.zsend_keep (s : State) (f : ZFrame) : (State.zsend s f).keep = s.keep := by
  unfold State.zsend
  try dsimp only
  repeat' first
    | with_reducible rfl
    | (intro _)
    | (with_reducible refine Eq.trans (State.modPair_keep _ _) ?_)
    | (with_reducible refine Eq.trans (foldl_keep _ ?_ _ _) ?_)
    | (with_reducible refine Eq.trans (foldl_keep1 _ ?_ _ _) ?_)
    | split
    | (simp only [keep_mk])
    | (dsimp only)
theorem State.sendCommit_keep (s : State) : (State.sendCommit s).keep = s.keep := by
  unfold State.sendCommit
  try dsimp only
  repeat' first
    | with_reducible rfl
    | (intro _)
    | (with_reducible refine Eq.trans (State.modPair_keep _ _) ?_)
    | (with_reducible refine Eq.trans (State.zsend_keep _ _) ?_)
    | (with_reducible refine Eq.trans (foldl_keep _ ?_ _ _) ?_)
    | (with_reducible refine Eq.trans (foldl_keep1 _ ?_ _ _) ?_)
    | split
    | (simp only [keep_mk])
    | (dsimp only)
theorem State.capture_keep (s : State) (final : Bool) : (State.capture s final).keep = s.keep := by
  unfold State.capture
  try dsimp only
  repeat' first
    | with_reducible rfl
    | (intro _)
    | (with_reducible refine Eq.trans (State.useFresh_keep _) ?_)
    | (with_reducible refine Eq.trans (State.modPair_keep _ _) ?_)
    | (with_reducible refine Eq.trans (State.sendCommit_keep _) ?_)
    | (with_reducible refine Eq.trans (foldl_keep _ ?_ _ _) ?_)
    | (with_reducible refine Eq.trans (foldl_keep1 _ ?_ _ _) ?_)
    | split
    | (simp only [keep_mk])
    | (dsimp only)
theorem State.finalCapture_keep (s : State) : (State.finalCapture s).keep = s.keep := by
  unfold State.finalCapture
  try dsimp only
  repeat' first
    | with_reducible rfl
    | (intro _)
    | (with_reducible refine Eq.trans (State.capture_keep _ _) ?_)
    | (with_reducible refine Eq.trans (foldl_keep _ ?_ _ _) ?_)
    | (with_reducible refine Eq.trans (foldl_keep1 _ ?_ _ _) ?_)
    | split
    | (simp only [keep_mk])
    | (dsimp only)
theorem execHandoverDrained_keep (dt : Nat) (s : State) {t : State} (h : execHandoverDrained dt s = .next t) : t.keep = (s.elapse dt).keep := by
  simp only [execHandoverDrained] at h
  first
    | (injection h with h; subst h)
    | (split at h; exact absurd h (by simp); injection h with h; subst h)
  repeat' first
    | with_reducible rfl
    | (intro _)
    | (with_reducible refine Eq.trans (State.modPair_keep _ _) ?_)
    | (with_reducible refine Eq.trans (State.when_keep _ _ _ ?_) ?_)
    | (with_reducible refine Eq.trans (State.retire_keep _ _ _ _) ?_)
    | (with_reducible refine Eq.trans (State.pairEvent_keep _ _ _) ?_)
    | (with_reducible refine Eq.trans (State.finalCapture_keep _) ?_)
    | (with_reducible refine Eq.trans (foldl_keep _ ?_ _ _) ?_)
    | (with_reducible refine Eq.trans (foldl_keep1 _ ?_ _ _) ?_)
    | split
    | (simp only [keep_mk])
    | (dsimp only)
theorem orphan_keep (s : State) : (orphan s).keep = s.keep := by
  unfold orphan; exact keep_mk _ ..
theorem State.roleLoss_keep (s : State) (tl : Nat) : (State.roleLoss s tl).keep = s.keep := by
  unfold State.roleLoss
  try dsimp only
  repeat' first
    | with_reducible rfl
    | (intro _)
    | (with_reducible refine Eq.trans (orphan_keep _) ?_)
    | (with_reducible refine Eq.trans (foldl_keep _ ?_ _ _) ?_)
    | (with_reducible refine Eq.trans (foldl_keep1 _ ?_ _ _) ?_)
    | split
    | (simp only [keep_mk])
    | (dsimp only)
theorem State.outDecided_keep (s : State) (q : QueueId) (n : Word32) : (State.outDecided s q n).keep = s.keep := by
  unfold State.outDecided
  try dsimp only
  repeat' first
    | with_reducible rfl
    | (intro _)
    | (with_reducible refine Eq.trans (State.completeOp_keep _ _ _ _ _ _) ?_)
    | (with_reducible refine Eq.trans (foldl_keep _ ?_ _ _) ?_)
    | (with_reducible refine Eq.trans (foldl_keep1 _ ?_ _ _) ?_)
    | split
    | (simp only [keep_mk])
    | (dsimp only)
theorem State.setOut_keep (s : State) (o : Op) (x : OutOp) : (State.setOut s o x).keep = s.keep := by
  unfold State.setOut
  try dsimp only
  repeat' first
    | with_reducible rfl
    | (intro _)
    | (with_reducible refine Eq.trans (foldl_keep _ ?_ _ _) ?_)
    | (with_reducible refine Eq.trans (foldl_keep1 _ ?_ _ _) ?_)
    | split
    | (simp only [keep_mk])
    | (dsimp only)
theorem State.decided_keep (s : State) (q : QueueId) (n : Word32) (c : ChanId) (d : Decision) : (State.decided s q n c d).keep = s.keep := by
  unfold State.decided
  try dsimp only
  repeat' first
    | with_reducible rfl
    | (intro _)
    | (with_reducible refine Eq.trans (State.outDecided_keep _ _ _) ?_)
    | (with_reducible refine Eq.trans (State.setOut_keep _ _ _) ?_)
    | (with_reducible refine Eq.trans (foldl_keep _ ?_ _ _) ?_)
    | (with_reducible refine Eq.trans (foldl_keep1 _ ?_ _ _) ?_)
    | split
    | (simp only [keep_mk])
    | (dsimp only)
theorem State.outCmd_keep (s : State) (q : QueueId) (n : Word32) (mask : Mask128) (capped : Nat) (f : State → ChanId → State × Verdict) (hf : ∀ u x1, (f u x1).1.keep = u.keep) : (State.outCmd s q n mask capped f).keep = s.keep := by
  unfold State.outCmd
  try dsimp only
  repeat' first
    | with_reducible rfl
    | (intro _)
    | (with_reducible refine keep_pair (by assumption) (Eq.trans (hf _ _) ?_))
    | (with_reducible refine Eq.trans (hf _ _) ?_)
    | (with_reducible refine Eq.trans (State.addOp_keep _ _ _ _) ?_)
    | (with_reducible refine Eq.trans (State.outDecided_keep _ _ _) ?_)
    | (with_reducible refine Eq.trans (State.decided_keep _ _ _ _ _) ?_)
    | (with_reducible refine Eq.trans (foldl_keep _ ?_ _ _) ?_)
    | (with_reducible refine Eq.trans (foldl_keep1 _ ?_ _ _) ?_)
    | split
    | (simp only [keep_mk])
    | (dsimp only)
theorem State.request_keep (s : State) (c : ChanId) (src : ReqSrc) (k : ReqKind) : (State.request s c src k).keep = s.keep := by
  unfold State.request
  try dsimp only
  repeat' first
    | with_reducible rfl
    | (intro _)
    | (with_reducible refine Eq.trans (foldl_keep _ ?_ _ _) ?_)
    | (with_reducible refine Eq.trans (foldl_keep1 _ ?_ _ _) ?_)
    | split
    | (simp only [keep_mk])
    | (dsimp only)
theorem State.modQuad_keep (s : State) (q : QuadId) (f : Quad → Quad) : (State.modQuad s q f).keep = s.keep := by
  unfold State.modQuad
  try dsimp only
  repeat' first
    | with_reducible rfl
    | (intro _)
    | (with_reducible refine Eq.trans (foldl_keep _ ?_ _ _) ?_)
    | (with_reducible refine Eq.trans (foldl_keep1 _ ?_ _ _) ?_)
    | split
    | (simp only [keep_mk])
    | (dsimp only)
theorem State.freezeNow_keep (s : State) : (State.freezeNow s).keep = s.keep := by
  unfold State.freezeNow
  try dsimp only
  repeat' first
    | with_reducible rfl
    | (intro _)
    | (with_reducible refine Eq.trans (State.modArch_keep _ _) ?_)
    | (with_reducible refine Eq.trans (State.raiseCause_keep _ _) ?_)
    | (with_reducible refine Eq.trans (foldl_keep _ ?_ _ _) ?_)
    | (with_reducible refine Eq.trans (foldl_keep1 _ ?_ _ _) ?_)
    | split
    | (simp only [keep_mk])
    | (dsimp only)
theorem State.archTrigger_keep (s : State) (code : Nat) (num : Nat) (post : Nat) (who : Option (QueueId × Word32)) : (State.archTrigger s code num post who).keep = s.keep := by
  unfold State.archTrigger
  try dsimp only
  repeat' first
    | with_reducible rfl
    | (intro _)
    | (with_reducible refine Eq.trans (State.modArch_keep _ _) ?_)
    | (with_reducible refine Eq.trans (State.freezeNow_keep _) ?_)
    | (with_reducible refine Eq.trans (foldl_keep _ ?_ _ _) ?_)
    | (with_reducible refine Eq.trans (foldl_keep1 _ ?_ _ _) ?_)
    | split
    | (simp only [keep_mk])
    | (dsimp only)
theorem State.diagTrigger_keep (s : State) (code : Nat) (num : Nat) : (State.diagTrigger s code num).keep = s.keep := by
  unfold State.diagTrigger
  try dsimp only
  repeat' first
    | with_reducible rfl
    | (intro _)
    | (with_reducible refine Eq.trans (State.archTrigger_keep _ _ _ _ _) ?_)
    | (with_reducible refine Eq.trans (foldl_keep _ ?_ _ _) ?_)
    | (with_reducible refine Eq.trans (foldl_keep1 _ ?_ _ _) ?_)
    | split
    | (simp only [keep_mk])
    | (dsimp only)
theorem State.diagRecord_keep (s : State) (num : Nat) (qd : QuadId) (isQuad : Bool) (raised : Bool) (code : Nat) (ob : Byte) : (State.diagRecord s num qd isQuad raised code ob).keep = s.keep := by
  unfold State.diagRecord
  try dsimp only
  repeat' first
    | with_reducible rfl
    | (intro _)
    | (with_reducible refine Eq.trans (State.stageCount_keep _ _ _ _ ?_ ?_) ?_)
    | (with_reducible refine Eq.trans (State.modQuad_keep _ _ _) ?_)
    | (with_reducible refine Eq.trans (foldl_keep _ ?_ _ _) ?_)
    | (with_reducible refine Eq.trans (foldl_keep1 _ ?_ _ _) ?_)
    | split
    | (simp only [keep_mk])
    | (dsimp only)
theorem State.eventDiag_keep (s : State) (c : ChanId) (code : Nat) (ob : Byte) : (State.eventDiag s c code ob).keep = s.keep := by
  unfold State.eventDiag
  try dsimp only
  repeat' first
    | with_reducible rfl
    | (intro _)
    | (with_reducible refine Eq.trans (State.diagTrigger_keep _ _ _) ?_)
    | (with_reducible refine Eq.trans (State.diagRecord_keep _ _ _ _ _ _ _) ?_)
    | (with_reducible refine Eq.trans (foldl_keep _ ?_ _ _) ?_)
    | (with_reducible refine Eq.trans (foldl_keep1 _ ?_ _ _) ?_)
    | split
    | (simp only [keep_mk])
    | (dsimp only)
theorem State.overBudget_keep (s : State) (r : Req) (outcome : Nat) (test : Nat) : (State.overBudget s r outcome test).keep = s.keep := by
  unfold State.overBudget
  try dsimp only
  repeat' first
    | with_reducible rfl
    | (intro _)
    | (with_reducible refine Eq.trans (State.modQuad_keep _ _ _) ?_)
    | (with_reducible refine Eq.trans (State.eventDiag_keep _ _ _ _) ?_)
    | (with_reducible refine Eq.trans (foldl_keep _ ?_ _ _) ?_)
    | (with_reducible refine Eq.trans (foldl_keep1 _ ?_ _ _) ?_)
    | split
    | (simp only [keep_mk])
    | (dsimp only)
theorem State.settleReq_keep (s : State) (r : Req) (d : Decision) : (State.settleReq s r d).keep = s.keep := by
  unfold State.settleReq
  try dsimp only
  repeat' first
    | with_reducible rfl
    | (intro _)
    | (with_reducible refine Eq.trans (State.modCourse_keep _ _) ?_)
    | (with_reducible refine Eq.trans (State.decided_keep _ _ _ _ _) ?_)
    | (with_reducible refine Eq.trans (foldl_keep _ ?_ _ _) ?_)
    | (with_reducible refine Eq.trans (foldl_keep1 _ ?_ _ _) ?_)
    | split
    | (simp only [keep_mk])
    | (dsimp only)
theorem State.admitReq_keep (s : State) (r : Req) : (State.admitReq s r).keep = s.keep := by
  unfold State.admitReq
  try dsimp only
  repeat' first
    | with_reducible rfl
    | (intro _)
    | (with_reducible refine Eq.trans (State.modChan_keep _ _ _) ?_)
    | (with_reducible refine Eq.trans (foldl_keep _ ?_ _ _) ?_)
    | (with_reducible refine Eq.trans (foldl_keep1 _ ?_ _ _) ?_)
    | split
    | (simp only [keep_mk])
    | (dsimp only)
theorem State.grant_keep (s : State) (r : Req) (late : Bool) : (State.grant s r late).keep = s.keep := by
  unfold State.grant
  try dsimp only
  repeat' first
    | with_reducible rfl
    | (intro _)
    | (with_reducible refine Eq.trans (State.settleReq_keep _ _ _) ?_)
    | (with_reducible refine Eq.trans (State.admitReq_keep _ _) ?_)
    | (with_reducible refine Eq.trans (foldl_keep _ ?_ _ _) ?_)
    | (with_reducible refine Eq.trans (foldl_keep1 _ ?_ _ _) ?_)
    | split
    | (simp only [keep_mk])
    | (dsimp only)
theorem State.fireHard_keep (s : State) (r : Req) : (State.fireHard s r).keep = s.keep := by
  unfold State.fireHard
  try dsimp only
  repeat' first
    | with_reducible rfl
    | (intro _)
    | (with_reducible refine Eq.trans (State.overBudget_keep _ _ _ _) ?_)
    | (with_reducible refine Eq.trans (State.grant_keep _ _ _) ?_)
    | (with_reducible refine Eq.trans (foldl_keep _ ?_ _ _) ?_)
    | (with_reducible refine Eq.trans (foldl_keep1 _ ?_ _ _) ?_)
    | split
    | (simp only [keep_mk])
    | (dsimp only)
theorem State.ask_keep (s : State) (l : ChanId) (src : ReqSrc) (k : ReqKind) : (State.ask s l src k).1.keep = s.keep := by
  unfold State.ask
  try dsimp only
  repeat' first
    | with_reducible rfl
    | (intro _)
    | (with_reducible refine Eq.trans (State.request_keep _ _ _ _) ?_)
    | (with_reducible refine Eq.trans (State.fireHard_keep _ _) ?_)
    | (with_reducible refine Eq.trans (foldl_keep _ ?_ _ _) ?_)
    | (with_reducible refine Eq.trans (foldl_keep1 _ ?_ _ _) ?_)
    | split
    | (simp only [keep_mk])
    | (dsimp only)
theorem State.supersede_keep (s : State) (c : ChanId) (k : optParam ReqKind ReqKind.level) : (State.supersede s c k).keep = s.keep := by
  unfold State.supersede
  try dsimp only
  repeat' first
    | with_reducible rfl
    | (intro _)
    | (with_reducible refine Eq.trans (State.decided_keep _ _ _ _ _) ?_)
    | (with_reducible refine Eq.trans (foldl_keep _ ?_ _ _) ?_)
    | (with_reducible refine Eq.trans (foldl_keep1 _ ?_ _ _) ?_)
    | split
    | (simp only [keep_mk])
    | (dsimp only)
theorem State.updateGen_keep (s : State) (l : ChanId) (w : Word64) (old : Word64) (src : ReqSrc) : (State.updateGen s l w old src).1.keep = s.keep := by
  unfold State.updateGen
  try dsimp only
  repeat' first
    | with_reducible rfl
    | (intro _)
    | (with_reducible refine Eq.trans (State.modChan_keep _ _ _) ?_)
    | (with_reducible refine keep_pair (by assumption) (Eq.trans (State.ask_keep _ _ _ _) ?_))
    | (with_reducible refine Eq.trans (State.ask_keep _ _ _ _) ?_)
    | (with_reducible refine Eq.trans (State.supersede_keep _ _ _) ?_)
    | (with_reducible refine Eq.trans (foldl_keep _ ?_ _ _) ?_)
    | (with_reducible refine Eq.trans (foldl_keep1 _ ?_ _ _) ?_)
    | split
    | (simp only [keep_mk])
    | (dsimp only)
theorem State.startGen_keep (s : State) (l : ChanId) (w : Word64) (old : Word64) (src : ReqSrc) : (State.startGen s l w old src).1.keep = s.keep := by
  unfold State.startGen
  try dsimp only
  repeat' first
    | with_reducible rfl
    | (intro _)
    | (with_reducible refine Eq.trans (State.modChan_keep _ _ _) ?_)
    | (with_reducible refine keep_pair (by assumption) (Eq.trans (State.ask_keep _ _ _ _) ?_))
    | (with_reducible refine Eq.trans (State.ask_keep _ _ _ _) ?_)
    | (with_reducible refine Eq.trans (State.supersede_keep _ _ _) ?_)
    | (with_reducible refine keep_pair (by assumption) (Eq.trans (State.updateGen_keep _ _ _ _ _) ?_))
    | (with_reducible refine Eq.trans (State.updateGen_keep _ _ _ _ _) ?_)
    | (with_reducible refine Eq.trans (foldl_keep _ ?_ _ _) ?_)
    | (with_reducible refine Eq.trans (foldl_keep1 _ ?_ _ _) ?_)
    | split
    | (simp only [keep_mk])
    | (dsimp only)
theorem State.storePulse_keep (s : State) (l : ChanId) (w : Word64) : (State.storePulse s l w).keep = s.keep := by
  unfold State.storePulse
  try dsimp only
  repeat' first
    | with_reducible rfl
    | (intro _)
    | (with_reducible refine Eq.trans (State.modChan_keep _ _ _) ?_)
    | (with_reducible refine Eq.trans (foldl_keep _ ?_ _ _) ?_)
    | (with_reducible refine Eq.trans (foldl_keep1 _ ?_ _ _) ?_)
    | split
    | (simp only [keep_mk])
    | (dsimp only)
theorem State.pulseWrite_keep (s : State) (d : Desc) (c : ChanId) : (State.pulseWrite s d c).keep = s.keep := by
  unfold State.pulseWrite
  try dsimp only
  repeat' first
    | with_reducible rfl
    | (intro _)
    | (with_reducible refine Eq.trans (State.storePulse_keep _ _ _) ?_)
    | (with_reducible refine Eq.trans (foldl_keep _ ?_ _ _) ?_)
    | (with_reducible refine Eq.trans (foldl_keep1 _ ?_ _ _) ?_)
    | split
    | (simp only [keep_mk])
    | (dsimp only)
theorem execOutPulseStart_keep (dt : Nat) (q : QueueId) (n : Word32) (s : State) {t : State} (h : execOutPulseStart dt q n s = .next t) : t.keep = (s.elapse dt).keep := by
  simp only [execOutPulseStart] at h
  first
    | (injection h with h; subst h)
    | (split at h; exact absurd h (by simp); injection h with h; subst h)
  repeat' first
    | with_reducible rfl
    | (intro _)
    | (with_reducible refine Eq.trans (State.io_keep _ _ _ _ _ _ _ ?_) ?_)
    | (with_reducible refine Eq.trans (State.outCmd_keep _ _ _ _ _ _ ?_) ?_)
    | (with_reducible refine keep_pair (by assumption) (Eq.trans (State.startGen_keep _ _ _ _ _) ?_))
    | (with_reducible refine Eq.trans (State.startGen_keep _ _ _ _ _) ?_)
    | (with_reducible refine Eq.trans (State.pulseWrite_keep _ _ _) ?_)
    | (with_reducible refine Eq.trans (foldl_keep _ ?_ _ _) ?_)
    | (with_reducible refine Eq.trans (foldl_keep1 _ ?_ _ _) ?_)
    | split
    | (simp only [keep_mk])
    | (dsimp only)
theorem State.chainStop_keep (s : State) (k : ChainId) (st : CState) (rflags : Word16) : (State.chainStop s k st rflags).keep = s.keep := by
  unfold State.chainStop
  try dsimp only
  repeat' first
    | with_reducible rfl
    | (intro _)
    | (with_reducible refine Eq.trans (State.modChain_keep _ _ _) ?_)
    | (with_reducible refine Eq.trans (State.closeBatch_keep _ _ _) ?_)
    | (with_reducible refine Eq.trans (State.configWho_keep _ _ _ _ _ _) ?_)
    | (with_reducible refine Eq.trans (foldl_keep _ ?_ _ _) ?_)
    | (with_reducible refine Eq.trans (foldl_keep1 _ ?_ _ _) ?_)
    | split
    | (simp only [keep_mk])
    | (dsimp only)
theorem State.refit_keep (s : State) : (State.refit s).keep = s.keep := by
  unfold State.refit
  try dsimp only
  repeat' first
    | with_reducible rfl
    | (intro _)
    | (with_reducible refine Eq.trans (State.chainStop_keep _ _ _ _) ?_)
    | (with_reducible refine Eq.trans (foldl_keep _ ?_ _ _) ?_)
    | (with_reducible refine Eq.trans (foldl_keep1 _ ?_ _ _) ?_)
    | split
    | (simp only [keep_mk])
    | (dsimp only)
theorem State.modPlumb_keep (s : State) (x : CtxId) (f : Plumb → Plumb) : (State.modPlumb s x f).keep = s.keep := by
  unfold State.modPlumb
  try dsimp only
  repeat' first
    | with_reducible rfl
    | (intro _)
    | (with_reducible refine Eq.trans (foldl_keep _ ?_ _ _) ?_)
    | (with_reducible refine Eq.trans (foldl_keep1 _ ?_ _ _) ?_)
    | split
    | (simp only [keep_mk])
    | (dsimp only)
theorem State.passStarts_keep (s : State) (x : CtxId) : (State.passStarts s x).keep = s.keep := by
  unfold State.passStarts
  try dsimp only
  repeat' first
    | with_reducible rfl
    | (intro _)
    | (with_reducible refine Eq.trans (State.modPlumb_keep _ _ _) ?_)
    | (with_reducible refine Eq.trans (foldl_keep _ ?_ _ _) ?_)
    | (with_reducible refine Eq.trans (foldl_keep1 _ ?_ _ _) ?_)
    | split
    | (simp only [keep_mk])
    | (dsimp only)
theorem State.scanStarts_keep (s : State) (x : CtxId) (q : QueueId) (n : Word32) : (State.scanStarts s x q n).keep = s.keep := by
  unfold State.scanStarts
  try dsimp only
  repeat' first
    | with_reducible rfl
    | (intro _)
    | (with_reducible refine Eq.trans (State.emit_keep _ _) ?_)
    | (with_reducible refine Eq.trans (State.modPlumb_keep _ _ _) ?_)
    | (with_reducible refine Eq.trans (foldl_keep _ ?_ _ _) ?_)
    | (with_reducible refine Eq.trans (foldl_keep1 _ ?_ _ _) ?_)
    | split
    | (simp only [keep_mk])
    | (dsimp only)
theorem State.nextScan_keep (s : State) (x : CtxId) : (State.nextScan s x).keep = s.keep := by
  unfold State.nextScan
  try dsimp only
  repeat' first
    | with_reducible rfl
    | (intro _)
    | (with_reducible refine Eq.trans (State.modPlumb_keep _ _ _) ?_)
    | (with_reducible refine Eq.trans (State.passStarts_keep _ _) ?_)
    | (with_reducible refine Eq.trans (State.scanStarts_keep _ _ _ _) ?_)
    | (with_reducible refine Eq.trans (foldl_keep _ ?_ _ _) ?_)
    | (with_reducible refine Eq.trans (foldl_keep1 _ ?_ _ _) ?_)
    | split
    | (simp only [keep_mk])
    | (dsimp only)
theorem State.logEvent_keep (s : State) (kind : Nat) (data : Nat) (fault : Bool) : (State.logEvent s kind data fault).keep = s.keep := by
  unfold State.logEvent
  try dsimp only
  repeat' first
    | with_reducible rfl
    | (intro _)
    | (with_reducible refine Eq.trans (State.modMason_keep _ _) ?_)
    | (with_reducible refine Eq.trans (foldl_keep _ ?_ _ _) ?_)
    | (with_reducible refine Eq.trans (foldl_keep1 _ ?_ _ _) ?_)
    | split
    | (simp only [keep_mk])
    | (dsimp only)
theorem State.vaultUe_keep (s : State) (addr : Nat) : (State.vaultUe s addr).keep = s.keep := by
  unfold State.vaultUe
  try dsimp only
  repeat' first
    | with_reducible rfl
    | (intro _)
    | (with_reducible refine Eq.trans (State.raiseCause_keep _ _) ?_)
    | (with_reducible refine Eq.trans (State.logEvent_keep _ _ _ _) ?_)
    | (with_reducible refine Eq.trans (foldl_keep _ ?_ _ _) ?_)
    | (with_reducible refine Eq.trans (foldl_keep1 _ ?_ _ _) ?_)
    | split
    | (simp only [keep_mk])
    | (dsimp only)
theorem execPlumbScanComplete_keep (dt : Nat) (x : CtxId) (data : List Byte) (ue : Bool) (s : State) {t : State} (h : execPlumbScanComplete dt x data ue s = .next t) : t.keep = (s.elapse dt).keep := by
  simp only [execPlumbScanComplete] at h
  first
    | (injection h with h; subst h)
    | (split at h; exact absurd h (by simp); injection h with h; subst h)
  repeat' first
    | with_reducible rfl
    | (intro _)
    | (with_reducible refine Eq.trans (State.complete_keep _ _ _ _ _ _ _) ?_)
    | (with_reducible refine Eq.trans (State.finish_keep _ _ _ _ _) ?_)
    | (with_reducible refine Eq.trans (State.when_keep _ _ _ ?_) ?_)
    | (with_reducible refine Eq.trans (State.modPlumb_keep _ _ _) ?_)
    | (with_reducible refine Eq.trans (State.nextScan_keep _ _) ?_)
    | (with_reducible refine Eq.trans (State.vaultUe_keep _ _) ?_)
    | (with_reducible refine Eq.trans (foldl_keep _ ?_ _ _) ?_)
    | (with_reducible refine Eq.trans (foldl_keep1 _ ?_ _ _) ?_)
    | split
    | (simp only [keep_mk])
    | (dsimp only)
theorem State.setStored_keep (s : State) (target : Nat) (obj : Nat) (v : Word32) : (State.setStored s target obj v).keep = s.keep := by
  unfold State.setStored
  try dsimp only
  repeat' first
    | with_reducible rfl
    | (intro _)
    | (with_reducible refine Eq.trans (foldl_keep _ ?_ _ _) ?_)
    | (with_reducible refine Eq.trans (foldl_keep1 _ ?_ _ _) ?_)
    | split
    | (simp only [keep_mk])
    | (dsimp only)
theorem State.mark_keep (s : State) (kind : Byte) (flags : Byte) (d0 : Word32) (d1 : Word32) (entry : Nat) : (State.mark s kind flags d0 d1 entry).keep = s.keep := by
  unfold State.mark
  try dsimp only
  repeat' first
    | with_reducible rfl
    | (intro _)
    | (with_reducible refine Eq.trans (State.stageCount_keep _ _ _ _ ?_ ?_) ?_)
    | (with_reducible refine Eq.trans (State.modCourse_keep _ _) ?_)
    | (with_reducible refine Eq.trans (foldl_keep _ ?_ _ _) ?_)
    | (with_reducible refine Eq.trans (foldl_keep1 _ ?_ _ _) ?_)
    | split
    | (simp only [keep_mk])
    | (dsimp only)
theorem State.swapEnd_keep (s : State) (w : Swap) (reversed : Bool) : (State.swapEnd s w reversed).keep = s.keep := by
  unfold State.swapEnd
  try dsimp only
  repeat' first
    | with_reducible rfl
    | (intro _)
    | (with_reducible refine Eq.trans (State.configDone_keep _ _ _ _ _ _ _ _) ?_)
    | (with_reducible refine Eq.trans (State.modCourse_keep _ _) ?_)
    | (with_reducible refine Eq.trans (State.mark_keep _ _ _ _ _ _) ?_)
    | (with_reducible refine Eq.trans (foldl_keep _ ?_ _ _) ?_)
    | (with_reducible refine Eq.trans (foldl_keep1 _ ?_ _ _) ?_)
    | split
    | (simp only [keep_mk])
    | (dsimp only)
theorem State.swapNow_keep (s : State) (w : Swap) (reversed : Bool) : (State.swapNow s w reversed).keep = s.keep := by
  unfold State.swapNow
  try dsimp only
  repeat' first
    | with_reducible rfl
    | (intro _)
    | (with_reducible refine Eq.trans (State.modCourse_keep _ _) ?_)
    | (with_reducible refine Eq.trans (State.restartFronts_keep _ _) ?_)
    | (with_reducible refine Eq.trans (State.swapEnd_keep _ _ _) ?_)
    | (with_reducible refine Eq.trans (foldl_keep _ ?_ _ _) ?_)
    | (with_reducible refine Eq.trans (foldl_keep1 _ ?_ _ _) ?_)
    | split
    | (simp only [keep_mk])
    | (dsimp only)
theorem State.turned_keep (s : State) (v : Rat) : (State.turned s v).keep = s.keep := by
  unfold State.turned
  try dsimp only
  repeat' first
    | with_reducible rfl
    | (intro _)
    | (with_reducible refine Eq.trans (State.restartFronts_keep _ _) ?_)
    | (with_reducible refine Eq.trans (State.swapNow_keep _ _ _) ?_)
    | (with_reducible refine Eq.trans (foldl_keep _ ?_ _ _) ?_)
    | (with_reducible refine Eq.trans (foldl_keep1 _ ?_ _ _) ?_)
    | split
    | (simp only [keep_mk])
    | (dsimp only)
theorem execAdminCommandStart_keep (dt : Nat) (n : Word32) (s : State) {t : State} (h : execAdminCommandStart dt n s = .next t) : t.keep = (s.elapse dt).keep := by
  simp only [execAdminCommandStart] at h
  first
    | (injection h with h; subst h)
    | (split at h; exact absurd h (by simp); injection h with h; subst h)
  repeat' first
    | with_reducible rfl
    | (intro _)
    | (with_reducible refine Eq.trans (State.modMason_keep _ _) ?_)
    | (with_reducible refine Eq.trans (State.started_keep _ _ _) ?_)
    | (with_reducible refine Eq.trans (State.finish_keep _ _ _ _ _) ?_)
    | (with_reducible refine Eq.trans (State.when_keep _ _ _ ?_) ?_)
    | (with_reducible refine Eq.trans (foldl_keep _ ?_ _ _) ?_)
    | (with_reducible refine Eq.trans (foldl_keep1 _ ?_ _ _) ?_)
    | split
    | (simp only [keep_mk])
    | (dsimp only)
theorem State.giveRef_keep (s : State) (l : ChanId) (on : Bool) : (State.giveRef s l on).keep = s.keep := by
  unfold State.giveRef
  try dsimp only
  repeat' first
    | with_reducible rfl
    | (intro _)
    | (with_reducible refine Eq.trans (State.modChan_keep _ _ _) ?_)
    | (with_reducible refine Eq.trans (State.supersede_keep _ _ _) ?_)
    | (with_reducible refine Eq.trans (foldl_keep _ ?_ _ _) ?_)
    | (with_reducible refine Eq.trans (foldl_keep1 _ ?_ _ _) ?_)
    | split
    | (simp only [keep_mk])
    | (dsimp only)
theorem State.adm_keep (s : State) (n : Word32) (form : Desc → Bool) (needs : Desc → List (Nat × Nat)) (bad : Desc → Option Nat) (body : Desc → State → State) (hbody : ∀ x0 u, (body x0 u).keep = u.keep) : (State.adm s n form needs bad body).keep = s.keep := by
  unfold State.adm
  try dsimp only
  repeat' first
    | with_reducible rfl
    | (intro _)
    | (with_reducible refine Eq.trans (hbody _ _) ?_)
    | (with_reducible refine Eq.trans (State.finish_keep _ _ _ _ _) ?_)
    | (with_reducible refine Eq.trans (State.deny_keep _ _ _ _) ?_)
    | (with_reducible refine Eq.trans (foldl_keep _ ?_ _ _) ?_)
    | (with_reducible refine Eq.trans (foldl_keep1 _ ?_ _ _) ?_)
    | split
    | (simp only [keep_mk])
    | (dsimp only)
theorem State.fset_keep (s : State) (n : Word32) (fid : Nat) (selBad : Desc → Bool) (valBad : Desc → Bool) (body : Desc → State → State) (hbody : ∀ x0 u, (body x0 u).keep = u.keep) : (State.fset s n fid selBad valBad body).keep = s.keep := by
  unfold State.fset
  try dsimp only
  repeat' first
    | with_reducible rfl
    | (intro _)
    | (with_reducible refine Eq.trans (hbody _ _) ?_)
    | (with_reducible refine Eq.trans (State.adm_keep _ _ _ _ _ _ ?_) ?_)
    | (with_reducible refine Eq.trans (foldl_keep _ ?_ _ _) ?_)
    | (with_reducible refine Eq.trans (foldl_keep1 _ ?_ _ _) ?_)
    | split
    | (simp only [keep_mk])
    | (dsimp only)
theorem State.setCfgDone_keep (s : State) (n : Word32) : (State.setCfgDone s n).keep = s.keep := by
  unfold State.setCfgDone
  try dsimp only
  repeat' first
    | with_reducible rfl
    | (intro _)
    | (with_reducible refine Eq.trans (State.configured_keep _ _ _) ?_)
    | (with_reducible refine Eq.trans (State.finish_keep _ _ _ _ _) ?_)
    | (with_reducible refine Eq.trans (foldl_keep _ ?_ _ _) ?_)
    | (with_reducible refine Eq.trans (foldl_keep1 _ ?_ _ _) ?_)
    | split
    | (simp only [keep_mk])
    | (dsimp only)
theorem execSetRecordRoute_keep (dt : Nat) (n : Word32) (s : State) {t : State} (h : execSetRecordRoute dt n s = .next t) : t.keep = (s.elapse dt).keep := by
  simp only [execSetRecordRoute] at h
  first
    | (injection h with h; subst h)
    | (split at h; exact absurd h (by simp); injection h with h; subst h)
  repeat' first
    | with_reducible rfl
    | (intro _)
    | (with_reducible refine Eq.trans (State.fset_keep _ _ _ _ _ _ ?_) ?_)
    | (with_reducible refine Eq.trans (State.setCfgDone_keep _ _) ?_)
    | (with_reducible refine Eq.trans (foldl_keep _ ?_ _ _) ?_)
    | (with_reducible refine Eq.trans (foldl_keep1 _ ?_ _ _) ?_)
    | split
    | (simp only [keep_mk])
    | (dsimp only)
theorem State.replaceOp_keep (s : State) (o : Op) (k : OpKind) : (State.replaceOp s o k).keep = s.keep := by
  unfold State.replaceOp
  try dsimp only
  repeat' first
    | with_reducible rfl
    | (intro _)
    | (with_reducible refine Eq.trans (foldl_keep _ ?_ _ _) ?_)
    | (with_reducible refine Eq.trans (foldl_keep1 _ ?_ _ _) ?_)
    | split
    | (simp only [keep_mk])
    | (dsimp only)
theorem State.edgeRecord_keep (s : State) (c : ChanId) (level : Bool) (f : Nat) (eighth : Nat) (lost : Option Nat) : (State.edgeRecord s c level f eighth lost).keep = s.keep := by
  unfold State.edgeRecord
  try dsimp only
  repeat' first
    | with_reducible rfl
    | (intro _)
    | (with_reducible refine Eq.trans (State.stageCount_keep _ _ _ _ ?_ ?_) ?_)
    | (with_reducible refine Eq.trans (State.modQuad_keep _ _ _) ?_)
    | (with_reducible refine Eq.trans (foldl_keep _ ?_ _ _) ?_)
    | (with_reducible refine Eq.trans (foldl_keep1 _ ?_ _ _) ?_)
    | split
    | (simp only [keep_mk])
    | (dsimp only)
theorem State.raiseDiag_keep (s : State) (c : ChanId) (code : Nat) : (State.raiseDiag s c code).keep = s.keep := by
  unfold State.raiseDiag
  try dsimp only
  repeat' first
    | with_reducible rfl
    | (intro _)
    | (with_reducible refine Eq.trans (State.modChan_keep _ _ _) ?_)
    | (with_reducible refine Eq.trans (State.diagTrigger_keep _ _ _) ?_)
    | (with_reducible refine Eq.trans (State.diagRecord_keep _ _ _ _ _ _ _) ?_)
    | (with_reducible refine Eq.trans (foldl_keep _ ?_ _ _) ?_)
    | (with_reducible refine Eq.trans (foldl_keep1 _ ?_ _ _) ?_)
    | split
    | (simp only [keep_mk])
    | (dsimp only)
theorem State.readCheck_keep (s : State) (c : ChanId) (land : Bool) : (State.readCheck s c land).keep = s.keep := by
  unfold State.readCheck
  try dsimp only
  repeat' first
    | with_reducible rfl
    | (intro _)
    | (with_reducible refine Eq.trans (State.raiseDiag_keep _ _ _) ?_)
    | (with_reducible refine Eq.trans (foldl_keep _ ?_ _ _) ?_)
    | (with_reducible refine Eq.trans (foldl_keep1 _ ?_ _ _) ?_)
    | split
    | (simp only [keep_mk])
    | (dsimp only)
theorem State.readFrame_keep (s : State) (c : ChanId) (land : Bool) (f : Nat) : (State.readFrame s c land f).keep = s.keep := by
  unfold State.readFrame
  try dsimp only
  repeat' first
    | with_reducible rfl
    | (intro _)
    | (with_reducible refine Eq.trans (State.modChan_keep _ _ _) ?_)
    | (with_reducible refine Eq.trans (State.readCheck_keep _ _ _) ?_)
    | (with_reducible refine Eq.trans (foldl_keep _ ?_ _ _) ?_)
    | (with_reducible refine Eq.trans (foldl_keep1 _ ?_ _ _) ?_)
    | split
    | (simp only [keep_mk])
    | (dsimp only)
theorem State.inputField_keep (s : State) (c : ChanId) (v : Nat) (f : Nat) (lost : Option Nat) : (State.inputField s c v f lost).keep = s.keep := by
  unfold State.inputField
  try dsimp only
  repeat' first
    | with_reducible rfl
    | (intro _)
    | (with_reducible refine Eq.trans (State.modChan_keep _ _ _) ?_)
    | (with_reducible refine Eq.trans (State.edgeRecord_keep _ _ _ _ _ _) ?_)
    | (with_reducible refine Eq.trans (State.readFrame_keep _ _ _ _) ?_)
    | (with_reducible refine Eq.trans (foldl_keep _ ?_ _ _) ?_)
    | (with_reducible refine Eq.trans (foldl_keep1 _ ?_ _ _) ?_)
    | split
    | (simp only [keep_mk])
    | (dsimp only)
theorem State.clearDiag_keep (s : State) (c : ChanId) (code : Nat) : (State.clearDiag s c code).keep = s.keep := by
  unfold State.clearDiag
  try dsimp only
  repeat' first
    | with_reducible rfl
    | (intro _)
    | (with_reducible refine Eq.trans (State.modChan_keep _ _ _) ?_)
    | (with_reducible refine Eq.trans (State.diagRecord_keep _ _ _ _ _ _ _) ?_)
    | (with_reducible refine Eq.trans (foldl_keep _ ?_ _ _) ?_)
    | (with_reducible refine Eq.trans (foldl_keep1 _ ?_ _ _) ?_)
    | split
    | (simp only [keep_mk])
    | (dsimp only)
theorem State.gangCompare_keep (s : State) (l : ChanId) : (State.gangCompare s l).keep = s.keep := by
  unfold State.gangCompare
  try dsimp only
  repeat' first
    | with_reducible rfl
    | (intro _)
    | (with_reducible refine Eq.trans (State.modChan_keep _ _ _) ?_)
    | (with_reducible refine Eq.trans (State.raiseDiag_keep _ _ _) ?_)
    | (with_reducible refine Eq.trans (State.clearDiag_keep _ _ _) ?_)
    | (with_reducible refine Eq.trans (foldl_keep _ ?_ _ _) ?_)
    | (with_reducible refine Eq.trans (foldl_keep1 _ ?_ _ _) ?_)
    | split
    | (simp only [keep_mk])
    | (dsimp only)
theorem State.senseField_keep (s : State) (c : ChanId) (code : BitVec 12) (diag : BitVec 4) (f : Nat) : (State.senseField s c code diag f).keep = s.keep := by
  unfold State.senseField
  try dsimp only
  repeat' first
    | with_reducible rfl
    | (intro _)
    | (with_reducible refine Eq.trans (State.modChan_keep _ _ _) ?_)
    | (with_reducible refine Eq.trans (State.gangCompare_keep _ _) ?_)
    | (with_reducible refine Eq.trans (foldl_keep _ ?_ _ _) ?_)
    | (with_reducible refine Eq.trans (foldl_keep1 _ ?_ _ _) ?_)
    | split
    | (simp only [keep_mk])
    | (dsimp only)
theorem State.loseBurst_keep (s : State) (q : QuadId) (b : Burst) (extra : optParam Word16 0) : (State.loseBurst s q b extra).keep = s.keep := by
  unfold State.loseBurst
  try dsimp only
  repeat' first
    | with_reducible rfl
    | (intro _)
    | (with_reducible refine Eq.trans (State.modMeas_keep _ _ _) ?_)
    | (with_reducible refine Eq.trans (State.modAcc_keep _ _ _ _) ?_)
    | (with_reducible refine Eq.trans (State.slotMiss_keep _ _ _ _ _) ?_)
    | (with_reducible refine Eq.trans (foldl_keep _ ?_ _ _) ?_)
    | (with_reducible refine Eq.trans (foldl_keep1 _ ?_ _ _) ?_)
    | split
    | (simp only [keep_mk])
    | (dsimp only)
theorem State.reap_keep (s : State) (q : QuadId) : (State.reap s q).keep = s.keep := by
  unfold State.reap
  try dsimp only
  repeat' first
    | with_reducible rfl
    | (intro _)
    | (with_reducible refine Eq.trans (State.modMeas_keep _ _ _) ?_)
    | (with_reducible refine Eq.trans (State.injectDone_keep _ _ _ _) ?_)
    | (with_reducible refine Eq.trans (foldl_keep _ ?_ _ _) ?_)
    | (with_reducible refine Eq.trans (foldl_keep1 _ ?_ _ _) ?_)
    | split
    | (simp only [keep_mk])
    | (dsimp only)
theorem State.loseFrame_keep (s : State) (q : QuadId) (t : Nat) : (State.loseFrame s q t).keep = s.keep := by
  unfold State.loseFrame
  try dsimp only
  repeat' first
    | with_reducible rfl
    | (intro _)
    | (with_reducible refine Eq.trans (State.modMeas_keep _ _ _) ?_)
    | (with_reducible refine Eq.trans (State.loseBurst_keep _ _ _ _) ?_)
    | (with_reducible refine Eq.trans (State.reap_keep _ _) ?_)
    | (with_reducible refine Eq.trans (foldl_keep _ ?_ _ _) ?_)
    | (with_reducible refine Eq.trans (foldl_keep1 _ ?_ _ _) ?_)
    | split
    | (simp only [keep_mk])
    | (dsimp only)
theorem State.results_keep (s : State) (q : QuadId) (f : Nat) (res : List (Option Nat)) : (State.results s q f res).keep = s.keep := by
  unfold State.results
  try dsimp only
  repeat' first
    | with_reducible rfl
    | (intro _)
    | (with_reducible refine Eq.trans (State.modMeas_keep _ _ _) ?_)
    | (with_reducible refine Eq.trans (State.loseFrame_keep _ _ _) ?_)
    | (with_reducible refine Eq.trans (foldl_keep _ ?_ _ _) ?_)
    | (with_reducible refine Eq.trans (foldl_keep1 _ ?_ _ _) ?_)
    | split
    | (simp only [keep_mk])
    | (dsimp only)
theorem State.clearQuadDiag_keep (s : State) (q : QuadId) (code : Nat) : (State.clearQuadDiag s q code).keep = s.keep := by
  unfold State.clearQuadDiag
  try dsimp only
  repeat' first
    | with_reducible rfl
    | (intro _)
    | (with_reducible refine Eq.trans (State.modQuad_keep _ _ _) ?_)
    | (with_reducible refine Eq.trans (State.diagRecord_keep _ _ _ _ _ _ _) ?_)
    | (with_reducible refine Eq.trans (foldl_keep _ ?_ _ _) ?_)
    | (with_reducible refine Eq.trans (foldl_keep1 _ ?_ _ _) ?_)
    | split
    | (simp only [keep_mk])
    | (dsimp only)
theorem State.raiseQuadDiag_keep (s : State) (q : QuadId) (code : Nat) : (State.raiseQuadDiag s q code).keep = s.keep := by
  unfold State.raiseQuadDiag
  try dsimp only
  repeat' first
    | with_reducible rfl
    | (intro _)
    | (with_reducible refine Eq.trans (State.modQuad_keep _ _ _) ?_)
    | (with_reducible refine Eq.trans (State.diagTrigger_keep _ _ _) ?_)
    | (with_reducible refine Eq.trans (State.diagRecord_keep _ _ _ _ _ _ _) ?_)
    | (with_reducible refine Eq.trans (foldl_keep _ ?_ _ _) ?_)
    | (with_reducible refine Eq.trans (foldl_keep1 _ ?_ _ _) ?_)
    | split
    | (simp only [keep_mk])
    | (dsimp only)
theorem State.reportClass_keep (s : State) (q : QuadId) (k : LClass) : (State.reportClass s q k).keep = s.keep := by
  unfold State.reportClass
  try dsimp only
  repeat' first
    | with_reducible rfl
    | (intro _)
    | (with_reducible refine Eq.trans (State.clearQuadDiag_keep _ _ _) ?_)
    | (with_reducible refine Eq.trans (State.raiseQuadDiag_keep _ _ _) ?_)
    | (with_reducible refine Eq.trans (foldl_keep _ ?_ _ _) ?_)
    | (with_reducible refine Eq.trans (foldl_keep1 _ ?_ _ _) ?_)
    | split
    | (simp only [keep_mk])
    | (dsimp only)
theorem State.reportDie_keep (s : State) (q : QuadId) (k : LClass) (hot : Bool) : (State.reportDie s q k hot).keep = s.keep := by
  unfold State.reportDie
  try dsimp only
  repeat' first
    | with_reducible rfl
    | (intro _)
    | (with_reducible refine Eq.trans (State.modQuad_keep _ _ _) ?_)
    | (with_reducible refine Eq.trans (State.clearQuadDiag_keep _ _ _) ?_)
    | (with_reducible refine Eq.trans (State.raiseQuadDiag_keep _ _ _) ?_)
    | (with_reducible refine Eq.trans (State.reportClass_keep _ _ _) ?_)
    | (with_reducible refine Eq.trans (foldl_keep _ ?_ _ _) ?_)
    | (with_reducible refine Eq.trans (foldl_keep1 _ ?_ _ _) ?_)
    | split
    | (simp only [keep_mk])
    | (dsimp only)
theorem State.configOp_keep (s : State) (o : Op) (st : Status) (detail : Nat) (time : Nat) (result : Mask128) : (State.configOp s o st detail time result).keep = s.keep := by
  unfold State.configOp
  try dsimp only
  repeat' first
    | with_reducible rfl
    | (intro _)
    | (with_reducible refine Eq.trans (State.configured_keep _ _ _) ?_)
    | (with_reducible refine Eq.trans (State.configDone_keep _ _ _ _ _ _ _ _) ?_)
    | (with_reducible refine Eq.trans (foldl_keep _ ?_ _ _) ?_)
    | (with_reducible refine Eq.trans (foldl_keep1 _ ?_ _ _) ?_)
    | split
    | (simp only [keep_mk])
    | (dsimp only)
theorem State.configStep_keep (s : State) (core : BitVec 4) : (State.configStep s core).keep = s.keep := by
  unfold State.configStep
  try dsimp only
  repeat' first
    | with_reducible rfl
    | (intro _)
    | (with_reducible refine Eq.trans (State.configOp_keep _ _ _ _ _ _) ?_)
    | (with_reducible refine Eq.trans (foldl_keep _ ?_ _ _) ?_)
    | (with_reducible refine Eq.trans (foldl_keep1 _ ?_ _ _) ?_)
    | split
    | (simp only [keep_mk])
    | (dsimp only)
theorem State.goodUplink_keep (s : State) (q : QuadId) (w : BitVec 200) : (State.goodUplink s q w).keep = s.keep := by
  unfold State.goodUplink
  try dsimp only
  repeat' first
    | with_reducible rfl
    | (intro _)
    | (with_reducible refine Eq.trans (State.archField_keep _ _ _ _) ?_)
    | (with_reducible refine Eq.trans (State.modQuad_keep _ _ _) ?_)
    | (with_reducible refine Eq.trans (State.inputField_keep _ _ _ _ _) ?_)
    | (with_reducible refine Eq.trans (State.senseField_keep _ _ _ _ _) ?_)
    | (with_reducible refine Eq.trans (State.results_keep _ _ _ _) ?_)
    | (with_reducible refine Eq.trans (State.reportDie_keep _ _ _ _) ?_)
    | (with_reducible refine Eq.trans (State.configStep_keep _ _) ?_)
    | (with_reducible refine Eq.trans (foldl_keep _ ?_ _ _) ?_)
    | (with_reducible refine Eq.trans (foldl_keep1 _ ?_ _ _) ?_)
    | split
    | (simp only [keep_mk])
    | (dsimp only)
theorem State.setRef_keep (s : State) (l : ChanId) : (State.setRef s l).1.keep = s.keep := by
  unfold State.setRef
  try dsimp only
  repeat' first
    | with_reducible rfl
    | (intro _)
    | (with_reducible refine Eq.trans (State.giveRef_keep _ _ _) ?_)
    | (with_reducible refine Eq.trans (foldl_keep _ ?_ _ _) ?_)
    | (with_reducible refine Eq.trans (foldl_keep1 _ ?_ _ _) ?_)
    | split
    | (simp only [keep_mk])
    | (dsimp only)
theorem State.whenLinked_keep (s : State) (q : QuadId) (f : State → State) (hf : (f s).keep = s.keep) : (State.whenLinked s q f).keep = s.keep :=
  State.when_keep _ _ _ hf
theorem State.beginDrain_keep (s : State) (q : QueueId) : (State.beginDrain s q).keep = s.keep := by
  unfold State.beginDrain
  try dsimp only
  repeat' first
    | with_reducible rfl
    | (intro _)
    | (with_reducible refine Eq.trans (State.modQueue_keep _ _ _) ?_)
    | (with_reducible refine Eq.trans (State.drained_keep _ _) ?_)
    | (with_reducible refine Eq.trans (State.finishDrains_keep _) ?_)
    | (with_reducible refine Eq.trans (State.complete_keep _ _ _ _ _ _ _) ?_)
    | (with_reducible refine Eq.trans (State.retire_keep _ _ _ _) ?_)
    | (with_reducible refine Eq.trans (foldl_keep _ ?_ _ _) ?_)
    | (with_reducible refine Eq.trans (foldl_keep1 _ ?_ _ _) ?_)
    | split
    | (simp only [keep_mk])
    | (dsimp only)
theorem State.freeMason_keep (s : State) : (State.freeMason s).keep = s.keep := by
  unfold State.freeMason
  try dsimp only
  repeat' first
    | with_reducible rfl
    | (intro _)
    | (with_reducible refine Eq.trans (State.modMason_keep _ _) ?_)
    | (with_reducible refine Eq.trans (foldl_keep _ ?_ _ _) ?_)
    | (with_reducible refine Eq.trans (foldl_keep1 _ ?_ _ _) ?_)
    | split
    | (simp only [keep_mk])
    | (dsimp only)
theorem execQueueQuiesce_keep (dt : Nat) (n : Word32) (s : State) {t : State} (h : execQueueQuiesce dt n s = .next t) : t.keep = (s.elapse dt).keep := by
  simp only [execQueueQuiesce] at h
  first
    | (injection h with h; subst h)
    | (split at h; exact absurd h (by simp); injection h with h; subst h)
  repeat' first
    | with_reducible rfl
    | (intro _)
    | (with_reducible refine Eq.trans (State.addOp_keep _ _ _ _) ?_)
    | (with_reducible refine Eq.trans (State.finish_keep _ _ _ _ _) ?_)
    | (with_reducible refine Eq.trans (State.adm_keep _ _ _ _ _ _ ?_) ?_)
    | (with_reducible refine Eq.trans (State.beginDrain_keep _ _) ?_)
    | (with_reducible refine Eq.trans (State.freeMason_keep _) ?_)
    | (with_reducible refine Eq.trans (foldl_keep _ ?_ _ _) ?_)
    | (with_reducible refine Eq.trans (foldl_keep1 _ ?_ _ _) ?_)
    | split
    | (simp only [keep_mk])
    | (dsimp only)
theorem State.recover_keep (s : State) : (State.recover s).keep = s.keep := by
  unfold State.recover
  try dsimp only
  repeat' first
    | with_reducible rfl
    | (intro _)
    | (with_reducible refine Eq.trans (State.modMason_keep _ _) ?_)
    | (with_reducible refine Eq.trans (foldl_keep _ ?_ _ _) ?_)
    | (with_reducible refine Eq.trans (foldl_keep1 _ ?_ _ _) ?_)
    | split
    | (simp only [keep_mk])
    | (dsimp only)
theorem State.dropChange_keep (s : State) (r : Req) : (State.dropChange s r).keep = s.keep := by
  unfold State.dropChange
  try dsimp only
  repeat' first
    | with_reducible rfl
    | (intro _)
    | (with_reducible refine Eq.trans (State.modChan_keep _ _ _) ?_)
    | (with_reducible refine Eq.trans (foldl_keep _ ?_ _ _) ?_)
    | (with_reducible refine Eq.trans (foldl_keep1 _ ?_ _ _) ?_)
    | split
    | (simp only [keep_mk])
    | (dsimp only)
theorem execSetRecordFlush_keep (dt : Nat) (n : Word32) (s : State) {t : State} (h : execSetRecordFlush dt n s = .next t) : t.keep = (s.elapse dt).keep := by
  simp only [execSetRecordFlush] at h
  first
    | (injection h with h; subst h)
    | (split at h; exact absurd h (by simp); injection h with h; subst h)
  repeat' first
    | with_reducible rfl
    | (intro _)
    | (with_reducible refine Eq.trans (State.fset_keep _ _ _ _ _ _ ?_) ?_)
    | (with_reducible refine Eq.trans (State.setCfgDone_keep _ _) ?_)
    | (with_reducible refine Eq.trans (foldl_keep _ ?_ _ _) ?_)
    | (with_reducible refine Eq.trans (foldl_keep1 _ ?_ _ _) ?_)
    | split
    | (simp only [keep_mk])
    | (dsimp only)
theorem execActGntHigh_keep (dt : Nat) (s : State) {t : State} (h : execActGntHigh dt s = .next t) : t.keep = (s.elapse dt).keep := by
  simp only [execActGntHigh] at h
  first
    | (injection h with h; subst h)
    | (split at h; exact absurd h (by simp); injection h with h; subst h)
  repeat' first
    | with_reducible rfl
    | (intro _)
    | (with_reducible refine Eq.trans (State.modPair_keep _ _) ?_)
    | (with_reducible refine Eq.trans (State.when_keep _ _ _ ?_) ?_)
    | (with_reducible refine Eq.trans (State.roleLoss_keep _ _) ?_)
    | (with_reducible refine Eq.trans (foldl_keep _ ?_ _ _) ?_)
    | (with_reducible refine Eq.trans (foldl_keep1 _ ?_ _ _) ?_)
    | split
    | (simp only [keep_mk])
    | (dsimp only)
theorem State.withdraw_keep (s : State) (c : ChanId) : (State.withdraw s c).keep = s.keep := by
  unfold State.withdraw
  try dsimp only
  repeat' first
    | with_reducible rfl
    | (intro _)
    | (with_reducible refine Eq.trans (State.settleReq_keep _ _ _) ?_)
    | (with_reducible refine Eq.trans (State.dropChange_keep _ _) ?_)
    | (with_reducible refine Eq.trans (foldl_keep _ ?_ _ _) ?_)
    | (with_reducible refine Eq.trans (foldl_keep1 _ ?_ _ _) ?_)
    | split
    | (simp only [keep_mk])
    | (dsimp only)
theorem State.takeSafe_keep (s : State) (c : ChanId) : (State.takeSafe s c).keep = s.keep := by
  unfold State.takeSafe
  try dsimp only
  repeat' first
    | with_reducible rfl
    | (intro _)
    | (with_reducible refine Eq.trans (State.modChan_keep _ _ _) ?_)
    | (with_reducible refine Eq.trans (State.withdraw_keep _ _) ?_)
    | (with_reducible refine Eq.trans (foldl_keep _ ?_ _ _) ?_)
    | (with_reducible refine Eq.trans (foldl_keep1 _ ?_ _ _) ?_)
    | split
    | (simp only [keep_mk])
    | (dsimp only)
theorem State.retrigger_keep (s : State) (f : State → State) (hf : ∀ u, (f u).keep = u.keep) : (State.retrigger s f).keep = s.keep := by
  unfold State.retrigger
  try dsimp only
  repeat' first
    | with_reducible rfl
    | (intro _)
    | (with_reducible refine Eq.trans (hf _) ?_)
    | (with_reducible refine Eq.trans (State.leaveSafe_keep _ _) ?_)
    | (with_reducible refine Eq.trans (State.takeSafe_keep _ _) ?_)
    | (with_reducible refine Eq.trans (foldl_keep _ ?_ _ _) ?_)
    | (with_reducible refine Eq.trans (foldl_keep1 _ ?_ _ _) ?_)
    | split
    | (simp only [keep_mk])
    | (dsimp only)
theorem State.setDrv_keep (s : State) (c : ChanId) (lvl : Bool) (t : Nat) : (State.setDrv s c lvl t).keep = s.keep := by
  unfold State.setDrv
  try dsimp only
  repeat' first
    | with_reducible rfl
    | (intro _)
    | (with_reducible refine Eq.trans (State.modChan_keep _ _ _) ?_)
    | (with_reducible refine Eq.trans (foldl_keep _ ?_ _ _) ?_)
    | (with_reducible refine Eq.trans (foldl_keep1 _ ?_ _ _) ?_)
    | split
    | (simp only [keep_mk])
    | (dsimp only)
theorem State.setDrvs_keep (s : State) (levels : List (ChanId × Bool × Nat)) : (State.setDrvs s levels).keep = s.keep := by
  unfold State.setDrvs
  try dsimp only
  repeat' first
    | with_reducible rfl
    | (intro _)
    | (with_reducible refine Eq.trans (State.modChan_keep _ _ _) ?_)
    | (with_reducible refine Eq.trans (State.setDrv_keep _ _ _ _) ?_)
    | (with_reducible refine Eq.trans (foldl_keep _ ?_ _ _) ?_)
    | (with_reducible refine Eq.trans (foldl_keep1 _ ?_ _ _) ?_)
    | split
    | (simp only [keep_mk])
    | (dsimp only)
theorem State.driveSelf_keep (s : State) (p : ChanId → Bool) : (State.driveSelf s p).keep = s.keep := by
  unfold State.driveSelf
  try dsimp only
  repeat' first
    | with_reducible rfl
    | (intro _)
    | (with_reducible refine Eq.trans (State.setDrvs_keep _ _) ?_)
    | (with_reducible refine Eq.trans (foldl_keep _ ?_ _ _) ?_)
    | (with_reducible refine Eq.trans (foldl_keep1 _ ?_ _ _) ?_)
    | split
    | (simp only [keep_mk])
    | (dsimp only)
theorem execFieldWatchdogExpiry_keep (dt : Nat) (q : QuadId) (s : State) {t : State} (h : execFieldWatchdogExpiry dt q s = .next t) : t.keep = (s.elapse dt).keep := by
  simp only [execFieldWatchdogExpiry] at h
  first
    | (injection h with h; subst h)
    | (split at h; exact absurd h (by simp); injection h with h; subst h)
  repeat' first
    | with_reducible rfl
    | (intro _)
    | (with_reducible refine Eq.trans (State.when_keep _ _ _ ?_) ?_)
    | (with_reducible refine Eq.trans (State.modQuad_keep _ _ _) ?_)
    | (with_reducible refine Eq.trans (State.retrigger_keep _ _ ?_) ?_)
    | (with_reducible refine Eq.trans (State.driveSelf_keep _ _) ?_)
    | (with_reducible refine Eq.trans (foldl_keep _ ?_ _ _) ?_)
    | (with_reducible refine Eq.trans (foldl_keep1 _ ?_ _ _) ?_)
    | split
    | (simp only [keep_mk])
    | (dsimp only)
theorem State.courseSwapRun_keep (s : State) (immediate : Bool) (who : Option (QueueId × Word32)) : (State.courseSwapRun s immediate who).keep = s.keep := by
  unfold State.courseSwapRun
  try dsimp only
  repeat' first
    | with_reducible rfl
    | (intro _)
    | (with_reducible refine Eq.trans (State.completeWho_keep _ _ _ _ _ _) ?_)
    | (with_reducible refine Eq.trans (State.modCourse_keep _ _) ?_)
    | (with_reducible refine Eq.trans (State.swapNow_keep _ _ _) ?_)
    | (with_reducible refine Eq.trans (foldl_keep _ ?_ _ _) ?_)
    | (with_reducible refine Eq.trans (foldl_keep1 _ ?_ _ _) ?_)
    | split
    | (simp only [keep_mk])
    | (dsimp only)
theorem State.firstSample_keep (s : State) (c : ChanId) (pin : Bool) (f : Nat) : (State.firstSample s c pin f).keep = s.keep := by
  unfold State.firstSample
  try dsimp only
  repeat' first
    | with_reducible rfl
    | (intro _)
    | (with_reducible refine Eq.trans (State.modChan_keep _ _ _) ?_)
    | (with_reducible refine Eq.trans (foldl_keep _ ?_ _ _) ?_)
    | (with_reducible refine Eq.trans (foldl_keep1 _ ?_ _ _) ?_)
    | split
    | (simp only [keep_mk])
    | (dsimp only)
theorem State.lostUplink_keep (s : State) (q : QuadId) (f : Nat) : (State.lostUplink s q f).keep = s.keep := by
  unfold State.lostUplink
  try dsimp only
  repeat' first
    | with_reducible rfl
    | (intro _)
    | (with_reducible refine Eq.trans (State.modQuad_keep _ _ _) ?_)
    | (with_reducible refine Eq.trans (State.loseFrame_keep _ _ _) ?_)
    | (with_reducible refine Eq.trans (foldl_keep _ ?_ _ _) ?_)
    | (with_reducible refine Eq.trans (foldl_keep1 _ ?_ _ _) ?_)
    | split
    | (simp only [keep_mk])
    | (dsimp only)
theorem execUplinkFrame_keep (dt : Nat) (q : QuadId) (f : UpFrame) (s : State) {t : State} (h : execUplinkFrame dt q f s = .next t) : t.keep = (s.elapse dt).keep := by
  simp only [execUplinkFrame] at h
  first
    | (injection h with h; subst h)
    | (split at h; exact absurd h (by simp); injection h with h; subst h)
  repeat' first
    | with_reducible rfl
    | (intro _)
    | (with_reducible refine Eq.trans (State.when_keep _ _ _ ?_) ?_)
    | (with_reducible refine Eq.trans (State.modQuad_keep _ _ _) ?_)
    | (with_reducible refine Eq.trans (State.goodUplink_keep _ _ _) ?_)
    | (with_reducible refine Eq.trans (State.firstSample_keep _ _ _ _) ?_)
    | (with_reducible refine Eq.trans (State.lostUplink_keep _ _ _) ?_)
    | (with_reducible refine Eq.trans (foldl_keep _ ?_ _ _) ?_)
    | (with_reducible refine Eq.trans (foldl_keep1 _ ?_ _ _) ?_)
    | split
    | (simp only [keep_mk])
    | (dsimp only)
theorem State.cfgFile_keep (s : State) (d : Desc) (chw : Word64) (ord : Nat) (c : ChanId) : (State.cfgFile s d chw ord c).keep = s.keep := by
  unfold State.cfgFile
  try dsimp only
  repeat' first
    | with_reducible rfl
    | (intro _)
    | (with_reducible refine Eq.trans (State.modChan_keep _ _ _) ?_)
    | (with_reducible refine Eq.trans (State.modQuad_keep _ _ _) ?_)
    | (with_reducible refine Eq.trans (foldl_keep _ ?_ _ _) ?_)
    | (with_reducible refine Eq.trans (foldl_keep1 _ ?_ _ _) ?_)
    | split
    | (simp only [keep_mk])
    | (dsimp only)
theorem execChConfig_keep (dt : Nat) (q : QueueId) (n : Word32) (s : State) {t : State} (h : execChConfig dt q n s = .next t) : t.keep = (s.elapse dt).keep := by
  simp only [execChConfig] at h
  first
    | (injection h with h; subst h)
    | (split at h; exact absurd h (by simp); injection h with h; subst h)
  repeat' first
    | with_reducible rfl
    | (intro _)
    | (with_reducible refine Eq.trans (State.addOp_keep _ _ _ _) ?_)
    | (with_reducible refine Eq.trans (State.finish_keep _ _ _ _ _) ?_)
    | (with_reducible refine Eq.trans (State.io_keep _ _ _ _ _ _ _ ?_) ?_)
    | (with_reducible refine Eq.trans (State.cfgFile_keep _ _ _ _ _) ?_)
    | (with_reducible refine Eq.trans (foldl_keep _ ?_ _ _) ?_)
    | (with_reducible refine Eq.trans (foldl_keep1 _ ?_ _ _) ?_)
    | split
    | (simp only [keep_mk])
    | (dsimp only)
theorem State.romWait_keep (s : State) (fault : BitVec 4) : (State.romWait s fault).keep = s.keep := by
  unfold State.romWait
  try dsimp only
  repeat' first
    | with_reducible rfl
    | (intro _)
    | (with_reducible refine Eq.trans (State.modMason_keep _ _) ?_)
    | (with_reducible refine Eq.trans (foldl_keep _ ?_ _ _) ?_)
    | (with_reducible refine Eq.trans (foldl_keep1 _ ?_ _ _) ?_)
    | split
    | (simp only [keep_mk])
    | (dsimp only)
theorem State.dropBursts_keep (s : State) (q : QuadId) : (State.dropBursts s q).keep = s.keep := by
  unfold State.dropBursts
  try dsimp only
  repeat' first
    | with_reducible rfl
    | (intro _)
    | (with_reducible refine Eq.trans (State.modMeas_keep _ _ _) ?_)
    | (with_reducible refine Eq.trans (State.injectDone_keep _ _ _ _) ?_)
    | (with_reducible refine Eq.trans (State.loseBurst_keep _ _ _ _) ?_)
    | (with_reducible refine Eq.trans (foldl_keep _ ?_ _ _) ?_)
    | (with_reducible refine Eq.trans (foldl_keep1 _ ?_ _ _) ?_)
    | split
    | (simp only [keep_mk])
    | (dsimp only)
theorem State.quadResetStart_keep (s : State) (q : QuadId) : (State.quadResetStart s q).keep = s.keep := by
  unfold State.quadResetStart
  try dsimp only
  repeat' first
    | with_reducible rfl
    | (intro _)
    | (with_reducible refine Eq.trans (State.modChan_keep _ _ _) ?_)
    | (with_reducible refine Eq.trans (State.modQuad_keep _ _ _) ?_)
    | (with_reducible refine Eq.trans (State.clearDiag_keep _ _ _) ?_)
    | (with_reducible refine Eq.trans (State.dropBursts_keep _ _) ?_)
    | (with_reducible refine Eq.trans (foldl_keep _ ?_ _ _) ?_)
    | (with_reducible refine Eq.trans (foldl_keep1 _ ?_ _ _) ?_)
    | split
    | (simp only [keep_mk])
    | (dsimp only)
theorem State.archDone_keep (s : State) : (State.archDone s).keep = s.keep := by
  unfold State.archDone
  try dsimp only
  repeat' first
    | with_reducible rfl
    | (intro _)
    | (with_reducible refine Eq.trans (State.completeWho_keep _ _ _ _ _ _) ?_)
    | (with_reducible refine Eq.trans (State.modArch_keep _ _) ?_)
    | (with_reducible refine Eq.trans (foldl_keep _ ?_ _ _) ?_)
    | (with_reducible refine Eq.trans (foldl_keep1 _ ?_ _ _) ?_)
    | split
    | (simp only [keep_mk])
    | (dsimp only)
theorem execArchiveFreeze_keep (dt : Nat) (q : QueueId) (n : Word32) (s : State) {t : State} (h : execArchiveFreeze dt q n s = .next t) : t.keep = (s.elapse dt).keep := by
  simp only [execArchiveFreeze] at h
  first
    | (injection h with h; subst h)
    | (split at h; exact absurd h (by simp); injection h with h; subst h)
  repeat' first
    | with_reducible rfl
    | (intro _)
    | (with_reducible refine Eq.trans (State.finish_keep _ _ _ _ _) ?_)
    | (with_reducible refine Eq.trans (State.io_keep _ _ _ _ _ _ _ ?_) ?_)
    | (with_reducible refine Eq.trans (State.archTrigger_keep _ _ _ _ _) ?_)
    | (with_reducible refine Eq.trans (State.archDone_keep _) ?_)
    | (with_reducible refine Eq.trans (foldl_keep _ ?_ _ _) ?_)
    | (with_reducible refine Eq.trans (foldl_keep1 _ ?_ _ _) ?_)
    | split
    | (simp only [keep_mk])
    | (dsimp only)
theorem State.degrade_keep (s : State) : (State.degrade s).keep = s.keep := by
  unfold State.degrade
  try dsimp only
  repeat' first
    | with_reducible rfl
    | (intro _)
    | (with_reducible refine Eq.trans (State.modPair_keep _ _) ?_)
    | (with_reducible refine Eq.trans (State.pairEvent_keep _ _ _) ?_)
    | (with_reducible refine Eq.trans (foldl_keep _ ?_ _ _) ?_)
    | (with_reducible refine Eq.trans (foldl_keep1 _ ?_ _ _) ?_)
    | split
    | (simp only [keep_mk])
    | (dsimp only)
theorem State.startResync_keep (s : State) (who : Option Word32) : (State.startResync s who).keep = s.keep := by
  unfold State.startResync
  try dsimp only
  repeat' first
    | with_reducible rfl
    | (intro _)
    | (with_reducible refine Eq.trans (State.modPair_keep _ _) ?_)
    | (with_reducible refine Eq.trans (foldl_keep _ ?_ _ _) ?_)
    | (with_reducible refine Eq.trans (foldl_keep1 _ ?_ _ _) ?_)
    | split
    | (simp only [keep_mk])
    | (dsimp only)
theorem State.recheck_keep (s : State) : (State.recheck s).keep = s.keep := by
  unfold State.recheck
  try dsimp only
  repeat' first
    | with_reducible rfl
    | (intro _)
    | (with_reducible refine Eq.trans (foldl_keep _ ?_ _ _) ?_)
    | (with_reducible refine Eq.trans (foldl_keep1 _ ?_ _ _) ?_)
    | split
    | (simp only [keep_mk])
    | (dsimp only)
theorem State.synced_keep (s : State) (k : ChainId) (tick : Nat) (m : Nat × Bool) (extra : Word16) : (State.synced s k tick m extra).keep = s.keep := by
  unfold State.synced
  try dsimp only
  repeat' first
    | with_reducible rfl
    | (intro _)
    | (with_reducible refine Eq.trans (State.modChain_keep _ _ _) ?_)
    | (with_reducible refine Eq.trans (State.useFresh_keep _) ?_)
    | (with_reducible refine Eq.trans (State.chainRecord_keep _ _ _ _ _ _ _) ?_)
    | (with_reducible refine Eq.trans (foldl_keep _ ?_ _ _) ?_)
    | (with_reducible refine Eq.trans (foldl_keep1 _ ?_ _ _) ?_)
    | split
    | (simp only [keep_mk])
    | (dsimp only)
theorem State.chainStart_keep (s : State) (k : ChainId) (tick : Nat) (extra : Word16) : (State.chainStart s k tick extra).keep = s.keep := by
  unfold State.chainStart
  try dsimp only
  repeat' first
    | with_reducible rfl
    | (intro _)
    | (with_reducible refine Eq.trans (State.modChain_keep _ _ _) ?_)
    | (with_reducible refine Eq.trans (State.synced_keep _ _ _ _ _) ?_)
    | (with_reducible refine Eq.trans (foldl_keep _ ?_ _ _) ?_)
    | (with_reducible refine Eq.trans (foldl_keep1 _ ?_ _ _) ?_)
    | split
    | (simp only [keep_mk])
    | (dsimp only)
theorem execSafeSwitchOn_keep (dt : Nat) (q : QuadId) (s : State) {t : State} (h : execSafeSwitchOn dt q s = .next t) : t.keep = (s.elapse dt).keep := by
  simp only [execSafeSwitchOn] at h
  first
    | (injection h with h; subst h)
    | (split at h; exact absurd h (by simp); injection h with h; subst h)
  repeat' first
    | with_reducible rfl
    | (intro _)
    | (with_reducible refine Eq.trans (State.modChan_keep _ _ _) ?_)
    | (with_reducible refine Eq.trans (State.when_keep _ _ _ ?_) ?_)
    | (with_reducible refine Eq.trans (State.modQuad_keep _ _ _) ?_)
    | (with_reducible refine Eq.trans (State.driveSelf_keep _ _) ?_)
    | (with_reducible refine Eq.trans (foldl_keep _ ?_ _ _) ?_)
    | (with_reducible refine Eq.trans (foldl_keep1 _ ?_ _ _) ?_)
    | split
    | (simp only [keep_mk])
    | (dsimp only)
theorem State.fwCommit_keep (s : State) (n : Word32) (action : Nat) (served : Bool) (body : State → State) (hbody : ∀ u, (body u).keep = u.keep) : (State.fwCommit s n action served body).keep = s.keep := by
  unfold State.fwCommit
  try dsimp only
  repeat' first
    | with_reducible rfl
    | (intro _)
    | (with_reducible refine Eq.trans (hbody _) ?_)
    | (with_reducible refine Eq.trans (State.adm_keep _ _ _ _ _ _ ?_) ?_)
    | (with_reducible refine Eq.trans (foldl_keep _ ?_ _ _) ?_)
    | (with_reducible refine Eq.trans (foldl_keep1 _ ?_ _ _) ?_)
    | split
    | (simp only [keep_mk])
    | (dsimp only)
theorem State.verified_keep (s : State) (n : Word32) (ok : State → State) (hok : ∀ u, (ok u).keep = u.keep) : (State.verified s n ok).keep = s.keep := by
  unfold State.verified
  try dsimp only
  repeat' first
    | with_reducible rfl
    | (intro _)
    | (with_reducible refine Eq.trans (hok _) ?_)
    | (with_reducible refine Eq.trans (State.finish_keep _ _ _ _ _) ?_)
    | (with_reducible refine Eq.trans (foldl_keep _ ?_ _ _) ?_)
    | (with_reducible refine Eq.trans (foldl_keep1 _ ?_ _ _) ?_)
    | split
    | (simp only [keep_mk])
    | (dsimp only)
theorem execFwCommitStart_keep (dt : Nat) (n : Word32) (s : State) {t : State} (h : execFwCommitStart dt n s = .next t) : t.keep = (s.elapse dt).keep := by
  simp only [execFwCommitStart] at h
  first
    | (injection h with h; subst h)
    | (split at h; exact absurd h (by simp); injection h with h; subst h)
  repeat' first
    | with_reducible rfl
    | (intro _)
    | (with_reducible refine Eq.trans (State.modMason_keep _ _) ?_)
    | (with_reducible refine Eq.trans (State.finish_keep _ _ _ _ _) ?_)
    | (with_reducible refine Eq.trans (State.fwCommit_keep _ _ _ _ _ ?_) ?_)
    | (with_reducible refine Eq.trans (State.verified_keep _ _ _ ?_) ?_)
    | (with_reducible refine Eq.trans (foldl_keep _ ?_ _ _) ?_)
    | (with_reducible refine Eq.trans (foldl_keep1 _ ?_ _ _) ?_)
    | split
    | (simp only [keep_mk])
    | (dsimp only)
theorem State.setWign_keep (s : State) : (State.setWign s).keep = s.keep := by
  unfold State.setWign
  try dsimp only
  repeat' first
    | with_reducible rfl
    | (intro _)
    | (with_reducible refine Eq.trans (State.modHost_keep _ _) ?_)
    | (with_reducible refine Eq.trans (State.noteSet_keep _ _) ?_)
    | (with_reducible refine Eq.trans (foldl_keep _ ?_ _ _) ?_)
    | (with_reducible refine Eq.trans (foldl_keep1 _ ?_ _ _) ?_)
    | split
    | (simp only [keep_mk])
    | (dsimp only)
theorem State.barWrite_keep (s : State) (t : Nat) (f : State → State) (hf : ∀ u, (f u).keep = u.keep) : (State.barWrite s t f).keep = s.keep := by
  unfold State.barWrite
  try dsimp only
  repeat' first
    | with_reducible rfl
    | (intro _)
    | (with_reducible refine Eq.trans (hf _) ?_)
    | (with_reducible refine Eq.trans (State.configured_keep _ _ _) ?_)
    | (with_reducible refine Eq.trans (State.deny_keep _ _ _ _) ?_)
    | (with_reducible refine Eq.trans (State.setWign_keep _) ?_)
    | (with_reducible refine Eq.trans (foldl_keep _ ?_ _ _) ?_)
    | (with_reducible refine Eq.trans (foldl_keep1 _ ?_ _ _) ?_)
    | split
    | (simp only [keep_mk])
    | (dsimp only)
theorem State.wdRestart_keep (s : State) : (State.wdRestart s).keep = s.keep := by
  unfold State.wdRestart
  try dsimp only
  repeat' first
    | with_reducible rfl
    | (intro _)
    | (with_reducible refine Eq.trans (State.modHost_keep _ _) ?_)
    | (with_reducible refine Eq.trans (State.retrigger_keep _ _ ?_) ?_)
    | (with_reducible refine Eq.trans (foldl_keep _ ?_ _ _) ?_)
    | (with_reducible refine Eq.trans (foldl_keep1 _ ?_ _ _) ?_)
    | split
    | (simp only [keep_mk])
    | (dsimp only)
theorem execHiKeepalive_keep (dt : Nat) (_v : Word32) (s : State) {t : State} (h : execHiKeepalive dt _v s = .next t) : t.keep = (s.elapse dt).keep := by
  simp only [execHiKeepalive] at h
  first
    | (injection h with h; subst h)
    | (split at h; exact absurd h (by simp); injection h with h; subst h)
  repeat' first
    | with_reducible rfl
    | (intro _)
    | (with_reducible refine Eq.trans (State.barWrite_keep _ _ _ ?_) ?_)
    | (with_reducible refine Eq.trans (State.wdRestart_keep _) ?_)
    | (with_reducible refine Eq.trans (foldl_keep _ ?_ _ _) ?_)
    | (with_reducible refine Eq.trans (foldl_keep1 _ ?_ _ _) ?_)
    | split
    | (simp only [keep_mk])
    | (dsimp only)
theorem execSafeDefine_keep (dt : Nat) (q : QueueId) (n : Word32) (s : State) {t : State} (h : execSafeDefine dt q n s = .next t) : t.keep = (s.elapse dt).keep := by
  simp only [execSafeDefine] at h
  first
    | (injection h with h; subst h)
    | (split at h; exact absurd h (by simp); injection h with h; subst h)
  repeat' first
    | with_reducible rfl
    | (intro _)
    | (with_reducible refine Eq.trans (State.modChan_keep _ _ _) ?_)
    | (with_reducible refine Eq.trans (State.configDone_keep _ _ _ _ _ _ _ _) ?_)
    | (with_reducible refine Eq.trans (State.finish_keep _ _ _ _ _) ?_)
    | (with_reducible refine Eq.trans (State.io_keep _ _ _ _ _ _ _ ?_) ?_)
    | (with_reducible refine Eq.trans (foldl_keep _ ?_ _ _) ?_)
    | (with_reducible refine Eq.trans (foldl_keep1 _ ?_ _ _) ?_)
    | split
    | (simp only [keep_mk])
    | (dsimp only)
theorem execIndexReadComplete_keep (dt : Nat) (sqp : Vector Word32 64) (cqc : Vector Word32 64) (s : State) {t : State} (h : execIndexReadComplete dt sqp cqc s = .next t) : t.keep = (s.elapse dt).keep := by
  simp only [execIndexReadComplete] at h
  first
    | (injection h with h; subst h)
    | (split at h; exact absurd h (by simp); injection h with h; subst h)
  repeat' first
    | with_reducible rfl
    | (intro _)
    | (with_reducible refine Eq.trans (State.modQueue_keep _ _ _) ?_)
    | (with_reducible refine Eq.trans (State.modHost_keep _ _) ?_)
    | (with_reducible refine Eq.trans (State.when_keep _ _ _ ?_) ?_)
    | (with_reducible refine Eq.trans (State.raiseCause_keep _ _) ?_)
    | (with_reducible refine Eq.trans (foldl_keep _ ?_ _ _) ?_)
    | (with_reducible refine Eq.trans (foldl_keep1 _ ?_ _ _) ?_)
    | split
    | (simp only [keep_mk])
    | (dsimp only)
theorem State.adminEnable_keep (s : State) : (State.adminEnable s).keep = s.keep := by
  unfold State.adminEnable
  try dsimp only
  repeat' first
    | with_reducible rfl
    | (intro _)
    | (with_reducible refine Eq.trans (State.modQueue_keep _ _ _) ?_)
    | (with_reducible refine Eq.trans (State.modHost_keep _ _) ?_)
    | (with_reducible refine Eq.trans (State.noteSet_keep _ _) ?_)
    | (with_reducible refine Eq.trans (foldl_keep _ ?_ _ _) ?_)
    | (with_reducible refine Eq.trans (foldl_keep1 _ ?_ _ _) ?_)
    | split
    | (simp only [keep_mk])
    | (dsimp only)
theorem State.adminDisable_keep (s : State) : (State.adminDisable s).keep = s.keep := by
  unfold State.adminDisable
  try dsimp only
  repeat' first
    | with_reducible rfl
    | (intro _)
    | (with_reducible refine Eq.trans (State.drained_keep _ _) ?_)
    | (with_reducible refine Eq.trans (State.modHost_keep _ _) ?_)
    | (with_reducible refine Eq.trans (State.beginDrain_keep _ _) ?_)
    | (with_reducible refine Eq.trans (foldl_keep _ ?_ _ _) ?_)
    | (with_reducible refine Eq.trans (foldl_keep1 _ ?_ _ _) ?_)
    | split
    | (simp only [keep_mk])
    | (dsimp only)
theorem State.hostwdWrite_keep (s : State) (v : Word32) : (State.hostwdWrite s v).keep = s.keep := by
  unfold State.hostwdWrite
  try dsimp only
  repeat' first
    | with_reducible rfl
    | (intro _)
    | (with_reducible refine Eq.trans (State.modHost_keep _ _) ?_)
    | (with_reducible refine Eq.trans (State.wdRestart_keep _) ?_)
    | (with_reducible refine Eq.trans (foldl_keep _ ?_ _ _) ?_)
    | (with_reducible refine Eq.trans (foldl_keep1 _ ?_ _ _) ?_)
    | split
    | (simp only [keep_mk])
    | (dsimp only)
theorem State.clearCauses_keep (s : State) (v : Word32) : (State.clearCauses s v).keep = s.keep := by
  unfold State.clearCauses
  try dsimp only
  repeat' first
    | with_reducible rfl
    | (intro _)
    | (with_reducible refine Eq.trans (State.setDev_keep _ _ _) ?_)
    | (with_reducible refine Eq.trans (foldl_keep _ ?_ _ _) ?_)
    | (with_reducible refine Eq.trans (foldl_keep1 _ ?_ _ _) ?_)
    | split
    | (simp only [keep_mk])
    | (dsimp only)
theorem State.clearDeny_keep (s : State) : (State.clearDeny s).keep = s.keep := by
  unfold State.clearDeny
  try dsimp only
  repeat' first
    | with_reducible rfl
    | (intro _)
    | (with_reducible refine Eq.trans (State.modHost_keep _ _) ?_)
    | (with_reducible refine Eq.trans (foldl_keep _ ?_ _ _) ?_)
    | (with_reducible refine Eq.trans (foldl_keep1 _ ?_ _ _) ?_)
    | split
    | (simp only [keep_mk])
    | (dsimp only)
theorem State.unmask_keep (s : State) (v : VecId) : (State.unmask s v).keep = s.keep := by
  unfold State.unmask
  try dsimp only
  repeat' first
    | with_reducible rfl
    | (intro _)
    | (with_reducible refine Eq.trans (setMsix_keep _ _ _) ?_)
    | (with_reducible refine Eq.trans (State.signal_keep _ _) ?_)
    | (with_reducible refine Eq.trans (foldl_keep _ ?_ _ _) ?_)
    | (with_reducible refine Eq.trans (foldl_keep1 _ ?_ _ _) ?_)
    | split
    | (simp only [keep_mk])
    | (dsimp only)
theorem State.msixWrite_keep (s : State) (v : VecId) (i : Nat) (x : Word32) : (State.msixWrite s v i x).keep = s.keep := by
  unfold State.msixWrite
  try dsimp only
  repeat' first
    | with_reducible rfl
    | (intro _)
    | (with_reducible refine Eq.trans (setMsix_keep _ _ _) ?_)
    | (with_reducible refine Eq.trans (State.unmask_keep _ _) ?_)
    | (with_reducible refine Eq.trans (foldl_keep _ ?_ _ _) ?_)
    | (with_reducible refine Eq.trans (foldl_keep1 _ ?_ _ _) ?_)
    | split
    | (simp only [keep_mk])
    | (dsimp only)
theorem State.writeWord_keep (s : State) (off : Nat) (v : Word32) : (State.writeWord s off v).keep = s.keep := by
  unfold State.writeWord
  try dsimp only
  repeat' first
    | with_reducible rfl
    | (intro _)
    | (with_reducible refine Eq.trans (State.modHost_keep _ _) ?_)
    | (with_reducible refine Eq.trans (State.setDev_keep _ _ _) ?_)
    | (with_reducible refine Eq.trans (State.setWign_keep _) ?_)
    | (with_reducible refine Eq.trans (State.wdRestart_keep _) ?_)
    | (with_reducible refine Eq.trans (State.adminEnable_keep _) ?_)
    | (with_reducible refine Eq.trans (State.adminDisable_keep _) ?_)
    | (with_reducible refine Eq.trans (State.hostwdWrite_keep _ _) ?_)
    | (with_reducible refine Eq.trans (State.clearCauses_keep _ _) ?_)
    | (with_reducible refine Eq.trans (State.clearDeny_keep _) ?_)
    | (with_reducible refine Eq.trans (State.msixWrite_keep _ _ _ _) ?_)
    | (with_reducible refine Eq.trans (foldl_keep _ ?_ _ _) ?_)
    | (with_reducible refine Eq.trans (foldl_keep1 _ ?_ _ _) ?_)
    | split
    | (simp only [keep_mk])
    | (dsimp only)
theorem execRegisterWrite_keep (dt : Nat) (off : Nat) (size : Nat) (v : Word64) (s : State) {t : State} (h : execRegisterWrite dt off size v s = .next t) : t.keep = (s.elapse dt).keep := by
  simp only [execRegisterWrite] at h
  first
    | (injection h with h; subst h)
    | (split at h; exact absurd h (by simp); injection h with h; subst h)
  repeat' first
    | with_reducible rfl
    | (intro _)
    | (with_reducible refine Eq.trans (State.setWign_keep _) ?_)
    | (with_reducible refine Eq.trans (State.barWrite_keep _ _ _ ?_) ?_)
    | (with_reducible refine Eq.trans (State.writeWord_keep _ _ _) ?_)
    | (with_reducible refine Eq.trans (foldl_keep _ ?_ _ _) ?_)
    | (with_reducible refine Eq.trans (foldl_keep1 _ ?_ _ _) ?_)
    | split
    | (simp only [keep_mk])
    | (dsimp only)
theorem State.readReset_keep (s : State) (d : Desc) : (State.readReset s d).keep = s.keep := by
  unfold State.readReset
  try dsimp only
  repeat' first
    | with_reducible rfl
    | (intro _)
    | (with_reducible refine Eq.trans (State.modPair_keep _ _) ?_)
    | (with_reducible refine Eq.trans (State.modCourse_keep _ _) ?_)
    | (with_reducible refine Eq.trans (State.modSerial_keep _ _) ?_)
    | (with_reducible refine Eq.trans (State.modPlumb_keep _ _ _) ?_)
    | (with_reducible refine Eq.trans (foldl_keep _ ?_ _ _) ?_)
    | (with_reducible refine Eq.trans (foldl_keep1 _ ?_ _ _) ?_)
    | split
    | (simp only [keep_mk])
    | (dsimp only)
theorem execFeatureGet_keep (dt : Nat) (n : Word32) (s : State) {t : State} (h : execFeatureGet dt n s = .next t) : t.keep = (s.elapse dt).keep := by
  simp only [execFeatureGet] at h
  first
    | (injection h with h; subst h)
    | (split at h; exact absurd h (by simp); injection h with h; subst h)
  repeat' first
    | with_reducible rfl
    | (intro _)
    | (with_reducible refine Eq.trans (State.emit_keep _ _) ?_)
    | (with_reducible refine Eq.trans (State.complete_keep _ _ _ _ _ _ _) ?_)
    | (with_reducible refine Eq.trans (State.finish_keep _ _ _ _ _) ?_)
    | (with_reducible refine Eq.trans (State.adm_keep _ _ _ _ _ _ ?_) ?_)
    | (with_reducible refine Eq.trans (State.readReset_keep _ _) ?_)
    | (with_reducible refine Eq.trans (foldl_keep _ ?_ _ _) ?_)
    | (with_reducible refine Eq.trans (foldl_keep1 _ ?_ _ _) ?_)
    | split
    | (simp only [keep_mk])
    | (dsimp only)
theorem State.lplus_keep (s : State) (q : QuadId) (p : LClass → Bool) (measured : Bool) (f : State → State) (hf : ∀ u, (f u).keep = u.keep) : (State.lplus s q p measured f).keep = s.keep := by
  unfold State.lplus
  try dsimp only
  repeat' first
    | with_reducible rfl
    | (intro _)
    | (with_reducible refine Eq.trans (hf _) ?_)
    | (with_reducible refine Eq.trans (State.when_keep _ _ _ ?_) ?_)
    | (with_reducible refine Eq.trans (foldl_keep _ ?_ _ _) ?_)
    | (with_reducible refine Eq.trans (foldl_keep1 _ ?_ _ _) ?_)
    | split
    | (simp only [keep_mk])
    | (dsimp only)
theorem execOpenLoadResume_keep (dt : Nat) (q : QuadId) (s : State) {t : State} (h : execOpenLoadResume dt q s = .next t) : t.keep = (s.elapse dt).keep := by
  simp only [execOpenLoadResume] at h
  first
    | (injection h with h; subst h)
    | (split at h; exact absurd h (by simp); injection h with h; subst h)
  repeat' first
    | with_reducible rfl
    | (intro _)
    | (with_reducible refine Eq.trans (State.when_keep _ _ _ ?_) ?_)
    | (with_reducible refine Eq.trans (State.modQuad_keep _ _ _) ?_)
    | (with_reducible refine Eq.trans (foldl_keep _ ?_ _ _) ?_)
    | (with_reducible refine Eq.trans (foldl_keep1 _ ?_ _ _) ?_)
    | split
    | (simp only [keep_mk])
    | (dsimp only)
theorem State.setDone_keep (s : State) (n : Word32) : (State.setDone s n).keep = s.keep := by
  unfold State.setDone
  try dsimp only
  repeat' first
    | with_reducible rfl
    | (intro _)
    | (with_reducible refine Eq.trans (State.finish_keep _ _ _ _ _) ?_)
    | (with_reducible refine Eq.trans (foldl_keep _ ?_ _ _) ?_)
    | (with_reducible refine Eq.trans (foldl_keep1 _ ?_ _ _) ?_)
    | split
    | (simp only [keep_mk])
    | (dsimp only)
theorem execSetPowerTarget_keep (dt : Nat) (n : Word32) (s : State) {t : State} (h : execSetPowerTarget dt n s = .next t) : t.keep = (s.elapse dt).keep := by
  simp only [execSetPowerTarget] at h
  first
    | (injection h with h; subst h)
    | (split at h; exact absurd h (by simp); injection h with h; subst h)
  repeat' first
    | with_reducible rfl
    | (intro _)
    | (with_reducible refine Eq.trans (State.finish_keep _ _ _ _ _) ?_)
    | (with_reducible refine Eq.trans (State.fset_keep _ _ _ _ _ _ ?_) ?_)
    | (with_reducible refine Eq.trans (State.setDone_keep _ _) ?_)
    | (with_reducible refine Eq.trans (foldl_keep _ ?_ _ _) ?_)
    | (with_reducible refine Eq.trans (foldl_keep1 _ ?_ _ _) ?_)
    | split
    | (simp only [keep_mk])
    | (dsimp only)
theorem State.modAng_keep (s : State) (f : Ang → Ang) : (State.modAng s f).keep = s.keep := by
  unfold State.modAng
  try dsimp only
  repeat' first
    | with_reducible rfl
    | (intro _)
    | (with_reducible refine Eq.trans (foldl_keep _ ?_ _ _) ?_)
    | (with_reducible refine Eq.trans (foldl_keep1 _ ?_ _ _) ?_)
    | split
    | (simp only [keep_mk])
    | (dsimp only)
theorem State.gotoState_keep (s : State) (st : EState) : (State.gotoState s st).keep = s.keep := by
  unfold State.gotoState
  try dsimp only
  repeat' first
    | with_reducible rfl
    | (intro _)
    | (with_reducible refine Eq.trans (State.modAng_keep _ _) ?_)
    | (with_reducible refine Eq.trans (foldl_keep _ ?_ _ _) ?_)
    | (with_reducible refine Eq.trans (foldl_keep1 _ ?_ _ _) ?_)
    | split
    | (simp only [keep_mk])
    | (dsimp only)
theorem State.becomeRunning_keep (s : State) (source : Nat) : (State.becomeRunning s source).keep = s.keep := by
  unfold State.becomeRunning
  try dsimp only
  repeat' first
    | with_reducible rfl
    | (intro _)
    | (with_reducible refine Eq.trans (State.restartFronts_keep _ _) ?_)
    | (with_reducible refine Eq.trans (State.mark_keep _ _ _ _ _ _) ?_)
    | (with_reducible refine Eq.trans (State.retrigger_keep _ _ ?_) ?_)
    | (with_reducible refine Eq.trans (State.gotoState_keep _ _) ?_)
    | (with_reducible refine Eq.trans (foldl_keep _ ?_ _ _) ?_)
    | (with_reducible refine Eq.trans (foldl_keep1 _ ?_ _ _) ?_)
    | split
    | (simp only [keep_mk])
    | (dsimp only)
theorem State.revolve_keep (s : State) : (State.revolve s).keep = s.keep := by
  unfold State.revolve
  try dsimp only
  repeat' first
    | with_reducible rfl
    | (intro _)
    | (with_reducible refine Eq.trans (State.modArch_keep _ _) ?_)
    | (with_reducible refine Eq.trans (State.freezeNow_keep _) ?_)
    | (with_reducible refine Eq.trans (State.archDone_keep _) ?_)
    | (with_reducible refine Eq.trans (State.modAng_keep _ _) ?_)
    | (with_reducible refine Eq.trans (foldl_keep _ ?_ _ _) ?_)
    | (with_reducible refine Eq.trans (foldl_keep1 _ ?_ _ _) ?_)
    | split
    | (simp only [keep_mk])
    | (dsimp only)
theorem State.sweep_keep (s : State) (lam : Nat → Rat) : (State.sweep s lam).keep = s.keep := by
  unfold State.sweep
  try dsimp only
  repeat' first
    | with_reducible rfl
    | (intro _)
    | (with_reducible refine Eq.trans (State.modCourse_keep _ _) ?_)
    | (with_reducible refine Eq.trans (foldl_keep _ ?_ _ _) ?_)
    | (with_reducible refine Eq.trans (foldl_keep1 _ ?_ _ _) ?_)
    | split
    | (simp only [keep_mk])
    | (dsimp only)
theorem State.capNow_keep (s : State) : (State.capNow s).keep = s.keep := by
  unfold State.capNow
  try dsimp only
  repeat' first
    | with_reducible rfl
    | (intro _)
    | (with_reducible refine Eq.trans (State.modAng_keep _ _) ?_)
    | (with_reducible refine Eq.trans (State.sweep_keep _ _) ?_)
    | (with_reducible refine Eq.trans (foldl_keep _ ?_ _ _) ?_)
    | (with_reducible refine Eq.trans (foldl_keep1 _ ?_ _ _) ?_)
    | split
    | (simp only [keep_mk])
    | (dsimp only)
theorem State.direction_keep (s : State) : (State.direction s).keep = s.keep := by
  unfold State.direction
  try dsimp only
  repeat' first
    | with_reducible rfl
    | (intro _)
    | (with_reducible refine Eq.trans (State.turned_keep _ _) ?_)
    | (with_reducible refine Eq.trans (State.modAng_keep _ _) ?_)
    | (with_reducible refine Eq.trans (foldl_keep _ ?_ _ _) ?_)
    | (with_reducible refine Eq.trans (foldl_keep1 _ ?_ _ _) ?_)
    | split
    | (simp only [keep_mk])
    | (dsimp only)
theorem State.clampFront_keep (s : State) (f : Front) : (State.clampFront s f).keep = s.keep := by
  unfold State.clampFront
  try dsimp only
  repeat' first
    | with_reducible rfl
    | (intro _)
    | (with_reducible refine Eq.trans (State.modCourse_keep _ _) ?_)
    | (with_reducible refine Eq.trans (State.mark_keep _ _ _ _ _ _) ?_)
    | (with_reducible refine Eq.trans (foldl_keep _ ?_ _ _) ?_)
    | (with_reducible refine Eq.trans (foldl_keep1 _ ?_ _ _) ?_)
    | split
    | (simp only [keep_mk])
    | (dsimp only)
theorem State.angleTick_keep (s : State) : (State.angleTick s).keep = s.keep := by
  unfold State.angleTick
  try dsimp only
  repeat' first
    | with_reducible rfl
    | (intro _)
    | (with_reducible refine Eq.trans (State.revolve_keep _) ?_)
    | (with_reducible refine Eq.trans (State.sweep_keep _ _) ?_)
    | (with_reducible refine Eq.trans (State.capNow_keep _) ?_)
    | (with_reducible refine Eq.trans (State.direction_keep _) ?_)
    | (with_reducible refine Eq.trans (State.clampFront_keep _ _) ?_)
    | (with_reducible refine Eq.trans (foldl_keep _ ?_ _ _) ?_)
    | (with_reducible refine Eq.trans (foldl_keep1 _ ?_ _ _) ?_)
    | split
    | (simp only [keep_mk])
    | (dsimp only)
theorem State.reference_keep (s : State) (source : Nat) : (State.reference s source).keep = s.keep := by
  unfold State.reference
  try dsimp only
  repeat' first
    | with_reducible rfl
    | (intro _)
    | (with_reducible refine Eq.trans (State.modAng_keep _ _) ?_)
    | (with_reducible refine Eq.trans (State.becomeRunning_keep _ _) ?_)
    | (with_reducible refine Eq.trans (State.angleTick_keep _) ?_)
    | (with_reducible refine Eq.trans (foldl_keep _ ?_ _ _) ?_)
    | (with_reducible refine Eq.trans (foldl_keep1 _ ?_ _ _) ?_)
    | split
    | (simp only [keep_mk])
    | (dsimp only)
theorem execBusMasterEnable_keep (dt : Nat) (on : Bool) (memSpace : Bool) (msixOn : Bool) (s : State) {t : State} (h : execBusMasterEnable dt on memSpace msixOn s = .next t) : t.keep = (s.elapse dt).keep := by
  simp only [execBusMasterEnable] at h
  first
    | (injection h with h; subst h)
    | (split at h; exact absurd h (by simp); injection h with h; subst h)
  repeat' first
    | with_reducible rfl
    | (intro _)
    | (with_reducible refine Eq.trans (State.modHost_keep _ _) ?_)
    | (with_reducible refine Eq.trans (State.when_keep _ _ _ ?_) ?_)
    | (with_reducible refine Eq.trans (foldl_keep _ ?_ _ _) ?_)
    | (with_reducible refine Eq.trans (foldl_keep1 _ ?_ _ _) ?_)
    | split
    | (simp only [keep_mk])
    | (dsimp only)
theorem execCurrentLimit_keep (dt : Nat) (r : Sensed ChanId Nat) (s : State) {t : State} (h : execCurrentLimit dt r s = .next t) : t.keep = (s.elapse dt).keep := by
  simp only [execCurrentLimit] at h
  first
    | (injection h with h; subst h)
    | (split at h; exact absurd h (by simp); injection h with h; subst h)
  repeat' first
    | with_reducible rfl
    | (intro _)
    | (with_reducible refine Eq.trans (State.modChan_keep _ _ _) ?_)
    | (with_reducible refine Eq.trans (State.when_keep _ _ _ ?_) ?_)
    | (with_reducible refine Eq.trans (foldl_keep _ ?_ _ _) ?_)
    | (with_reducible refine Eq.trans (foldl_keep1 _ ?_ _ _) ?_)
    | split
    | (simp only [keep_mk])
    | (dsimp only)
theorem State.chainReset_keep (s : State) (k : ChainId) (tick : Nat) (reconf : Bool) : (State.chainReset s k tick reconf).keep = s.keep := by
  unfold State.chainReset
  try dsimp only
  repeat' first
    | with_reducible rfl
    | (intro _)
    | (with_reducible refine Eq.trans (State.modChain_keep _ _ _) ?_)
    | (with_reducible refine Eq.trans (State.closeBatch_keep _ _ _) ?_)
    | (with_reducible refine Eq.trans (State.synced_keep _ _ _ _ _) ?_)
    | (with_reducible refine Eq.trans (foldl_keep _ ?_ _ _) ?_)
    | (with_reducible refine Eq.trans (foldl_keep1 _ ?_ _ _) ?_)
    | split
    | (simp only [keep_mk])
    | (dsimp only)
theorem State.overtake_keep (s : State) (target : Nat) (obj : Nat) : (State.overtake s target obj).keep = s.keep := by
  unfold State.overtake
  try dsimp only
  repeat' first
    | with_reducible rfl
    | (intro _)
    | (with_reducible refine Eq.trans (foldl_keep _ ?_ _ _) ?_)
    | (with_reducible refine Eq.trans (foldl_keep1 _ ?_ _ _) ?_)
    | split
    | (simp only [keep_mk])
    | (dsimp only)
theorem State.copyDelta_keep (s : State) (base : Nat) (bytes : List Byte) : (State.copyDelta s base bytes).keep = s.keep := by
  unfold State.copyDelta
  try dsimp only
  repeat' first
    | with_reducible rfl
    | (intro _)
    | (with_reducible refine Eq.trans (State.modPair_keep _ _) ?_)
    | (with_reducible refine Eq.trans (foldl_keep _ ?_ _ _) ?_)
    | (with_reducible refine Eq.trans (foldl_keep1 _ ?_ _ _) ?_)
    | split
    | (simp only [keep_mk])
    | (dsimp only)
theorem State.checkStaged_keep (s : State) (q : QueueId) (n : Word32) (d : Desc) {t : State} (h : s.checkStaged q n d = .ok t) : t.keep = s.keep := by
  unfold State.checkStaged at h
  revert h
  repeat' split
  all_goals first | (intro h; cases h; done) | (intro h; injection h with h; subst h; first | rfl | exact State.modQueue_keep _ _ _)
theorem execDescriptorStaged_keep (dt : Nat) (q : QueueId) (n : Word32) (d : Desc) (ue : Bool) (s : State) {t : State} (h : execDescriptorStaged dt q n d ue s = .next t) : t.keep = (s.elapse dt).keep := by
  simp only [execDescriptorStaged] at h
  injection h with h; subst h
  refine Eq.trans (State.when_keep _ _ _ ?_) rfl
  split
  · exact Eq.trans (State.finish_keep _ _ _ _ _) (Eq.trans (State.vaultUe_keep _ _) (State.modQueue_keep _ _ _))
  · split
    · exact Eq.trans (State.finish_keep _ _ _ _ _) (State.modQueue_keep _ _ _)
    · next heq =>
      have hk := Eq.trans (State.checkStaged_keep _ _ _ _ heq) (State.modQueue_keep _ _ _)
      split
      · exact Eq.trans (State.finish_keep _ _ _ _ _) hk
      · split
        · exact Eq.trans (State.finish_keep _ _ _ _ _) hk
        · exact hk
theorem execQueueResume_keep (dt : Nat) (n : Word32) (s : State) {t : State} (h : execQueueResume dt n s = .next t) : t.keep = (s.elapse dt).keep := by
  simp only [execQueueResume] at h
  first
    | (injection h with h; subst h)
    | (split at h; exact absurd h (by simp); injection h with h; subst h)
  repeat' first
    | with_reducible rfl
    | (intro _)
    | (with_reducible refine Eq.trans (State.modQueue_keep _ _ _) ?_)
    | (with_reducible refine Eq.trans (State.finish_keep _ _ _ _ _) ?_)
    | (with_reducible refine Eq.trans (State.adm_keep _ _ _ _ _ _ ?_) ?_)
    | (with_reducible refine Eq.trans (foldl_keep _ ?_ _ _) ?_)
    | (with_reducible refine Eq.trans (foldl_keep1 _ ?_ _ _) ?_)
    | split
    | (simp only [keep_mk])
    | (dsimp only)
theorem State.clearFault_keep (s : State) (c : ChanId) : (State.clearFault s c).keep = s.keep := by
  unfold State.clearFault
  try dsimp only
  repeat' first
    | with_reducible rfl
    | (intro _)
    | (with_reducible refine Eq.trans (State.modChan_keep _ _ _) ?_)
    | (with_reducible refine Eq.trans (State.clearDiag_keep _ _ _) ?_)
    | (with_reducible refine Eq.trans (foldl_keep _ ?_ _ _) ?_)
    | (with_reducible refine Eq.trans (foldl_keep1 _ ?_ _ _) ?_)
    | split
    | (simp only [keep_mk])
    | (dsimp only)
theorem State.safeAgain_keep (s : State) (l : ChanId) : (State.safeAgain s l).keep = s.keep := by
  unfold State.safeAgain
  try dsimp only
  repeat' first
    | with_reducible rfl
    | (intro _)
    | (with_reducible refine Eq.trans (State.modChan_keep _ _ _) ?_)
    | (with_reducible refine Eq.trans (foldl_keep _ ?_ _ _) ?_)
    | (with_reducible refine Eq.trans (foldl_keep1 _ ?_ _ _) ?_)
    | split
    | (simp only [keep_mk])
    | (dsimp only)
theorem State.comeBack_keep (s : State) (l : ChanId) (supply : Bool) : (State.comeBack s l supply).keep = s.keep := by
  unfold State.comeBack
  try dsimp only
  repeat' first
    | with_reducible rfl
    | (intro _)
    | (with_reducible refine Eq.trans (State.request_keep _ _ _ _) ?_)
    | (with_reducible refine Eq.trans (State.safeAgain_keep _ _) ?_)
    | (with_reducible refine Eq.trans (foldl_keep _ ?_ _ _) ?_)
    | (with_reducible refine Eq.trans (foldl_keep1 _ ?_ _ _) ?_)
    | split
    | (simp only [keep_mk])
    | (dsimp only)
theorem State.supplyReturn_keep (s : State) (q : QuadId) : (State.supplyReturn s q).keep = s.keep := by
  unfold State.supplyReturn
  try dsimp only
  repeat' first
    | with_reducible rfl
    | (intro _)
    | (with_reducible refine Eq.trans (State.comeBack_keep _ _ _) ?_)
    | (with_reducible refine Eq.trans (foldl_keep _ ?_ _ _) ?_)
    | (with_reducible refine Eq.trans (foldl_keep1 _ ?_ _ _) ?_)
    | split
    | (simp only [keep_mk])
    | (dsimp only)
theorem State.clearSupply_keep (s : State) (q : QuadId) : (State.clearSupply s q).keep = s.keep := by
  unfold State.clearSupply
  try dsimp only
  repeat' first
    | with_reducible rfl
    | (intro _)
    | (with_reducible refine Eq.trans (State.modQuad_keep _ _ _) ?_)
    | (with_reducible refine Eq.trans (State.supplyReturn_keep _ _) ?_)
    | (with_reducible refine Eq.trans (foldl_keep _ ?_ _ _) ?_)
    | (with_reducible refine Eq.trans (foldl_keep1 _ ?_ _ _) ?_)
    | split
    | (simp only [keep_mk])
    | (dsimp only)
theorem State.clearAngle_keep (s : State) : (State.clearAngle s).keep = s.keep := by
  unfold State.clearAngle
  try dsimp only
  repeat' first
    | with_reducible rfl
    | (intro _)
    | (with_reducible refine Eq.trans (State.modAng_keep _ _) ?_)
    | (with_reducible refine Eq.trans (State.gotoState_keep _ _) ?_)
    | (with_reducible refine Eq.trans (State.becomeRunning_keep _ _) ?_)
    | (with_reducible refine Eq.trans (foldl_keep _ ?_ _ _) ?_)
    | (with_reducible refine Eq.trans (foldl_keep1 _ ?_ _ _) ?_)
    | split
    | (simp only [keep_mk])
    | (dsimp only)
theorem execFaultClear_keep (dt : Nat) (q : QueueId) (n : Word32) (s : State) {t : State} (h : execFaultClear dt q n s = .next t) : t.keep = (s.elapse dt).keep := by
  simp only [execFaultClear] at h
  first
    | (injection h with h; subst h)
    | (split at h; exact absurd h (by simp); injection h with h; subst h)
  repeat' first
    | with_reducible rfl
    | (intro _)
    | (with_reducible refine Eq.trans (State.configDone_keep _ _ _ _ _ _ _ _) ?_)
    | (with_reducible refine Eq.trans (State.finish_keep _ _ _ _ _) ?_)
    | (with_reducible refine Eq.trans (State.io_keep _ _ _ _ _ _ _ ?_) ?_)
    | (with_reducible refine Eq.trans (State.clearFault_keep _ _) ?_)
    | (with_reducible refine Eq.trans (State.clearSupply_keep _ _) ?_)
    | (with_reducible refine Eq.trans (State.clearAngle_keep _) ?_)
    | (with_reducible refine Eq.trans (foldl_keep _ ?_ _ _) ?_)
    | (with_reducible refine Eq.trans (foldl_keep1 _ ?_ _ _) ?_)
    | split
    | (simp only [keep_mk])
    | (dsimp only)
theorem execCourseRefill_keep (dt : Nat) (b : CBankId) (lead : Nat) (bad : Option Nat) (s : State) {t : State} (h : execCourseRefill dt b lead bad s = .next t) : t.keep = (s.elapse dt).keep := by
  simp only [execCourseRefill] at h
  first
    | (injection h with h; subst h)
    | (split at h; exact absurd h (by simp); injection h with h; subst h)
  repeat' first
    | with_reducible rfl
    | (intro _)
    | (with_reducible refine Eq.trans (State.modCourse_keep _ _) ?_)
    | (with_reducible refine Eq.trans (State.when_keep _ _ _ ?_) ?_)
    | (with_reducible refine Eq.trans (State.vaultUe_keep _ _) ?_)
    | (with_reducible refine Eq.trans (foldl_keep _ ?_ _ _) ?_)
    | (with_reducible refine Eq.trans (foldl_keep1 _ ?_ _ _) ?_)
    | split
    | (simp only [keep_mk])
    | (dsimp only)
theorem execAccSnapshot_keep (dt : Nat) (q : QueueId) (n : Word32) (s : State) {t : State} (h : execAccSnapshot dt q n s = .next t) : t.keep = (s.elapse dt).keep := by
  simp only [execAccSnapshot] at h
  first
    | (injection h with h; subst h)
    | (split at h; exact absurd h (by simp); injection h with h; subst h)
  repeat' first
    | with_reducible rfl
    | (intro _)
    | (with_reducible refine keep_pair (by assumption) (Eq.trans (State.stage_keep _ _ _) ?_))
    | (with_reducible refine Eq.trans (State.stage_keep _ _ _) ?_)
    | (with_reducible refine Eq.trans (State.complete_keep _ _ _ _ _ _ _) ?_)
    | (with_reducible refine Eq.trans (State.modAcc_keep _ _ _ _) ?_)
    | (with_reducible refine Eq.trans (State.finish_keep _ _ _ _ _) ?_)
    | (with_reducible refine Eq.trans (State.io_keep _ _ _ _ _ _ _ ?_) ?_)
    | (with_reducible refine Eq.trans (foldl_keep _ ?_ _ _) ?_)
    | (with_reducible refine Eq.trans (foldl_keep1 _ ?_ _ _) ?_)
    | split
    | (simp only [keep_mk])
    | (dsimp only)
theorem execHiHostwdWrite_keep (dt : Nat) (v : Word32) (s : State) {t : State} (h : execHiHostwdWrite dt v s = .next t) : t.keep = (s.elapse dt).keep := by
  simp only [execHiHostwdWrite] at h
  first
    | (injection h with h; subst h)
    | (split at h; exact absurd h (by simp); injection h with h; subst h)
  repeat' first
    | with_reducible rfl
    | (intro _)
    | (with_reducible refine Eq.trans (State.barWrite_keep _ _ _ ?_) ?_)
    | (with_reducible refine Eq.trans (State.hostwdWrite_keep _ _) ?_)
    | (with_reducible refine Eq.trans (foldl_keep _ ?_ _ _) ?_)
    | (with_reducible refine Eq.trans (foldl_keep1 _ ?_ _ _) ?_)
    | split
    | (simp only [keep_mk])
    | (dsimp only)
theorem execCheckpointCapture_keep (dt : Nat) (s : State) {t : State} (h : execCheckpointCapture dt s = .next t) : t.keep = (s.elapse dt).keep := by
  simp only [execCheckpointCapture] at h
  first
    | (injection h with h; subst h)
    | (split at h; exact absurd h (by simp); injection h with h; subst h)
  repeat' first
    | with_reducible rfl
    | (intro _)
    | (with_reducible refine Eq.trans (State.when_keep _ _ _ ?_) ?_)
    | (with_reducible refine Eq.trans (State.capture_keep _ _) ?_)
    | (with_reducible refine Eq.trans (foldl_keep _ ?_ _ _) ?_)
    | (with_reducible refine Eq.trans (foldl_keep1 _ ?_ _ _) ?_)
    | split
    | (simp only [keep_mk])
    | (dsimp only)
theorem execHbInEdge_keep (dt : Nat) (s : State) {t : State} (h : execHbInEdge dt s = .next t) : t.keep = (s.elapse dt).keep := by
  simp only [execHbInEdge] at h
  first
    | (injection h with h; subst h)
    | (split at h; exact absurd h (by simp); injection h with h; subst h)
  repeat' first
    | with_reducible rfl
    | (intro _)
    | (with_reducible refine Eq.trans (State.modPair_keep _ _) ?_)
    | (with_reducible refine Eq.trans (State.when_keep _ _ _ ?_) ?_)
    | (with_reducible refine Eq.trans (State.degrade_keep _) ?_)
    | (with_reducible refine Eq.trans (foldl_keep _ ?_ _ _) ?_)
    | (with_reducible refine Eq.trans (foldl_keep1 _ ?_ _ _) ?_)
    | split
    | (simp only [keep_mk])
    | (dsimp only)
theorem State.stopFiring_keep (s : State) (st : EState) : (State.stopFiring s st).keep = s.keep := by
  unfold State.stopFiring
  try dsimp only
  repeat' first
    | with_reducible rfl
    | (intro _)
    | (with_reducible refine Eq.trans (State.modCourse_keep _ _) ?_)
    | (with_reducible refine Eq.trans (State.freezeNow_keep _) ?_)
    | (with_reducible refine Eq.trans (State.swapNow_keep _ _ _) ?_)
    | (with_reducible refine Eq.trans (State.archDone_keep _) ?_)
    | (with_reducible refine Eq.trans (State.modAng_keep _ _) ?_)
    | (with_reducible refine Eq.trans (State.gotoState_keep _ _) ?_)
    | (with_reducible refine Eq.trans (foldl_keep _ ?_ _ _) ?_)
    | (with_reducible refine Eq.trans (foldl_keep1 _ ?_ _ _) ?_)
    | split
    | (simp only [keep_mk])
    | (dsimp only)
theorem State.enterSafe_keep (s : State) : (State.enterSafe s).keep = s.keep := by
  unfold State.enterSafe
  try dsimp only
  repeat' first
    | with_reducible rfl
    | (intro _)
    | (with_reducible refine Eq.trans (State.retrigger_keep _ _ ?_) ?_)
    | (with_reducible refine Eq.trans (State.stopFiring_keep _ _) ?_)
    | (with_reducible refine Eq.trans (foldl_keep _ ?_ _ _) ?_)
    | (with_reducible refine Eq.trans (foldl_keep1 _ ?_ _ _) ?_)
    | split
    | (simp only [keep_mk])
    | (dsimp only)
theorem State.withdrawSoft_keep (s : State) : (State.withdrawSoft s).keep = s.keep := by
  unfold State.withdrawSoft
  try dsimp only
  repeat' first
    | with_reducible rfl
    | (intro _)
    | (with_reducible refine Eq.trans (State.settleReq_keep _ _ _) ?_)
    | (with_reducible refine Eq.trans (State.dropChange_keep _ _) ?_)
    | (with_reducible refine Eq.trans (foldl_keep _ ?_ _ _) ?_)
    | (with_reducible refine Eq.trans (foldl_keep1 _ ?_ _ _) ?_)
    | split
    | (simp only [keep_mk])
    | (dsimp only)
theorem State.encFault_keep (s : State) (k : EncFault) : (State.encFault s k).keep = s.keep := by
  unfold State.encFault
  try dsimp only
  repeat' first
    | with_reducible rfl
    | (intro _)
    | (with_reducible refine Eq.trans (State.modCourse_keep _ _) ?_)
    | (with_reducible refine Eq.trans (State.restartFronts_keep _ _) ?_)
    | (with_reducible refine Eq.trans (State.raiseCause_keep _ _) ?_)
    | (with_reducible refine Eq.trans (State.mark_keep _ _ _ _ _ _) ?_)
    | (with_reducible refine Eq.trans (State.modAng_keep _ _) ?_)
    | (with_reducible refine Eq.trans (State.gotoState_keep _ _) ?_)
    | (with_reducible refine Eq.trans (State.stopFiring_keep _ _) ?_)
    | (with_reducible refine Eq.trans (State.enterSafe_keep _) ?_)
    | (with_reducible refine Eq.trans (State.withdrawSoft_keep _) ?_)
    | (with_reducible refine Eq.trans (foldl_keep _ ?_ _ _) ?_)
    | (with_reducible refine Eq.trans (foldl_keep1 _ ?_ _ _) ?_)
    | split
    | (simp only [keep_mk])
    | (dsimp only)
theorem execEncStall_keep (dt : Nat) (s : State) {t : State} (h : execEncStall dt s = .next t) : t.keep = (s.elapse dt).keep := by
  simp only [execEncStall] at h
  first
    | (injection h with h; subst h)
    | (split at h; exact absurd h (by simp); injection h with h; subst h)
  repeat' first
    | with_reducible rfl
    | (intro _)
    | (with_reducible refine Eq.trans (State.when_keep _ _ _ ?_) ?_)
    | (with_reducible refine Eq.trans (State.angleTick_keep _) ?_)
    | (with_reducible refine Eq.trans (State.encFault_keep _ _) ?_)
    | (with_reducible refine Eq.trans (foldl_keep _ ?_ _ _) ?_)
    | (with_reducible refine Eq.trans (foldl_keep1 _ ?_ _ _) ?_)
    | split
    | (simp only [keep_mk])
    | (dsimp only)
theorem State.retireFull_keep (s : State) : (State.retireFull s).keep = s.keep := by
  unfold State.retireFull
  try dsimp only
  repeat' first
    | with_reducible rfl
    | (intro _)
    | (with_reducible refine Eq.trans (State.retire_keep _ _ _ _) ?_)
    | (with_reducible refine Eq.trans (foldl_keep _ ?_ _ _) ?_)
    | (with_reducible refine Eq.trans (foldl_keep1 _ ?_ _ _) ?_)
    | split
    | (simp only [keep_mk])
    | (dsimp only)
theorem execRecordFlushTimeout_keep (dt : Nat) (q : QueueId) (s : State) {t : State} (h : execRecordFlushTimeout dt q s = .next t) : t.keep = (s.elapse dt).keep := by
  simp only [execRecordFlushTimeout] at h
  first
    | (injection h with h; subst h)
    | (split at h; exact absurd h (by simp); injection h with h; subst h)
  repeat' first
    | with_reducible rfl
    | (intro _)
    | (with_reducible refine Eq.trans (State.when_keep _ _ _ ?_) ?_)
    | (with_reducible refine Eq.trans (State.retire_keep _ _ _ _) ?_)
    | (with_reducible refine Eq.trans (foldl_keep _ ?_ _ _) ?_)
    | (with_reducible refine Eq.trans (foldl_keep1 _ ?_ _ _) ?_)
    | split
    | (simp only [keep_mk])
    | (dsimp only)
theorem State.hostReset_keep (s : State) (perst : Bool) (flr : Bool) : (State.hostReset s perst flr).keep = s.keep := by
  unfold State.hostReset
  try dsimp only
  repeat' first
    | with_reducible rfl
    | (intro _)
    | (with_reducible refine Eq.trans (orphan_keep _) ?_)
    | (with_reducible refine Eq.trans (foldl_keep _ ?_ _ _) ?_)
    | (with_reducible refine Eq.trans (foldl_keep1 _ ?_ _ _) ?_)
    | split
    | (simp only [keep_mk])
    | (dsimp only)
theorem State.disarmSent_keep (s : State) (q : QuadId) (o : Op) (todo : BitVec 4) (done : BitVec 4) : (State.disarmSent s q o todo done).keep = s.keep := by
  unfold State.disarmSent
  try dsimp only
  repeat' first
    | with_reducible rfl
    | (intro _)
    | (with_reducible refine Eq.trans (State.replaceOp_keep _ _ _) ?_)
    | (with_reducible refine Eq.trans (State.configOp_keep _ _ _ _ _ _) ?_)
    | (with_reducible refine Eq.trans (foldl_keep _ ?_ _ _) ?_)
    | (with_reducible refine Eq.trans (foldl_keep1 _ ?_ _ _) ?_)
    | split
    | (simp only [keep_mk])
    | (dsimp only)
theorem State.seqAccept_keep (s : State) (q : QueueId) (n : Word32) (k : QuadId) (slots : List (SlotId × Word64 × Word64)) (qw : Word64) : (State.seqAccept s q n k slots qw).keep = s.keep := by
  unfold State.seqAccept
  try dsimp only
  repeat' first
    | with_reducible rfl
    | (intro _)
    | (with_reducible refine Eq.trans (State.addOp_keep _ _ _ _) ?_)
    | (with_reducible refine Eq.trans (State.modMeas_keep _ _ _) ?_)
    | (with_reducible refine Eq.trans (foldl_keep _ ?_ _ _) ?_)
    | (with_reducible refine Eq.trans (foldl_keep1 _ ?_ _ _) ?_)
    | split
    | (simp only [keep_mk])
    | (dsimp only)
theorem State.dropUnit_keep (s : State) (c : ChanId) : (State.dropUnit s c).keep = s.keep := by
  unfold State.dropUnit
  try dsimp only
  repeat' first
    | with_reducible rfl
    | (intro _)
    | (with_reducible refine Eq.trans (State.modChan_keep _ _ _) ?_)
    | (with_reducible refine Eq.trans (State.setDrv_keep _ _ _ _) ?_)
    | (with_reducible refine Eq.trans (foldl_keep _ ?_ _ _) ?_)
    | (with_reducible refine Eq.trans (foldl_keep1 _ ?_ _ _) ?_)
    | split
    | (simp only [keep_mk])
    | (dsimp only)
theorem State.offUnit_keep (s : State) (c : ChanId) (cause : OffCause) (cool : Bool) (mark : Bool) : (State.offUnit s c cause cool mark).keep = s.keep := by
  unfold State.offUnit
  try dsimp only
  repeat' first
    | with_reducible rfl
    | (intro _)
    | (with_reducible refine Eq.trans (State.modChan_keep _ _ _) ?_)
    | (with_reducible refine Eq.trans (State.dropUnit_keep _ _) ?_)
    | (with_reducible refine Eq.trans (foldl_keep _ ?_ _ _) ?_)
    | (with_reducible refine Eq.trans (foldl_keep1 _ ?_ _ _) ?_)
    | split
    | (simp only [keep_mk])
    | (dsimp only)
theorem State.stageField_keep (s : State) : (State.stageField s).keep = s.keep := by
  unfold State.stageField
  try dsimp only
  repeat' first
    | with_reducible rfl
    | (intro _)
    | (with_reducible refine Eq.trans (foldl_keep _ ?_ _ _) ?_)
    | (with_reducible refine Eq.trans (foldl_keep1 _ ?_ _ _) ?_)
    | split
    | (simp only [keep_mk])
    | (dsimp only)
theorem execRecordBuffer_keep (dt : Nat) (q : QueueId) (n : Word32) (s : State) {t : State} (h : execRecordBuffer dt q n s = .next t) : t.keep = (s.elapse dt).keep := by
  simp only [execRecordBuffer] at h
  first
    | (injection h with h; subst h)
    | (split at h; exact absurd h (by simp); injection h with h; subst h)
  repeat' first
    | with_reducible rfl
    | (intro _)
    | (with_reducible refine Eq.trans (State.modQueue_keep _ _ _) ?_)
    | (with_reducible refine Eq.trans (State.io_keep _ _ _ _ _ _ _ ?_) ?_)
    | (with_reducible refine Eq.trans (State.stageField_keep _) ?_)
    | (with_reducible refine Eq.trans (foldl_keep _ ?_ _ _) ?_)
    | (with_reducible refine Eq.trans (foldl_keep1 _ ?_ _ _) ?_)
    | split
    | (simp only [keep_mk])
    | (dsimp only)
theorem State.logged_keep (s : State) (q : QueueId) (f : Word32) : (State.logged s q f).keep = s.keep := by
  unfold State.logged
  try dsimp only
  repeat' first
    | with_reducible rfl
    | (intro _)
    | (with_reducible refine Eq.trans (State.modQueue_keep _ _ _) ?_)
    | (with_reducible refine Eq.trans (foldl_keep _ ?_ _ _) ?_)
    | (with_reducible refine Eq.trans (foldl_keep1 _ ?_ _ _) ?_)
    | split
    | (simp only [keep_mk])
    | (dsimp only)
theorem State.newThermal_keep (s : State) (q : QuadId) : (State.newThermal s q).keep = s.keep := by
  unfold State.newThermal
  try dsimp only
  repeat' first
    | with_reducible rfl
    | (intro _)
    | (with_reducible refine Eq.trans (State.modChan_keep _ _ _) ?_)
    | (with_reducible refine Eq.trans (State.useFresh_keep _) ?_)
    | (with_reducible refine Eq.trans (State.modQuad_keep _ _ _) ?_)
    | (with_reducible refine Eq.trans (foldl_keep _ ?_ _ _) ?_)
    | (with_reducible refine Eq.trans (foldl_keep1 _ ?_ _ _) ?_)
    | split
    | (simp only [keep_mk])
    | (dsimp only)
theorem State.recordStraps_keep (s : State) (straps : BitVec 5) : (State.recordStraps s straps).keep = s.keep := by
  unfold State.recordStraps
  try dsimp only
  repeat' first
    | with_reducible rfl
    | (intro _)
    | (with_reducible refine Eq.trans (State.modMason_keep _ _) ?_)
    | (with_reducible refine Eq.trans (State.logEvent_keep _ _ _ _) ?_)
    | (with_reducible refine Eq.trans (foldl_keep _ ?_ _ _) ?_)
    | (with_reducible refine Eq.trans (foldl_keep1 _ ?_ _ _) ?_)
    | split
    | (simp only [keep_mk])
    | (dsimp only)
theorem execFirmwareReady_keep (dt : Nat) (s : State) {t : State} (h : execFirmwareReady dt s = .next t) : t.keep = (s.elapse dt).keep := by
  simp only [execFirmwareReady] at h
  first
    | (injection h with h; subst h)
    | (split at h; exact absurd h (by simp); injection h with h; subst h)
  repeat' first
    | with_reducible rfl
    | (intro _)
    | (with_reducible refine Eq.trans (State.modMason_keep _ _) ?_)
    | (with_reducible refine Eq.trans (State.when_keep _ _ _ ?_) ?_)
    | (with_reducible refine Eq.trans (State.newThermal_keep _ _) ?_)
    | (with_reducible refine Eq.trans (State.recordStraps_keep _ _) ?_)
    | (with_reducible refine Eq.trans (foldl_keep _ ?_ _ _) ?_)
    | (with_reducible refine Eq.trans (foldl_keep1 _ ?_ _ _) ?_)
    | split
    | (simp only [keep_mk])
    | (dsimp only)
theorem State.applyTiming_keep (s : State) (w : Word64) : (State.applyTiming s w).keep = s.keep := by
  unfold State.applyTiming
  try dsimp only
  repeat' first
    | with_reducible rfl
    | (intro _)
    | (with_reducible refine Eq.trans (foldl_keep _ ?_ _ _) ?_)
    | (with_reducible refine Eq.trans (foldl_keep1 _ ?_ _ _) ?_)
    | split
    | (simp only [keep_mk])
    | (dsimp only)
theorem State.coefSwapRun_keep (s : State) (k : ChainId) (f : Fade) : (State.coefSwapRun s k f).keep = s.keep := by
  unfold State.coefSwapRun
  try dsimp only
  repeat' first
    | with_reducible rfl
    | (intro _)
    | (with_reducible refine Eq.trans (State.modChain_keep _ _ _) ?_)
    | (with_reducible refine Eq.trans (State.configWho_keep _ _ _ _ _ _) ?_)
    | (with_reducible refine Eq.trans (State.completeWho_keep _ _ _ _ _ _) ?_)
    | (with_reducible refine Eq.trans (State.refit_keep _) ?_)
    | (with_reducible refine Eq.trans (foldl_keep _ ?_ _ _) ?_)
    | (with_reducible refine Eq.trans (foldl_keep1 _ ?_ _ _) ?_)
    | split
    | (simp only [keep_mk])
    | (dsimp only)
theorem State.copyRetry_keep (s : State) : (State.copyRetry s).keep = s.keep := by
  unfold State.copyRetry
  try dsimp only
  repeat' first
    | with_reducible rfl
    | (intro _)
    | (with_reducible refine Eq.trans (State.courseSwapRun_keep _ _ _) ?_)
    | (with_reducible refine Eq.trans (State.angleTick_keep _) ?_)
    | (with_reducible refine Eq.trans (State.coefSwapRun_keep _ _ _) ?_)
    | (with_reducible refine Eq.trans (foldl_keep _ ?_ _ _) ?_)
    | (with_reducible refine Eq.trans (foldl_keep1 _ ?_ _ _) ?_)
    | split
    | (simp only [keep_mk])
    | (dsimp only)
theorem State.angleCommitted_keep (s : State) (g : Word32) : (State.angleCommitted s g).keep = s.keep := by
  unfold State.angleCommitted
  try dsimp only
  repeat' first
    | with_reducible rfl
    | (intro _)
    | (with_reducible refine Eq.trans (State.modAng_keep _ _) ?_)
    | (with_reducible refine Eq.trans (State.angleTick_keep _) ?_)
    | (with_reducible refine Eq.trans (State.reference_keep _ _) ?_)
    | (with_reducible refine Eq.trans (foldl_keep _ ?_ _ _) ?_)
    | (with_reducible refine Eq.trans (foldl_keep1 _ ?_ _ _) ?_)
    | split
    | (simp only [keep_mk])
    | (dsimp only)
theorem State.deltaDone_keep (s : State) (gen : Word32) : (State.deltaDone s gen).keep = s.keep := by
  unfold State.deltaDone
  try dsimp only
  repeat' first
    | with_reducible rfl
    | (intro _)
    | (with_reducible refine Eq.trans (State.completeOp_keep _ _ _ _ _ _) ?_)
    | (with_reducible refine Eq.trans (State.applyTiming_keep _ _) ?_)
    | (with_reducible refine Eq.trans (State.copyRetry_keep _) ?_)
    | (with_reducible refine Eq.trans (State.angleCommitted_keep _ _) ?_)
    | (with_reducible refine Eq.trans (foldl_keep _ ?_ _ _) ?_)
    | (with_reducible refine Eq.trans (foldl_keep1 _ ?_ _ _) ?_)
    | split
    | (simp only [keep_mk])
    | (dsimp only)
theorem State.notApplied_keep (s : State) : (State.notApplied s).keep = s.keep := by
  unfold State.notApplied
  try dsimp only
  repeat' first
    | with_reducible rfl
    | (intro _)
    | (with_reducible refine Eq.trans (State.modCourse_keep _ _) ?_)
    | (with_reducible refine Eq.trans (foldl_keep _ ?_ _ _) ?_)
    | (with_reducible refine Eq.trans (foldl_keep1 _ ?_ _ _) ?_)
    | split
    | (simp only [keep_mk])
    | (dsimp only)
theorem State.fireEntry_keep (s : State) (b : CBankId) (i : Nat) (action : Nat) (f : State → Entry → State) (hf : ∀ u x1, (f u x1).keep = u.keep) : (State.fireEntry s b i action f).keep = s.keep := by
  unfold State.fireEntry
  try dsimp only
  repeat' first
    | with_reducible rfl
    | (intro _)
    | (with_reducible refine Eq.trans (hf _ _) ?_)
    | (with_reducible refine Eq.trans (State.modCourse_keep _ _) ?_)
    | (with_reducible refine Eq.trans (State.angleTick_keep _) ?_)
    | (with_reducible refine Eq.trans (State.notApplied_keep _) ?_)
    | (with_reducible refine Eq.trans (foldl_keep _ ?_ _ _) ?_)
    | (with_reducible refine Eq.trans (foldl_keep1 _ ?_ _ _) ?_)
    | split
    | (simp only [keep_mk])
    | (dsimp only)
theorem State.courseMay_keep (s : State) (q : QuadId) (f : State → State) (hf : ∀ u, (f u).keep = u.keep) : (State.courseMay s q f).keep = s.keep := by
  unfold State.courseMay
  try dsimp only
  repeat' first
    | with_reducible rfl
    | (intro _)
    | (with_reducible refine Eq.trans (hf _) ?_)
    | (with_reducible refine Eq.trans (State.deny_keep _ _ _ _) ?_)
    | (with_reducible refine Eq.trans (foldl_keep _ ?_ _ _) ?_)
    | (with_reducible refine Eq.trans (foldl_keep1 _ ?_ _ _) ?_)
    | split
    | (simp only [keep_mk])
    | (dsimp only)
theorem State.courseChan_keep (s : State) (e : Entry) (f : State → ChanId → State × Verdict) (hf : ∀ u x1, (f u x1).1.keep = u.keep) : (State.courseChan s e f).keep = s.keep := by
  unfold State.courseChan
  try dsimp only
  repeat' first
    | with_reducible rfl
    | (intro _)
    | (with_reducible refine keep_pair (by assumption) (Eq.trans (hf _ _) ?_))
    | (with_reducible refine Eq.trans (hf _ _) ?_)
    | (with_reducible refine Eq.trans (State.notApplied_keep _) ?_)
    | (with_reducible refine Eq.trans (State.courseMay_keep _ _ _ ?_) ?_)
    | (with_reducible refine Eq.trans (foldl_keep _ ?_ _ _) ?_)
    | (with_reducible refine Eq.trans (foldl_keep1 _ ?_ _ _) ?_)
    | split
    | (simp only [keep_mk])
    | (dsimp only)
theorem State.setOn_keep (s : State) (l : ChanId) (src : ReqSrc) : (State.setOn s l src).1.keep = s.keep := by
  unfold State.setOn
  try dsimp only
  repeat' first
    | with_reducible rfl
    | (intro _)
    | (with_reducible refine Eq.trans (State.modChan_keep _ _ _) ?_)
    | (with_reducible refine keep_pair (by assumption) (Eq.trans (State.ask_keep _ _ _ _) ?_))
    | (with_reducible refine Eq.trans (State.ask_keep _ _ _ _) ?_)
    | (with_reducible refine keep_pair (by assumption) (Eq.trans (State.setRef_keep _ _) ?_))
    | (with_reducible refine Eq.trans (State.setRef_keep _ _) ?_)
    | (with_reducible refine Eq.trans (foldl_keep _ ?_ _ _) ?_)
    | (with_reducible refine Eq.trans (foldl_keep1 _ ?_ _ _) ?_)
    | split
    | (simp only [keep_mk])
    | (dsimp only)
theorem State.setOff_keep (s : State) (l : ChanId) : (State.setOff s l).1.keep = s.keep := by
  unfold State.setOff
  try dsimp only
  repeat' first
    | with_reducible rfl
    | (intro _)
    | (with_reducible refine Eq.trans (State.giveRef_keep _ _ _) ?_)
    | (with_reducible refine Eq.trans (foldl_keep _ ?_ _ _) ?_)
    | (with_reducible refine Eq.trans (foldl_keep1 _ ?_ _ _) ?_)
    | split
    | (simp only [keep_mk])
    | (dsimp only)
theorem State.setLevel_keep (s : State) (l : ChanId) (on : Bool) (src : ReqSrc) : (State.setLevel s l on src).1.keep = s.keep := by
  unfold State.setLevel
  try dsimp only
  repeat' first
    | with_reducible rfl
    | (intro _)
    | (with_reducible refine keep_pair (by assumption) (Eq.trans (State.setOn_keep _ _ _) ?_))
    | (with_reducible refine Eq.trans (State.setOn_keep _ _ _) ?_)
    | (with_reducible refine keep_pair (by assumption) (Eq.trans (State.setOff_keep _ _) ?_))
    | (with_reducible refine Eq.trans (State.setOff_keep _ _) ?_)
    | (with_reducible refine Eq.trans (foldl_keep _ ?_ _ _) ?_)
    | (with_reducible refine Eq.trans (foldl_keep1 _ ?_ _ _) ?_)
    | split
    | (simp only [keep_mk])
    | (dsimp only)
theorem execOutOff_keep (dt : Nat) (b : CBankId) (i : Nat) (s : State) {t : State} (h : execOutOff dt b i s = .next t) : t.keep = (s.elapse dt).keep := by
  simp only [execOutOff] at h
  first
    | (injection h with h; subst h)
    | (split at h; exact absurd h (by simp); injection h with h; subst h)
  repeat' first
    | with_reducible rfl
    | (intro _)
    | (with_reducible refine Eq.trans (State.fireEntry_keep _ _ _ _ _ ?_) ?_)
    | (with_reducible refine Eq.trans (State.courseChan_keep _ _ _ ?_) ?_)
    | (with_reducible refine keep_pair (by assumption) (Eq.trans (State.setLevel_keep _ _ _ _) ?_))
    | (with_reducible refine Eq.trans (State.setLevel_keep _ _ _ _) ?_)
    | (with_reducible refine Eq.trans (foldl_keep _ ?_ _ _) ?_)
    | (with_reducible refine Eq.trans (foldl_keep1 _ ?_ _ _) ?_)
    | split
    | (simp only [keep_mk])
    | (dsimp only)
theorem execSidebandSend_keep (dt : Nat) (q : QueueId) (n : Word32) (s : State) {t : State} (h : execSidebandSend dt q n s = .next t) : t.keep = (s.elapse dt).keep := by
  simp only [execSidebandSend] at h
  first
    | (injection h with h; subst h)
    | (split at h; exact absurd h (by simp); injection h with h; subst h)
  repeat' first
    | with_reducible rfl
    | (intro _)
    | (with_reducible refine Eq.trans (State.complete_keep _ _ _ _ _ _ _) ?_)
    | (with_reducible refine Eq.trans (State.finish_keep _ _ _ _ _) ?_)
    | (with_reducible refine Eq.trans (State.io_keep _ _ _ _ _ _ _ ?_) ?_)
    | (with_reducible refine Eq.trans (State.modSerial_keep _ _) ?_)
    | (with_reducible refine Eq.trans (foldl_keep _ ?_ _ _) ?_)
    | (with_reducible refine Eq.trans (foldl_keep1 _ ?_ _ _) ?_)
    | split
    | (simp only [keep_mk])
    | (dsimp only)
theorem execSlaveSelectFall_keep (dt : Nat) (s : State) {t : State} (h : execSlaveSelectFall dt s = .next t) : t.keep = (s.elapse dt).keep := by
  simp only [execSlaveSelectFall] at h
  first
    | (injection h with h; subst h)
    | (split at h; exact absurd h (by simp); injection h with h; subst h)
  repeat' first
    | with_reducible rfl
    | (intro _)
    | (with_reducible refine Eq.trans (State.modSerial_keep _ _) ?_)
    | (with_reducible refine Eq.trans (foldl_keep _ ?_ _ _) ?_)
    | (with_reducible refine Eq.trans (foldl_keep1 _ ?_ _ _) ?_)
    | split
    | (simp only [keep_mk])
    | (dsimp only)
theorem execOpenOffClear_keep (dt : Nat) (r : Lasting ChanId Nat) (s : State) {t : State} (h : execOpenOffClear dt r s = .next t) : t.keep = (s.elapse dt).keep := by
  simp only [execOpenOffClear] at h
  first
    | (injection h with h; subst h)
    | (split at h; exact absurd h (by simp); injection h with h; subst h)
  repeat' first
    | with_reducible rfl
    | (intro _)
    | (with_reducible refine Eq.trans (State.when_keep _ _ _ ?_) ?_)
    | (with_reducible refine Eq.trans (State.clearDiag_keep _ _ _) ?_)
    | (with_reducible refine Eq.trans (foldl_keep _ ?_ _ _) ?_)
    | (with_reducible refine Eq.trans (foldl_keep1 _ ?_ _ _) ?_)
    | split
    | (simp only [keep_mk])
    | (dsimp only)
theorem execInject_keep (dt : Nat) (q : QueueId) (n : Word32) (s : State) {t : State} (h : execInject dt q n s = .next t) : t.keep = (s.elapse dt).keep := by
  simp only [execInject] at h
  first
    | (injection h with h; subst h)
    | (split at h; exact absurd h (by simp); injection h with h; subst h)
  repeat' first
    | with_reducible rfl
    | (intro _)
    | (with_reducible refine Eq.trans (State.addOp_keep _ _ _ _) ?_)
    | (with_reducible refine Eq.trans (State.complete_keep _ _ _ _ _ _ _) ?_)
    | (with_reducible refine Eq.trans (State.modMeas_keep _ _ _) ?_)
    | (with_reducible refine Eq.trans (State.trigSlot_keep _ _ _ _ _) ?_)
    | (with_reducible refine Eq.trans (State.finish_keep _ _ _ _ _) ?_)
    | (with_reducible refine Eq.trans (State.io_keep _ _ _ _ _ _ _ ?_) ?_)
    | (with_reducible refine Eq.trans (foldl_keep _ ?_ _ _) ?_)
    | (with_reducible refine Eq.trans (foldl_keep1 _ ?_ _ _) ?_)
    | split
    | (simp only [keep_mk])
    | (dsimp only)
theorem State.syncAll_keep (s : State) (tick : Nat) (fromPin : Bool) : (State.syncAll s tick fromPin).keep = s.keep := by
  unfold State.syncAll
  try dsimp only
  repeat' first
    | with_reducible rfl
    | (intro _)
    | (with_reducible refine Eq.trans (State.chainReset_keep _ _ _ _) ?_)
    | (with_reducible refine Eq.trans (foldl_keep _ ?_ _ _) ?_)
    | (with_reducible refine Eq.trans (foldl_keep1 _ ?_ _ _) ?_)
    | split
    | (simp only [keep_mk])
    | (dsimp only)
theorem execSync_keep (dt : Nat) (q : QueueId) (n : Word32) (s : State) {t : State} (h : execSync dt q n s = .next t) : t.keep = (s.elapse dt).keep := by
  simp only [execSync] at h
  first
    | (injection h with h; subst h)
    | (split at h; exact absurd h (by simp); injection h with h; subst h)
  repeat' first
    | with_reducible rfl
    | (intro _)
    | (with_reducible refine Eq.trans (State.complete_keep _ _ _ _ _ _ _) ?_)
    | (with_reducible refine Eq.trans (State.io_keep _ _ _ _ _ _ _ ?_) ?_)
    | (with_reducible refine Eq.trans (State.syncAll_keep _ _ _) ?_)
    | (with_reducible refine Eq.trans (foldl_keep _ ?_ _ _) ?_)
    | (with_reducible refine Eq.trans (foldl_keep1 _ ?_ _ _) ?_)
    | split
    | (simp only [keep_mk])
    | (dsimp only)
theorem execDoorbellPoll_keep (dt : Nat) (s : State) {t : State} (h : execDoorbellPoll dt s = .next t) : t.keep = (s.elapse dt).keep := by
  simp only [execDoorbellPoll] at h
  first
    | (injection h with h; subst h)
    | (split at h; exact absurd h (by simp); injection h with h; subst h)
  repeat' first
    | with_reducible rfl
    | (intro _)
    | (with_reducible refine Eq.trans (State.emit_keep _ _) ?_)
    | (with_reducible refine Eq.trans (State.modHost_keep _ _) ?_)
    | (with_reducible refine Eq.trans (State.when_keep _ _ _ ?_) ?_)
    | (with_reducible refine Eq.trans (foldl_keep _ ?_ _ _) ?_)
    | (with_reducible refine Eq.trans (foldl_keep1 _ ?_ _ _) ?_)
    | split
    | (simp only [keep_mk])
    | (dsimp only)
theorem execTimerTrigger_keep (dt : Nat) (q : QuadId) (i : Fin 64) (s : State) {t : State} (h : execTimerTrigger dt q i s = .next t) : t.keep = (s.elapse dt).keep := by
  simp only [execTimerTrigger] at h
  first
    | (injection h with h; subst h)
    | (split at h; exact absurd h (by simp); injection h with h; subst h)
  repeat' first
    | with_reducible rfl
    | (intro _)
    | (with_reducible refine Eq.trans (State.trigSlot_keep _ _ _ _ _) ?_)
    | (with_reducible refine Eq.trans (State.when_keep _ _ _ ?_) ?_)
    | (with_reducible refine Eq.trans (foldl_keep _ ?_ _ _) ?_)
    | (with_reducible refine Eq.trans (foldl_keep1 _ ?_ _ _) ?_)
    | split
    | (simp only [keep_mk])
    | (dsimp only)
theorem execQueueCreate_keep (dt : Nat) (n : Word32) (s : State) {t : State} (h : execQueueCreate dt n s = .next t) : t.keep = (s.elapse dt).keep := by
  simp only [execQueueCreate] at h
  first
    | (injection h with h; subst h)
    | (split at h; exact absurd h (by simp); injection h with h; subst h)
  repeat' first
    | with_reducible rfl
    | (intro _)
    | (with_reducible refine Eq.trans (State.modQueue_keep _ _ _) ?_)
    | (with_reducible refine Eq.trans (State.finish_keep _ _ _ _ _) ?_)
    | (with_reducible refine Eq.trans (State.adm_keep _ _ _ _ _ _ ?_) ?_)
    | (with_reducible refine Eq.trans (foldl_keep _ ?_ _ _) ?_)
    | (with_reducible refine Eq.trans (foldl_keep1 _ ?_ _ _) ?_)
    | split
    | (simp only [keep_mk])
    | (dsimp only)
theorem execMasonRestartComplete_keep (dt : Nat) (digestOk : Bool) (s : State) {t : State} (h : execMasonRestartComplete dt digestOk s = .next t) : t.keep = (s.elapse dt).keep := by
  simp only [execMasonRestartComplete] at h
  first
    | (injection h with h; subst h)
    | (split at h; exact absurd h (by simp); injection h with h; subst h)
  repeat' first
    | with_reducible rfl
    | (intro _)
    | (with_reducible refine Eq.trans (State.modMason_keep _ _) ?_)
    | (with_reducible refine Eq.trans (State.when_keep _ _ _ ?_) ?_)
    | (with_reducible refine Eq.trans (State.recover_keep _) ?_)
    | (with_reducible refine Eq.trans (foldl_keep _ ?_ _ _) ?_)
    | (with_reducible refine Eq.trans (foldl_keep1 _ ?_ _ _) ?_)
    | split
    | (simp only [keep_mk])
    | (dsimp only)
theorem State.visoReport_keep (s : State) : (State.visoReport s).keep = s.keep := by
  unfold State.visoReport
  try dsimp only
  repeat' first
    | with_reducible rfl
    | (intro _)
    | (with_reducible refine keep_pair (by assumption) (Eq.trans (State.stage_keep _ _ _) ?_))
    | (with_reducible refine Eq.trans (State.stage_keep _ _ _) ?_)
    | (with_reducible refine Eq.trans (State.raiseCause_keep _ _) ?_)
    | (with_reducible refine Eq.trans (foldl_keep _ ?_ _ _) ?_)
    | (with_reducible refine Eq.trans (foldl_keep1 _ ?_ _ _) ?_)
    | split
    | (simp only [keep_mk])
    | (dsimp only)
theorem State.courseChecks_keep (s : State) (q : QueueId) (n : Word32) (d : Desc) (bs : List Byte) (f : State → State) (hf : ∀ u, (f u).keep = u.keep) : (State.courseChecks s q n d bs f).keep = s.keep := by
  unfold State.courseChecks
  try dsimp only
  repeat' first
    | with_reducible rfl
    | (intro _)
    | (with_reducible refine Eq.trans (hf _) ?_)
    | (with_reducible refine Eq.trans (State.finish_keep _ _ _ _ _) ?_)
    | (with_reducible refine Eq.trans (foldl_keep _ ?_ _ _) ?_)
    | (with_reducible refine Eq.trans (foldl_keep1 _ ?_ _ _) ?_)
    | split
    | (simp only [keep_mk])
    | (dsimp only)
theorem State.putBank_keep (s : State) (b : CBankId) (es : List Entry) (w : Word64) : (State.putBank s b es w).keep = s.keep := by
  unfold State.putBank
  try dsimp only
  repeat' first
    | with_reducible rfl
    | (intro _)
    | (with_reducible refine Eq.trans (State.modCourse_keep _ _) ?_)
    | (with_reducible refine Eq.trans (foldl_keep _ ?_ _ _) ?_)
    | (with_reducible refine Eq.trans (foldl_keep1 _ ?_ _ _) ?_)
    | split
    | (simp only [keep_mk])
    | (dsimp only)
theorem State.courseDone_keep (s : State) (q : QueueId) (n : Word32) (d : Desc) (es : List Entry) (crc : Word32) : (State.courseDone s q n d es crc).keep = s.keep := by
  unfold State.courseDone
  try dsimp only
  repeat' first
    | with_reducible rfl
    | (intro _)
    | (with_reducible refine Eq.trans (State.configured_keep _ _ _) ?_)
    | (with_reducible refine Eq.trans (State.complete_keep _ _ _ _ _ _ _) ?_)
    | (with_reducible refine Eq.trans (State.copyDelta_keep _ _ _) ?_)
    | (with_reducible refine Eq.trans (State.putBank_keep _ _ _ _) ?_)
    | (with_reducible refine Eq.trans (foldl_keep _ ?_ _ _) ?_)
    | (with_reducible refine Eq.trans (foldl_keep1 _ ?_ _ _) ?_)
    | split
    | (simp only [keep_mk])
    | (dsimp only)
theorem execCourseLoad_keep (dt : Nat) (q : QueueId) (n : Word32) (s : State) {t : State} (h : execCourseLoad dt q n s = .next t) : t.keep = (s.elapse dt).keep := by
  simp only [execCourseLoad] at h
  first
    | (injection h with h; subst h)
    | (split at h; exact absurd h (by simp); injection h with h; subst h)
  repeat' first
    | with_reducible rfl
    | (intro _)
    | (with_reducible refine Eq.trans (State.addOp_keep _ _ _ _) ?_)
    | (with_reducible refine Eq.trans (State.emit_keep _ _) ?_)
    | (with_reducible refine Eq.trans (State.io_keep _ _ _ _ _ _ _ ?_) ?_)
    | (with_reducible refine Eq.trans (State.overtake_keep _ _ _) ?_)
    | (with_reducible refine Eq.trans (State.courseChecks_keep _ _ _ _ _ _ ?_) ?_)
    | (with_reducible refine Eq.trans (State.courseDone_keep _ _ _ _ _ _) ?_)
    | (with_reducible refine Eq.trans (foldl_keep _ ?_ _ _) ?_)
    | (with_reducible refine Eq.trans (foldl_keep1 _ ?_ _ _) ?_)
    | split
    | (simp only [keep_mk])
    | (dsimp only)
theorem execVisoRestored_keep (dt : Nat) (s : State) {t : State} (h : execVisoRestored dt s = .next t) : t.keep = (s.elapse dt).keep := by
  simp only [execVisoRestored] at h
  first
    | (injection h with h; subst h)
    | (split at h; exact absurd h (by simp); injection h with h; subst h)
  repeat' first
    | with_reducible rfl
    | (intro _)
    | (with_reducible refine Eq.trans (State.when_keep _ _ _ ?_) ?_)
    | (with_reducible refine Eq.trans (foldl_keep _ ?_ _ _) ?_)
    | (with_reducible refine Eq.trans (foldl_keep1 _ ?_ _ _) ?_)
    | split
    | (simp only [keep_mk])
    | (dsimp only)
theorem State.resetDone_keep (s : State) (q : QuadId) : (State.resetDone s q).keep = s.keep := by
  unfold State.resetDone
  try dsimp only
  repeat' first
    | with_reducible rfl
    | (intro _)
    | (with_reducible refine Eq.trans (State.completeOp_keep _ _ _ _ _ _) ?_)
    | (with_reducible refine Eq.trans (State.quadResetStart_keep _ _) ?_)
    | (with_reducible refine Eq.trans (foldl_keep _ ?_ _ _) ?_)
    | (with_reducible refine Eq.trans (foldl_keep1 _ ?_ _ _) ?_)
    | split
    | (simp only [keep_mk])
    | (dsimp only)
theorem State.respread_keep (s : State) (q : QuadId) : (State.respread s q).keep = s.keep := by
  unfold State.respread
  try dsimp only
  repeat' first
    | with_reducible rfl
    | (intro _)
    | (with_reducible refine Eq.trans (State.modChan_keep _ _ _) ?_)
    | (with_reducible refine Eq.trans (foldl_keep _ ?_ _ _) ?_)
    | (with_reducible refine Eq.trans (foldl_keep1 _ ?_ _ _) ?_)
    | split
    | (simp only [keep_mk])
    | (dsimp only)
theorem State.quadOff_keep (s : State) (q : QuadId) : (State.quadOff s q).keep = s.keep := by
  unfold State.quadOff
  try dsimp only
  repeat' first
    | with_reducible rfl
    | (intro _)
    | (with_reducible refine Eq.trans (State.dropUnit_keep _ _) ?_)
    | (with_reducible refine Eq.trans (foldl_keep _ ?_ _ _) ?_)
    | (with_reducible refine Eq.trans (foldl_keep1 _ ?_ _ _) ?_)
    | split
    | (simp only [keep_mk])
    | (dsimp only)
theorem State.stageOpen_keep (s : State) : (State.stageOpen s).keep = s.keep := by
  unfold State.stageOpen
  try dsimp only
  repeat' first
    | with_reducible rfl
    | (intro _)
    | (with_reducible refine Eq.trans (State.modSerial_keep _ _) ?_)
    | (with_reducible refine Eq.trans (State.stageAny_keep _ _) ?_)
    | (with_reducible refine Eq.trans (foldl_keep _ ?_ _ _) ?_)
    | (with_reducible refine Eq.trans (foldl_keep1 _ ?_ _ _) ?_)
    | split
    | (simp only [keep_mk])
    | (dsimp only)
theorem State.drainWord_keep (s : State) : (State.drainWord s).keep = s.keep := by
  unfold State.drainWord
  try dsimp only
  repeat' first
    | with_reducible rfl
    | (intro _)
    | (with_reducible refine Eq.trans (State.modSerial_keep _ _) ?_)
    | (with_reducible refine Eq.trans (State.stageOpen_keep _) ?_)
    | (with_reducible refine Eq.trans (foldl_keep _ ?_ _ _) ?_)
    | (with_reducible refine Eq.trans (foldl_keep1 _ ?_ _ _) ?_)
    | split
    | (simp only [keep_mk])
    | (dsimp only)
theorem State.drainRx_keep (s : State) : (State.drainRx s).keep = s.keep := by
  unfold State.drainRx
  try dsimp only
  repeat' first
    | with_reducible rfl
    | (intro _)
    | (with_reducible refine Eq.trans (State.drainWord_keep _) ?_)
    | (with_reducible refine Eq.trans (foldl_keep _ ?_ _ _) ?_)
    | (with_reducible refine Eq.trans (foldl_keep1 _ ?_ _ _) ?_)
    | split
    | (simp only [keep_mk])
    | (dsimp only)
theorem State.recordDone_keep (s : State) (r : Record) (who : Option (QueueId × Word32)) : (State.recordDone s r who).keep = s.keep := by
  unfold State.recordDone
  try dsimp only
  repeat' first
    | with_reducible rfl
    | (intro _)
    | (with_reducible refine Eq.trans (State.completeWho_keep _ _ _ _ _ _) ?_)
    | (with_reducible refine Eq.trans (foldl_keep _ ?_ _ _) ?_)
    | (with_reducible refine Eq.trans (foldl_keep1 _ ?_ _ _) ?_)
    | split
    | (simp only [keep_mk])
    | (dsimp only)
theorem State.countDrop_keep (s : State) (r : Record) : (State.countDrop s r).keep = s.keep := by
  unfold State.countDrop
  try dsimp only
  repeat' first
    | with_reducible rfl
    | (intro _)
    | (with_reducible refine Eq.trans (State.modChain_keep _ _ _) ?_)
    | (with_reducible refine Eq.trans (State.modCourse_keep _ _) ?_)
    | (with_reducible refine Eq.trans (State.modQuad_keep _ _ _) ?_)
    | (with_reducible refine Eq.trans (foldl_keep _ ?_ _ _) ?_)
    | (with_reducible refine Eq.trans (foldl_keep1 _ ?_ _ _) ?_)
    | split
    | (simp only [keep_mk])
    | (dsimp only)
theorem State.writeRecord_keep (s : State) (q : QueueId) (r : Record) (who : Option (QueueId × Word32)) : (State.writeRecord s q r who).keep = s.keep := by
  unfold State.writeRecord
  try dsimp only
  repeat' first
    | with_reducible rfl
    | (intro _)
    | (with_reducible refine Eq.trans (State.modQueue_keep _ _ _) ?_)
    | (with_reducible refine Eq.trans (State.emit_keep _ _) ?_)
    | (with_reducible refine Eq.trans (State.retire_keep _ _ _ _) ?_)
    | (with_reducible refine Eq.trans (State.recordDone_keep _ _ _) ?_)
    | (with_reducible refine Eq.trans (foldl_keep _ ?_ _ _) ?_)
    | (with_reducible refine Eq.trans (foldl_keep1 _ ?_ _ _) ?_)
    | split
    | (simp only [keep_mk])
    | (dsimp only)
theorem execRecordWrite_keep (dt : Nat) (ue : Bool) (s : State) {t : State} (h : execRecordWrite dt ue s = .next t) : t.keep = (s.elapse dt).keep := by
  simp only [execRecordWrite] at h
  first
    | (injection h with h; subst h)
    | (split at h; exact absurd h (by simp); injection h with h; subst h)
  repeat' first
    | with_reducible rfl
    | (intro _)
    | (with_reducible refine Eq.trans (State.modQueue_keep _ _ _) ?_)
    | (with_reducible refine Eq.trans (State.when_keep _ _ _ ?_) ?_)
    | (with_reducible refine Eq.trans (State.vaultUe_keep _ _) ?_)
    | (with_reducible refine Eq.trans (State.retireFull_keep _) ?_)
    | (with_reducible refine Eq.trans (State.drainRx_keep _) ?_)
    | (with_reducible refine Eq.trans (State.recordDone_keep _ _ _) ?_)
    | (with_reducible refine Eq.trans (State.countDrop_keep _ _) ?_)
    | (with_reducible refine Eq.trans (State.writeRecord_keep _ _ _ _) ?_)
    | (with_reducible refine Eq.trans (foldl_keep _ ?_ _ _) ?_)
    | (with_reducible refine Eq.trans (foldl_keep1 _ ?_ _ _) ?_)
    | split
    | (simp only [keep_mk])
    | (dsimp only)
theorem execFunctionLevelResetComplete_keep (dt : Nat) (s : State) {t : State} (h : execFunctionLevelResetComplete dt s = .next t) : t.keep = (s.elapse dt).keep := by
  simp only [execFunctionLevelResetComplete] at h
  first
    | (injection h with h; subst h)
    | (split at h; exact absurd h (by simp); injection h with h; subst h)
  repeat' first
    | with_reducible rfl
    | (intro _)
    | (with_reducible refine Eq.trans (State.modHost_keep _ _) ?_)
    | (with_reducible refine Eq.trans (State.when_keep _ _ _ ?_) ?_)
    | (with_reducible refine Eq.trans (foldl_keep _ ?_ _ _) ?_)
    | (with_reducible refine Eq.trans (foldl_keep1 _ ?_ _ _) ?_)
    | split
    | (simp only [keep_mk])
    | (dsimp only)
theorem State.convertNow_keep (s : State) (q : QuadId) (b : Burst) (a : Analog) (t : Nat) : (State.convertNow s q b a t).keep = s.keep := by
  unfold State.convertNow
  try dsimp only
  repeat' first
    | with_reducible rfl
    | (intro _)
    | (with_reducible refine Eq.trans (State.modMeas_keep _ _ _) ?_)
    | (with_reducible refine Eq.trans (State.loseBurst_keep _ _ _ _) ?_)
    | (with_reducible refine Eq.trans (State.reap_keep _ _) ?_)
    | (with_reducible refine Eq.trans (foldl_keep _ ?_ _ _) ?_)
    | (with_reducible refine Eq.trans (foldl_keep1 _ ?_ _ _) ?_)
    | split
    | (simp only [keep_mk])
    | (dsimp only)
theorem State.stopGen_keep (s : State) (l : ChanId) : (State.stopGen s l).1.keep = s.keep := by
  unfold State.stopGen
  try dsimp only
  repeat' first
    | with_reducible rfl
    | (intro _)
    | (with_reducible refine keep_pair (by assumption) (Eq.trans (State.setOff_keep _ _) ?_))
    | (with_reducible refine Eq.trans (State.setOff_keep _ _) ?_)
    | (with_reducible refine Eq.trans (foldl_keep _ ?_ _ _) ?_)
    | (with_reducible refine Eq.trans (foldl_keep1 _ ?_ _ _) ?_)
    | split
    | (simp only [keep_mk])
    | (dsimp only)
theorem execPulseStop_keep (dt : Nat) (b : CBankId) (i : Nat) (s : State) {t : State} (h : execPulseStop dt b i s = .next t) : t.keep = (s.elapse dt).keep := by
  simp only [execPulseStop] at h
  first
    | (injection h with h; subst h)
    | (split at h; exact absurd h (by simp); injection h with h; subst h)
  repeat' first
    | with_reducible rfl
    | (intro _)
    | (with_reducible refine Eq.trans (State.fireEntry_keep _ _ _ _ _ ?_) ?_)
    | (with_reducible refine Eq.trans (State.courseChan_keep _ _ _ ?_) ?_)
    | (with_reducible refine keep_pair (by assumption) (Eq.trans (State.stopGen_keep _ _) ?_))
    | (with_reducible refine Eq.trans (State.stopGen_keep _ _) ?_)
    | (with_reducible refine Eq.trans (foldl_keep _ ?_ _ _) ?_)
    | (with_reducible refine Eq.trans (foldl_keep1 _ ?_ _ _) ?_)
    | split
    | (simp only [keep_mk])
    | (dsimp only)
theorem execReadbackMismatchClear_keep (dt : Nat) (c : ChanId) (s : State) {t : State} (h : execReadbackMismatchClear dt c s = .next t) : t.keep = (s.elapse dt).keep := by
  simp only [execReadbackMismatchClear] at h
  first
    | (injection h with h; subst h)
    | (split at h; exact absurd h (by simp); injection h with h; subst h)
  repeat' first
    | with_reducible rfl
    | (intro _)
    | (with_reducible refine Eq.trans (State.when_keep _ _ _ ?_) ?_)
    | (with_reducible refine Eq.trans (State.clearDiag_keep _ _ _) ?_)
    | (with_reducible refine Eq.trans (foldl_keep _ ?_ _ _) ?_)
    | (with_reducible refine Eq.trans (foldl_keep1 _ ?_ _ _) ?_)
    | split
    | (simp only [keep_mk])
    | (dsimp only)
theorem execIdentify_keep (dt : Nat) (n : Word32) (s : State) {t : State} (h : execIdentify dt n s = .next t) : t.keep = (s.elapse dt).keep := by
  simp only [execIdentify] at h
  first
    | (injection h with h; subst h)
    | (split at h; exact absurd h (by simp); injection h with h; subst h)
  repeat' first
    | with_reducible rfl
    | (intro _)
    | (with_reducible refine Eq.trans (State.complete_keep _ _ _ _ _ _ _) ?_)
    | (with_reducible refine Eq.trans (State.adm_keep _ _ _ _ _ _ ?_) ?_)
    | (with_reducible refine Eq.trans (foldl_keep _ ?_ _ _) ?_)
    | (with_reducible refine Eq.trans (foldl_keep1 _ ?_ _ _) ?_)
    | split
    | (simp only [keep_mk])
    | (dsimp only)
theorem State.settledOn_keep (s : State) (c : ChanId) : (State.settledOn s c).keep = s.keep := by
  unfold State.settledOn
  try dsimp only
  repeat' first
    | with_reducible rfl
    | (intro _)
    | (with_reducible refine Eq.trans (State.modChan_keep _ _ _) ?_)
    | (with_reducible refine Eq.trans (State.clearDiag_keep _ _ _) ?_)
    | (with_reducible refine Eq.trans (foldl_keep _ ?_ _ _) ?_)
    | (with_reducible refine Eq.trans (foldl_keep1 _ ?_ _ _) ?_)
    | split
    | (simp only [keep_mk])
    | (dsimp only)
theorem State.calNext_keep (s : State) (q : QuadId) (failed : BitVec 4) : (State.calNext s q failed).keep = s.keep := by
  unfold State.calNext
  try dsimp only
  repeat' first
    | with_reducible rfl
    | (intro _)
    | (with_reducible refine Eq.trans (State.configDone_keep _ _ _ _ _ _ _ _) ?_)
    | (with_reducible refine Eq.trans (foldl_keep _ ?_ _ _) ?_)
    | (with_reducible refine Eq.trans (foldl_keep1 _ ?_ _ _) ?_)
    | split
    | (simp only [keep_mk])
    | (dsimp only)
theorem execCalibrationEnd_keep (dt : Nat) (q : QuadId) (found : Vector Coef 4) (s : State) {t : State} (h : execCalibrationEnd dt q found s = .next t) : t.keep = (s.elapse dt).keep := by
  simp only [execCalibrationEnd] at h
  first
    | (injection h with h; subst h)
    | (split at h; exact absurd h (by simp); injection h with h; subst h)
  repeat' first
    | with_reducible rfl
    | (intro _)
    | (with_reducible refine Eq.trans (State.modMeas_keep _ _ _) ?_)
    | (with_reducible refine Eq.trans (State.when_keep _ _ _ ?_) ?_)
    | (with_reducible refine Eq.trans (State.newThermal_keep _ _) ?_)
    | (with_reducible refine Eq.trans (State.calNext_keep _ _ _) ?_)
    | (with_reducible refine Eq.trans (foldl_keep _ ?_ _ _) ?_)
    | (with_reducible refine Eq.trans (foldl_keep1 _ ?_ _ _) ?_)
    | split
    | (simp only [keep_mk])
    | (dsimp only)
theorem State.testSeen_keep (s : State) (m : ChanId) (rose : Bool) : (State.testSeen s m rose).keep = s.keep := by
  unfold State.testSeen
  try dsimp only
  repeat' first
    | with_reducible rfl
    | (intro _)
    | (with_reducible refine Eq.trans (State.raiseDiag_keep _ _ _) ?_)
    | (with_reducible refine Eq.trans (State.clearDiag_keep _ _ _) ?_)
    | (with_reducible refine Eq.trans (foldl_keep _ ?_ _ _) ?_)
    | (with_reducible refine Eq.trans (foldl_keep1 _ ?_ _ _) ?_)
    | split
    | (simp only [keep_mk])
    | (dsimp only)
theorem State.answer_keep (s : State) (v : Word32) : (State.answer s v).keep = s.keep := by
  unfold State.answer
  try dsimp only
  repeat' first
    | with_reducible rfl
    | (intro _)
    | (with_reducible refine Eq.trans (foldl_keep _ ?_ _ _) ?_)
    | (with_reducible refine Eq.trans (foldl_keep1 _ ?_ _ _) ?_)
    | split
    | (simp only [keep_mk])
    | (dsimp only)
theorem State.barRead_keep (s : State) (t : Nat) (f : State → State) (hf : ∀ u, (f u).keep = u.keep) : (State.barRead s t f).keep = s.keep := by
  unfold State.barRead
  try dsimp only
  repeat' first
    | with_reducible rfl
    | (intro _)
    | (with_reducible refine Eq.trans (hf _) ?_)
    | (with_reducible refine Eq.trans (State.deny_keep _ _ _ _) ?_)
    | (with_reducible refine Eq.trans (State.answer_keep _ _) ?_)
    | (with_reducible refine Eq.trans (foldl_keep _ ?_ _ _) ?_)
    | (with_reducible refine Eq.trans (foldl_keep1 _ ?_ _ _) ?_)
    | split
    | (simp only [keep_mk])
    | (dsimp only)
theorem execGlTimeRead_keep (dt : Nat) (s : State) {t : State} (h : execGlTimeRead dt s = .next t) : t.keep = (s.elapse dt).keep := by
  simp only [execGlTimeRead] at h
  first
    | (injection h with h; subst h)
    | (split at h; exact absurd h (by simp); injection h with h; subst h)
  repeat' first
    | with_reducible rfl
    | (intro _)
    | (with_reducible refine Eq.trans (State.modHost_keep _ _) ?_)
    | (with_reducible refine Eq.trans (State.answer_keep _ _) ?_)
    | (with_reducible refine Eq.trans (State.barRead_keep _ _ _ ?_) ?_)
    | (with_reducible refine Eq.trans (foldl_keep _ ?_ _ _) ?_)
    | (with_reducible refine Eq.trans (foldl_keep1 _ ?_ _ _) ?_)
    | split
    | (simp only [keep_mk])
    | (dsimp only)
theorem State.discardRecord_keep (s : State) (r : Record) : (State.discardRecord s r).keep = s.keep := by
  unfold State.discardRecord
  try dsimp only
  repeat' first
    | with_reducible rfl
    | (intro _)
    | (with_reducible refine Eq.trans (State.modMason_keep _ _) ?_)
    | (with_reducible refine Eq.trans (State.modQuad_keep _ _ _) ?_)
    | (with_reducible refine Eq.trans (State.countDrop_keep _ _) ?_)
    | (with_reducible refine Eq.trans (foldl_keep _ ?_ _ _) ?_)
    | (with_reducible refine Eq.trans (foldl_keep1 _ ?_ _ _) ?_)
    | split
    | (simp only [keep_mk])
    | (dsimp only)
theorem execSetVaultLayout_keep (dt : Nat) (n : Word32) (s : State) {t : State} (h : execSetVaultLayout dt n s = .next t) : t.keep = (s.elapse dt).keep := by
  simp only [execSetVaultLayout] at h
  first
    | (injection h with h; subst h)
    | (split at h; exact absurd h (by simp); injection h with h; subst h)
  repeat' first
    | with_reducible rfl
    | (intro _)
    | (with_reducible refine Eq.trans (State.modMason_keep _ _) ?_)
    | (with_reducible refine Eq.trans (State.finish_keep _ _ _ _ _) ?_)
    | (with_reducible refine Eq.trans (State.modArch_keep _ _) ?_)
    | (with_reducible refine Eq.trans (State.modSerial_keep _ _) ?_)
    | (with_reducible refine Eq.trans (State.fset_keep _ _ _ _ _ _ ?_) ?_)
    | (with_reducible refine Eq.trans (State.setCfgDone_keep _ _) ?_)
    | (with_reducible refine Eq.trans (State.recheck_keep _) ?_)
    | (with_reducible refine Eq.trans (State.drainRx_keep _) ?_)
    | (with_reducible refine Eq.trans (State.discardRecord_keep _ _) ?_)
    | (with_reducible refine Eq.trans (foldl_keep _ ?_ _ _) ?_)
    | (with_reducible refine Eq.trans (foldl_keep1 _ ?_ _ _) ?_)
    | split
    | (simp only [keep_mk])
    | (dsimp only)
theorem execReverse_keep (dt : Nat) (r : Lasting ChanId Int) (s : State) {t : State} (h : execReverse dt r s = .next t) : t.keep = (s.elapse dt).keep := by
  simp only [execReverse] at h
  first
    | (injection h with h; subst h)
    | (split at h; exact absurd h (by simp); injection h with h; subst h)
  repeat' first
    | with_reducible rfl
    | (intro _)
    | (with_reducible refine Eq.trans (State.modChan_keep _ _ _) ?_)
    | (with_reducible refine Eq.trans (State.when_keep _ _ _ ?_) ?_)
    | (with_reducible refine Eq.trans (State.raiseDiag_keep _ _ _) ?_)
    | (with_reducible refine Eq.trans (State.whenLinked_keep _ _ _ ?_) ?_)
    | (with_reducible refine Eq.trans (State.dropUnit_keep _ _) ?_)
    | (with_reducible refine Eq.trans (foldl_keep _ ?_ _ _) ?_)
    | (with_reducible refine Eq.trans (foldl_keep1 _ ?_ _ _) ?_)
    | split
    | (simp only [keep_mk])
    | (dsimp only)
theorem State.armQuad_keep (s : State) (q : QuadId) : (State.armQuad s q).keep = s.keep := by
  unfold State.armQuad
  try dsimp only
  repeat' first
    | with_reducible rfl
    | (intro _)
    | (with_reducible refine Eq.trans (State.modQuad_keep _ _ _) ?_)
    | (with_reducible refine Eq.trans (foldl_keep _ ?_ _ _) ?_)
    | (with_reducible refine Eq.trans (foldl_keep1 _ ?_ _ _) ?_)
    | split
    | (simp only [keep_mk])
    | (dsimp only)
theorem State.enterClass_keep (s : State) (q : QuadId) (k : LClass) : (State.enterClass s q k).keep = s.keep := by
  unfold State.enterClass
  try dsimp only
  repeat' first
    | with_reducible rfl
    | (intro _)
    | (with_reducible refine Eq.trans (State.modChan_keep _ _ _) ?_)
    | (with_reducible refine Eq.trans (State.modQuad_keep _ _ _) ?_)
    | (with_reducible refine Eq.trans (State.reportClass_keep _ _ _) ?_)
    | (with_reducible refine Eq.trans (State.whenLinked_keep _ _ _ ?_) ?_)
    | (with_reducible refine Eq.trans (foldl_keep _ ?_ _ _) ?_)
    | (with_reducible refine Eq.trans (foldl_keep1 _ ?_ _ _) ?_)
    | split
    | (simp only [keep_mk])
    | (dsimp only)
theorem State.leaveSupply_keep (s : State) (q : QuadId) (full : Nat) : (State.leaveSupply s q full).keep = s.keep := by
  unfold State.leaveSupply
  try dsimp only
  repeat' first
    | with_reducible rfl
    | (intro _)
    | (with_reducible refine Eq.trans (State.modQuad_keep _ _ _) ?_)
    | (with_reducible refine Eq.trans (State.whenLinked_keep _ _ _ ?_) ?_)
    | (with_reducible refine Eq.trans (State.supplyReturn_keep _ _) ?_)
    | (with_reducible refine Eq.trans (State.enterClass_keep _ _ _) ?_)
    | (with_reducible refine Eq.trans (foldl_keep _ ?_ _ _) ?_)
    | (with_reducible refine Eq.trans (foldl_keep1 _ ?_ _ _) ?_)
    | split
    | (simp only [keep_mk])
    | (dsimp only)
theorem State.indoubt_keep (s : State) (q : QueueId) (cids : List Word16) (k : Nat) : (State.indoubt s q cids k).keep = s.keep := by
  induction k generalizing s cids with
  | zero => rfl
  | succ k ih => exact Eq.trans (ih _ _) (Eq.trans (State.emit_keep _ _) (Eq.trans (State.modQueue_keep _ _ _) rfl))
theorem State.resumeQueue_keep (s : State) (q : QueueId) (phases : Nat) (cids : List Word16) : (State.resumeQueue s q phases cids).keep = s.keep := by
  unfold State.resumeQueue
  try dsimp only
  repeat' first
    | with_reducible rfl
    | (intro _)
    | (with_reducible refine Eq.trans (State.modQueue_keep _ _ _) ?_)
    | (with_reducible refine Eq.trans (State.drained_keep _ _) ?_)
    | (with_reducible refine Eq.trans (State.signalQueue_keep _ _) ?_)
    | (with_reducible refine Eq.trans (State.indoubt_keep _ _ _ _) ?_)
    | (with_reducible refine Eq.trans (foldl_keep _ ?_ _ _) ?_)
    | (with_reducible refine Eq.trans (foldl_keep1 _ ?_ _ _) ?_)
    | split
    | (simp only [keep_mk])
    | (dsimp only)
theorem State.loadHeader_keep (s : State) (b : List Byte) : (State.loadHeader s b).keep = s.keep := by
  unfold State.loadHeader
  try dsimp only
  repeat' first
    | with_reducible rfl
    | (intro _)
    | (with_reducible refine Eq.trans (State.modMason_keep _ _) ?_)
    | (with_reducible refine Eq.trans (State.modSerial_keep _ _) ?_)
    | (with_reducible refine Eq.trans (State.romWait_keep _ _) ?_)
    | (with_reducible refine Eq.trans (foldl_keep _ ?_ _ _) ?_)
    | (with_reducible refine Eq.trans (foldl_keep1 _ ?_ _ _) ?_)
    | split
    | (simp only [keep_mk])
    | (dsimp only)
theorem State.hotReturn_keep (s : State) (q : QuadId) : (State.hotReturn s q).keep = s.keep := by
  unfold State.hotReturn
  try dsimp only
  repeat' first
    | with_reducible rfl
    | (intro _)
    | (with_reducible refine Eq.trans (State.comeBack_keep _ _ _) ?_)
    | (with_reducible refine Eq.trans (foldl_keep _ ?_ _ _) ?_)
    | (with_reducible refine Eq.trans (foldl_keep1 _ ?_ _ _) ?_)
    | split
    | (simp only [keep_mk])
    | (dsimp only)
theorem State.unreport_keep (s : State) (l : ChanId) (code : Nat) : (State.unreport s l code).keep = s.keep := by
  unfold State.unreport
  try dsimp only
  repeat' first
    | with_reducible rfl
    | (intro _)
    | (with_reducible refine Eq.trans (State.modChan_keep _ _ _) ?_)
    | (with_reducible refine Eq.trans (foldl_keep _ ?_ _ _) ?_)
    | (with_reducible refine Eq.trans (foldl_keep1 _ ?_ _ _) ?_)
    | split
    | (simp only [keep_mk])
    | (dsimp only)
theorem State.noteRange_keep (s : State) (old : State) (c : ChanId) : (State.noteRange s old c).keep = s.keep := by
  unfold State.noteRange
  try dsimp only
  repeat' first
    | with_reducible rfl
    | (intro _)
    | (with_reducible refine Eq.trans (State.modChan_keep _ _ _) ?_)
    | (with_reducible refine Eq.trans (foldl_keep _ ?_ _ _) ?_)
    | (with_reducible refine Eq.trans (foldl_keep1 _ ?_ _ _) ?_)
    | split
    | (simp only [keep_mk])
    | (dsimp only)
theorem State.takeChan_keep (s : State) (c : ChanId) : (State.takeChan s c).keep = s.keep := by
  unfold State.takeChan
  try dsimp only
  repeat' first
    | with_reducible rfl
    | (intro _)
    | (with_reducible refine Eq.trans (State.modChan_keep _ _ _) ?_)
    | (with_reducible refine Eq.trans (State.noteRange_keep _ _ _) ?_)
    | (with_reducible refine Eq.trans (foldl_keep _ ?_ _ _) ?_)
    | (with_reducible refine Eq.trans (foldl_keep1 _ ?_ _ _) ?_)
    | split
    | (simp only [keep_mk])
    | (dsimp only)
theorem State.latchUnit_keep (s : State) (l : ChanId) : (State.latchUnit s l).keep = s.keep := by
  unfold State.latchUnit
  try dsimp only
  repeat' first
    | with_reducible rfl
    | (intro _)
    | (with_reducible refine Eq.trans (State.modChan_keep _ _ _) ?_)
    | (with_reducible refine Eq.trans (State.settleReq_keep _ _ _) ?_)
    | (with_reducible refine Eq.trans (State.raiseDiag_keep _ _ _) ?_)
    | (with_reducible refine Eq.trans (foldl_keep _ ?_ _ _) ?_)
    | (with_reducible refine Eq.trans (foldl_keep1 _ ?_ _ _) ?_)
    | split
    | (simp only [keep_mk])
    | (dsimp only)
theorem State.takeProt_keep (s : State) (c : ChanId) : (State.takeProt s c).keep = s.keep := by
  unfold State.takeProt
  try dsimp only
  repeat' first
    | with_reducible rfl
    | (intro _)
    | (with_reducible refine Eq.trans (State.modChan_keep _ _ _) ?_)
    | (with_reducible refine Eq.trans (State.noteRange_keep _ _ _) ?_)
    | (with_reducible refine Eq.trans (State.latchUnit_keep _ _) ?_)
    | (with_reducible refine Eq.trans (foldl_keep _ ?_ _ _) ?_)
    | (with_reducible refine Eq.trans (foldl_keep1 _ ?_ _ _) ?_)
    | split
    | (simp only [keep_mk])
    | (dsimp only)
theorem State.mailbox_keep (s : State) (q : QuadId) : (State.mailbox s q).keep = s.keep := by
  unfold State.mailbox
  try dsimp only
  repeat' first
    | with_reducible rfl
    | (intro _)
    | (with_reducible refine Eq.trans (State.modQuad_keep _ _ _) ?_)
    | (with_reducible refine Eq.trans (State.takeChan_keep _ _) ?_)
    | (with_reducible refine Eq.trans (State.takeProt_keep _ _) ?_)
    | (with_reducible refine Eq.trans (foldl_keep _ ?_ _ _) ?_)
    | (with_reducible refine Eq.trans (foldl_keep1 _ ?_ _ _) ?_)
    | split
    | (simp only [keep_mk])
    | (dsimp only)
theorem State.goodFrame_keep (s : State) (q : QuadId) (w : BitVec 200) : (State.goodFrame s q w).keep = s.keep := by
  unfold State.goodFrame
  try dsimp only
  repeat' first
    | with_reducible rfl
    | (intro _)
    | (with_reducible refine Eq.trans (State.modChan_keep _ _ _) ?_)
    | (with_reducible refine Eq.trans (State.modQuad_keep _ _ _) ?_)
    | (with_reducible refine Eq.trans (State.retrigger_keep _ _ ?_) ?_)
    | (with_reducible refine Eq.trans (State.setDrvs_keep _ _) ?_)
    | (with_reducible refine Eq.trans (State.mailbox_keep _ _) ?_)
    | (with_reducible refine Eq.trans (foldl_keep _ ?_ _ _) ?_)
    | (with_reducible refine Eq.trans (foldl_keep1 _ ?_ _ _) ?_)
    | split
    | (simp only [keep_mk])
    | (dsimp only)
theorem execAdminQueueEnable_keep (dt : Nat) (s : State) {t : State} (h : execAdminQueueEnable dt s = .next t) : t.keep = (s.elapse dt).keep := by
  simp only [execAdminQueueEnable] at h
  first
    | (injection h with h; subst h)
    | (split at h; exact absurd h (by simp); injection h with h; subst h)
  repeat' first
    | with_reducible rfl
    | (intro _)
    | (with_reducible refine Eq.trans (State.barWrite_keep _ _ _ ?_) ?_)
    | (with_reducible refine Eq.trans (State.adminEnable_keep _) ?_)
    | (with_reducible refine Eq.trans (foldl_keep _ ?_ _ _) ?_)
    | (with_reducible refine Eq.trans (foldl_keep1 _ ?_ _ _) ?_)
    | split
    | (simp only [keep_mk])
    | (dsimp only)
theorem State.slotApply_keep (s : State) (q : QuadId) (i : SlotId) (w0 : Word64) (w1 : Word64) : (State.slotApply s q i w0 w1).keep = s.keep := by
  unfold State.slotApply
  try dsimp only
  repeat' first
    | with_reducible rfl
    | (intro _)
    | (with_reducible refine Eq.trans (State.modSlot_keep _ _ _ _) ?_)
    | (with_reducible refine Eq.trans (State.modAcc_keep _ _ _ _) ?_)
    | (with_reducible refine Eq.trans (State.countMiss_keep _ _ _ _) ?_)
    | (with_reducible refine Eq.trans (State.injectDone_keep _ _ _ _) ?_)
    | (with_reducible refine Eq.trans (State.chainReset_keep _ _ _ _) ?_)
    | (with_reducible refine Eq.trans (foldl_keep _ ?_ _ _) ?_)
    | (with_reducible refine Eq.trans (foldl_keep1 _ ?_ _ _) ?_)
    | split
    | (simp only [keep_mk])
    | (dsimp only)
theorem State.seqApply_keep (s : State) (q : QuadId) (slots : List (SlotId × Word64 × Word64)) (qw : Word64) : (State.seqApply s q slots qw).keep = s.keep := by
  unfold State.seqApply
  try dsimp only
  repeat' first
    | with_reducible rfl
    | (intro _)
    | (with_reducible refine Eq.trans (State.modMeas_keep _ _ _) ?_)
    | (with_reducible refine Eq.trans (State.slotApply_keep _ _ _ _ _) ?_)
    | (with_reducible refine Eq.trans (foldl_keep _ ?_ _ _) ?_)
    | (with_reducible refine Eq.trans (foldl_keep1 _ ?_ _ _) ?_)
    | split
    | (simp only [keep_mk])
    | (dsimp only)
theorem State.injApply_keep (s : State) (q : QuadId) : (State.injApply s q).keep = s.keep := by
  unfold State.injApply
  try dsimp only
  repeat' first
    | with_reducible rfl
    | (intro _)
    | (with_reducible refine Eq.trans (State.modMeas_keep _ _ _) ?_)
    | (with_reducible refine Eq.trans (State.modSlot_keep _ _ _ _) ?_)
    | (with_reducible refine Eq.trans (State.slotApply_keep _ _ _ _ _) ?_)
    | (with_reducible refine Eq.trans (foldl_keep _ ?_ _ _) ?_)
    | (with_reducible refine Eq.trans (foldl_keep1 _ ?_ _ _) ?_)
    | split
    | (simp only [keep_mk])
    | (dsimp only)
theorem State.takeSlots_keep (s : State) (q : QuadId) : (State.takeSlots s q).keep = s.keep := by
  unfold State.takeSlots
  try dsimp only
  repeat' first
    | with_reducible rfl
    | (intro _)
    | (with_reducible refine Eq.trans (State.configOp_keep _ _ _ _ _ _) ?_)
    | (with_reducible refine Eq.trans (State.seqApply_keep _ _ _ _) ?_)
    | (with_reducible refine Eq.trans (State.injApply_keep _ _) ?_)
    | (with_reducible refine Eq.trans (foldl_keep _ ?_ _ _) ?_)
    | (with_reducible refine Eq.trans (foldl_keep1 _ ?_ _ _) ?_)
    | split
    | (simp only [keep_mk])
    | (dsimp only)
theorem State.thermalEvent_keep (s : State) (l : ChanId) : (State.thermalEvent s l).1.keep = s.keep := by
  unfold State.thermalEvent
  try dsimp only
  repeat' first
    | with_reducible rfl
    | (intro _)
    | (with_reducible refine Eq.trans (State.modChan_keep _ _ _) ?_)
    | (with_reducible refine Eq.trans (foldl_keep _ ?_ _ _) ?_)
    | (with_reducible refine Eq.trans (foldl_keep1 _ ?_ _ _) ?_)
    | split
    | (simp only [keep_mk])
    | (dsimp only)
theorem State.offReport_keep (s : State) (l : ChanId) (refOn : Bool) (diag : Option (ChanId × Nat)) :
    (State.offReport s l refOn diag).keep = s.keep := by
  have h : (if refOn then s.thermalEvent l else (s, false)).1.keep = s.keep := by
    cases refOn
    · rfl
    · exact State.thermalEvent_keep s l
  unfold State.offReport
  generalize (if refOn then s.thermalEvent l else (s, false)) = r at h ⊢
  have h2 : (match diag with | some d => r.1.whenLinked (quadOf l) fun s => s.raiseDiag d.1 d.2 | none => r.1).keep = s.keep := by
    split
    · exact Eq.trans (State.whenLinked_keep _ _ _ (State.raiseDiag_keep _ _ _)) h
    · exact h
  dsimp only
  split
  · exact Eq.trans (State.latchUnit_keep _ _) h2
  · exact h2
theorem State.protectOff_keep (s : State) (c : ChanId) (cause : OffCause) (cool : Bool) (diag : Option (ChanId × Nat)) : (State.protectOff s c cause cool diag).keep = s.keep := by
  unfold State.protectOff
  try dsimp only
  repeat' first
    | with_reducible rfl
    | (intro _)
    | (with_reducible refine Eq.trans (State.offUnit_keep _ _ _ _ _) ?_)
    | (with_reducible refine Eq.trans (State.unreport_keep _ _ _) ?_)
    | (with_reducible refine Eq.trans (State.offReport_keep _ _ _ _) ?_)
    | (with_reducible refine Eq.trans (foldl_keep _ ?_ _ _) ?_)
    | (with_reducible refine Eq.trans (foldl_keep1 _ ?_ _ _) ?_)
    | split
    | (simp only [keep_mk])
    | (dsimp only)
theorem execShortLimit_keep (dt : Nat) (c : ChanId) (s : State) {t : State} (h : execShortLimit dt c s = .next t) : t.keep = (s.elapse dt).keep := by
  simp only [execShortLimit] at h
  first
    | (injection h with h; subst h)
    | (split at h; exact absurd h (by simp); injection h with h; subst h)
  repeat' first
    | with_reducible rfl
    | (intro _)
    | (with_reducible refine Eq.trans (State.when_keep _ _ _ ?_) ?_)
    | (with_reducible refine Eq.trans (State.protectOff_keep _ _ _ _ _) ?_)
    | (with_reducible refine Eq.trans (foldl_keep _ ?_ _ _) ?_)
    | (with_reducible refine Eq.trans (foldl_keep1 _ ?_ _ _) ?_)
    | split
    | (simp only [keep_mk])
    | (dsimp only)
theorem execSetArchive_keep (dt : Nat) (n : Word32) (s : State) {t : State} (h : execSetArchive dt n s = .next t) : t.keep = (s.elapse dt).keep := by
  simp only [execSetArchive] at h
  first
    | (injection h with h; subst h)
    | (split at h; exact absurd h (by simp); injection h with h; subst h)
  repeat' first
    | with_reducible rfl
    | (intro _)
    | (with_reducible refine Eq.trans (State.modArch_keep _ _) ?_)
    | (with_reducible refine Eq.trans (State.fset_keep _ _ _ _ _ _ ?_) ?_)
    | (with_reducible refine Eq.trans (State.setCfgDone_keep _ _) ?_)
    | (with_reducible refine Eq.trans (foldl_keep _ ?_ _ _) ?_)
    | (with_reducible refine Eq.trans (foldl_keep1 _ ?_ _ _) ?_)
    | split
    | (simp only [keep_mk])
    | (dsimp only)
theorem execXipRead_keep (dt : Nat) (addr : Nat) (line : List Byte) (next : List Byte) (s : State) {t : State} (h : execXipRead dt addr line next s = .next t) : t.keep = (s.elapse dt).keep := by
  simp only [execXipRead] at h
  first
    | (injection h with h; subst h)
    | (split at h; exact absurd h (by simp); injection h with h; subst h)
  repeat' first
    | with_reducible rfl
    | (intro _)
    | (with_reducible refine Eq.trans (State.when_keep _ _ _ ?_) ?_)
    | (with_reducible refine Eq.trans (State.modSerial_keep _ _) ?_)
    | (with_reducible refine Eq.trans (foldl_keep _ ?_ _ _) ?_)
    | (with_reducible refine Eq.trans (foldl_keep1 _ ?_ _ _) ?_)
    | split
    | (simp only [keep_mk])
    | (dsimp only)
theorem execLplusOverExit_keep (dt : Nat) (r : Lasting QuadId Nat) (full : Nat) (s : State) {t : State} (h : execLplusOverExit dt r full s = .next t) : t.keep = (s.elapse dt).keep := by
  simp only [execLplusOverExit] at h
  first
    | (injection h with h; subst h)
    | (split at h; exact absurd h (by simp); injection h with h; subst h)
  repeat' first
    | with_reducible rfl
    | (intro _)
    | (with_reducible refine Eq.trans (State.lplus_keep _ _ _ _ _ ?_) ?_)
    | (with_reducible refine Eq.trans (State.leaveSupply_keep _ _ _) ?_)
    | (with_reducible refine Eq.trans (foldl_keep _ ?_ _ _) ?_)
    | (with_reducible refine Eq.trans (foldl_keep1 _ ?_ _ _) ?_)
    | split
    | (simp only [keep_mk])
    | (dsimp only)
theorem execLivenessGateFail_keep (dt : Nat) (s : State) {t : State} (h : execLivenessGateFail dt s = .next t) : t.keep = (s.elapse dt).keep := by
  simp only [execLivenessGateFail] at h
  first
    | (injection h with h; subst h)
    | (split at h; exact absurd h (by simp); injection h with h; subst h)
  repeat' first
    | with_reducible rfl
    | (intro _)
    | (with_reducible refine Eq.trans (State.modPair_keep _ _) ?_)
    | (with_reducible refine Eq.trans (State.when_keep _ _ _ ?_) ?_)
    | (with_reducible refine Eq.trans (foldl_keep _ ?_ _ _) ?_)
    | (with_reducible refine Eq.trans (foldl_keep1 _ ?_ _ _) ?_)
    | split
    | (simp only [keep_mk])
    | (dsimp only)
theorem State.dbgRead_keep (s : State) (ue : Bool) : (State.dbgRead s ue).keep = s.keep := by
  unfold State.dbgRead
  try dsimp only
  repeat' first
    | with_reducible rfl
    | (intro _)
    | (with_reducible refine Eq.trans (State.useFresh_keep _) ?_)
    | (with_reducible refine Eq.trans (State.modHost_keep _ _) ?_)
    | (with_reducible refine Eq.trans (State.noteSet_keep _ _) ?_)
    | (with_reducible refine Eq.trans (State.deny_keep _ _ _ _) ?_)
    | (with_reducible refine Eq.trans (State.vaultUe_keep _ _) ?_)
    | (with_reducible refine Eq.trans (State.answer_keep _ _) ?_)
    | (with_reducible refine Eq.trans (foldl_keep _ ?_ _ _) ?_)
    | (with_reducible refine Eq.trans (foldl_keep1 _ ?_ _ _) ?_)
    | split
    | (simp only [keep_mk])
    | (dsimp only)
theorem execDbgDataRead_keep (dt : Nat) (ue : Bool) (s : State) {t : State} (h : execDbgDataRead dt ue s = .next t) : t.keep = (s.elapse dt).keep := by
  simp only [execDbgDataRead] at h
  first
    | (injection h with h; subst h)
    | (split at h; exact absurd h (by simp); injection h with h; subst h)
  repeat' first
    | with_reducible rfl
    | (intro _)
    | (with_reducible refine Eq.trans (State.barRead_keep _ _ _ ?_) ?_)
    | (with_reducible refine Eq.trans (State.dbgRead_keep _ _) ?_)
    | (with_reducible refine Eq.trans (foldl_keep _ ?_ _ _) ?_)
    | (with_reducible refine Eq.trans (foldl_keep1 _ ?_ _ _) ?_)
    | split
    | (simp only [keep_mk])
    | (dsimp only)
theorem State.suspect_keep (s : State) (target : Nat) (obj : Nat) : (State.suspect s target obj).keep = s.keep := by
  unfold State.suspect
  try dsimp only
  repeat' first
    | with_reducible rfl
    | (intro _)
    | (with_reducible refine Eq.trans (State.modCourse_keep _ _) ?_)
    | (with_reducible refine Eq.trans (foldl_keep _ ?_ _ _) ?_)
    | (with_reducible refine Eq.trans (foldl_keep1 _ ?_ _ _) ?_)
    | split
    | (simp only [keep_mk])
    | (dsimp only)
theorem State.courseSwap_keep (s : State) (q : QueueId) (n : Word32) (immediate : Bool) : (State.courseSwap s q n immediate).keep = s.keep := by
  unfold State.courseSwap
  try dsimp only
  repeat' first
    | with_reducible rfl
    | (intro _)
    | (with_reducible refine Eq.trans (State.addOp_keep _ _ _ _) ?_)
    | (with_reducible refine Eq.trans (State.courseSwapRun_keep _ _ _) ?_)
    | (with_reducible refine Eq.trans (foldl_keep _ ?_ _ _) ?_)
    | (with_reducible refine Eq.trans (foldl_keep1 _ ?_ _ _) ?_)
    | split
    | (simp only [keep_mk])
    | (dsimp only)
theorem execTestPulseStart_keep (dt : Nat) (c : ChanId) (s : State) {t : State} (h : execTestPulseStart dt c s = .next t) : t.keep = (s.elapse dt).keep := by
  simp only [execTestPulseStart] at h
  first
    | (injection h with h; subst h)
    | (split at h; exact absurd h (by simp); injection h with h; subst h)
  repeat' first
    | with_reducible rfl
    | (intro _)
    | (with_reducible refine Eq.trans (State.modChan_keep _ _ _) ?_)
    | (with_reducible refine Eq.trans (State.when_keep _ _ _ ?_) ?_)
    | (with_reducible refine Eq.trans (State.modQuad_keep _ _ _) ?_)
    | (with_reducible refine Eq.trans (foldl_keep _ ?_ _ _) ?_)
    | (with_reducible refine Eq.trans (foldl_keep1 _ ?_ _ _) ?_)
    | split
    | (simp only [keep_mk])
    | (dsimp only)
theorem execSlaveWord_keep (dt : Nat) (w : Word32) (s : State) {t : State} (h : execSlaveWord dt w s = .next t) : t.keep = (s.elapse dt).keep := by
  simp only [execSlaveWord] at h
  first
    | (injection h with h; subst h)
    | (split at h; exact absurd h (by simp); injection h with h; subst h)
  repeat' first
    | with_reducible rfl
    | (intro _)
    | (with_reducible refine Eq.trans (State.deny_keep _ _ _ _) ?_)
    | (with_reducible refine Eq.trans (State.when_keep _ _ _ ?_) ?_)
    | (with_reducible refine Eq.trans (State.modSerial_keep _ _) ?_)
    | (with_reducible refine Eq.trans (State.drainRx_keep _) ?_)
    | (with_reducible refine Eq.trans (foldl_keep _ ?_ _ _) ?_)
    | (with_reducible refine Eq.trans (foldl_keep1 _ ?_ _ _) ?_)
    | split
    | (simp only [keep_mk])
    | (dsimp only)
theorem execHiDevcauseWrite_keep (dt : Nat) (v : Word32) (s : State) {t : State} (h : execHiDevcauseWrite dt v s = .next t) : t.keep = (s.elapse dt).keep := by
  simp only [execHiDevcauseWrite] at h
  first
    | (injection h with h; subst h)
    | (split at h; exact absurd h (by simp); injection h with h; subst h)
  repeat' first
    | with_reducible rfl
    | (intro _)
    | (with_reducible refine Eq.trans (State.barWrite_keep _ _ _ ?_) ?_)
    | (with_reducible refine Eq.trans (State.clearCauses_keep _ _) ?_)
    | (with_reducible refine Eq.trans (foldl_keep _ ?_ _ _) ?_)
    | (with_reducible refine Eq.trans (foldl_keep1 _ ?_ _ _) ?_)
    | split
    | (simp only [keep_mk])
    | (dsimp only)
theorem execSpCollide_keep (dt : Nat) (sel : Fin 2 × Fin 3) (s : State) {t : State} (h : execSpCollide dt sel s = .next t) : t.keep = (s.elapse dt).keep := by
  simp only [execSpCollide] at h
  first
    | (injection h with h; subst h)
    | (split at h; exact absurd h (by simp); injection h with h; subst h)
  repeat' first
    | with_reducible rfl
    | (intro _)
    | (with_reducible refine Eq.trans (State.when_keep _ _ _ ?_) ?_)
    | (with_reducible refine Eq.trans (State.modSerial_keep _ _) ?_)
    | (with_reducible refine Eq.trans (State.raiseCause_keep _ _) ?_)
    | (with_reducible refine Eq.trans (foldl_keep _ ?_ _ _) ?_)
    | (with_reducible refine Eq.trans (foldl_keep1 _ ?_ _ _) ?_)
    | split
    | (simp only [keep_mk])
    | (dsimp only)
theorem State.finalDone_keep (s : State) : (State.finalDone s).keep = s.keep := by
  unfold State.finalDone
  try dsimp only
  repeat' first
    | with_reducible rfl
    | (intro _)
    | (with_reducible refine Eq.trans (State.modPair_keep _ _) ?_)
    | (with_reducible refine Eq.trans (State.completeOp_keep _ _ _ _ _ _) ?_)
    | (with_reducible refine Eq.trans (State.zsend_keep _ _) ?_)
    | (with_reducible refine Eq.trans (State.roleLoss_keep _ _) ?_)
    | (with_reducible refine Eq.trans (foldl_keep _ ?_ _ _) ?_)
    | (with_reducible refine Eq.trans (foldl_keep1 _ ?_ _ _) ?_)
    | split
    | (simp only [keep_mk])
    | (dsimp only)
theorem State.checkpointDone_keep (s : State) (c : Capture) : (State.checkpointDone s c).keep = s.keep := by
  unfold State.checkpointDone
  try dsimp only
  repeat' first
    | with_reducible rfl
    | (intro _)
    | (with_reducible refine Eq.trans (State.modPair_keep _ _) ?_)
    | (with_reducible refine Eq.trans (State.completeOp_keep _ _ _ _ _ _) ?_)
    | (with_reducible refine Eq.trans (State.finalCapture_keep _) ?_)
    | (with_reducible refine Eq.trans (State.logged_keep _ _ _) ?_)
    | (with_reducible refine Eq.trans (State.finalDone_keep _) ?_)
    | (with_reducible refine Eq.trans (foldl_keep _ ?_ _ _) ?_)
    | (with_reducible refine Eq.trans (foldl_keep1 _ ?_ _ _) ?_)
    | split
    | (simp only [keep_mk])
    | (dsimp only)
theorem State.armSent_keep (s : State) (q : QuadId) (o : Op) (todo : BitVec 4) (done : BitVec 4) (part : Bool) : (State.armSent s q o todo done part).keep = s.keep := by
  unfold State.armSent
  try dsimp only
  repeat' first
    | with_reducible rfl
    | (intro _)
    | (with_reducible refine Eq.trans (State.replaceOp_keep _ _ _) ?_)
    | (with_reducible refine Eq.trans (State.configOp_keep _ _ _ _ _ _) ?_)
    | (with_reducible refine Eq.trans (foldl_keep _ ?_ _ _) ?_)
    | (with_reducible refine Eq.trans (foldl_keep1 _ ?_ _ _) ?_)
    | split
    | (simp only [keep_mk])
    | (dsimp only)
theorem State.outSent_keep (s : State) (q : QuadId) (o : Op) (x : OutOp) : (State.outSent s q o x).keep = s.keep := by
  unfold State.outSent
  try dsimp only
  repeat' first
    | with_reducible rfl
    | (intro _)
    | (with_reducible refine Eq.trans (State.outDecided_keep _ _ _) ?_)
    | (with_reducible refine Eq.trans (State.setOut_keep _ _ _) ?_)
    | (with_reducible refine Eq.trans (foldl_keep _ ?_ _ _) ?_)
    | (with_reducible refine Eq.trans (foldl_keep1 _ ?_ _ _) ?_)
    | split
    | (simp only [keep_mk])
    | (dsimp only)
theorem State.frameSent_keep (s : State) (q : QuadId) : (State.frameSent s q).keep = s.keep := by
  unfold State.frameSent
  try dsimp only
  repeat' first
    | with_reducible rfl
    | (intro _)
    | (with_reducible refine Eq.trans (State.disarmSent_keep _ _ _ _ _) ?_)
    | (with_reducible refine Eq.trans (State.armSent_keep _ _ _ _ _ _) ?_)
    | (with_reducible refine Eq.trans (State.outSent_keep _ _ _ _) ?_)
    | (with_reducible refine Eq.trans (foldl_keep _ ?_ _ _) ?_)
    | (with_reducible refine Eq.trans (foldl_keep1 _ ?_ _ _) ?_)
    | split
    | (simp only [keep_mk])
    | (dsimp only)
theorem State.disarmQuad_keep (s : State) (q : QuadId) : (State.disarmQuad s q).keep = s.keep := by
  unfold State.disarmQuad
  try dsimp only
  repeat' first
    | with_reducible rfl
    | (intro _)
    | (with_reducible refine Eq.trans (State.modQuad_keep _ _ _) ?_)
    | (with_reducible refine Eq.trans (State.retrigger_keep _ _ ?_) ?_)
    | (with_reducible refine Eq.trans (foldl_keep _ ?_ _ _) ?_)
    | (with_reducible refine Eq.trans (foldl_keep1 _ ?_ _ _) ?_)
    | split
    | (simp only [keep_mk])
    | (dsimp only)
theorem execArm_keep (dt : Nat) (q : QueueId) (n : Word32) (s : State) {t : State} (h : execArm dt q n s = .next t) : t.keep = (s.elapse dt).keep := by
  simp only [execArm] at h
  first
    | (injection h with h; subst h)
    | (split at h; exact absurd h (by simp); injection h with h; subst h)
  repeat' first
    | with_reducible rfl
    | (intro _)
    | (with_reducible refine Eq.trans (State.addOp_keep _ _ _ _) ?_)
    | (with_reducible refine Eq.trans (State.finish_keep _ _ _ _ _) ?_)
    | (with_reducible refine Eq.trans (State.io_keep _ _ _ _ _ _ _ ?_) ?_)
    | (with_reducible refine Eq.trans (State.armQuad_keep _ _) ?_)
    | (with_reducible refine Eq.trans (foldl_keep _ ?_ _ _) ?_)
    | (with_reducible refine Eq.trans (foldl_keep1 _ ?_ _ _) ?_)
    | split
    | (simp only [keep_mk])
    | (dsimp only)
theorem execOutOn_keep (dt : Nat) (b : CBankId) (i : Nat) (s : State) {t : State} (h : execOutOn dt b i s = .next t) : t.keep = (s.elapse dt).keep := by
  simp only [execOutOn] at h
  first
    | (injection h with h; subst h)
    | (split at h; exact absurd h (by simp); injection h with h; subst h)
  repeat' first
    | with_reducible rfl
    | (intro _)
    | (with_reducible refine Eq.trans (State.fireEntry_keep _ _ _ _ _ ?_) ?_)
    | (with_reducible refine Eq.trans (State.courseChan_keep _ _ _ ?_) ?_)
    | (with_reducible refine keep_pair (by assumption) (Eq.trans (State.setLevel_keep _ _ _ _) ?_))
    | (with_reducible refine Eq.trans (State.setLevel_keep _ _ _ _) ?_)
    | (with_reducible refine Eq.trans (foldl_keep _ ?_ _ _) ?_)
    | (with_reducible refine Eq.trans (foldl_keep1 _ ?_ _ _) ?_)
    | split
    | (simp only [keep_mk])
    | (dsimp only)
theorem State.angleClear_keep (s : State) : (State.angleClear s).keep = s.keep := by
  unfold State.angleClear
  try dsimp only
  repeat' first
    | with_reducible rfl
    | (intro _)
    | (with_reducible refine Eq.trans (State.modAng_keep _ _) ?_)
    | (with_reducible refine Eq.trans (State.stopFiring_keep _ _) ?_)
    | (with_reducible refine Eq.trans (foldl_keep _ ?_ _ _) ?_)
    | (with_reducible refine Eq.trans (foldl_keep1 _ ?_ _ _) ?_)
    | split
    | (simp only [keep_mk])
    | (dsimp only)
theorem execAngleConfig_keep (dt : Nat) (q : QueueId) (n : Word32) (s : State) {t : State} (h : execAngleConfig dt q n s = .next t) : t.keep = (s.elapse dt).keep := by
  simp only [execAngleConfig] at h
  first
    | (injection h with h; subst h)
    | (split at h; exact absurd h (by simp); injection h with h; subst h)
  repeat' first
    | with_reducible rfl
    | (intro _)
    | (with_reducible refine Eq.trans (State.configDone_keep _ _ _ _ _ _ _ _) ?_)
    | (with_reducible refine Eq.trans (State.finish_keep _ _ _ _ _) ?_)
    | (with_reducible refine Eq.trans (State.io_keep _ _ _ _ _ _ _ ?_) ?_)
    | (with_reducible refine Eq.trans (State.modAng_keep _ _) ?_)
    | (with_reducible refine Eq.trans (State.angleTick_keep _) ?_)
    | (with_reducible refine Eq.trans (State.reference_keep _ _) ?_)
    | (with_reducible refine Eq.trans (State.angleClear_keep _) ?_)
    | (with_reducible refine Eq.trans (foldl_keep _ ?_ _ _) ?_)
    | (with_reducible refine Eq.trans (foldl_keep1 _ ?_ _ _) ?_)
    | split
    | (simp only [keep_mk])
    | (dsimp only)
theorem execSafeNLow_keep (dt : Nat) (s : State) {t : State} (h : execSafeNLow dt s = .next t) : t.keep = (s.elapse dt).keep := by
  simp only [execSafeNLow] at h
  first
    | (injection h with h; subst h)
    | (split at h; exact absurd h (by simp); injection h with h; subst h)
  repeat' first
    | with_reducible rfl
    | (intro _)
    | (with_reducible refine Eq.trans (State.when_keep _ _ _ ?_) ?_)
    | (with_reducible refine Eq.trans (State.retrigger_keep _ _ ?_) ?_)
    | (with_reducible refine Eq.trans (State.driveSelf_keep _ _) ?_)
    | (with_reducible refine Eq.trans (foldl_keep _ ?_ _ _) ?_)
    | (with_reducible refine Eq.trans (foldl_keep1 _ ?_ _ _) ?_)
    | split
    | (simp only [keep_mk])
    | (dsimp only)
theorem execDieHot_keep (dt : Nat) (r : Sensed QuadId Int) (s : State) {t : State} (h : execDieHot dt r s = .next t) : t.keep = (s.elapse dt).keep := by
  simp only [execDieHot] at h
  first
    | (injection h with h; subst h)
    | (split at h; exact absurd h (by simp); injection h with h; subst h)
  repeat' first
    | with_reducible rfl
    | (intro _)
    | (with_reducible refine Eq.trans (State.when_keep _ _ _ ?_) ?_)
    | (with_reducible refine Eq.trans (State.modQuad_keep _ _ _) ?_)
    | (with_reducible refine Eq.trans (State.raiseQuadDiag_keep _ _ _) ?_)
    | (with_reducible refine Eq.trans (State.whenLinked_keep _ _ _ ?_) ?_)
    | (with_reducible refine Eq.trans (State.protectOff_keep _ _ _ _ _) ?_)
    | (with_reducible refine Eq.trans (foldl_keep _ ?_ _ _) ?_)
    | (with_reducible refine Eq.trans (foldl_keep1 _ ?_ _ _) ?_)
    | split
    | (simp only [keep_mk])
    | (dsimp only)
theorem execAdcTrigger_keep (dt : Nat) (b : CBankId) (i : Nat) (s : State) {t : State} (h : execAdcTrigger dt b i s = .next t) : t.keep = (s.elapse dt).keep := by
  simp only [execAdcTrigger] at h
  first
    | (injection h with h; subst h)
    | (split at h; exact absurd h (by simp); injection h with h; subst h)
  repeat' first
    | with_reducible rfl
    | (intro _)
    | (with_reducible refine Eq.trans (State.trigSlot_keep _ _ _ _ _) ?_)
    | (with_reducible refine Eq.trans (State.modCourse_keep _ _) ?_)
    | (with_reducible refine Eq.trans (State.fireEntry_keep _ _ _ _ _ ?_) ?_)
    | (with_reducible refine Eq.trans (foldl_keep _ ?_ _ _) ?_)
    | (with_reducible refine Eq.trans (foldl_keep1 _ ?_ _ _) ?_)
    | split
    | (simp only [keep_mk])
    | (dsimp only)
theorem execPairControlHandover_keep (dt : Nat) (n : Word32) (s : State) {t : State} (h : execPairControlHandover dt n s = .next t) : t.keep = (s.elapse dt).keep := by
  simp only [execPairControlHandover] at h
  first
    | (injection h with h; subst h)
    | (split at h; exact absurd h (by simp); injection h with h; subst h)
  repeat' first
    | with_reducible rfl
    | (intro _)
    | (with_reducible refine Eq.trans (State.modPair_keep _ _) ?_)
    | (with_reducible refine Eq.trans (State.addOp_keep _ _ _ _) ?_)
    | (with_reducible refine Eq.trans (State.finish_keep _ _ _ _ _) ?_)
    | (with_reducible refine Eq.trans (State.adm_keep _ _ _ _ _ _ ?_) ?_)
    | (with_reducible refine Eq.trans (State.freeMason_keep _) ?_)
    | (with_reducible refine Eq.trans (foldl_keep _ ?_ _ _) ?_)
    | (with_reducible refine Eq.trans (foldl_keep1 _ ?_ _ _) ?_)
    | split
    | (simp only [keep_mk])
    | (dsimp only)
theorem execPairControlResync_keep (dt : Nat) (n : Word32) (s : State) {t : State} (h : execPairControlResync dt n s = .next t) : t.keep = (s.elapse dt).keep := by
  simp only [execPairControlResync] at h
  first
    | (injection h with h; subst h)
    | (split at h; exact absurd h (by simp); injection h with h; subst h)
  repeat' first
    | with_reducible rfl
    | (intro _)
    | (with_reducible refine Eq.trans (State.addOp_keep _ _ _ _) ?_)
    | (with_reducible refine Eq.trans (State.finish_keep _ _ _ _ _) ?_)
    | (with_reducible refine Eq.trans (State.adm_keep _ _ _ _ _ _ ?_) ?_)
    | (with_reducible refine Eq.trans (State.freeMason_keep _) ?_)
    | (with_reducible refine Eq.trans (State.startResync_keep _ _) ?_)
    | (with_reducible refine Eq.trans (foldl_keep _ ?_ _ _) ?_)
    | (with_reducible refine Eq.trans (foldl_keep1 _ ?_ _ _) ?_)
    | split
    | (simp only [keep_mk])
    | (dsimp only)
theorem State.takePulse_keep (s : State) (c : ChanId) : (State.takePulse s c).keep = s.keep := by
  unfold State.takePulse
  try dsimp only
  repeat' first
    | with_reducible rfl
    | (intro _)
    | (with_reducible refine Eq.trans (State.modChan_keep _ _ _) ?_)
    | (with_reducible refine keep_pair (by assumption) (Eq.trans (State.updateGen_keep _ _ _ _ _) ?_))
    | (with_reducible refine Eq.trans (State.updateGen_keep _ _ _ _ _) ?_)
    | (with_reducible refine Eq.trans (foldl_keep _ ?_ _ _) ?_)
    | (with_reducible refine Eq.trans (foldl_keep1 _ ?_ _ _) ?_)
    | split
    | (simp only [keep_mk])
    | (dsimp only)
theorem State.takePulses_keep (s : State) (q : QuadId) : (State.takePulses s q).keep = s.keep := by
  unfold State.takePulses
  try dsimp only
  repeat' first
    | with_reducible rfl
    | (intro _)
    | (with_reducible refine Eq.trans (State.takePulse_keep _ _) ?_)
    | (with_reducible refine Eq.trans (foldl_keep _ ?_ _ _) ?_)
    | (with_reducible refine Eq.trans (foldl_keep1 _ ?_ _ _) ?_)
    | split
    | (simp only [keep_mk])
    | (dsimp only)
theorem execReverseClear_keep (dt : Nat) (r : Lasting ChanId Int) (s : State) {t : State} (h : execReverseClear dt r s = .next t) : t.keep = (s.elapse dt).keep := by
  simp only [execReverseClear] at h
  first
    | (injection h with h; subst h)
    | (split at h; exact absurd h (by simp); injection h with h; subst h)
  repeat' first
    | with_reducible rfl
    | (intro _)
    | (with_reducible refine Eq.trans (State.modChan_keep _ _ _) ?_)
    | (with_reducible refine Eq.trans (State.when_keep _ _ _ ?_) ?_)
    | (with_reducible refine Eq.trans (State.clearDiag_keep _ _ _) ?_)
    | (with_reducible refine Eq.trans (State.whenLinked_keep _ _ _ ?_) ?_)
    | (with_reducible refine Eq.trans (State.comeBack_keep _ _ _) ?_)
    | (with_reducible refine Eq.trans (foldl_keep _ ?_ _ _) ?_)
    | (with_reducible refine Eq.trans (foldl_keep1 _ ?_ _ _) ?_)
    | split
    | (simp only [keep_mk])
    | (dsimp only)
theorem State.abandon_keep (s : State) : (State.abandon s).keep = s.keep := by
  unfold State.abandon
  try dsimp only
  repeat' first
    | with_reducible rfl
    | (intro _)
    | (with_reducible refine Eq.trans (State.modPair_keep _ _) ?_)
    | (with_reducible refine Eq.trans (foldl_keep _ ?_ _ _) ?_)
    | (with_reducible refine Eq.trans (foldl_keep1 _ ?_ _ _) ?_)
    | split
    | (simp only [keep_mk])
    | (dsimp only)
theorem State.scrubUe_keep (s : State) (status : Option QuadId) (a : Nat) : (State.scrubUe s status a).keep = s.keep := by
  unfold State.scrubUe
  try dsimp only
  repeat' first
    | with_reducible rfl
    | (intro _)
    | (with_reducible refine Eq.trans (State.modMeas_keep _ _ _) ?_)
    | (with_reducible refine Eq.trans (State.modArch_keep _ _) ?_)
    | (with_reducible refine Eq.trans (State.modCourse_keep _ _) ?_)
    | (with_reducible refine Eq.trans (State.modQuad_keep _ _ _) ?_)
    | (with_reducible refine Eq.trans (State.vaultUe_keep _ _) ?_)
    | (with_reducible refine Eq.trans (State.abandon_keep _) ?_)
    | (with_reducible refine Eq.trans (foldl_keep _ ?_ _ _) ?_)
    | (with_reducible refine Eq.trans (foldl_keep1 _ ?_ _ _) ?_)
    | split
    | (simp only [keep_mk])
    | (dsimp only)
theorem execScrubRequest_keep (dt : Nat) (bank : Fin 4) (e : Ecc) (s : State) {t : State} (h : execScrubRequest dt bank e s = .next t) : t.keep = (s.elapse dt).keep := by
  simp only [execScrubRequest] at h
  first
    | (injection h with h; subst h)
    | (split at h; exact absurd h (by simp); injection h with h; subst h)
  repeat' first
    | with_reducible rfl
    | (intro _)
    | (with_reducible refine Eq.trans (State.when_keep _ _ _ ?_) ?_)
    | (with_reducible refine Eq.trans (State.scrubUe_keep _ _ _) ?_)
    | (with_reducible refine Eq.trans (foldl_keep _ ?_ _ _) ?_)
    | (with_reducible refine Eq.trans (foldl_keep1 _ ?_ _ _) ?_)
    | split
    | (simp only [keep_mk])
    | (dsimp only)
theorem execMark_keep (dt : Nat) (b : CBankId) (i : Nat) (s : State) {t : State} (h : execMark dt b i s = .next t) : t.keep = (s.elapse dt).keep := by
  simp only [execMark] at h
  first
    | (injection h with h; subst h)
    | (split at h; exact absurd h (by simp); injection h with h; subst h)
  repeat' first
    | with_reducible rfl
    | (intro _)
    | (with_reducible refine Eq.trans (State.mark_keep _ _ _ _ _ _) ?_)
    | (with_reducible refine Eq.trans (State.fireEntry_keep _ _ _ _ _ ?_) ?_)
    | (with_reducible refine Eq.trans (foldl_keep _ ?_ _ _) ?_)
    | (with_reducible refine Eq.trans (foldl_keep1 _ ?_ _ _) ?_)
    | split
    | (simp only [keep_mk])
    | (dsimp only)
theorem State.filterApply_keep (s : State) (k : ChainId) (c0 : Word64) (c1 : Word64) (c2 : Word64) : (State.filterApply s k c0 c1 c2).keep = s.keep := by
  unfold State.filterApply
  try dsimp only
  repeat' first
    | with_reducible rfl
    | (intro _)
    | (with_reducible refine Eq.trans (State.modChain_keep _ _ _) ?_)
    | (with_reducible refine Eq.trans (State.chainRecord_keep _ _ _ _ _ _ _) ?_)
    | (with_reducible refine Eq.trans (State.closeBatch_keep _ _ _) ?_)
    | (with_reducible refine Eq.trans (State.chainStop_keep _ _ _ _) ?_)
    | (with_reducible refine Eq.trans (State.chainStart_keep _ _ _ _) ?_)
    | (with_reducible refine Eq.trans (foldl_keep _ ?_ _ _) ?_)
    | (with_reducible refine Eq.trans (foldl_keep1 _ ?_ _ _) ?_)
    | split
    | (simp only [keep_mk])
    | (dsimp only)
theorem execSidebandRecordTimeout_keep (dt : Nat) (s : State) {t : State} (h : execSidebandRecordTimeout dt s = .next t) : t.keep = (s.elapse dt).keep := by
  simp only [execSidebandRecordTimeout] at h
  first
    | (injection h with h; subst h)
    | (split at h; exact absurd h (by simp); injection h with h; subst h)
  repeat' first
    | with_reducible rfl
    | (intro _)
    | (with_reducible refine Eq.trans (State.when_keep _ _ _ ?_) ?_)
    | (with_reducible refine Eq.trans (State.stageOpen_keep _) ?_)
    | (with_reducible refine Eq.trans (State.drainRx_keep _) ?_)
    | (with_reducible refine Eq.trans (foldl_keep _ ?_ _ _) ?_)
    | (with_reducible refine Eq.trans (foldl_keep1 _ ?_ _ _) ?_)
    | split
    | (simp only [keep_mk])
    | (dsimp only)
theorem State.holdBack_keep (s : State) (q : QuadId) : (State.holdBack s q).keep = s.keep := by
  unfold State.holdBack
  try dsimp only
  repeat' first
    | with_reducible rfl
    | (intro _)
    | (with_reducible refine Eq.trans (foldl_keep _ ?_ _ _) ?_)
    | (with_reducible refine Eq.trans (foldl_keep1 _ ?_ _ _) ?_)
    | split
    | (simp only [keep_mk])
    | (dsimp only)
theorem State.badFrame_keep (s : State) (q : QuadId) : (State.badFrame s q).keep = s.keep := by
  unfold State.badFrame
  try dsimp only
  repeat' first
    | with_reducible rfl
    | (intro _)
    | (with_reducible refine Eq.trans (State.modQuad_keep _ _ _) ?_)
    | (with_reducible refine Eq.trans (foldl_keep _ ?_ _ _) ?_)
    | (with_reducible refine Eq.trans (foldl_keep1 _ ?_ _ _) ?_)
    | split
    | (simp only [keep_mk])
    | (dsimp only)
theorem State.takeBudgets_keep (s : State) (q : QuadId) : (State.takeBudgets s q).keep = s.keep := by
  unfold State.takeBudgets
  try dsimp only
  repeat' first
    | with_reducible rfl
    | (intro _)
    | (with_reducible refine Eq.trans (State.modChan_keep _ _ _) ?_)
    | (with_reducible refine Eq.trans (State.modQuad_keep _ _ _) ?_)
    | (with_reducible refine Eq.trans (foldl_keep _ ?_ _ _) ?_)
    | (with_reducible refine Eq.trans (foldl_keep1 _ ?_ _ _) ?_)
    | split
    | (simp only [keep_mk])
    | (dsimp only)
theorem State.takeReadings_keep (s : State) (q : QuadId) (r : Readings) : (State.takeReadings s q r).keep = s.keep := by
  unfold State.takeReadings
  try dsimp only
  repeat' first
    | with_reducible rfl
    | (intro _)
    | (with_reducible refine Eq.trans (State.modChan_keep _ _ _) ?_)
    | (with_reducible refine Eq.trans (State.modQuad_keep _ _ _) ?_)
    | (with_reducible refine Eq.trans (foldl_keep _ ?_ _ _) ?_)
    | (with_reducible refine Eq.trans (foldl_keep1 _ ?_ _ _) ?_)
    | split
    | (simp only [keep_mk])
    | (dsimp only)
theorem State.takeArm_keep (s : State) (q : QuadId) : (State.takeArm s q).keep = s.keep := by
  unfold State.takeArm
  try dsimp only
  repeat' first
    | with_reducible rfl
    | (intro _)
    | (with_reducible refine Eq.trans (State.modQuad_keep _ _ _) ?_)
    | (with_reducible refine Eq.trans (State.retrigger_keep _ _ ?_) ?_)
    | (with_reducible refine Eq.trans (foldl_keep _ ?_ _ _) ?_)
    | (with_reducible refine Eq.trans (foldl_keep1 _ ?_ _ _) ?_)
    | split
    | (simp only [keep_mk])
    | (dsimp only)
theorem State.cutFrame_keep (s : State) (q : QuadId) : (State.cutFrame s q).keep = s.keep := by
  unfold State.cutFrame
  try dsimp only
  repeat' first
    | with_reducible rfl
    | (intro _)
    | (with_reducible refine Eq.trans (State.modChan_keep _ _ _) ?_)
    | (with_reducible refine Eq.trans (State.eventDiag_keep _ _ _ _) ?_)
    | (with_reducible refine Eq.trans (foldl_keep _ ?_ _ _) ?_)
    | (with_reducible refine Eq.trans (foldl_keep1 _ ?_ _ _) ?_)
    | split
    | (simp only [keep_mk])
    | (dsimp only)
theorem State.thermalFrame_keep (s : State) (q : QuadId) : (State.thermalFrame s q).keep = s.keep := by
  unfold State.thermalFrame
  try dsimp only
  repeat' first
    | with_reducible rfl
    | (intro _)
    | (with_reducible refine Eq.trans (State.modChan_keep _ _ _) ?_)
    | (with_reducible refine Eq.trans (foldl_keep _ ?_ _ _) ?_)
    | (with_reducible refine Eq.trans (foldl_keep1 _ ?_ _ _) ?_)
    | split
    | (simp only [keep_mk])
    | (dsimp only)
theorem State.restartFrame_keep (s : State) (q : QuadId) : (State.restartFrame s q).keep = s.keep := by
  unfold State.restartFrame
  try dsimp only
  repeat' first
    | with_reducible rfl
    | (intro _)
    | (with_reducible refine Eq.trans (State.comeBack_keep _ _ _) ?_)
    | (with_reducible refine Eq.trans (State.latchUnit_keep _ _) ?_)
    | (with_reducible refine Eq.trans (foldl_keep _ ?_ _ _) ?_)
    | (with_reducible refine Eq.trans (foldl_keep1 _ ?_ _ _) ?_)
    | split
    | (simp only [keep_mk])
    | (dsimp only)
theorem State.testFrame_keep (s : State) (q : QuadId) : (State.testFrame s q).keep = s.keep := by
  unfold State.testFrame
  try dsimp only
  repeat' first
    | with_reducible rfl
    | (intro _)
    | (with_reducible refine Eq.trans (State.modChan_keep _ _ _) ?_)
    | (with_reducible refine Eq.trans (foldl_keep _ ?_ _ _) ?_)
    | (with_reducible refine Eq.trans (foldl_keep1 _ ?_ _ _) ?_)
    | split
    | (simp only [keep_mk])
    | (dsimp only)
theorem State.takeoverOns_keep (s : State) (q : QuadId) : (State.takeoverOns s q).keep = s.keep := by
  unfold State.takeoverOns
  try dsimp only
  repeat' first
    | with_reducible rfl
    | (intro _)
    | (with_reducible refine Eq.trans (State.modChan_keep _ _ _) ?_)
    | (with_reducible refine Eq.trans (State.modPair_keep _ _) ?_)
    | (with_reducible refine Eq.trans (foldl_keep _ ?_ _ _) ?_)
    | (with_reducible refine Eq.trans (foldl_keep1 _ ?_ _ _) ?_)
    | split
    | (simp only [keep_mk])
    | (dsimp only)
theorem State.coreFrame_keep (s : State) (q : QuadId) (r : Readings) : (State.coreFrame s q r).keep = s.keep := by
  unfold State.coreFrame
  try dsimp only
  repeat' first
    | with_reducible rfl
    | (intro _)
    | (with_reducible refine Eq.trans (State.modQuad_keep _ _ _) ?_)
    | (with_reducible refine Eq.trans (State.configStep_keep _ _) ?_)
    | (with_reducible refine Eq.trans (State.respread_keep _ _) ?_)
    | (with_reducible refine Eq.trans (State.takeSlots_keep _ _) ?_)
    | (with_reducible refine Eq.trans (State.takePulses_keep _ _) ?_)
    | (with_reducible refine Eq.trans (State.takeBudgets_keep _ _) ?_)
    | (with_reducible refine Eq.trans (State.takeReadings_keep _ _ _) ?_)
    | (with_reducible refine Eq.trans (State.takeArm_keep _ _) ?_)
    | (with_reducible refine Eq.trans (State.cutFrame_keep _ _) ?_)
    | (with_reducible refine Eq.trans (State.thermalFrame_keep _ _) ?_)
    | (with_reducible refine Eq.trans (State.restartFrame_keep _ _) ?_)
    | (with_reducible refine Eq.trans (State.testFrame_keep _ _) ?_)
    | (with_reducible refine Eq.trans (State.takeoverOns_keep _ _) ?_)
    | (with_reducible refine Eq.trans (foldl_keep _ ?_ _ _) ?_)
    | (with_reducible refine Eq.trans (foldl_keep1 _ ?_ _ _) ?_)
    | split
    | (simp only [keep_mk])
    | (dsimp only)
theorem execThermOff_keep (dt : Nat) (r : Sensed ChanId Int) (s : State) {t : State} (h : execThermOff dt r s = .next t) : t.keep = (s.elapse dt).keep := by
  simp only [execThermOff] at h
  first
    | (injection h with h; subst h)
    | (split at h; exact absurd h (by simp); injection h with h; subst h)
  repeat' first
    | with_reducible rfl
    | (intro _)
    | (with_reducible refine Eq.trans (State.modChan_keep _ _ _) ?_)
    | (with_reducible refine Eq.trans (State.when_keep _ _ _ ?_) ?_)
    | (with_reducible refine Eq.trans (State.protectOff_keep _ _ _ _ _) ?_)
    | (with_reducible refine Eq.trans (foldl_keep _ ?_ _ _) ?_)
    | (with_reducible refine Eq.trans (foldl_keep1 _ ?_ _ _) ?_)
    | split
    | (simp only [keep_mk])
    | (dsimp only)
theorem State.fetchFailed_keep (s : State) (q : QueueId) (first : Word32) (count : Nat) : (State.fetchFailed s q first count).keep = s.keep := by
  unfold State.fetchFailed
  try dsimp only
  repeat' first
    | with_reducible rfl
    | (intro _)
    | (with_reducible refine Eq.trans (State.modQueue_keep _ _ _) ?_)
    | (with_reducible refine Eq.trans (State.drained_keep _ _) ?_)
    | (with_reducible refine Eq.trans (State.finishDrains_keep _) ?_)
    | (with_reducible refine Eq.trans (State.raiseCause_keep _ _) ?_)
    | (with_reducible refine Eq.trans (foldl_keep _ ?_ _ _) ?_)
    | (with_reducible refine Eq.trans (foldl_keep1 _ ?_ _ _) ?_)
    | split
    | (simp only [keep_mk])
    | (dsimp only)
theorem execSetPlumbSchedule_keep (dt : Nat) (n : Word32) (s : State) {t : State} (h : execSetPlumbSchedule dt n s = .next t) : t.keep = (s.elapse dt).keep := by
  simp only [execSetPlumbSchedule] at h
  first
    | (injection h with h; subst h)
    | (split at h; exact absurd h (by simp); injection h with h; subst h)
  repeat' first
    | with_reducible rfl
    | (intro _)
    | (with_reducible refine Eq.trans (State.finish_keep _ _ _ _ _) ?_)
    | (with_reducible refine Eq.trans (State.modPlumb_keep _ _ _) ?_)
    | (with_reducible refine Eq.trans (State.fset_keep _ _ _ _ _ _ ?_) ?_)
    | (with_reducible refine Eq.trans (State.setCfgDone_keep _ _) ?_)
    | (with_reducible refine Eq.trans (foldl_keep _ ?_ _ _) ?_)
    | (with_reducible refine Eq.trans (foldl_keep1 _ ?_ _ _) ?_)
    | split
    | (simp only [keep_mk])
    | (dsimp only)
theorem execPulseStart_keep (dt : Nat) (b : CBankId) (i : Nat) (s : State) {t : State} (h : execPulseStart dt b i s = .next t) : t.keep = (s.elapse dt).keep := by
  simp only [execPulseStart] at h
  first
    | (injection h with h; subst h)
    | (split at h; exact absurd h (by simp); injection h with h; subst h)
  repeat' first
    | with_reducible rfl
    | (intro _)
    | (with_reducible refine keep_pair (by assumption) (Eq.trans (State.startGen_keep _ _ _ _ _) ?_))
    | (with_reducible refine Eq.trans (State.startGen_keep _ _ _ _ _) ?_)
    | (with_reducible refine Eq.trans (State.fireEntry_keep _ _ _ _ _ ?_) ?_)
    | (with_reducible refine Eq.trans (State.courseChan_keep _ _ _ ?_) ?_)
    | (with_reducible refine Eq.trans (foldl_keep _ ?_ _ _) ?_)
    | (with_reducible refine Eq.trans (foldl_keep1 _ ?_ _ _) ?_)
    | split
    | (simp only [keep_mk])
    | (dsimp only)
theorem execCalibrate_keep (dt : Nat) (q : QueueId) (n : Word32) (s : State) {t : State} (h : execCalibrate dt q n s = .next t) : t.keep = (s.elapse dt).keep := by
  simp only [execCalibrate] at h
  first
    | (injection h with h; subst h)
    | (split at h; exact absurd h (by simp); injection h with h; subst h)
  repeat' first
    | with_reducible rfl
    | (intro _)
    | (with_reducible refine Eq.trans (State.addOp_keep _ _ _ _) ?_)
    | (with_reducible refine Eq.trans (State.finish_keep _ _ _ _ _) ?_)
    | (with_reducible refine Eq.trans (State.io_keep _ _ _ _ _ _ _ ?_) ?_)
    | (with_reducible refine Eq.trans (foldl_keep _ ?_ _ _) ?_)
    | (with_reducible refine Eq.trans (foldl_keep1 _ ?_ _ _) ?_)
    | split
    | (simp only [keep_mk])
    | (dsimp only)
theorem execDisarm_keep (dt : Nat) (q : QueueId) (n : Word32) (s : State) {t : State} (h : execDisarm dt q n s = .next t) : t.keep = (s.elapse dt).keep := by
  simp only [execDisarm] at h
  first
    | (injection h with h; subst h)
    | (split at h; exact absurd h (by simp); injection h with h; subst h)
  repeat' first
    | with_reducible rfl
    | (intro _)
    | (with_reducible refine Eq.trans (State.addOp_keep _ _ _ _) ?_)
    | (with_reducible refine Eq.trans (State.io_keep _ _ _ _ _ _ _ ?_) ?_)
    | (with_reducible refine Eq.trans (State.disarmQuad_keep _ _) ?_)
    | (with_reducible refine Eq.trans (foldl_keep _ ?_ _ _) ?_)
    | (with_reducible refine Eq.trans (foldl_keep1 _ ?_ _ _) ?_)
    | split
    | (simp only [keep_mk])
    | (dsimp only)
theorem execRngHealthTestFail_keep (dt : Nat) (s : State) {t : State} (h : execRngHealthTestFail dt s = .next t) : t.keep = (s.elapse dt).keep := by
  simp only [execRngHealthTestFail] at h
  first
    | (injection h with h; subst h)
    | (split at h; exact absurd h (by simp); injection h with h; subst h)
  repeat' first
    | with_reducible rfl
    | (intro _)
    | (with_reducible refine Eq.trans (State.modMason_keep _ _) ?_)
    | (with_reducible refine Eq.trans (State.when_keep _ _ _ ?_) ?_)
    | (with_reducible refine Eq.trans (foldl_keep _ ?_ _ _) ?_)
    | (with_reducible refine Eq.trans (foldl_keep1 _ ?_ _ _) ?_)
    | split
    | (simp only [keep_mk])
    | (dsimp only)
theorem execCoastTimeout_keep (dt : Nat) (s : State) {t : State} (h : execCoastTimeout dt s = .next t) : t.keep = (s.elapse dt).keep := by
  simp only [execCoastTimeout] at h
  first
    | (injection h with h; subst h)
    | (split at h; exact absurd h (by simp); injection h with h; subst h)
  repeat' first
    | with_reducible rfl
    | (intro _)
    | (with_reducible refine Eq.trans (State.when_keep _ _ _ ?_) ?_)
    | (with_reducible refine Eq.trans (State.angleTick_keep _) ?_)
    | (with_reducible refine Eq.trans (State.enterSafe_keep _) ?_)
    | (with_reducible refine Eq.trans (foldl_keep _ ?_ _ _) ?_)
    | (with_reducible refine Eq.trans (foldl_keep1 _ ?_ _ _) ?_)
    | split
    | (simp only [keep_mk])
    | (dsimp only)
theorem execHostWatchdogExpiry_keep (dt : Nat) (s : State) {t : State} (h : execHostWatchdogExpiry dt s = .next t) : t.keep = (s.elapse dt).keep := by
  simp only [execHostWatchdogExpiry] at h
  first
    | (injection h with h; subst h)
    | (split at h; exact absurd h (by simp); injection h with h; subst h)
  repeat' first
    | with_reducible rfl
    | (intro _)
    | (with_reducible refine Eq.trans (State.configured_keep _ _ _) ?_)
    | (with_reducible refine Eq.trans (State.modHost_keep _ _) ?_)
    | (with_reducible refine Eq.trans (State.noteSet_keep _ _) ?_)
    | (with_reducible refine Eq.trans (State.when_keep _ _ _ ?_) ?_)
    | (with_reducible refine Eq.trans (State.raiseCause_keep _ _) ?_)
    | (with_reducible refine Eq.trans (State.modQuad_keep _ _ _) ?_)
    | (with_reducible refine Eq.trans (State.retrigger_keep _ _ ?_) ?_)
    | (with_reducible refine Eq.trans (State.disarmQuad_keep _ _) ?_)
    | (with_reducible refine Eq.trans (foldl_keep _ ?_ _ _) ?_)
    | (with_reducible refine Eq.trans (foldl_keep1 _ ?_ _ _) ?_)
    | split
    | (simp only [keep_mk])
    | (dsimp only)
theorem execSyncInEdge_keep (dt : Nat) (rising : Bool) (s : State) {t : State} (h : execSyncInEdge dt rising s = .next t) : t.keep = (s.elapse dt).keep := by
  simp only [execSyncInEdge] at h
  first
    | (injection h with h; subst h)
    | (split at h; exact absurd h (by simp); injection h with h; subst h)
  repeat' first
    | with_reducible rfl
    | (intro _)
    | (with_reducible refine Eq.trans (State.when_keep _ _ _ ?_) ?_)
    | (with_reducible refine Eq.trans (State.syncAll_keep _ _ _) ?_)
    | (with_reducible refine Eq.trans (foldl_keep _ ?_ _ _) ?_)
    | (with_reducible refine Eq.trans (foldl_keep1 _ ?_ _ _) ?_)
    | split
    | (simp only [keep_mk])
    | (dsimp only)
theorem execSeqLoad_keep (dt : Nat) (q : QueueId) (n : Word32) (s : State) {t : State} (h : execSeqLoad dt q n s = .next t) : t.keep = (s.elapse dt).keep := by
  simp only [execSeqLoad] at h
  first
    | (injection h with h; subst h)
    | (split at h; exact absurd h (by simp); injection h with h; subst h)
  repeat' first
    | with_reducible rfl
    | (intro _)
    | (with_reducible refine Eq.trans (State.addOp_keep _ _ _ _) ?_)
    | (with_reducible refine Eq.trans (State.emit_keep _ _) ?_)
    | (with_reducible refine Eq.trans (State.io_keep _ _ _ _ _ _ _ ?_) ?_)
    | (with_reducible refine Eq.trans (State.seqAccept_keep _ _ _ _ _ _) ?_)
    | (with_reducible refine Eq.trans (foldl_keep _ ?_ _ _) ?_)
    | (with_reducible refine Eq.trans (foldl_keep1 _ ?_ _ _) ?_)
    | split
    | (simp only [keep_mk])
    | (dsimp only)
theorem State.edge_keep (s : State) (step : Int) : (State.edge s step).keep = s.keep := by
  unfold State.edge
  try dsimp only
  repeat' first
    | with_reducible rfl
    | (intro _)
    | (with_reducible refine Eq.trans (State.modAng_keep _ _) ?_)
    | (with_reducible refine Eq.trans (State.angleTick_keep _) ?_)
    | (with_reducible refine Eq.trans (State.encFault_keep _ _) ?_)
    | (with_reducible refine Eq.trans (foldl_keep _ ?_ _ _) ?_)
    | (with_reducible refine Eq.trans (foldl_keep1 _ ?_ _ _) ?_)
    | split
    | (simp only [keep_mk])
    | (dsimp only)
theorem execQueueDelete_keep (dt : Nat) (n : Word32) (s : State) {t : State} (h : execQueueDelete dt n s = .next t) : t.keep = (s.elapse dt).keep := by
  simp only [execQueueDelete] at h
  first
    | (injection h with h; subst h)
    | (split at h; exact absurd h (by simp); injection h with h; subst h)
  repeat' first
    | with_reducible rfl
    | (intro _)
    | (with_reducible refine Eq.trans (State.addOp_keep _ _ _ _) ?_)
    | (with_reducible refine Eq.trans (State.finishDrains_keep _) ?_)
    | (with_reducible refine Eq.trans (State.finish_keep _ _ _ _ _) ?_)
    | (with_reducible refine Eq.trans (State.retire_keep _ _ _ _) ?_)
    | (with_reducible refine Eq.trans (State.adm_keep _ _ _ _ _ _ ?_) ?_)
    | (with_reducible refine Eq.trans (State.beginDrain_keep _ _) ?_)
    | (with_reducible refine Eq.trans (State.freeMason_keep _) ?_)
    | (with_reducible refine Eq.trans (foldl_keep _ ?_ _ _) ?_)
    | (with_reducible refine Eq.trans (foldl_keep1 _ ?_ _ _) ?_)
    | split
    | (simp only [keep_mk])
    | (dsimp only)
theorem execSetQuadrantReset_keep (dt : Nat) (n : Word32) (s : State) {t : State} (h : execSetQuadrantReset dt n s = .next t) : t.keep = (s.elapse dt).keep := by
  simp only [execSetQuadrantReset] at h
  first
    | (injection h with h; subst h)
    | (split at h; exact absurd h (by simp); injection h with h; subst h)
  repeat' first
    | with_reducible rfl
    | (intro _)
    | (with_reducible refine Eq.trans (State.addOp_keep _ _ _ _) ?_)
    | (with_reducible refine Eq.trans (State.finish_keep _ _ _ _ _) ?_)
    | (with_reducible refine Eq.trans (State.fset_keep _ _ _ _ _ _ ?_) ?_)
    | (with_reducible refine Eq.trans (State.freeMason_keep _) ?_)
    | (with_reducible refine Eq.trans (State.quadResetStart_keep _ _) ?_)
    | (with_reducible refine Eq.trans (foldl_keep _ ?_ _ _) ?_)
    | (with_reducible refine Eq.trans (foldl_keep1 _ ?_ _ _) ?_)
    | split
    | (simp only [keep_mk])
    | (dsimp only)
theorem State.pwmTrigger_keep (s : State) (c : ChanId) (rising : Bool) (t : Nat) : (State.pwmTrigger s c rising t).keep = s.keep := by
  unfold State.pwmTrigger
  try dsimp only
  repeat' first
    | with_reducible rfl
    | (intro _)
    | (with_reducible refine Eq.trans (State.trigSlot_keep _ _ _ _ _) ?_)
    | (with_reducible refine Eq.trans (foldl_keep _ ?_ _ _) ?_)
    | (with_reducible refine Eq.trans (foldl_keep1 _ ?_ _ _) ?_)
    | split
    | (simp only [keep_mk])
    | (dsimp only)
theorem execPulseEdge_keep (dt : Nat) (c : ChanId) (s : State) {t : State} (h : execPulseEdge dt c s = .next t) : t.keep = (s.elapse dt).keep := by
  simp only [execPulseEdge] at h
  first
    | (injection h with h; subst h)
    | (split at h; exact absurd h (by simp); injection h with h; subst h)
  repeat' first
    | with_reducible rfl
    | (intro _)
    | (with_reducible refine Eq.trans (State.modChan_keep _ _ _) ?_)
    | (with_reducible refine Eq.trans (State.when_keep _ _ _ ?_) ?_)
    | (with_reducible refine Eq.trans (State.pwmTrigger_keep _ _ _ _) ?_)
    | (with_reducible refine Eq.trans (foldl_keep _ ?_ _ _) ?_)
    | (with_reducible refine Eq.trans (foldl_keep1 _ ?_ _ _) ?_)
    | split
    | (simp only [keep_mk])
    | (dsimp only)
theorem execDescriptorFetch_keep (dt : Nat) (q : QueueId) (count : Nat) (s : State) {t : State} (h : execDescriptorFetch dt q count s = .next t) : t.keep = (s.elapse dt).keep := by
  simp only [execDescriptorFetch] at h
  first
    | (injection h with h; subst h)
    | (split at h; exact absurd h (by simp); injection h with h; subst h)
  repeat' first
    | with_reducible rfl
    | (intro _)
    | (with_reducible refine Eq.trans (State.modPair_keep _ _) ?_)
    | (with_reducible refine Eq.trans (State.modQueue_keep _ _ _) ?_)
    | (with_reducible refine Eq.trans (State.emit_keep _ _) ?_)
    | (with_reducible refine Eq.trans (State.when_keep _ _ _ ?_) ?_)
    | (with_reducible refine Eq.trans (foldl_keep _ ?_ _ _) ?_)
    | (with_reducible refine Eq.trans (foldl_keep1 _ ?_ _ _) ?_)
    | split
    | (simp only [keep_mk])
    | (dsimp only)
theorem execLplusOver_keep (dt : Nat) (r : Lasting QuadId Nat) (s : State) {t : State} (h : execLplusOver dt r s = .next t) : t.keep = (s.elapse dt).keep := by
  simp only [execLplusOver] at h
  first
    | (injection h with h; subst h)
    | (split at h; exact absurd h (by simp); injection h with h; subst h)
  repeat' first
    | with_reducible rfl
    | (intro _)
    | (with_reducible refine Eq.trans (State.lplus_keep _ _ _ _ _ ?_) ?_)
    | (with_reducible refine Eq.trans (State.quadOff_keep _ _) ?_)
    | (with_reducible refine Eq.trans (State.enterClass_keep _ _ _) ?_)
    | (with_reducible refine Eq.trans (foldl_keep _ ?_ _ _) ?_)
    | (with_reducible refine Eq.trans (foldl_keep1 _ ?_ _ _) ?_)
    | split
    | (simp only [keep_mk])
    | (dsimp only)
theorem execConversionStart_keep (dt : Nat) (p : Sensed QuadId Analog) (s : State) {t : State} (h : execConversionStart dt p s = .next t) : t.keep = (s.elapse dt).keep := by
  simp only [execConversionStart] at h
  first
    | (injection h with h; subst h)
    | (split at h; exact absurd h (by simp); injection h with h; subst h)
  repeat' first
    | with_reducible rfl
    | (intro _)
    | (with_reducible refine Eq.trans (State.modMeas_keep _ _ _) ?_)
    | (with_reducible refine Eq.trans (State.modSlot_keep _ _ _ _) ?_)
    | (with_reducible refine Eq.trans (State.slotMiss_keep _ _ _ _ _) ?_)
    | (with_reducible refine Eq.trans (State.when_keep _ _ _ ?_) ?_)
    | (with_reducible refine Eq.trans (State.injectDone_keep _ _ _ _) ?_)
    | (with_reducible refine Eq.trans (State.convertNow_keep _ _ _ _ _) ?_)
    | (with_reducible refine Eq.trans (foldl_keep _ ?_ _ _) ?_)
    | (with_reducible refine Eq.trans (foldl_keep1 _ ?_ _ _) ?_)
    | split
    | (simp only [keep_mk])
    | (dsimp only)
theorem execSyncFire_keep (dt : Nat) (b : CBankId) (i : Nat) (s : State) {t : State} (h : execSyncFire dt b i s = .next t) : t.keep = (s.elapse dt).keep := by
  simp only [execSyncFire] at h
  first
    | (injection h with h; subst h)
    | (split at h; exact absurd h (by simp); injection h with h; subst h)
  repeat' first
    | with_reducible rfl
    | (intro _)
    | (with_reducible refine Eq.trans (State.fireEntry_keep _ _ _ _ _ ?_) ?_)
    | (with_reducible refine Eq.trans (State.syncAll_keep _ _ _) ?_)
    | (with_reducible refine Eq.trans (foldl_keep _ ?_ _ _) ?_)
    | (with_reducible refine Eq.trans (foldl_keep1 _ ?_ _ _) ?_)
    | split
    | (simp only [keep_mk])
    | (dsimp only)
theorem State.flashStart_keep (s : State) (n : Word32) (k : FlashOp) : (State.flashStart s n k).keep = s.keep := by
  unfold State.flashStart
  try dsimp only
  repeat' first
    | with_reducible rfl
    | (intro _)
    | (with_reducible refine Eq.trans (State.addOp_keep _ _ _ _) ?_)
    | (with_reducible refine Eq.trans (State.modMason_keep _ _) ?_)
    | (with_reducible refine Eq.trans (State.modSerial_keep _ _) ?_)
    | (with_reducible refine Eq.trans (foldl_keep _ ?_ _ _) ?_)
    | (with_reducible refine Eq.trans (foldl_keep1 _ ?_ _ _) ?_)
    | split
    | (simp only [keep_mk])
    | (dsimp only)
theorem execFwCommitInstall_keep (dt : Nat) (n : Word32) (s : State) {t : State} (h : execFwCommitInstall dt n s = .next t) : t.keep = (s.elapse dt).keep := by
  simp only [execFwCommitInstall] at h
  first
    | (injection h with h; subst h)
    | (split at h; exact absurd h (by simp); injection h with h; subst h)
  repeat' first
    | with_reducible rfl
    | (intro _)
    | (with_reducible refine Eq.trans (State.fwCommit_keep _ _ _ _ _ ?_) ?_)
    | (with_reducible refine Eq.trans (State.verified_keep _ _ _ ?_) ?_)
    | (with_reducible refine Eq.trans (State.flashStart_keep _ _ _) ?_)
    | (with_reducible refine Eq.trans (foldl_keep _ ?_ _ _) ?_)
    | (with_reducible refine Eq.trans (foldl_keep1 _ ?_ _ _) ?_)
    | split
    | (simp only [keep_mk])
    | (dsimp only)
theorem execOverload_keep (dt : Nat) (r : Lasting ChanId Nat) (s : State) {t : State} (h : execOverload dt r s = .next t) : t.keep = (s.elapse dt).keep := by
  simp only [execOverload] at h
  first
    | (injection h with h; subst h)
    | (split at h; exact absurd h (by simp); injection h with h; subst h)
  repeat' first
    | with_reducible rfl
    | (intro _)
    | (with_reducible refine Eq.trans (State.when_keep _ _ _ ?_) ?_)
    | (with_reducible refine Eq.trans (State.protectOff_keep _ _ _ _ _) ?_)
    | (with_reducible refine Eq.trans (foldl_keep _ ?_ _ _) ?_)
    | (with_reducible refine Eq.trans (foldl_keep1 _ ?_ _ _) ?_)
    | split
    | (simp only [keep_mk])
    | (dsimp only)
theorem execObserverCap_keep (dt : Nat) (s : State) {t : State} (h : execObserverCap dt s = .next t) : t.keep = (s.elapse dt).keep := by
  simp only [execObserverCap] at h
  first
    | (injection h with h; subst h)
    | (split at h; exact absurd h (by simp); injection h with h; subst h)
  repeat' first
    | with_reducible rfl
    | (intro _)
    | (with_reducible refine Eq.trans (State.when_keep _ _ _ ?_) ?_)
    | (with_reducible refine Eq.trans (State.angleTick_keep _) ?_)
    | (with_reducible refine Eq.trans (foldl_keep _ ?_ _ _) ?_)
    | (with_reducible refine Eq.trans (foldl_keep1 _ ?_ _ _) ?_)
    | split
    | (simp only [keep_mk])
    | (dsimp only)
theorem execWireBreak_keep (dt : Nat) (r : Lasting ChanId Nat) (s : State) {t : State} (h : execWireBreak dt r s = .next t) : t.keep = (s.elapse dt).keep := by
  simp only [execWireBreak] at h
  first
    | (injection h with h; subst h)
    | (split at h; exact absurd h (by simp); injection h with h; subst h)
  repeat' first
    | with_reducible rfl
    | (intro _)
    | (with_reducible refine Eq.trans (State.when_keep _ _ _ ?_) ?_)
    | (with_reducible refine Eq.trans (State.raiseDiag_keep _ _ _) ?_)
    | (with_reducible refine Eq.trans (foldl_keep _ ?_ _ _) ?_)
    | (with_reducible refine Eq.trans (foldl_keep1 _ ?_ _ _) ?_)
    | split
    | (simp only [keep_mk])
    | (dsimp only)
theorem execAdminQueueDisable_keep (dt : Nat) (s : State) {t : State} (h : execAdminQueueDisable dt s = .next t) : t.keep = (s.elapse dt).keep := by
  simp only [execAdminQueueDisable] at h
  first
    | (injection h with h; subst h)
    | (split at h; exact absurd h (by simp); injection h with h; subst h)
  repeat' first
    | with_reducible rfl
    | (intro _)
    | (with_reducible refine Eq.trans (State.barWrite_keep _ _ _ ?_) ?_)
    | (with_reducible refine Eq.trans (State.adminDisable_keep _) ?_)
    | (with_reducible refine Eq.trans (foldl_keep _ ?_ _ _) ?_)
    | (with_reducible refine Eq.trans (foldl_keep1 _ ?_ _ _) ?_)
    | split
    | (simp only [keep_mk])
    | (dsimp only)
theorem execEdgeLockoutEnd_keep (dt : Nat) (c : ChanId) (sample : Bool) (s : State) {t : State} (h : execEdgeLockoutEnd dt c sample s = .next t) : t.keep = (s.elapse dt).keep := by
  simp only [execEdgeLockoutEnd] at h
  first
    | (injection h with h; subst h)
    | (split at h; exact absurd h (by simp); injection h with h; subst h)
  repeat' first
    | with_reducible rfl
    | (intro _)
    | (with_reducible refine Eq.trans (State.modChan_keep _ _ _) ?_)
    | (with_reducible refine Eq.trans (State.when_keep _ _ _ ?_) ?_)
    | (with_reducible refine Eq.trans (foldl_keep _ ?_ _ _) ?_)
    | (with_reducible refine Eq.trans (foldl_keep1 _ ?_ _ _) ?_)
    | split
    | (simp only [keep_mk])
    | (dsimp only)
theorem execSnapshot_keep (dt : Nat) (b : CBankId) (i : Nat) (s : State) {t : State} (h : execSnapshot dt b i s = .next t) : t.keep = (s.elapse dt).keep := by
  simp only [execSnapshot] at h
  first
    | (injection h with h; subst h)
    | (split at h; exact absurd h (by simp); injection h with h; subst h)
  repeat' first
    | with_reducible rfl
    | (intro _)
    | (with_reducible refine Eq.trans (State.modArch_keep _ _) ?_)
    | (with_reducible refine Eq.trans (State.modCourse_keep _ _) ?_)
    | (with_reducible refine Eq.trans (State.fireEntry_keep _ _ _ _ _ ?_) ?_)
    | (with_reducible refine Eq.trans (foldl_keep _ ?_ _ _) ?_)
    | (with_reducible refine Eq.trans (foldl_keep1 _ ?_ _ _) ?_)
    | split
    | (simp only [keep_mk])
    | (dsimp only)
theorem execFilterBatchTimeout_keep (dt : Nat) (ch : ChainId) (s : State) {t : State} (h : execFilterBatchTimeout dt ch s = .next t) : t.keep = (s.elapse dt).keep := by
  simp only [execFilterBatchTimeout] at h
  first
    | (injection h with h; subst h)
    | (split at h; exact absurd h (by simp); injection h with h; subst h)
  repeat' first
    | with_reducible rfl
    | (intro _)
    | (with_reducible refine Eq.trans (State.closeBatch_keep _ _ _) ?_)
    | (with_reducible refine Eq.trans (State.when_keep _ _ _ ?_) ?_)
    | (with_reducible refine Eq.trans (foldl_keep _ ?_ _ _) ?_)
    | (with_reducible refine Eq.trans (foldl_keep1 _ ?_ _ _) ?_)
    | split
    | (simp only [keep_mk])
    | (dsimp only)
theorem execFunctionLevelReset_keep (dt : Nat) (s : State) {t : State} (h : execFunctionLevelReset dt s = .next t) : t.keep = (s.elapse dt).keep := by
  simp only [execFunctionLevelReset] at h
  first
    | (injection h with h; subst h)
    | (split at h; exact absurd h (by simp); injection h with h; subst h)
  repeat' first
    | with_reducible rfl
    | (intro _)
    | (with_reducible refine Eq.trans (State.when_keep _ _ _ ?_) ?_)
    | (with_reducible refine Eq.trans (State.hostReset_keep _ _ _) ?_)
    | (with_reducible refine Eq.trans (foldl_keep _ ?_ _ _) ?_)
    | (with_reducible refine Eq.trans (foldl_keep1 _ ?_ _ _) ?_)
    | split
    | (simp only [keep_mk])
    | (dsimp only)
theorem State.loadTables_keep (s : State) (t : Option FlashTable) : (State.loadTables s t).keep = s.keep := by
  unfold State.loadTables
  try dsimp only
  repeat' first
    | with_reducible rfl
    | (intro _)
    | (with_reducible refine Eq.trans (State.modMason_keep _ _) ?_)
    | (with_reducible refine Eq.trans (State.modSerial_keep _ _) ?_)
    | (with_reducible refine Eq.trans (State.romWait_keep _ _) ?_)
    | (with_reducible refine Eq.trans (foldl_keep _ ?_ _ _) ?_)
    | (with_reducible refine Eq.trans (foldl_keep1 _ ?_ _ _) ?_)
    | split
    | (simp only [keep_mk])
    | (dsimp only)
theorem execArchiveRead_keep (dt : Nat) (q : QueueId) (n : Word32) (s : State) {t : State} (h : execArchiveRead dt q n s = .next t) : t.keep = (s.elapse dt).keep := by
  simp only [execArchiveRead] at h
  first
    | (injection h with h; subst h)
    | (split at h; exact absurd h (by simp); injection h with h; subst h)
  repeat' first
    | with_reducible rfl
    | (intro _)
    | (with_reducible refine keep_pair (by assumption) (Eq.trans (State.stage_keep _ _ _) ?_))
    | (with_reducible refine Eq.trans (State.stage_keep _ _ _) ?_)
    | (with_reducible refine Eq.trans (State.complete_keep _ _ _ _ _ _ _) ?_)
    | (with_reducible refine Eq.trans (State.io_keep _ _ _ _ _ _ _ ?_) ?_)
    | (with_reducible refine Eq.trans (foldl_keep _ ?_ _ _) ?_)
    | (with_reducible refine Eq.trans (foldl_keep1 _ ?_ _ _) ?_)
    | split
    | (simp only [keep_mk])
    | (dsimp only)
theorem execCourseSwapImmediate_keep (dt : Nat) (q : QueueId) (n : Word32) (s : State) {t : State} (h : execCourseSwapImmediate dt q n s = .next t) : t.keep = (s.elapse dt).keep := by
  simp only [execCourseSwapImmediate] at h
  first
    | (injection h with h; subst h)
    | (split at h; exact absurd h (by simp); injection h with h; subst h)
  repeat' first
    | with_reducible rfl
    | (intro _)
    | (with_reducible refine Eq.trans (State.io_keep _ _ _ _ _ _ _ ?_) ?_)
    | (with_reducible refine Eq.trans (State.angleTick_keep _) ?_)
    | (with_reducible refine Eq.trans (State.courseSwap_keep _ _ _ _) ?_)
    | (with_reducible refine Eq.trans (foldl_keep _ ?_ _ _) ?_)
    | (with_reducible refine Eq.trans (foldl_keep1 _ ?_ _ _) ?_)
    | split
    | (simp only [keep_mk])
    | (dsimp only)
theorem State.refuse_keep (s : State) (r : Req) (test : Nat) : (State.refuse s r test).keep = s.keep := by
  unfold State.refuse
  try dsimp only
  repeat' first
    | with_reducible rfl
    | (intro _)
    | (with_reducible refine Eq.trans (State.modChan_keep _ _ _) ?_)
    | (with_reducible refine Eq.trans (State.overBudget_keep _ _ _ _) ?_)
    | (with_reducible refine Eq.trans (State.settleReq_keep _ _ _) ?_)
    | (with_reducible refine Eq.trans (State.dropChange_keep _ _) ?_)
    | (with_reducible refine Eq.trans (foldl_keep _ ?_ _ _) ?_)
    | (with_reducible refine Eq.trans (foldl_keep1 _ ?_ _ _) ?_)
    | split
    | (simp only [keep_mk])
    | (dsimp only)
theorem execDeferralLimit_keep (dt : Nat) (c : ChanId) (s : State) {t : State} (h : execDeferralLimit dt c s = .next t) : t.keep = (s.elapse dt).keep := by
  simp only [execDeferralLimit] at h
  first
    | (injection h with h; subst h)
    | (split at h; exact absurd h (by simp); injection h with h; subst h)
  repeat' first
    | with_reducible rfl
    | (intro _)
    | (with_reducible refine Eq.trans (State.when_keep _ _ _ ?_) ?_)
    | (with_reducible refine Eq.trans (State.overBudget_keep _ _ _ _) ?_)
    | (with_reducible refine Eq.trans (State.grant_keep _ _ _) ?_)
    | (with_reducible refine Eq.trans (State.holdBack_keep _ _) ?_)
    | (with_reducible refine Eq.trans (State.refuse_keep _ _ _) ?_)
    | (with_reducible refine Eq.trans (foldl_keep _ ?_ _ _) ?_)
    | (with_reducible refine Eq.trans (foldl_keep1 _ ?_ _ _) ?_)
    | split
    | (simp only [keep_mk])
    | (dsimp only)
theorem execSafePulseEdge_keep (dt : Nat) (c : ChanId) (s : State) {t : State} (h : execSafePulseEdge dt c s = .next t) : t.keep = (s.elapse dt).keep := by
  simp only [execSafePulseEdge] at h
  first
    | (injection h with h; subst h)
    | (split at h; exact absurd h (by simp); injection h with h; subst h)
  repeat' first
    | with_reducible rfl
    | (intro _)
    | (with_reducible refine Eq.trans (State.when_keep _ _ _ ?_) ?_)
    | (with_reducible refine Eq.trans (State.driveSelf_keep _ _) ?_)
    | (with_reducible refine Eq.trans (foldl_keep _ ?_ _ _) ?_)
    | (with_reducible refine Eq.trans (foldl_keep1 _ ?_ _ _) ?_)
    | split
    | (simp only [keep_mk])
    | (dsimp only)
theorem execShortLplusClear_keep (dt : Nat) (c : ChanId) (s : State) {t : State} (h : execShortLplusClear dt c s = .next t) : t.keep = (s.elapse dt).keep := by
  simp only [execShortLplusClear] at h
  first
    | (injection h with h; subst h)
    | (split at h; exact absurd h (by simp); injection h with h; subst h)
  repeat' first
    | with_reducible rfl
    | (intro _)
    | (with_reducible refine Eq.trans (State.when_keep _ _ _ ?_) ?_)
    | (with_reducible refine Eq.trans (State.clearDiag_keep _ _ _) ?_)
    | (with_reducible refine Eq.trans (foldl_keep _ ?_ _ _) ?_)
    | (with_reducible refine Eq.trans (foldl_keep1 _ ?_ _ _) ?_)
    | split
    | (simp only [keep_mk])
    | (dsimp only)
theorem execHostReadFailure_keep (dt : Nat) (r : HostRead) (s : State) {t : State} (h : execHostReadFailure dt r s = .next t) : t.keep = (s.elapse dt).keep := by
  simp only [execHostReadFailure] at h
  first
    | (injection h with h; subst h)
    | (split at h; exact absurd h (by simp); injection h with h; subst h)
  repeat' first
    | with_reducible rfl
    | (intro _)
    | (with_reducible refine Eq.trans (State.finish_keep _ _ _ _ _) ?_)
    | (with_reducible refine Eq.trans (State.modHost_keep _ _) ?_)
    | (with_reducible refine Eq.trans (State.when_keep _ _ _ ?_) ?_)
    | (with_reducible refine Eq.trans (State.raiseCause_keep _ _) ?_)
    | (with_reducible refine Eq.trans (State.modPlumb_keep _ _ _) ?_)
    | (with_reducible refine Eq.trans (State.nextScan_keep _ _) ?_)
    | (with_reducible refine Eq.trans (State.putBank_keep _ _ _ _) ?_)
    | (with_reducible refine Eq.trans (State.fetchFailed_keep _ _ _ _) ?_)
    | (with_reducible refine Eq.trans (foldl_keep _ ?_ _ _) ?_)
    | (with_reducible refine Eq.trans (foldl_keep1 _ ?_ _ _) ?_)
    | split
    | (simp only [keep_mk])
    | (dsimp only)
theorem execWireBreakClear_keep (dt : Nat) (r : Lasting ChanId Nat) (s : State) {t : State} (h : execWireBreakClear dt r s = .next t) : t.keep = (s.elapse dt).keep := by
  simp only [execWireBreakClear] at h
  first
    | (injection h with h; subst h)
    | (split at h; exact absurd h (by simp); injection h with h; subst h)
  repeat' first
    | with_reducible rfl
    | (intro _)
    | (with_reducible refine Eq.trans (State.when_keep _ _ _ ?_) ?_)
    | (with_reducible refine Eq.trans (State.clearDiag_keep _ _ _) ?_)
    | (with_reducible refine Eq.trans (foldl_keep _ ?_ _ _) ?_)
    | (with_reducible refine Eq.trans (foldl_keep1 _ ?_ _ _) ?_)
    | split
    | (simp only [keep_mk])
    | (dsimp only)
theorem execSettleEnd_keep (dt : Nat) (c : ChanId) (land : Bool) (s : State) {t : State} (h : execSettleEnd dt c land s = .next t) : t.keep = (s.elapse dt).keep := by
  simp only [execSettleEnd] at h
  first
    | (injection h with h; subst h)
    | (split at h; exact absurd h (by simp); injection h with h; subst h)
  repeat' first
    | with_reducible rfl
    | (intro _)
    | (with_reducible refine Eq.trans (State.modChan_keep _ _ _) ?_)
    | (with_reducible refine Eq.trans (State.when_keep _ _ _ ?_) ?_)
    | (with_reducible refine Eq.trans (State.readFrame_keep _ _ _ _) ?_)
    | (with_reducible refine Eq.trans (State.settledOn_keep _ _) ?_)
    | (with_reducible refine Eq.trans (foldl_keep _ ?_ _ _) ?_)
    | (with_reducible refine Eq.trans (foldl_keep1 _ ?_ _ _) ?_)
    | split
    | (simp only [keep_mk])
    | (dsimp only)
theorem execInputAccept_keep (dt : Nat) (c : ChanId) (r : Held Bool) (s : State) {t : State} (h : execInputAccept dt c r s = .next t) : t.keep = (s.elapse dt).keep := by
  simp only [execInputAccept] at h
  first
    | (injection h with h; subst h)
    | (split at h; exact absurd h (by simp); injection h with h; subst h)
  repeat' first
    | with_reducible rfl
    | (intro _)
    | (with_reducible refine Eq.trans (State.modChan_keep _ _ _) ?_)
    | (with_reducible refine Eq.trans (State.when_keep _ _ _ ?_) ?_)
    | (with_reducible refine Eq.trans (foldl_keep _ ?_ _ _) ?_)
    | (with_reducible refine Eq.trans (foldl_keep1 _ ?_ _ _) ?_)
    | split
    | (simp only [keep_mk])
    | (dsimp only)
theorem State.resyncAck_keep (s : State) : (State.resyncAck s).keep = s.keep := by
  unfold State.resyncAck
  try dsimp only
  repeat' first
    | with_reducible rfl
    | (intro _)
    | (with_reducible refine Eq.trans (State.modPair_keep _ _) ?_)
    | (with_reducible refine Eq.trans (foldl_keep _ ?_ _ _) ?_)
    | (with_reducible refine Eq.trans (foldl_keep1 _ ?_ _ _) ?_)
    | split
    | (simp only [keep_mk])
    | (dsimp only)
theorem execAck_keep (dt : Nat) (v : Word32) (s : State) {t : State} (h : execAck dt v s = .next t) : t.keep = (s.elapse dt).keep := by
  simp only [execAck] at h
  first
    | (injection h with h; subst h)
    | (split at h; exact absurd h (by simp); injection h with h; subst h)
  repeat' first
    | with_reducible rfl
    | (intro _)
    | (with_reducible refine Eq.trans (State.modPair_keep _ _) ?_)
    | (with_reducible refine Eq.trans (State.when_keep _ _ _ ?_) ?_)
    | (with_reducible refine Eq.trans (State.sendCommit_keep _) ?_)
    | (with_reducible refine Eq.trans (State.logged_keep _ _ _) ?_)
    | (with_reducible refine Eq.trans (State.deltaDone_keep _ _) ?_)
    | (with_reducible refine Eq.trans (State.checkpointDone_keep _ _) ?_)
    | (with_reducible refine Eq.trans (State.resyncAck_keep _) ?_)
    | (with_reducible refine Eq.trans (foldl_keep _ ?_ _ _) ?_)
    | (with_reducible refine Eq.trans (foldl_keep1 _ ?_ _ _) ?_)
    | split
    | (simp only [keep_mk])
    | (dsimp only)
theorem execCourseSwap_keep (dt : Nat) (q : QueueId) (n : Word32) (s : State) {t : State} (h : execCourseSwap dt q n s = .next t) : t.keep = (s.elapse dt).keep := by
  simp only [execCourseSwap] at h
  first
    | (injection h with h; subst h)
    | (split at h; exact absurd h (by simp); injection h with h; subst h)
  repeat' first
    | with_reducible rfl
    | (intro _)
    | (with_reducible refine Eq.trans (State.io_keep _ _ _ _ _ _ _ ?_) ?_)
    | (with_reducible refine Eq.trans (State.angleTick_keep _) ?_)
    | (with_reducible refine Eq.trans (State.courseSwap_keep _ _ _ _) ?_)
    | (with_reducible refine Eq.trans (foldl_keep _ ?_ _ _) ?_)
    | (with_reducible refine Eq.trans (foldl_keep1 _ ?_ _ _) ?_)
    | split
    | (simp only [keep_mk])
    | (dsimp only)
theorem execPlumbPassDue_keep (dt : Nat) (x : CtxId) (s : State) {t : State} (h : execPlumbPassDue dt x s = .next t) : t.keep = (s.elapse dt).keep := by
  simp only [execPlumbPassDue] at h
  first
    | (injection h with h; subst h)
    | (split at h; exact absurd h (by simp); injection h with h; subst h)
  repeat' first
    | with_reducible rfl
    | (intro _)
    | (with_reducible refine Eq.trans (State.when_keep _ _ _ ?_) ?_)
    | (with_reducible refine Eq.trans (State.modPlumb_keep _ _ _) ?_)
    | (with_reducible refine Eq.trans (State.passStarts_keep _ _) ?_)
    | (with_reducible refine Eq.trans (foldl_keep _ ?_ _ _) ?_)
    | (with_reducible refine Eq.trans (foldl_keep1 _ ?_ _ _) ?_)
    | split
    | (simp only [keep_mk])
    | (dsimp only)
theorem execCoalesceTimeout_keep (dt : Nat) (q : QueueId) (s : State) {t : State} (h : execCoalesceTimeout dt q s = .next t) : t.keep = (s.elapse dt).keep := by
  simp only [execCoalesceTimeout] at h
  first
    | (injection h with h; subst h)
    | (split at h; exact absurd h (by simp); injection h with h; subst h)
  repeat' first
    | with_reducible rfl
    | (intro _)
    | (with_reducible refine Eq.trans (State.signalQueue_keep _ _) ?_)
    | (with_reducible refine Eq.trans (State.when_keep _ _ _ ?_) ?_)
    | (with_reducible refine Eq.trans (foldl_keep _ ?_ _ _) ?_)
    | (with_reducible refine Eq.trans (foldl_keep1 _ ?_ _ _) ?_)
    | split
    | (simp only [keep_mk])
    | (dsimp only)
theorem execOpenOn_keep (dt : Nat) (r : Lasting ChanId Nat) (s : State) {t : State} (h : execOpenOn dt r s = .next t) : t.keep = (s.elapse dt).keep := by
  simp only [execOpenOn] at h
  first
    | (injection h with h; subst h)
    | (split at h; exact absurd h (by simp); injection h with h; subst h)
  repeat' first
    | with_reducible rfl
    | (intro _)
    | (with_reducible refine Eq.trans (State.when_keep _ _ _ ?_) ?_)
    | (with_reducible refine Eq.trans (State.raiseDiag_keep _ _ _) ?_)
    | (with_reducible refine Eq.trans (foldl_keep _ ?_ _ _) ?_)
    | (with_reducible refine Eq.trans (foldl_keep1 _ ?_ _ _) ?_)
    | split
    | (simp only [keep_mk])
    | (dsimp only)
theorem execFwCommitAdvance_keep (dt : Nat) (n : Word32) (s : State) {t : State} (h : execFwCommitAdvance dt n s = .next t) : t.keep = (s.elapse dt).keep := by
  simp only [execFwCommitAdvance] at h
  first
    | (injection h with h; subst h)
    | (split at h; exact absurd h (by simp); injection h with h; subst h)
  repeat' first
    | with_reducible rfl
    | (intro _)
    | (with_reducible refine Eq.trans (State.modMason_keep _ _) ?_)
    | (with_reducible refine Eq.trans (State.finish_keep _ _ _ _ _) ?_)
    | (with_reducible refine Eq.trans (State.fwCommit_keep _ _ _ _ _ ?_) ?_)
    | (with_reducible refine Eq.trans (foldl_keep _ ?_ _ _) ?_)
    | (with_reducible refine Eq.trans (foldl_keep1 _ ?_ _ _) ?_)
    | split
    | (simp only [keep_mk])
    | (dsimp only)
theorem execStrapChange_keep (dt : Nat) (straps : BitVec 5) (s : State) {t : State} (h : execStrapChange dt straps s = .next t) : t.keep = (s.elapse dt).keep := by
  simp only [execStrapChange] at h
  first
    | (injection h with h; subst h)
    | (split at h; exact absurd h (by simp); injection h with h; subst h)
  repeat' first
    | with_reducible rfl
    | (intro _)
    | (with_reducible refine Eq.trans (State.modMason_keep _ _) ?_)
    | (with_reducible refine Eq.trans (State.when_keep _ _ _ ?_) ?_)
    | (with_reducible refine Eq.trans (State.recordStraps_keep _ _) ?_)
    | (with_reducible refine Eq.trans (foldl_keep _ ?_ _ _) ?_)
    | (with_reducible refine Eq.trans (foldl_keep1 _ ?_ _ _) ?_)
    | split
    | (simp only [keep_mk])
    | (dsimp only)
theorem execEncoderEdge_keep (dt : Nat) (lv : Bool × Bool) (held : Nat) (s : State) {t : State} (h : execEncoderEdge dt lv held s = .next t) : t.keep = (s.elapse dt).keep := by
  simp only [execEncoderEdge] at h
  first
    | (injection h with h; subst h)
    | (split at h; exact absurd h (by simp); injection h with h; subst h)
  repeat' first
    | with_reducible rfl
    | (intro _)
    | (with_reducible refine Eq.trans (State.when_keep _ _ _ ?_) ?_)
    | (with_reducible refine Eq.trans (State.modAng_keep _ _) ?_)
    | (with_reducible refine Eq.trans (State.angleTick_keep _) ?_)
    | (with_reducible refine Eq.trans (State.encFault_keep _ _) ?_)
    | (with_reducible refine Eq.trans (State.edge_keep _ _) ?_)
    | (with_reducible refine Eq.trans (foldl_keep _ ?_ _ _) ?_)
    | (with_reducible refine Eq.trans (foldl_keep1 _ ?_ _ _) ?_)
    | split
    | (simp only [keep_mk])
    | (dsimp only)
theorem State.objectEnd_keep (s : State) (x : CtxId) (value : Word32) (storedUe : Bool) : (State.objectEnd s x value storedUe).keep = s.keep := by
  unfold State.objectEnd
  try dsimp only
  repeat' first
    | with_reducible rfl
    | (intro _)
    | (with_reducible refine Eq.trans (State.modPlumb_keep _ _ _) ?_)
    | (with_reducible refine Eq.trans (State.logEvent_keep _ _ _ _) ?_)
    | (with_reducible refine Eq.trans (State.vaultUe_keep _ _) ?_)
    | (with_reducible refine Eq.trans (State.setStored_keep _ _ _ _) ?_)
    | (with_reducible refine Eq.trans (State.suspect_keep _ _ _) ?_)
    | (with_reducible refine Eq.trans (foldl_keep _ ?_ _ _) ?_)
    | (with_reducible refine Eq.trans (foldl_keep1 _ ?_ _ _) ?_)
    | split
    | (simp only [keep_mk])
    | (dsimp only)
theorem execUnknownOpcode_keep (dt : Nat) (q : QueueId) (n : Word32) (s : State) {t : State} (h : execUnknownOpcode dt q n s = .next t) : t.keep = (s.elapse dt).keep := by
  simp only [execUnknownOpcode] at h
  first
    | (injection h with h; subst h)
    | (split at h; exact absurd h (by simp); injection h with h; subst h)
  repeat' first
    | with_reducible rfl
    | (intro _)
    | (with_reducible refine Eq.trans (State.io_keep _ _ _ _ _ _ _ ?_) ?_)
    | (with_reducible refine Eq.trans (State.adm_keep _ _ _ _ _ _ ?_) ?_)
    | (with_reducible refine Eq.trans (foldl_keep _ ?_ _ _) ?_)
    | (with_reducible refine Eq.trans (foldl_keep1 _ ?_ _ _) ?_)
    | split
    | (simp only [keep_mk])
    | (dsimp only)
theorem State.diesLost_keep (s : State) : (State.diesLost s).keep = s.keep := by
  unfold State.diesLost
  try dsimp only
  repeat' first
    | with_reducible rfl
    | (intro _)
    | (with_reducible refine Eq.trans (State.withdraw_keep _ _) ?_)
    | (with_reducible refine Eq.trans (State.retrigger_keep _ _ ?_) ?_)
    | (with_reducible refine Eq.trans (State.dropBursts_keep _ _) ?_)
    | (with_reducible refine Eq.trans (foldl_keep _ ?_ _ _) ?_)
    | (with_reducible refine Eq.trans (foldl_keep1 _ ?_ _ _) ?_)
    | split
    | (simp only [keep_mk])
    | (dsimp only)
theorem State.visoGone_keep (s : State) : (State.visoGone s).keep = s.keep := by
  unfold State.visoGone
  split
  · exact State.diesLost_keep s
  · split
    · have h : ∀ b, ({ (State.roleLoss s s.now).diesLost with visoLost := b } : State).keep = s.keep := fun b =>
        Eq.trans (keep_mk _ ..) (Eq.trans (State.diesLost_keep _) (State.roleLoss_keep _ _))
      dsimp only
      split
      · exact Eq.trans (State.finalCapture_keep _) (Eq.trans (State.modPair_keep _ _) (h _))
      · exact Eq.trans (State.modPair_keep _ _) (h _)
    · exact Eq.trans (State.visoReport_keep _) (State.diesLost_keep _)
theorem execVisoLost_keep (dt : Nat) (s : State) {t : State} (h : execVisoLost dt s = .next t) : t.keep = (s.elapse dt).keep := by
  simp only [execVisoLost] at h
  first
    | (injection h with h; subst h)
    | (split at h; exact absurd h (by simp); injection h with h; subst h)
  repeat' first
    | with_reducible rfl
    | (intro _)
    | (with_reducible refine Eq.trans (State.when_keep _ _ _ ?_) ?_)
    | (with_reducible refine Eq.trans (State.visoGone_keep _) ?_)
    | (with_reducible refine Eq.trans (foldl_keep _ ?_ _ _) ?_)
    | (with_reducible refine Eq.trans (foldl_keep1 _ ?_ _ _) ?_)
    | split
    | (simp only [keep_mk])
    | (dsimp only)
theorem execLinkReturnToL0_keep (dt : Nat) (s : State) {t : State} (h : execLinkReturnToL0 dt s = .next t) : t.keep = (s.elapse dt).keep := by
  simp only [execLinkReturnToL0] at h
  first
    | (injection h with h; subst h)
    | (split at h; exact absurd h (by simp); injection h with h; subst h)
  repeat' first
    | with_reducible rfl
    | (intro _)
    | (with_reducible refine Eq.trans (State.modHost_keep _ _) ?_)
    | (with_reducible refine Eq.trans (State.when_keep _ _ _ ?_) ?_)
    | (with_reducible refine Eq.trans (foldl_keep _ ?_ _ _) ?_)
    | (with_reducible refine Eq.trans (foldl_keep1 _ ?_ _ _) ?_)
    | split
    | (simp only [keep_mk])
    | (dsimp only)
theorem execPerstRelease_keep (dt : Nat) (s : State) {t : State} (h : execPerstRelease dt s = .next t) : t.keep = (s.elapse dt).keep := by
  simp only [execPerstRelease] at h
  first
    | (injection h with h; subst h)
    | (split at h; exact absurd h (by simp); injection h with h; subst h)
  repeat' first
    | with_reducible rfl
    | (intro _)
    | (with_reducible refine Eq.trans (State.modHost_keep _ _) ?_)
    | (with_reducible refine Eq.trans (State.when_keep _ _ _ ?_) ?_)
    | (with_reducible refine Eq.trans (foldl_keep _ ?_ _ _) ?_)
    | (with_reducible refine Eq.trans (foldl_keep1 _ ?_ _ _) ?_)
    | split
    | (simp only [keep_mk])
    | (dsimp only)
theorem execHostResume_keep (dt : Nat) (phases : Vector Nat 64) (cids : List Word16) (s : State) {t : State} (h : execHostResume dt phases cids s = .next t) : t.keep = (s.elapse dt).keep := by
  simp only [execHostResume] at h
  first
    | (injection h with h; subst h)
    | (split at h; exact absurd h (by simp); injection h with h; subst h)
  repeat' first
    | with_reducible rfl
    | (intro _)
    | (with_reducible refine Eq.trans (State.modPair_keep _ _) ?_)
    | (with_reducible refine Eq.trans (State.when_keep _ _ _ ?_) ?_)
    | (with_reducible refine Eq.trans (State.stageAny_keep _ _) ?_)
    | (with_reducible refine Eq.trans (State.pairEvent_keep _ _ _) ?_)
    | (with_reducible refine Eq.trans (State.resumeQueue_keep _ _ _ _) ?_)
    | (with_reducible refine Eq.trans (foldl_keep _ ?_ _ _) ?_)
    | (with_reducible refine Eq.trans (foldl_keep1 _ ?_ _ _) ?_)
    | split
    | (simp only [keep_mk])
    | (dsimp only)
theorem execOutPulseStop_keep (dt : Nat) (q : QueueId) (n : Word32) (s : State) {t : State} (h : execOutPulseStop dt q n s = .next t) : t.keep = (s.elapse dt).keep := by
  simp only [execOutPulseStop] at h
  first
    | (injection h with h; subst h)
    | (split at h; exact absurd h (by simp); injection h with h; subst h)
  repeat' first
    | with_reducible rfl
    | (intro _)
    | (with_reducible refine Eq.trans (State.io_keep _ _ _ _ _ _ _ ?_) ?_)
    | (with_reducible refine Eq.trans (State.outCmd_keep _ _ _ _ _ _ ?_) ?_)
    | (with_reducible refine Eq.trans (State.pulseWrite_keep _ _ _) ?_)
    | (with_reducible refine keep_pair (by assumption) (Eq.trans (State.stopGen_keep _ _) ?_))
    | (with_reducible refine Eq.trans (State.stopGen_keep _ _) ?_)
    | (with_reducible refine Eq.trans (foldl_keep _ ?_ _ _) ?_)
    | (with_reducible refine Eq.trans (foldl_keep1 _ ?_ _ _) ?_)
    | split
    | (simp only [keep_mk])
    | (dsimp only)
theorem execFwCommitVerify_keep (dt : Nat) (n : Word32) (s : State) {t : State} (h : execFwCommitVerify dt n s = .next t) : t.keep = (s.elapse dt).keep := by
  simp only [execFwCommitVerify] at h
  first
    | (injection h with h; subst h)
    | (split at h; exact absurd h (by simp); injection h with h; subst h)
  repeat' first
    | with_reducible rfl
    | (intro _)
    | (with_reducible refine Eq.trans (State.finish_keep _ _ _ _ _) ?_)
    | (with_reducible refine Eq.trans (State.fwCommit_keep _ _ _ _ _ ?_) ?_)
    | (with_reducible refine Eq.trans (State.verified_keep _ _ _ ?_) ?_)
    | (with_reducible refine Eq.trans (foldl_keep _ ?_ _ _) ?_)
    | (with_reducible refine Eq.trans (foldl_keep1 _ ?_ _ _) ?_)
    | split
    | (simp only [keep_mk])
    | (dsimp only)
theorem State.loadChecked_keep (s : State) : (State.loadChecked s).keep = s.keep := by
  unfold State.loadChecked
  try dsimp only
  repeat' first
    | with_reducible rfl
    | (intro _)
    | (with_reducible refine Eq.trans (State.modMason_keep _ _) ?_)
    | (with_reducible refine Eq.trans (State.romWait_keep _ _) ?_)
    | (with_reducible refine Eq.trans (foldl_keep _ ?_ _ _) ?_)
    | (with_reducible refine Eq.trans (foldl_keep1 _ ?_ _ _) ?_)
    | split
    | (simp only [keep_mk])
    | (dsimp only)
theorem execDieHotClear_keep (dt : Nat) (r : Sensed QuadId Int) (s : State) {t : State} (h : execDieHotClear dt r s = .next t) : t.keep = (s.elapse dt).keep := by
  simp only [execDieHotClear] at h
  first
    | (injection h with h; subst h)
    | (split at h; exact absurd h (by simp); injection h with h; subst h)
  repeat' first
    | with_reducible rfl
    | (intro _)
    | (with_reducible refine Eq.trans (State.when_keep _ _ _ ?_) ?_)
    | (with_reducible refine Eq.trans (State.modQuad_keep _ _ _) ?_)
    | (with_reducible refine Eq.trans (State.clearQuadDiag_keep _ _ _) ?_)
    | (with_reducible refine Eq.trans (State.whenLinked_keep _ _ _ ?_) ?_)
    | (with_reducible refine Eq.trans (State.hotReturn_keep _ _) ?_)
    | (with_reducible refine Eq.trans (foldl_keep _ ?_ _ _) ?_)
    | (with_reducible refine Eq.trans (foldl_keep1 _ ?_ _ _) ?_)
    | split
    | (simp only [keep_mk])
    | (dsimp only)
theorem execMasonLoadWindow_keep (dt : Nat) (load : Nat) (s : State) {t : State} (h : execMasonLoadWindow dt load s = .next t) : t.keep = (s.elapse dt).keep := by
  simp only [execMasonLoadWindow] at h
  first
    | (injection h with h; subst h)
    | (split at h; exact absurd h (by simp); injection h with h; subst h)
  repeat' first
    | with_reducible rfl
    | (intro _)
    | (with_reducible refine Eq.trans (State.modMason_keep _ _) ?_)
    | (with_reducible refine Eq.trans (State.when_keep _ _ _ ?_) ?_)
    | (with_reducible refine Eq.trans (State.setShed_keep _ _) ?_)
    | (with_reducible refine Eq.trans (foldl_keep _ ?_ _ _) ?_)
    | (with_reducible refine Eq.trans (foldl_keep1 _ ?_ _ _) ?_)
    | split
    | (simp only [keep_mk])
    | (dsimp only)
theorem execImageReadComplete_keep (dt : Nat) (step : LoadStep) (s : State) {t : State} (h : execImageReadComplete dt step s = .next t) : t.keep = (s.elapse dt).keep := by
  simp only [execImageReadComplete] at h
  first
    | (injection h with h; subst h)
    | (split at h; exact absurd h (by simp); injection h with h; subst h)
  repeat' first
    | with_reducible rfl
    | (intro _)
    | (with_reducible refine Eq.trans (State.modMason_keep _ _) ?_)
    | (with_reducible refine Eq.trans (State.when_keep _ _ _ ?_) ?_)
    | (with_reducible refine Eq.trans (State.modSerial_keep _ _) ?_)
    | (with_reducible refine Eq.trans (State.romWait_keep _ _) ?_)
    | (with_reducible refine Eq.trans (State.loadHeader_keep _ _) ?_)
    | (with_reducible refine Eq.trans (State.loadTables_keep _ _) ?_)
    | (with_reducible refine Eq.trans (State.loadChecked_keep _) ?_)
    | (with_reducible refine Eq.trans (foldl_keep _ ?_ _ _) ?_)
    | (with_reducible refine Eq.trans (foldl_keep1 _ ?_ _ _) ?_)
    | split
    | (simp only [keep_mk])
    | (dsimp only)
theorem execOpenOnClear_keep (dt : Nat) (r : Lasting ChanId Nat) (s : State) {t : State} (h : execOpenOnClear dt r s = .next t) : t.keep = (s.elapse dt).keep := by
  simp only [execOpenOnClear] at h
  first
    | (injection h with h; subst h)
    | (split at h; exact absurd h (by simp); injection h with h; subst h)
  repeat' first
    | with_reducible rfl
    | (intro _)
    | (with_reducible refine Eq.trans (State.when_keep _ _ _ ?_) ?_)
    | (with_reducible refine Eq.trans (State.clearDiag_keep _ _ _) ?_)
    | (with_reducible refine Eq.trans (foldl_keep _ ?_ _ _) ?_)
    | (with_reducible refine Eq.trans (foldl_keep1 _ ?_ _ _) ?_)
    | split
    | (simp only [keep_mk])
    | (dsimp only)
theorem execPlumbPassEnd_keep (dt : Nat) (x : CtxId) (value : Word32) (storedUe : Bool) (s : State) {t : State} (h : execPlumbPassEnd dt x value storedUe s = .next t) : t.keep = (s.elapse dt).keep := by
  simp only [execPlumbPassEnd] at h
  first
    | (injection h with h; subst h)
    | (split at h; exact absurd h (by simp); injection h with h; subst h)
  repeat' first
    | with_reducible rfl
    | (intro _)
    | (with_reducible refine Eq.trans (State.when_keep _ _ _ ?_) ?_)
    | (with_reducible refine Eq.trans (State.modPlumb_keep _ _ _) ?_)
    | (with_reducible refine Eq.trans (State.nextScan_keep _ _) ?_)
    | (with_reducible refine Eq.trans (State.objectEnd_keep _ _ _ _) ?_)
    | (with_reducible refine Eq.trans (foldl_keep _ ?_ _ _) ?_)
    | (with_reducible refine Eq.trans (foldl_keep1 _ ?_ _ _) ?_)
    | split
    | (simp only [keep_mk])
    | (dsimp only)
theorem execCurrentLimitExit_keep (dt : Nat) (c : ChanId) (s : State) {t : State} (h : execCurrentLimitExit dt c s = .next t) : t.keep = (s.elapse dt).keep := by
  simp only [execCurrentLimitExit] at h
  first
    | (injection h with h; subst h)
    | (split at h; exact absurd h (by simp); injection h with h; subst h)
  repeat' first
    | with_reducible rfl
    | (intro _)
    | (with_reducible refine Eq.trans (State.modChan_keep _ _ _) ?_)
    | (with_reducible refine Eq.trans (State.when_keep _ _ _ ?_) ?_)
    | (with_reducible refine Eq.trans (foldl_keep _ ?_ _ _) ?_)
    | (with_reducible refine Eq.trans (foldl_keep1 _ ?_ _ _) ?_)
    | split
    | (simp only [keep_mk])
    | (dsimp only)
theorem execLplusUnderExit_keep (dt : Nat) (r : Lasting QuadId Nat) (full : Nat) (s : State) {t : State} (h : execLplusUnderExit dt r full s = .next t) : t.keep = (s.elapse dt).keep := by
  simp only [execLplusUnderExit] at h
  first
    | (injection h with h; subst h)
    | (split at h; exact absurd h (by simp); injection h with h; subst h)
  repeat' first
    | with_reducible rfl
    | (intro _)
    | (with_reducible refine Eq.trans (State.lplus_keep _ _ _ _ _ ?_) ?_)
    | (with_reducible refine Eq.trans (State.leaveSupply_keep _ _ _) ?_)
    | (with_reducible refine Eq.trans (foldl_keep _ ?_ _ _) ?_)
    | (with_reducible refine Eq.trans (foldl_keep1 _ ?_ _ _) ?_)
    | split
    | (simp only [keep_mk])
    | (dsimp only)
theorem execPollComplete_keep (dt : Nat) (gen : Word64) (s : State) {t : State} (h : execPollComplete dt gen s = .next t) : t.keep = (s.elapse dt).keep := by
  simp only [execPollComplete] at h
  first
    | (injection h with h; subst h)
    | (split at h; exact absurd h (by simp); injection h with h; subst h)
  repeat' first
    | with_reducible rfl
    | (intro _)
    | (with_reducible refine Eq.trans (State.modPair_keep _ _) ?_)
    | (with_reducible refine Eq.trans (State.emit_keep _ _) ?_)
    | (with_reducible refine Eq.trans (State.modHost_keep _ _) ?_)
    | (with_reducible refine Eq.trans (State.when_keep _ _ _ ?_) ?_)
    | (with_reducible refine Eq.trans (State.wdRestart_keep _) ?_)
    | (with_reducible refine Eq.trans (foldl_keep _ ?_ _ _) ?_)
    | (with_reducible refine Eq.trans (foldl_keep1 _ ?_ _ _) ?_)
    | split
    | (simp only [keep_mk])
    | (dsimp only)
theorem execResyncComplete_keep (dt : Nat) (s : State) {t : State} (h : execResyncComplete dt s = .next t) : t.keep = (s.elapse dt).keep := by
  simp only [execResyncComplete] at h
  first
    | (injection h with h; subst h)
    | (split at h; exact absurd h (by simp); injection h with h; subst h)
  repeat' first
    | with_reducible rfl
    | (intro _)
    | (with_reducible refine Eq.trans (State.modPair_keep _ _) ?_)
    | (with_reducible refine Eq.trans (State.when_keep _ _ _ ?_) ?_)
    | (with_reducible refine Eq.trans (State.completeOp_keep _ _ _ _ _ _) ?_)
    | (with_reducible refine Eq.trans (State.pairEvent_keep _ _ _) ?_)
    | (with_reducible refine Eq.trans (foldl_keep _ ?_ _ _) ?_)
    | (with_reducible refine Eq.trans (foldl_keep1 _ ?_ _ _) ?_)
    | split
    | (simp only [keep_mk])
    | (dsimp only)
theorem execMasonStatusPeriodic_keep (dt : Nat) (s : State) {t : State} (h : execMasonStatusPeriodic dt s = .next t) : t.keep = (s.elapse dt).keep := by
  simp only [execMasonStatusPeriodic] at h
  first
    | (injection h with h; subst h)
    | (split at h; exact absurd h (by simp); injection h with h; subst h)
  repeat' first
    | with_reducible rfl
    | (intro _)
    | (with_reducible refine Eq.trans (State.modMason_keep _ _) ?_)
    | (with_reducible refine Eq.trans (State.when_keep _ _ _ ?_) ?_)
    | (with_reducible refine Eq.trans (State.masonRecord_keep _) ?_)
    | (with_reducible refine Eq.trans (foldl_keep _ ?_ _ _) ?_)
    | (with_reducible refine Eq.trans (foldl_keep1 _ ?_ _ _) ?_)
    | split
    | (simp only [keep_mk])
    | (dsimp only)
theorem execD0ToD3hot_keep (dt : Nat) (s : State) {t : State} (h : execD0ToD3hot dt s = .next t) : t.keep = (s.elapse dt).keep := by
  simp only [execD0ToD3hot] at h
  first
    | (injection h with h; subst h)
    | (split at h; exact absurd h (by simp); injection h with h; subst h)
  repeat' first
    | with_reducible rfl
    | (intro _)
    | (with_reducible refine Eq.trans (State.modHost_keep _ _) ?_)
    | (with_reducible refine Eq.trans (State.when_keep _ _ _ ?_) ?_)
    | (with_reducible refine Eq.trans (foldl_keep _ ?_ _ _) ?_)
    | (with_reducible refine Eq.trans (foldl_keep1 _ ?_ _ _) ?_)
    | split
    | (simp only [keep_mk])
    | (dsimp only)
theorem State.takeRef_keep (s : State) (k : Nat) (final : Bool) (readback : Mask128) (l : ChanId) : (State.takeRef s k final readback l).keep = s.keep := by
  unfold State.takeRef
  try dsimp only
  repeat' first
    | with_reducible rfl
    | (intro _)
    | (with_reducible refine Eq.trans (State.modChan_keep _ _ _) ?_)
    | (with_reducible refine Eq.trans (foldl_keep _ ?_ _ _) ?_)
    | (with_reducible refine Eq.trans (foldl_keep1 _ ?_ _ _) ?_)
    | split
    | (simp only [keep_mk])
    | (dsimp only)
theorem execTakeoverDrive_keep (dt : Nat) (readback : Mask128) (s : State) {t : State} (h : execTakeoverDrive dt readback s = .next t) : t.keep = (s.elapse dt).keep := by
  simp only [execTakeoverDrive] at h
  first
    | (injection h with h; subst h)
    | (split at h; exact absurd h (by simp); injection h with h; subst h)
  repeat' first
    | with_reducible rfl
    | (intro _)
    | (with_reducible refine Eq.trans (State.modChan_keep _ _ _) ?_)
    | (with_reducible refine Eq.trans (State.modPair_keep _ _) ?_)
    | (with_reducible refine Eq.trans (State.when_keep _ _ _ ?_) ?_)
    | (with_reducible refine Eq.trans (State.takeRef_keep _ _ _ _ _) ?_)
    | (with_reducible refine Eq.trans (foldl_keep _ ?_ _ _) ?_)
    | (with_reducible refine Eq.trans (foldl_keep1 _ ?_ _ _) ?_)
    | split
    | (simp only [keep_mk])
    | (dsimp only)
theorem execHeartbeatSend_keep (dt : Nat) (s : State) {t : State} (h : execHeartbeatSend dt s = .next t) : t.keep = (s.elapse dt).keep := by
  simp only [execHeartbeatSend] at h
  first
    | (injection h with h; subst h)
    | (split at h; exact absurd h (by simp); injection h with h; subst h)
  repeat' first
    | with_reducible rfl
    | (intro _)
    | (with_reducible refine Eq.trans (State.modPair_keep _ _) ?_)
    | (with_reducible refine Eq.trans (State.when_keep _ _ _ ?_) ?_)
    | (with_reducible refine Eq.trans (State.zsend_keep _ _) ?_)
    | (with_reducible refine Eq.trans (foldl_keep _ ?_ _ _) ?_)
    | (with_reducible refine Eq.trans (foldl_keep1 _ ?_ _ _) ?_)
    | split
    | (simp only [keep_mk])
    | (dsimp only)
theorem execCalibrationStart_keep (dt : Nat) (q : QuadId) (s : State) {t : State} (h : execCalibrationStart dt q s = .next t) : t.keep = (s.elapse dt).keep := by
  simp only [execCalibrationStart] at h
  first
    | (injection h with h; subst h)
    | (split at h; exact absurd h (by simp); injection h with h; subst h)
  repeat' first
    | with_reducible rfl
    | (intro _)
    | (with_reducible refine Eq.trans (State.modMeas_keep _ _ _) ?_)
    | (with_reducible refine Eq.trans (State.when_keep _ _ _ ?_) ?_)
    | (with_reducible refine Eq.trans (foldl_keep _ ?_ _ _) ?_)
    | (with_reducible refine Eq.trans (foldl_keep1 _ ?_ _ _) ?_)
    | split
    | (simp only [keep_mk])
    | (dsimp only)
theorem execInrushWindowEnd_keep (dt : Nat) (c : ChanId) (s : State) {t : State} (h : execInrushWindowEnd dt c s = .next t) : t.keep = (s.elapse dt).keep := by
  simp only [execInrushWindowEnd] at h
  first
    | (injection h with h; subst h)
    | (split at h; exact absurd h (by simp); injection h with h; subst h)
  repeat' first
    | with_reducible rfl
    | (intro _)
    | (with_reducible refine Eq.trans (State.modChan_keep _ _ _) ?_)
    | (with_reducible refine Eq.trans (State.when_keep _ _ _ ?_) ?_)
    | (with_reducible refine Eq.trans (foldl_keep _ ?_ _ _) ?_)
    | (with_reducible refine Eq.trans (foldl_keep1 _ ?_ _ _) ?_)
    | split
    | (simp only [keep_mk])
    | (dsimp only)
theorem execSetFieldWatchdog_keep (dt : Nat) (n : Word32) (s : State) {t : State} (h : execSetFieldWatchdog dt n s = .next t) : t.keep = (s.elapse dt).keep := by
  simp only [execSetFieldWatchdog] at h
  first
    | (injection h with h; subst h)
    | (split at h; exact absurd h (by simp); injection h with h; subst h)
  repeat' first
    | with_reducible rfl
    | (intro _)
    | (with_reducible refine Eq.trans (State.finish_keep _ _ _ _ _) ?_)
    | (with_reducible refine Eq.trans (State.modQuad_keep _ _ _) ?_)
    | (with_reducible refine Eq.trans (State.fset_keep _ _ _ _ _ _ ?_) ?_)
    | (with_reducible refine Eq.trans (State.setCfgDone_keep _ _) ?_)
    | (with_reducible refine Eq.trans (foldl_keep _ ?_ _ _) ?_)
    | (with_reducible refine Eq.trans (foldl_keep1 _ ?_ _ _) ?_)
    | split
    | (simp only [keep_mk])
    | (dsimp only)
theorem execThrottleEnter_keep (dt : Nat) (s : State) {t : State} (h : execThrottleEnter dt s = .next t) : t.keep = (s.elapse dt).keep := by
  simp only [execThrottleEnter] at h
  first
    | (injection h with h; subst h)
    | (split at h; exact absurd h (by simp); injection h with h; subst h)
  repeat' first
    | with_reducible rfl
    | (intro _)
    | (with_reducible refine Eq.trans (State.when_keep _ _ _ ?_) ?_)
    | (with_reducible refine Eq.trans (State.raiseCause_keep _ _) ?_)
    | (with_reducible refine Eq.trans (State.refit_keep _) ?_)
    | (with_reducible refine Eq.trans (State.logEvent_keep _ _ _ _) ?_)
    | (with_reducible refine Eq.trans (foldl_keep _ ?_ _ _) ?_)
    | (with_reducible refine Eq.trans (foldl_keep1 _ ?_ _ _) ?_)
    | split
    | (simp only [keep_mk])
    | (dsimp only)
theorem execPlumbScan_keep (dt : Nat) (q : QueueId) (n : Word32) (s : State) {t : State} (h : execPlumbScan dt q n s = .next t) : t.keep = (s.elapse dt).keep := by
  simp only [execPlumbScan] at h
  first
    | (injection h with h; subst h)
    | (split at h; exact absurd h (by simp); injection h with h; subst h)
  repeat' first
    | with_reducible rfl
    | (intro _)
    | (with_reducible refine Eq.trans (State.io_keep _ _ _ _ _ _ _ ?_) ?_)
    | (with_reducible refine Eq.trans (State.modPlumb_keep _ _ _) ?_)
    | (with_reducible refine Eq.trans (State.scanStarts_keep _ _ _ _) ?_)
    | (with_reducible refine Eq.trans (foldl_keep _ ?_ _ _) ?_)
    | (with_reducible refine Eq.trans (foldl_keep1 _ ?_ _ _) ?_)
    | split
    | (simp only [keep_mk])
    | (dsimp only)
theorem execSwitchOnAdmit_keep (dt : Nat) (q : QuadId) (s : State) {t : State} (h : execSwitchOnAdmit dt q s = .next t) : t.keep = (s.elapse dt).keep := by
  simp only [execSwitchOnAdmit] at h
  first
    | (injection h with h; subst h)
    | (split at h; exact absurd h (by simp); injection h with h; subst h)
  repeat' first
    | with_reducible rfl
    | (intro _)
    | (with_reducible refine Eq.trans (State.when_keep _ _ _ ?_) ?_)
    | (with_reducible refine Eq.trans (State.modQuad_keep _ _ _) ?_)
    | (with_reducible refine Eq.trans (State.grant_keep _ _ _) ?_)
    | (with_reducible refine Eq.trans (State.fireHard_keep _ _) ?_)
    | (with_reducible refine Eq.trans (State.holdBack_keep _ _) ?_)
    | (with_reducible refine Eq.trans (foldl_keep _ ?_ _ _) ?_)
    | (with_reducible refine Eq.trans (foldl_keep1 _ ?_ _ _) ?_)
    | split
    | (simp only [keep_mk])
    | (dsimp only)
theorem execFwLoad_keep (dt : Nat) (n : Word32) (s : State) {t : State} (h : execFwLoad dt n s = .next t) : t.keep = (s.elapse dt).keep := by
  simp only [execFwLoad] at h
  first
    | (injection h with h; subst h)
    | (split at h; exact absurd h (by simp); injection h with h; subst h)
  repeat' first
    | with_reducible rfl
    | (intro _)
    | (with_reducible refine Eq.trans (State.addOp_keep _ _ _ _) ?_)
    | (with_reducible refine Eq.trans (State.emit_keep _ _) ?_)
    | (with_reducible refine Eq.trans (State.finish_keep _ _ _ _ _) ?_)
    | (with_reducible refine Eq.trans (State.adm_keep _ _ _ _ _ _ ?_) ?_)
    | (with_reducible refine Eq.trans (foldl_keep _ ?_ _ _) ?_)
    | (with_reducible refine Eq.trans (foldl_keep1 _ ?_ _ _) ?_)
    | split
    | (simp only [keep_mk])
    | (dsimp only)
theorem execSecRowRead_keep (dt : Nat) (row : Fin 22) (s : State) {t : State} (h : execSecRowRead dt row s = .next t) : t.keep = (s.elapse dt).keep := by
  simp only [execSecRowRead] at h
  first
    | (injection h with h; subst h)
    | (split at h; exact absurd h (by simp); injection h with h; subst h)
  repeat' first
    | with_reducible rfl
    | (intro _)
    | (with_reducible refine Eq.trans (State.modHost_keep _ _) ?_)
    | (with_reducible refine Eq.trans (State.answer_keep _ _) ?_)
    | (with_reducible refine Eq.trans (State.barRead_keep _ _ _ ?_) ?_)
    | (with_reducible refine Eq.trans (foldl_keep _ ?_ _ _) ?_)
    | (with_reducible refine Eq.trans (foldl_keep1 _ ?_ _ _) ?_)
    | split
    | (simp only [keep_mk])
    | (dsimp only)
theorem State.feed_keep (s : State) (q : QuadId) (slot : SlotId) (x : Int) (stamp : Nat) (fl : Word16) : (State.feed s q slot x stamp fl).keep = s.keep := by
  unfold State.feed
  try dsimp only
  repeat' first
    | with_reducible rfl
    | (intro _)
    | (with_reducible refine Eq.trans (State.chainIn_keep _ _ _) ?_)
    | (with_reducible refine Eq.trans (foldl_keep _ ?_ _ _) ?_)
    | (with_reducible refine Eq.trans (foldl_keep1 _ ?_ _ _) ?_)
    | split
    | (simp only [keep_mk])
    | (dsimp only)
theorem execConversionResult_keep (dt : Nat) (q : QuadId) (injected : Bool) (s : State) {t : State} (h : execConversionResult dt q injected s = .next t) : t.keep = (s.elapse dt).keep := by
  simp only [execConversionResult] at h
  first
    | (injection h with h; subst h)
    | (split at h; exact absurd h (by simp); injection h with h; subst h)
  repeat' first
    | with_reducible rfl
    | (intro _)
    | (with_reducible refine Eq.trans (State.modMeas_keep _ _ _) ?_)
    | (with_reducible refine Eq.trans (State.modAcc_keep _ _ _ _) ?_)
    | (with_reducible refine Eq.trans (State.deny_keep _ _ _ _) ?_)
    | (with_reducible refine Eq.trans (State.when_keep _ _ _ ?_) ?_)
    | (with_reducible refine Eq.trans (State.injectDone_keep _ _ _ _) ?_)
    | (with_reducible refine Eq.trans (State.feed_keep _ _ _ _ _ _) ?_)
    | (with_reducible refine Eq.trans (foldl_keep _ ?_ _ _) ?_)
    | (with_reducible refine Eq.trans (foldl_keep1 _ ?_ _ _) ?_)
    | split
    | (simp only [keep_mk])
    | (dsimp only)
theorem execSetSync_keep (dt : Nat) (n : Word32) (s : State) {t : State} (h : execSetSync dt n s = .next t) : t.keep = (s.elapse dt).keep := by
  simp only [execSetSync] at h
  first
    | (injection h with h; subst h)
    | (split at h; exact absurd h (by simp); injection h with h; subst h)
  repeat' first
    | with_reducible rfl
    | (intro _)
    | (with_reducible refine Eq.trans (State.fset_keep _ _ _ _ _ _ ?_) ?_)
    | (with_reducible refine Eq.trans (State.setCfgDone_keep _ _) ?_)
    | (with_reducible refine Eq.trans (foldl_keep _ ?_ _ _) ?_)
    | (with_reducible refine Eq.trans (foldl_keep1 _ ?_ _ _) ?_)
    | split
    | (simp only [keep_mk])
    | (dsimp only)
theorem execOutToggle_keep (dt : Nat) (b : CBankId) (i : Nat) (s : State) {t : State} (h : execOutToggle dt b i s = .next t) : t.keep = (s.elapse dt).keep := by
  simp only [execOutToggle] at h
  first
    | (injection h with h; subst h)
    | (split at h; exact absurd h (by simp); injection h with h; subst h)
  repeat' first
    | with_reducible rfl
    | (intro _)
    | (with_reducible refine Eq.trans (State.fireEntry_keep _ _ _ _ _ ?_) ?_)
    | (with_reducible refine Eq.trans (State.courseChan_keep _ _ _ ?_) ?_)
    | (with_reducible refine keep_pair (by assumption) (Eq.trans (State.setLevel_keep _ _ _ _) ?_))
    | (with_reducible refine Eq.trans (State.setLevel_keep _ _ _ _) ?_)
    | (with_reducible refine Eq.trans (foldl_keep _ ?_ _ _) ?_)
    | (with_reducible refine Eq.trans (foldl_keep1 _ ?_ _ _) ?_)
    | split
    | (simp only [keep_mk])
    | (dsimp only)
theorem execHbOutToggle_keep (dt : Nat) (s : State) {t : State} (h : execHbOutToggle dt s = .next t) : t.keep = (s.elapse dt).keep := by
  simp only [execHbOutToggle] at h
  first
    | (injection h with h; subst h)
    | (split at h; exact absurd h (by simp); injection h with h; subst h)
  repeat' first
    | with_reducible rfl
    | (intro _)
    | (with_reducible refine Eq.trans (State.modPair_keep _ _) ?_)
    | (with_reducible refine Eq.trans (State.when_keep _ _ _ ?_) ?_)
    | (with_reducible refine Eq.trans (foldl_keep _ ?_ _ _) ?_)
    | (with_reducible refine Eq.trans (foldl_keep1 _ ?_ _ _) ?_)
    | split
    | (simp only [keep_mk])
    | (dsimp only)
theorem execTransformerStart_keep (dt : Nat) (q : QuadId) (s : State) {t : State} (h : execTransformerStart dt q s = .next t) : t.keep = (s.elapse dt).keep := by
  simp only [execTransformerStart] at h
  first
    | (injection h with h; subst h)
    | (split at h; exact absurd h (by simp); injection h with h; subst h)
  repeat' first
    | with_reducible rfl
    | (intro _)
    | (with_reducible refine Eq.trans (State.when_keep _ _ _ ?_) ?_)
    | (with_reducible refine Eq.trans (State.modQuad_keep _ _ _) ?_)
    | (with_reducible refine Eq.trans (foldl_keep _ ?_ _ _) ?_)
    | (with_reducible refine Eq.trans (foldl_keep1 _ ?_ _ _) ?_)
    | split
    | (simp only [keep_mk])
    | (dsimp only)
theorem execWireBreakResume_keep (dt : Nat) (q : QuadId) (s : State) {t : State} (h : execWireBreakResume dt q s = .next t) : t.keep = (s.elapse dt).keep := by
  simp only [execWireBreakResume] at h
  first
    | (injection h with h; subst h)
    | (split at h; exact absurd h (by simp); injection h with h; subst h)
  repeat' first
    | with_reducible rfl
    | (intro _)
    | (with_reducible refine Eq.trans (State.when_keep _ _ _ ?_) ?_)
    | (with_reducible refine Eq.trans (State.modQuad_keep _ _ _) ?_)
    | (with_reducible refine Eq.trans (foldl_keep _ ?_ _ _) ?_)
    | (with_reducible refine Eq.trans (foldl_keep1 _ ?_ _ _) ?_)
    | split
    | (simp only [keep_mk])
    | (dsimp only)
theorem execSafeNClear_keep (dt : Nat) (s : State) {t : State} (h : execSafeNClear dt s = .next t) : t.keep = (s.elapse dt).keep := by
  simp only [execSafeNClear] at h
  first
    | (injection h with h; subst h)
    | (split at h; exact absurd h (by simp); injection h with h; subst h)
  repeat' first
    | with_reducible rfl
    | (intro _)
    | (with_reducible refine Eq.trans (State.when_keep _ _ _ ?_) ?_)
    | (with_reducible refine Eq.trans (State.retrigger_keep _ _ ?_) ?_)
    | (with_reducible refine Eq.trans (State.driveSelf_keep _ _) ?_)
    | (with_reducible refine Eq.trans (foldl_keep _ ?_ _ _) ?_)
    | (with_reducible refine Eq.trans (foldl_keep1 _ ?_ _ _) ?_)
    | split
    | (simp only [keep_mk])
    | (dsimp only)
theorem execD3hotToD0_keep (dt : Nat) (s : State) {t : State} (h : execD3hotToD0 dt s = .next t) : t.keep = (s.elapse dt).keep := by
  simp only [execD3hotToD0] at h
  first
    | (injection h with h; subst h)
    | (split at h; exact absurd h (by simp); injection h with h; subst h)
  repeat' first
    | with_reducible rfl
    | (intro _)
    | (with_reducible refine Eq.trans (State.modHost_keep _ _) ?_)
    | (with_reducible refine Eq.trans (State.when_keep _ _ _ ?_) ?_)
    | (with_reducible refine Eq.trans (State.hostReset_keep _ _ _) ?_)
    | (with_reducible refine Eq.trans (foldl_keep _ ?_ _ _) ?_)
    | (with_reducible refine Eq.trans (foldl_keep1 _ ?_ _ _) ?_)
    | split
    | (simp only [keep_mk])
    | (dsimp only)
theorem execAccessLoad_keep (dt : Nat) (n : Word32) (s : State) {t : State} (h : execAccessLoad dt n s = .next t) : t.keep = (s.elapse dt).keep := by
  simp only [execAccessLoad] at h
  first
    | (injection h with h; subst h)
    | (split at h; exact absurd h (by simp); injection h with h; subst h)
  repeat' first
    | with_reducible rfl
    | (intro _)
    | (with_reducible refine Eq.trans (State.addOp_keep _ _ _ _) ?_)
    | (with_reducible refine Eq.trans (State.emit_keep _ _) ?_)
    | (with_reducible refine Eq.trans (State.finish_keep _ _ _ _ _) ?_)
    | (with_reducible refine Eq.trans (State.adm_keep _ _ _ _ _ _ ?_) ?_)
    | (with_reducible refine Eq.trans (foldl_keep _ ?_ _ _) ?_)
    | (with_reducible refine Eq.trans (foldl_keep1 _ ?_ _ _) ?_)
    | split
    | (simp only [keep_mk])
    | (dsimp only)
theorem execMsixVectorUnmask_keep (dt : Nat) (v : VecId) (s : State) {t : State} (h : execMsixVectorUnmask dt v s = .next t) : t.keep = (s.elapse dt).keep := by
  simp only [execMsixVectorUnmask] at h
  first
    | (injection h with h; subst h)
    | (split at h; exact absurd h (by simp); injection h with h; subst h)
  repeat' first
    | with_reducible rfl
    | (intro _)
    | (with_reducible refine Eq.trans (State.barWrite_keep _ _ _ ?_) ?_)
    | (with_reducible refine Eq.trans (State.unmask_keep _ _) ?_)
    | (with_reducible refine Eq.trans (foldl_keep _ ?_ _ _) ?_)
    | (with_reducible refine Eq.trans (foldl_keep1 _ ?_ _ _) ?_)
    | split
    | (simp only [keep_mk])
    | (dsimp only)
theorem execLogRead_keep (dt : Nat) (n : Word32) (s : State) {t : State} (h : execLogRead dt n s = .next t) : t.keep = (s.elapse dt).keep := by
  simp only [execLogRead] at h
  first
    | (injection h with h; subst h)
    | (split at h; exact absurd h (by simp); injection h with h; subst h)
  repeat' first
    | with_reducible rfl
    | (intro _)
    | (with_reducible refine Eq.trans (State.emit_keep _ _) ?_)
    | (with_reducible refine Eq.trans (State.complete_keep _ _ _ _ _ _ _) ?_)
    | (with_reducible refine Eq.trans (State.adm_keep _ _ _ _ _ _ ?_) ?_)
    | (with_reducible refine Eq.trans (foldl_keep _ ?_ _ _) ?_)
    | (with_reducible refine Eq.trans (foldl_keep1 _ ?_ _ _) ?_)
    | split
    | (simp only [keep_mk])
    | (dsimp only)
theorem execOutWrite_keep (dt : Nat) (q : QueueId) (n : Word32) (s : State) {t : State} (h : execOutWrite dt q n s = .next t) : t.keep = (s.elapse dt).keep := by
  simp only [execOutWrite] at h
  first
    | (injection h with h; subst h)
    | (split at h; exact absurd h (by simp); injection h with h; subst h)
  repeat' first
    | with_reducible rfl
    | (intro _)
    | (with_reducible refine Eq.trans (State.io_keep _ _ _ _ _ _ _ ?_) ?_)
    | (with_reducible refine Eq.trans (State.outCmd_keep _ _ _ _ _ _ ?_) ?_)
    | (with_reducible refine keep_pair (by assumption) (Eq.trans (State.setLevel_keep _ _ _ _) ?_))
    | (with_reducible refine Eq.trans (State.setLevel_keep _ _ _ _) ?_)
    | (with_reducible refine Eq.trans (foldl_keep _ ?_ _ _) ?_)
    | (with_reducible refine Eq.trans (foldl_keep1 _ ?_ _ _) ?_)
    | split
    | (simp only [keep_mk])
    | (dsimp only)
theorem execCoefLoad_keep (dt : Nat) (q : QueueId) (n : Word32) (s : State) {t : State} (h : execCoefLoad dt q n s = .next t) : t.keep = (s.elapse dt).keep := by
  simp only [execCoefLoad] at h
  first
    | (injection h with h; subst h)
    | (split at h; exact absurd h (by simp); injection h with h; subst h)
  repeat' first
    | with_reducible rfl
    | (intro _)
    | (with_reducible refine Eq.trans (State.addOp_keep _ _ _ _) ?_)
    | (with_reducible refine Eq.trans (State.emit_keep _ _) ?_)
    | (with_reducible refine Eq.trans (State.finish_keep _ _ _ _ _) ?_)
    | (with_reducible refine Eq.trans (State.io_keep _ _ _ _ _ _ _ ?_) ?_)
    | (with_reducible refine Eq.trans (foldl_keep _ ?_ _ _) ?_)
    | (with_reducible refine Eq.trans (foldl_keep1 _ ?_ _ _) ?_)
    | split
    | (simp only [keep_mk])
    | (dsimp only)
theorem execSetPairTiming_keep (dt : Nat) (n : Word32) (s : State) {t : State} (h : execSetPairTiming dt n s = .next t) : t.keep = (s.elapse dt).keep := by
  simp only [execSetPairTiming] at h
  first
    | (injection h with h; subst h)
    | (split at h; exact absurd h (by simp); injection h with h; subst h)
  repeat' first
    | with_reducible rfl
    | (intro _)
    | (with_reducible refine Eq.trans (State.modPair_keep _ _) ?_)
    | (with_reducible refine Eq.trans (State.finish_keep _ _ _ _ _) ?_)
    | (with_reducible refine Eq.trans (State.fset_keep _ _ _ _ _ _ ?_) ?_)
    | (with_reducible refine Eq.trans (State.setCfgDone_keep _ _) ?_)
    | (with_reducible refine Eq.trans (State.applyTiming_keep _ _) ?_)
    | (with_reducible refine Eq.trans (foldl_keep _ ?_ _ _) ?_)
    | (with_reducible refine Eq.trans (foldl_keep1 _ ?_ _ _) ?_)
    | split
    | (simp only [keep_mk])
    | (dsimp only)
theorem execFieldDieSync_keep (dt : Nat) (q : QuadId) (s : State) {t : State} (h : execFieldDieSync dt q s = .next t) : t.keep = (s.elapse dt).keep := by
  simp only [execFieldDieSync] at h
  first
    | (injection h with h; subst h)
    | (split at h; exact absurd h (by simp); injection h with h; subst h)
  repeat' first
    | with_reducible rfl
    | (intro _)
    | (with_reducible refine Eq.trans (State.modChan_keep _ _ _) ?_)
    | (with_reducible refine Eq.trans (State.when_keep _ _ _ ?_) ?_)
    | (with_reducible refine Eq.trans (State.modQuad_keep _ _ _) ?_)
    | (with_reducible refine Eq.trans (State.retrigger_keep _ _ ?_) ?_)
    | (with_reducible refine Eq.trans (State.driveSelf_keep _ _) ?_)
    | (with_reducible refine Eq.trans (State.resetDone_keep _ _) ?_)
    | (with_reducible refine Eq.trans (State.disarmQuad_keep _ _) ?_)
    | (with_reducible refine Eq.trans (foldl_keep _ ?_ _ _) ?_)
    | (with_reducible refine Eq.trans (foldl_keep1 _ ?_ _ _) ?_)
    | split
    | (simp only [keep_mk])
    | (dsimp only)
theorem execHiDevenWrite_keep (dt : Nat) (v : Word32) (s : State) {t : State} (h : execHiDevenWrite dt v s = .next t) : t.keep = (s.elapse dt).keep := by
  simp only [execHiDevenWrite] at h
  first
    | (injection h with h; subst h)
    | (split at h; exact absurd h (by simp); injection h with h; subst h)
  repeat' first
    | with_reducible rfl
    | (intro _)
    | (with_reducible refine Eq.trans (State.setDev_keep _ _ _) ?_)
    | (with_reducible refine Eq.trans (State.barWrite_keep _ _ _ ?_) ?_)
    | (with_reducible refine Eq.trans (foldl_keep _ ?_ _ _) ?_)
    | (with_reducible refine Eq.trans (foldl_keep1 _ ?_ _ _) ?_)
    | split
    | (simp only [keep_mk])
    | (dsimp only)
theorem execSwapDone_keep (dt : Nat) (s : State) {t : State} (h : execSwapDone dt s = .next t) : t.keep = (s.elapse dt).keep := by
  simp only [execSwapDone] at h
  first
    | (injection h with h; subst h)
    | (split at h; exact absurd h (by simp); injection h with h; subst h)
  repeat' first
    | with_reducible rfl
    | (intro _)
    | (with_reducible refine Eq.trans (State.when_keep _ _ _ ?_) ?_)
    | (with_reducible refine Eq.trans (State.swapEnd_keep _ _ _) ?_)
    | (with_reducible refine Eq.trans (State.angleTick_keep _) ?_)
    | (with_reducible refine Eq.trans (foldl_keep _ ?_ _ _) ?_)
    | (with_reducible refine Eq.trans (foldl_keep1 _ ?_ _ _) ?_)
    | split
    | (simp only [keep_mk])
    | (dsimp only)
theorem execPerstAssert_keep (dt : Nat) (s : State) {t : State} (h : execPerstAssert dt s = .next t) : t.keep = (s.elapse dt).keep := by
  simp only [execPerstAssert] at h
  first
    | (injection h with h; subst h)
    | (split at h; exact absurd h (by simp); injection h with h; subst h)
  repeat' first
    | with_reducible rfl
    | (intro _)
    | (with_reducible refine Eq.trans (State.modHost_keep _ _) ?_)
    | (with_reducible refine Eq.trans (State.hostReset_keep _ _ _) ?_)
    | (with_reducible refine Eq.trans (foldl_keep _ ?_ _ _) ?_)
    | (with_reducible refine Eq.trans (foldl_keep1 _ ?_ _ _) ?_)
    | split
    | (simp only [keep_mk])
    | (dsimp only)
theorem execFilterConfig_keep (dt : Nat) (q : QueueId) (n : Word32) (s : State) {t : State} (h : execFilterConfig dt q n s = .next t) : t.keep = (s.elapse dt).keep := by
  simp only [execFilterConfig] at h
  first
    | (injection h with h; subst h)
    | (split at h; exact absurd h (by simp); injection h with h; subst h)
  repeat' first
    | with_reducible rfl
    | (intro _)
    | (with_reducible refine Eq.trans (State.configDone_keep _ _ _ _ _ _ _ _) ?_)
    | (with_reducible refine Eq.trans (State.finish_keep _ _ _ _ _) ?_)
    | (with_reducible refine Eq.trans (State.io_keep _ _ _ _ _ _ _ ?_) ?_)
    | (with_reducible refine Eq.trans (State.filterApply_keep _ _ _ _ _) ?_)
    | (with_reducible refine Eq.trans (foldl_keep _ ?_ _ _) ?_)
    | (with_reducible refine Eq.trans (foldl_keep1 _ ?_ _ _) ?_)
    | split
    | (simp only [keep_mk])
    | (dsimp only)
theorem execRngHealthTestPass_keep (dt : Nat) (s : State) {t : State} (h : execRngHealthTestPass dt s = .next t) : t.keep = (s.elapse dt).keep := by
  simp only [execRngHealthTestPass] at h
  first
    | (injection h with h; subst h)
    | (split at h; exact absurd h (by simp); injection h with h; subst h)
  repeat' first
    | with_reducible rfl
    | (intro _)
    | (with_reducible refine Eq.trans (State.modMason_keep _ _) ?_)
    | (with_reducible refine Eq.trans (State.when_keep _ _ _ ?_) ?_)
    | (with_reducible refine Eq.trans (foldl_keep _ ?_ _ _) ?_)
    | (with_reducible refine Eq.trans (foldl_keep1 _ ?_ _ _) ?_)
    | split
    | (simp only [keep_mk])
    | (dsimp only)
theorem execLplusNormal_keep (dt : Nat) (r : Lasting QuadId Nat) (s : State) {t : State} (h : execLplusNormal dt r s = .next t) : t.keep = (s.elapse dt).keep := by
  simp only [execLplusNormal] at h
  first
    | (injection h with h; subst h)
    | (split at h; exact absurd h (by simp); injection h with h; subst h)
  repeat' first
    | with_reducible rfl
    | (intro _)
    | (with_reducible refine Eq.trans (State.lplus_keep _ _ _ _ _ ?_) ?_)
    | (with_reducible refine Eq.trans (State.enterClass_keep _ _ _) ?_)
    | (with_reducible refine Eq.trans (foldl_keep _ ?_ _ _) ?_)
    | (with_reducible refine Eq.trans (foldl_keep1 _ ?_ _ _) ?_)
    | split
    | (simp only [keep_mk])
    | (dsimp only)
theorem execBudgetSet_keep (dt : Nat) (q : QueueId) (n : Word32) (s : State) {t : State} (h : execBudgetSet dt q n s = .next t) : t.keep = (s.elapse dt).keep := by
  simp only [execBudgetSet] at h
  first
    | (injection h with h; subst h)
    | (split at h; exact absurd h (by simp); injection h with h; subst h)
  repeat' first
    | with_reducible rfl
    | (intro _)
    | (with_reducible refine Eq.trans (State.modChan_keep _ _ _) ?_)
    | (with_reducible refine Eq.trans (State.configDone_keep _ _ _ _ _ _ _ _) ?_)
    | (with_reducible refine Eq.trans (State.finish_keep _ _ _ _ _) ?_)
    | (with_reducible refine Eq.trans (State.io_keep _ _ _ _ _ _ _ ?_) ?_)
    | (with_reducible refine Eq.trans (State.modQuad_keep _ _ _) ?_)
    | (with_reducible refine Eq.trans (foldl_keep _ ?_ _ _) ?_)
    | (with_reducible refine Eq.trans (foldl_keep1 _ ?_ _ _) ?_)
    | split
    | (simp only [keep_mk])
    | (dsimp only)
theorem execSerialRetry_keep (dt : Nat) (s : State) {t : State} (h : execSerialRetry dt s = .next t) : t.keep = (s.elapse dt).keep := by
  simp only [execSerialRetry] at h
  first
    | (injection h with h; subst h)
    | (split at h; exact absurd h (by simp); injection h with h; subst h)
  repeat' first
    | with_reducible rfl
    | (intro _)
    | (with_reducible refine Eq.trans (State.when_keep _ _ _ ?_) ?_)
    | (with_reducible refine Eq.trans (State.modSerial_keep _ _) ?_)
    | (with_reducible refine Eq.trans (foldl_keep _ ?_ _ _) ?_)
    | (with_reducible refine Eq.trans (foldl_keep1 _ ?_ _ _) ?_)
    | split
    | (simp only [keep_mk])
    | (dsimp only)
theorem execCheckpointNow_keep (dt : Nat) (n : Word32) (s : State) {t : State} (h : execCheckpointNow dt n s = .next t) : t.keep = (s.elapse dt).keep := by
  simp only [execCheckpointNow] at h
  first
    | (injection h with h; subst h)
    | (split at h; exact absurd h (by simp); injection h with h; subst h)
  repeat' first
    | with_reducible rfl
    | (intro _)
    | (with_reducible refine Eq.trans (State.modPair_keep _ _) ?_)
    | (with_reducible refine Eq.trans (State.addOp_keep _ _ _ _) ?_)
    | (with_reducible refine Eq.trans (State.finish_keep _ _ _ _ _) ?_)
    | (with_reducible refine Eq.trans (State.adm_keep _ _ _ _ _ _ ?_) ?_)
    | (with_reducible refine Eq.trans (State.freeMason_keep _) ?_)
    | (with_reducible refine Eq.trans (foldl_keep _ ?_ _ _) ?_)
    | (with_reducible refine Eq.trans (foldl_keep1 _ ?_ _ _) ?_)
    | split
    | (simp only [keep_mk])
    | (dsimp only)
theorem execBankWrite_keep (dt : Nat) (b : CBankId) (i : Nat) (s : State) {t : State} (h : execBankWrite dt b i s = .next t) : t.keep = (s.elapse dt).keep := by
  simp only [execBankWrite] at h
  first
    | (injection h with h; subst h)
    | (split at h; exact absurd h (by simp); injection h with h; subst h)
  repeat' first
    | with_reducible rfl
    | (intro _)
    | (with_reducible refine Eq.trans (State.notApplied_keep _) ?_)
    | (with_reducible refine Eq.trans (State.fireEntry_keep _ _ _ _ _ ?_) ?_)
    | (with_reducible refine Eq.trans (State.courseMay_keep _ _ _ ?_) ?_)
    | (with_reducible refine keep_pair (by assumption) (Eq.trans (State.setLevel_keep _ _ _ _) ?_))
    | (with_reducible refine Eq.trans (State.setLevel_keep _ _ _ _) ?_)
    | (with_reducible refine Eq.trans (foldl_keep _ ?_ _ _) ?_)
    | (with_reducible refine Eq.trans (foldl_keep1 _ ?_ _ _) ?_)
    | split
    | (simp only [keep_mk])
    | (dsimp only)
theorem execSlaveSelectRise_keep (dt : Nat) (bits : Nat) (s : State) {t : State} (h : execSlaveSelectRise dt bits s = .next t) : t.keep = (s.elapse dt).keep := by
  simp only [execSlaveSelectRise] at h
  first
    | (injection h with h; subst h)
    | (split at h; exact absurd h (by simp); injection h with h; subst h)
  repeat' first
    | with_reducible rfl
    | (intro _)
    | (with_reducible refine Eq.trans (State.when_keep _ _ _ ?_) ?_)
    | (with_reducible refine Eq.trans (State.modSerial_keep _ _) ?_)
    | (with_reducible refine Eq.trans (State.stageOpen_keep _) ?_)
    | (with_reducible refine Eq.trans (State.drainRx_keep _) ?_)
    | (with_reducible refine Eq.trans (foldl_keep _ ?_ _ _) ?_)
    | (with_reducible refine Eq.trans (foldl_keep1 _ ?_ _ _) ?_)
    | split
    | (simp only [keep_mk])
    | (dsimp only)
theorem execLplusUnder_keep (dt : Nat) (r : Lasting QuadId Nat) (s : State) {t : State} (h : execLplusUnder dt r s = .next t) : t.keep = (s.elapse dt).keep := by
  simp only [execLplusUnder] at h
  first
    | (injection h with h; subst h)
    | (split at h; exact absurd h (by simp); injection h with h; subst h)
  repeat' first
    | with_reducible rfl
    | (intro _)
    | (with_reducible refine Eq.trans (State.lplus_keep _ _ _ _ _ ?_) ?_)
    | (with_reducible refine Eq.trans (State.quadOff_keep _ _) ?_)
    | (with_reducible refine Eq.trans (State.enterClass_keep _ _ _) ?_)
    | (with_reducible refine Eq.trans (foldl_keep _ ?_ _ _) ?_)
    | (with_reducible refine Eq.trans (foldl_keep1 _ ?_ _ _) ?_)
    | split
    | (simp only [keep_mk])
    | (dsimp only)
theorem execLplusLow_keep (dt : Nat) (r : Lasting QuadId Nat) (s : State) {t : State} (h : execLplusLow dt r s = .next t) : t.keep = (s.elapse dt).keep := by
  simp only [execLplusLow] at h
  first
    | (injection h with h; subst h)
    | (split at h; exact absurd h (by simp); injection h with h; subst h)
  repeat' first
    | with_reducible rfl
    | (intro _)
    | (with_reducible refine Eq.trans (State.lplus_keep _ _ _ _ _ ?_) ?_)
    | (with_reducible refine Eq.trans (State.enterClass_keep _ _ _) ?_)
    | (with_reducible refine Eq.trans (foldl_keep _ ?_ _ _) ?_)
    | (with_reducible refine Eq.trans (foldl_keep1 _ ?_ _ _) ?_)
    | split
    | (simp only [keep_mk])
    | (dsimp only)
theorem execFwCommitActivate_keep (dt : Nat) (n : Word32) (s : State) {t : State} (h : execFwCommitActivate dt n s = .next t) : t.keep = (s.elapse dt).keep := by
  simp only [execFwCommitActivate] at h
  first
    | (injection h with h; subst h)
    | (split at h; exact absurd h (by simp); injection h with h; subst h)
  repeat' first
    | with_reducible rfl
    | (intro _)
    | (with_reducible refine Eq.trans (State.fwCommit_keep _ _ _ _ _ ?_) ?_)
    | (with_reducible refine Eq.trans (State.verified_keep _ _ _ ?_) ?_)
    | (with_reducible refine Eq.trans (State.flashStart_keep _ _ _) ?_)
    | (with_reducible refine Eq.trans (foldl_keep _ ?_ _ _) ?_)
    | (with_reducible refine Eq.trans (foldl_keep1 _ ?_ _ _) ?_)
    | split
    | (simp only [keep_mk])
    | (dsimp only)
theorem execReferenceMark_keep (m : MarkEdge) (s : State) {t : State} (h : execReferenceMark m s = .next t) : t.keep = (s.elapse m.dt).keep := by
  simp only [execReferenceMark] at h
  first
    | (injection h with h; subst h)
    | (split at h; exact absurd h (by simp); injection h with h; subst h)
  repeat' first
    | with_reducible rfl
    | (intro _)
    | (with_reducible refine Eq.trans (State.when_keep _ _ _ ?_) ?_)
    | (with_reducible refine Eq.trans (State.modAng_keep _ _) ?_)
    | (with_reducible refine Eq.trans (State.angleTick_keep _) ?_)
    | (with_reducible refine Eq.trans (State.reference_keep _ _) ?_)
    | (with_reducible refine Eq.trans (State.encFault_keep _ _) ?_)
    | (with_reducible refine Eq.trans (foldl_keep _ ?_ _ _) ?_)
    | (with_reducible refine Eq.trans (foldl_keep1 _ ?_ _ _) ?_)
    | split
    | (simp only [keep_mk])
    | (dsimp only)
theorem execAttest_keep (dt : Nat) (n : Word32) (overtaken : Nat) (s : State) {t : State} (h : execAttest dt n overtaken s = .next t) : t.keep = (s.elapse dt).keep := by
  simp only [execAttest] at h
  first
    | (injection h with h; subst h)
    | (split at h; exact absurd h (by simp); injection h with h; subst h)
  repeat' first
    | with_reducible rfl
    | (intro _)
    | (with_reducible refine Eq.trans (State.useFresh_keep _) ?_)
    | (with_reducible refine Eq.trans (State.emit_keep _ _) ?_)
    | (with_reducible refine Eq.trans (State.complete_keep _ _ _ _ _ _ _) ?_)
    | (with_reducible refine Eq.trans (State.finish_keep _ _ _ _ _) ?_)
    | (with_reducible refine Eq.trans (State.adm_keep _ _ _ _ _ _ ?_) ?_)
    | (with_reducible refine Eq.trans (foldl_keep _ ?_ _ _) ?_)
    | (with_reducible refine Eq.trans (foldl_keep1 _ ?_ _ _) ?_)
    | split
    | (simp only [keep_mk])
    | (dsimp only)
theorem execTestPulseEnd_keep (dt : Nat) (c : ChanId) (rose : Bool × Bool) (s : State) {t : State} (h : execTestPulseEnd dt c rose s = .next t) : t.keep = (s.elapse dt).keep := by
  simp only [execTestPulseEnd] at h
  first
    | (injection h with h; subst h)
    | (split at h; exact absurd h (by simp); injection h with h; subst h)
  repeat' first
    | with_reducible rfl
    | (intro _)
    | (with_reducible refine Eq.trans (State.modChan_keep _ _ _) ?_)
    | (with_reducible refine Eq.trans (State.when_keep _ _ _ ?_) ?_)
    | (with_reducible refine Eq.trans (State.testSeen_keep _ _ _) ?_)
    | (with_reducible refine Eq.trans (foldl_keep _ ?_ _ _) ?_)
    | (with_reducible refine Eq.trans (foldl_keep1 _ ?_ _ _) ?_)
    | split
    | (simp only [keep_mk])
    | (dsimp only)
theorem execDownlinkFrame_keep (dt : Nat) (q : QuadId) (err : BitVec 200) (r : Readings) (s : State) {t : State} (h : execDownlinkFrame dt q err r s = .next t) : t.keep = (s.elapse dt).keep := by
  simp only [execDownlinkFrame] at h
  first
    | (injection h with h; subst h)
    | (split at h; exact absurd h (by simp); injection h with h; subst h)
  repeat' first
    | with_reducible rfl
    | (intro _)
    | (with_reducible refine Eq.trans (State.when_keep _ _ _ ?_) ?_)
    | (with_reducible refine Eq.trans (State.modQuad_keep _ _ _) ?_)
    | (with_reducible refine Eq.trans (State.goodFrame_keep _ _ _) ?_)
    | (with_reducible refine Eq.trans (State.frameSent_keep _ _) ?_)
    | (with_reducible refine Eq.trans (State.badFrame_keep _ _) ?_)
    | (with_reducible refine Eq.trans (State.coreFrame_keep _ _ _) ?_)
    | (with_reducible refine Eq.trans (foldl_keep _ ?_ _ _) ?_)
    | (with_reducible refine Eq.trans (foldl_keep1 _ ?_ _ _) ?_)
    | split
    | (simp only [keep_mk])
    | (dsimp only)
theorem execThrottleExit_keep (dt : Nat) (s : State) {t : State} (h : execThrottleExit dt s = .next t) : t.keep = (s.elapse dt).keep := by
  simp only [execThrottleExit] at h
  first
    | (injection h with h; subst h)
    | (split at h; exact absurd h (by simp); injection h with h; subst h)
  repeat' first
    | with_reducible rfl
    | (intro _)
    | (with_reducible refine Eq.trans (State.when_keep _ _ _ ?_) ?_)
    | (with_reducible refine Eq.trans (State.raiseCause_keep _ _) ?_)
    | (with_reducible refine Eq.trans (State.logEvent_keep _ _ _ _) ?_)
    | (with_reducible refine Eq.trans (State.chainStart_keep _ _ _ _) ?_)
    | (with_reducible refine Eq.trans (foldl_keep _ ?_ _ _) ?_)
    | (with_reducible refine Eq.trans (foldl_keep1 _ ?_ _ _) ?_)
    | split
    | (simp only [keep_mk])
    | (dsimp only)
theorem execSetFaultNClassMask_keep (dt : Nat) (n : Word32) (s : State) {t : State} (h : execSetFaultNClassMask dt n s = .next t) : t.keep = (s.elapse dt).keep := by
  simp only [execSetFaultNClassMask] at h
  first
    | (injection h with h; subst h)
    | (split at h; exact absurd h (by simp); injection h with h; subst h)
  repeat' first
    | with_reducible rfl
    | (intro _)
    | (with_reducible refine Eq.trans (State.fset_keep _ _ _ _ _ _ ?_) ?_)
    | (with_reducible refine Eq.trans (State.setCfgDone_keep _ _) ?_)
    | (with_reducible refine Eq.trans (foldl_keep _ ?_ _ _) ?_)
    | (with_reducible refine Eq.trans (foldl_keep1 _ ?_ _ _) ?_)
    | split
    | (simp only [keep_mk])
    | (dsimp only)
theorem execMasonWatchdogExpiry_keep (dt : Nat) (s : State) {t : State} (h : execMasonWatchdogExpiry dt s = .next t) : t.keep = (s.elapse dt).keep := by
  simp only [execMasonWatchdogExpiry] at h
  first
    | (injection h with h; subst h)
    | (split at h; exact absurd h (by simp); injection h with h; subst h)
  repeat' first
    | with_reducible rfl
    | (intro _)
    | (with_reducible refine Eq.trans (State.modMason_keep _ _) ?_)
    | (with_reducible refine Eq.trans (State.when_keep _ _ _ ?_) ?_)
    | (with_reducible refine Eq.trans (State.masonRestart_keep _) ?_)
    | (with_reducible refine Eq.trans (State.recover_keep _) ?_)
    | (with_reducible refine Eq.trans (foldl_keep _ ?_ _ _) ?_)
    | (with_reducible refine Eq.trans (foldl_keep1 _ ?_ _ _) ?_)
    | split
    | (simp only [keep_mk])
    | (dsimp only)
theorem execRetryWindowExpiry_keep (dt : Nat) (c : ChanId) (s : State) {t : State} (h : execRetryWindowExpiry dt c s = .next t) : t.keep = (s.elapse dt).keep := by
  simp only [execRetryWindowExpiry] at h
  first
    | (injection h with h; subst h)
    | (split at h; exact absurd h (by simp); injection h with h; subst h)
  repeat' first
    | with_reducible rfl
    | (intro _)
    | (with_reducible refine Eq.trans (State.modChan_keep _ _ _) ?_)
    | (with_reducible refine Eq.trans (State.when_keep _ _ _ ?_) ?_)
    | (with_reducible refine Eq.trans (foldl_keep _ ?_ _ _) ?_)
    | (with_reducible refine Eq.trans (foldl_keep1 _ ?_ _ _) ?_)
    | split
    | (simp only [keep_mk])
    | (dsimp only)
theorem execSetSerialPort_keep (dt : Nat) (n : Word32) (s : State) {t : State} (h : execSetSerialPort dt n s = .next t) : t.keep = (s.elapse dt).keep := by
  simp only [execSetSerialPort] at h
  first
    | (injection h with h; subst h)
    | (split at h; exact absurd h (by simp); injection h with h; subst h)
  repeat' first
    | with_reducible rfl
    | (intro _)
    | (with_reducible refine Eq.trans (State.finish_keep _ _ _ _ _) ?_)
    | (with_reducible refine Eq.trans (State.modSerial_keep _ _) ?_)
    | (with_reducible refine Eq.trans (State.fset_keep _ _ _ _ _ _ ?_) ?_)
    | (with_reducible refine Eq.trans (State.setCfgDone_keep _ _) ?_)
    | (with_reducible refine Eq.trans (foldl_keep _ ?_ _ _) ?_)
    | (with_reducible refine Eq.trans (foldl_keep1 _ ?_ _ _) ?_)
    | split
    | (simp only [keep_mk])
    | (dsimp only)
theorem execSetSupplyPolicy_keep (dt : Nat) (n : Word32) (s : State) {t : State} (h : execSetSupplyPolicy dt n s = .next t) : t.keep = (s.elapse dt).keep := by
  simp only [execSetSupplyPolicy] at h
  first
    | (injection h with h; subst h)
    | (split at h; exact absurd h (by simp); injection h with h; subst h)
  repeat' first
    | with_reducible rfl
    | (intro _)
    | (with_reducible refine Eq.trans (State.modQuad_keep _ _ _) ?_)
    | (with_reducible refine Eq.trans (State.fset_keep _ _ _ _ _ _ ?_) ?_)
    | (with_reducible refine Eq.trans (State.setCfgDone_keep _ _) ?_)
    | (with_reducible refine Eq.trans (foldl_keep _ ?_ _ _) ?_)
    | (with_reducible refine Eq.trans (foldl_keep1 _ ?_ _ _) ?_)
    | split
    | (simp only [keep_mk])
    | (dsimp only)
theorem execOutPulseUpdate_keep (dt : Nat) (q : QueueId) (n : Word32) (s : State) {t : State} (h : execOutPulseUpdate dt q n s = .next t) : t.keep = (s.elapse dt).keep := by
  simp only [execOutPulseUpdate] at h
  first
    | (injection h with h; subst h)
    | (split at h; exact absurd h (by simp); injection h with h; subst h)
  repeat' first
    | with_reducible rfl
    | (intro _)
    | (with_reducible refine Eq.trans (State.io_keep _ _ _ _ _ _ _ ?_) ?_)
    | (with_reducible refine Eq.trans (State.outCmd_keep _ _ _ _ _ _ ?_) ?_)
    | (with_reducible refine keep_pair (by assumption) (Eq.trans (State.updateGen_keep _ _ _ _ _) ?_))
    | (with_reducible refine Eq.trans (State.updateGen_keep _ _ _ _ _) ?_)
    | (with_reducible refine Eq.trans (State.pulseWrite_keep _ _ _) ?_)
    | (with_reducible refine Eq.trans (foldl_keep _ ?_ _ _) ?_)
    | (with_reducible refine Eq.trans (foldl_keep1 _ ?_ _ _) ?_)
    | split
    | (simp only [keep_mk])
    | (dsimp only)
theorem execOpenOff_keep (dt : Nat) (r : Lasting ChanId Nat) (s : State) {t : State} (h : execOpenOff dt r s = .next t) : t.keep = (s.elapse dt).keep := by
  simp only [execOpenOff] at h
  first
    | (injection h with h; subst h)
    | (split at h; exact absurd h (by simp); injection h with h; subst h)
  repeat' first
    | with_reducible rfl
    | (intro _)
    | (with_reducible refine Eq.trans (State.when_keep _ _ _ ?_) ?_)
    | (with_reducible refine Eq.trans (State.raiseDiag_keep _ _ _) ?_)
    | (with_reducible refine Eq.trans (foldl_keep _ ?_ _ _) ?_)
    | (with_reducible refine Eq.trans (foldl_keep1 _ ?_ _ _) ?_)
    | split
    | (simp only [keep_mk])
    | (dsimp only)
theorem execCoefSwap_keep (dt : Nat) (q : QueueId) (n : Word32) (s : State) {t : State} (h : execCoefSwap dt q n s = .next t) : t.keep = (s.elapse dt).keep := by
  simp only [execCoefSwap] at h
  first
    | (injection h with h; subst h)
    | (split at h; exact absurd h (by simp); injection h with h; subst h)
  repeat' first
    | with_reducible rfl
    | (intro _)
    | (with_reducible refine Eq.trans (State.addOp_keep _ _ _ _) ?_)
    | (with_reducible refine Eq.trans (State.io_keep _ _ _ _ _ _ _ ?_) ?_)
    | (with_reducible refine Eq.trans (State.coefSwapRun_keep _ _ _) ?_)
    | (with_reducible refine Eq.trans (foldl_keep _ ?_ _ _) ?_)
    | (with_reducible refine Eq.trans (foldl_keep1 _ ?_ _ _) ?_)
    | split
    | (simp only [keep_mk])
    | (dsimp only)

end Sys2Proof.Machine
end

