-- ==== Sys2Proof/Laws/FrameBase.lean ====
section
/-!
SUPPORT. The queue of commands, the clock, device time's origin and the Plinth under the meanings that the frame of FrameKeep does not cover.
-/
namespace Sys2Proof.Machine
open Sys2Proof

/-- Their values together. -/
abbrev BaseT := (List Instr) × Nat × Nat × (List Host.Cell)
/-- The fields that this file is about. -/
def State.base (s : State) : BaseT := (s.pending, s.clock, s.zero, s.plinth)
theorem base_mk (X : State) (freeCtr : Nat) (por : Bool) (rails : BitVec 4) (viso : Bool) (clk25 : Bool) (dormantReq : Bool) (dormant : Bool) (wokeDormant : Bool) (straps : BitVec 5) (strapsNow : BitVec 5) (throttled : Bool) (safeN : Bool) (safeNAt : Nat) (encSafe : Bool) (visoLost : Bool) (devw : Word64) (devwNew : Option Word64) (logicMw : Nat) (visoMw : Nat) (faultMask : BitVec 5) (syncw : BitVec 4) (flush : Nat) (routes : Vector Byte 10) (host : HostRegs) (msix : Vector MsixEntry 68) (queues : Vector Queue 64) (out : List HostOut) (outWait : List HostOut) (staging : List (Record × Option (QueueId × Word32))) (fieldDue : Option Byte) (ops : List Op) (chans : Vector Chan 128) (quads : Vector Quad 4) (reqs : List Req) (reqSeq : Nat) (fetchSeq : Nat) (ang : Ang) (course : Course) (meas : Vector Meas 4) (chains : Vector Chain 16) (syncTick : Option Nat) (syncMerged : Nat) (syncOut : Nat) (arch : Arch) (vault : Vault) (plumb : Vector Plumb 8) (serial : Serial) (mason : Mason) (rows : Vector Word64 22) (locked : Bool) (cfgGen : Word32) (pair : Pair) :
    State.base ⟨X.pending, X.clock, X.zero, freeCtr, por, rails, viso, clk25, dormantReq, dormant, wokeDormant, straps, strapsNow, throttled, safeN, safeNAt, encSafe, visoLost, devw, devwNew, logicMw, visoMw, faultMask, syncw, flush, routes, host, msix, queues, out, outWait, staging, fieldDue, ops, chans, quads, reqs, reqSeq, fetchSeq, ang, course, meas, chains, syncTick, syncMerged, syncOut, arch, vault, plumb, serial, mason, rows, locked, cfgGen, pair, X.plinth⟩ = X.base := rfl
theorem base_pair {β : Type} {p : State × β} {a : State} {b : β} (h : p = (a, b)) {x : BaseT} (hk : p.1.base = x) : a.base = x := by
  subst h; exact hk
theorem foldl_base {α : Type} (f : State → α → State) (h : ∀ s a, (f s a).base = s.base) (l : List α) (s : State) :
    (l.foldl f s).base = s.base := by
  induction l generalizing s with
  | nil => rfl
  | cons a l ih => simp only [List.foldl_cons]; rw [ih, h]
theorem foldl_base1 {α β : Type} (f : State × β → α → State × β) (h : ∀ s a, (f s a).1.base = s.1.base) (l : List α) (s : State × β) :
    (l.foldl f s).1.base = s.1.base := by
  induction l generalizing s with
  | nil => rfl
  | cons a l ih => simp only [List.foldl_cons]; rw [ih, h]
theorem base_of_keep {s t : State} (h : s.keep = t.keep) : s.base = t.base := by
  simp only [State.keep, State.base, Prod.mk.injEq] at h ⊢
  exact ⟨h.1, h.2.1, h.2.2.1, h.2.2.2.2.2.2.2.2.2.2.2⟩

theorem State.stageCount_base (s : State) (r : Record) (ok : State → State) (full : State → State) (hok : ∀ u, (ok u).base = u.base) (hfull : ∀ u, (full u).base = u.base) : (State.stageCount s r ok full).base = s.base := by
  unfold State.stageCount
  try dsimp only
  repeat' first
    | with_reducible rfl
    | (intro _)
    | (with_reducible refine Eq.trans (hok _) ?_)
    | (with_reducible refine Eq.trans (hfull _) ?_)
    | (with_reducible refine base_pair (by assumption) (Eq.trans (base_of_keep (State.stage_keep _ _ _)) ?_))
    | (with_reducible refine Eq.trans (base_of_keep (State.stage_keep _ _ _)) ?_)
    | (with_reducible refine Eq.trans (foldl_base _ ?_ _ _) ?_)
    | (with_reducible refine Eq.trans (foldl_base1 _ ?_ _ _) ?_)
    | split
    | (simp only [base_mk])
    | (dsimp only)
theorem State.when_base (s : State) (b : Bool) (f : State → State) (hf : (f s).base = s.base) : (State.when s b f).base = s.base := by
  unfold State.when; split
  · exact hf
  · rfl
theorem State.adm_base (s : State) (n : Word32) (form : Desc → Bool) (needs : Desc → List (Nat × Nat)) (bad : Desc → Option Nat) (body : Desc → State → State) (hbody : ∀ x0 u, (body x0 u).base = u.base) : (State.adm s n form needs bad body).base = s.base := by
  unfold State.adm
  try dsimp only
  repeat' first
    | with_reducible rfl
    | (intro _)
    | (with_reducible refine Eq.trans (hbody _ _) ?_)
    | (with_reducible refine Eq.trans (base_of_keep (State.finish_keep _ _ _ _ _)) ?_)
    | (with_reducible refine Eq.trans (base_of_keep (State.deny_keep _ _ _ _)) ?_)
    | (with_reducible refine Eq.trans (foldl_base _ ?_ _ _) ?_)
    | (with_reducible refine Eq.trans (foldl_base1 _ ?_ _ _) ?_)
    | split
    | (simp only [base_mk])
    | (dsimp only)
theorem State.retrigger_base (s : State) (f : State → State) (hf : ∀ u, (f u).base = u.base) : (State.retrigger s f).base = s.base := by
  unfold State.retrigger
  try dsimp only
  repeat' first
    | with_reducible rfl
    | (intro _)
    | (with_reducible refine Eq.trans (hf _) ?_)
    | (with_reducible refine Eq.trans (base_of_keep (State.leaveSafe_keep _ _)) ?_)
    | (with_reducible refine Eq.trans (base_of_keep (State.takeSafe_keep _ _)) ?_)
    | (with_reducible refine Eq.trans (foldl_base _ ?_ _ _) ?_)
    | (with_reducible refine Eq.trans (foldl_base1 _ ?_ _ _) ?_)
    | split
    | (simp only [base_mk])
    | (dsimp only)
theorem State.romStart_base (s : State) : (State.romStart s).base = s.base := by
  unfold State.romStart
  try dsimp only
  repeat' first
    | with_reducible rfl
    | (intro _)
    | (with_reducible refine Eq.trans (base_of_keep (State.modMason_keep _ _)) ?_)
    | (with_reducible refine Eq.trans (base_of_keep (State.romWait_keep _ _)) ?_)
    | (with_reducible refine Eq.trans (foldl_base _ ?_ _ _) ?_)
    | (with_reducible refine Eq.trans (foldl_base1 _ ?_ _ _) ?_)
    | split
    | (simp only [base_mk])
    | (dsimp only)
theorem State.hold_base (s : State) (cause : Nat) : (State.hold s cause).base = s.base := by
  unfold State.hold
  try dsimp only
  repeat' first
    | with_reducible rfl
    | (intro _)
    | (with_reducible refine Eq.trans (base_of_keep (State.modPair_keep _ _)) ?_)
    | (with_reducible refine Eq.trans (base_of_keep (State.modHost_keep _ _)) ?_)
    | (with_reducible refine Eq.trans (foldl_base _ ?_ _ _) ?_)
    | (with_reducible refine Eq.trans (foldl_base1 _ ?_ _ _) ?_)
    | split
    | (simp only [base_mk])
    | (dsimp only)
theorem State.restoreStatic_base (s : State) : (State.restoreStatic s).base = s.base := by
  unfold State.restoreStatic
  try dsimp only
  repeat' first
    | with_reducible rfl
    | (intro _)
    | (with_reducible refine Eq.trans (base_of_keep (State.recheck_keep _)) ?_)
    | (with_reducible refine Eq.trans (foldl_base _ ?_ _ _) ?_)
    | (with_reducible refine Eq.trans (foldl_base1 _ ?_ _ _) ?_)
    | split
    | (simp only [base_mk])
    | (dsimp only)
theorem State.startChains_base (s : State) : (State.startChains s).base = s.base := by
  unfold State.startChains
  try dsimp only
  repeat' first
    | with_reducible rfl
    | (intro _)
    | (with_reducible refine Eq.trans (base_of_keep (State.chainStart_keep _ _ _ _)) ?_)
    | (with_reducible refine Eq.trans (foldl_base _ ?_ _ _) ?_)
    | (with_reducible refine Eq.trans (foldl_base1 _ ?_ _ _) ?_)
    | split
    | (simp only [base_mk])
    | (dsimp only)
theorem State.safeStart_base (s : State) : (State.safeStart s).base = s.base := by
  unfold State.safeStart
  try dsimp only
  repeat' first
    | with_reducible rfl
    | (intro _)
    | (with_reducible refine Eq.trans (foldl_base _ ?_ _ _) ?_)
    | (with_reducible refine Eq.trans (foldl_base1 _ ?_ _ _) ?_)
    | split
    | (simp only [base_mk])
    | (dsimp only)
theorem State.restoreSlot_base (s : State) (k : Nat) : (State.restoreSlot s k).base = s.base := by
  unfold State.restoreSlot
  try dsimp only
  repeat' first
    | with_reducible rfl
    | (intro _)
    | (with_reducible refine Eq.trans (foldl_base _ ?_ _ _) ?_)
    | (with_reducible refine Eq.trans (foldl_base1 _ ?_ _ _) ?_)
    | split
    | (simp only [base_mk])
    | (dsimp only)
theorem State.takeover_base (s : State) (cause : Nat) : (State.takeover s cause).base = s.base := by
  unfold State.takeover
  try dsimp only
  repeat' first
    | with_reducible rfl
    | (intro _)
    | (with_reducible refine Eq.trans (base_of_keep (State.modPair_keep _ _)) ?_)
    | (with_reducible refine Eq.trans (base_of_keep (State.pairEvent_keep _ _ _)) ?_)
    | (with_reducible refine Eq.trans (State.romStart_base _) ?_)
    | (with_reducible refine Eq.trans (State.hold_base _ _) ?_)
    | (with_reducible refine Eq.trans (State.restoreStatic_base _) ?_)
    | (with_reducible refine Eq.trans (State.startChains_base _) ?_)
    | (with_reducible refine Eq.trans (State.safeStart_base _) ?_)
    | (with_reducible refine Eq.trans (State.restoreSlot_base _ _) ?_)
    | (with_reducible refine Eq.trans (foldl_base _ ?_ _ _) ?_)
    | (with_reducible refine Eq.trans (foldl_base1 _ ?_ _ _) ?_)
    | split
    | (simp only [base_mk])
    | (dsimp only)
theorem State.grantTake_base (s : State) : (State.grantTake s).base = s.base := by
  unfold State.grantTake
  try dsimp only
  repeat' first
    | with_reducible rfl
    | (intro _)
    | (with_reducible refine Eq.trans (State.takeover_base _ _) ?_)
    | (with_reducible refine Eq.trans (foldl_base _ ?_ _ _) ?_)
    | (with_reducible refine Eq.trans (foldl_base1 _ ?_ _ _) ?_)
    | split
    | (simp only [base_mk])
    | (dsimp only)
theorem execHeartbeat_base (dt : Nat) (b : List Byte) (s : State) {t : State} (h : execHeartbeat dt b s = .next t) : t.base = (s.elapse dt).base := by
  simp only [execHeartbeat] at h
  first
    | (injection h with h; subst h)
    | (split at h; exact absurd h (by simp); injection h with h; subst h)
  repeat' first
    | with_reducible rfl
    | (intro _)
    | (with_reducible refine Eq.trans (base_of_keep (State.modPair_keep _ _)) ?_)
    | (with_reducible refine Eq.trans (State.when_base _ _ _ ?_) ?_)
    | (with_reducible refine Eq.trans (base_of_keep (State.degrade_keep _)) ?_)
    | (with_reducible refine Eq.trans (base_of_keep (State.startResync_keep _ _)) ?_)
    | (with_reducible refine Eq.trans (State.grantTake_base _) ?_)
    | (with_reducible refine Eq.trans (foldl_base _ ?_ _ _) ?_)
    | (with_reducible refine Eq.trans (foldl_base1 _ ?_ _ _) ?_)
    | split
    | (simp only [base_mk])
    | (dsimp only)
theorem execClk25Loss_base (dt : Nat) (s : State) {t : State} (h : execClk25Loss dt s = .next t) : t.base = (s.elapse dt).base := by
  simp only [execClk25Loss] at h
  first
    | (injection h with h; subst h)
    | (split at h; exact absurd h (by simp); injection h with h; subst h)
  repeat' first
    | with_reducible rfl
    | (intro _)
    | (with_reducible refine Eq.trans (State.when_base _ _ _ ?_) ?_)
    | (with_reducible refine Eq.trans (foldl_base _ ?_ _ _) ?_)
    | (with_reducible refine Eq.trans (foldl_base1 _ ?_ _ _) ?_)
    | split
    | (simp only [base_mk])
    | (dsimp only)
theorem State.coefData_base (s : State) (q : QueueId) (n : Word32) (d : Desc) (data : List Byte) : (State.coefData s q n d data).base = s.base := by
  unfold State.coefData
  try dsimp only
  repeat' first
    | with_reducible rfl
    | (intro _)
    | (with_reducible refine Eq.trans (base_of_keep (State.modChain_keep _ _ _)) ?_)
    | (with_reducible refine Eq.trans (base_of_keep (State.finish_keep _ _ _ _ _)) ?_)
    | (with_reducible refine Eq.trans (base_of_keep (State.overtake_keep _ _ _)) ?_)
    | (with_reducible refine Eq.trans (base_of_keep (State.copyDelta_keep _ _ _)) ?_)
    | (with_reducible refine Eq.trans (foldl_base _ ?_ _ _) ?_)
    | (with_reducible refine Eq.trans (foldl_base1 _ ?_ _ _) ?_)
    | split
    | (simp only [base_mk])
    | (dsimp only)
theorem State.cold_base (s : State) (silence : Nat) : (State.cold s silence).base = s.base := by
  unfold State.cold
  try dsimp only
  repeat' first
    | with_reducible rfl
    | (intro _)
    | (with_reducible refine Eq.trans (foldl_base _ ?_ _ _) ?_)
    | (with_reducible refine Eq.trans (foldl_base1 _ ?_ _ _) ?_)
    | split
    | (simp only [base_mk])
    | (dsimp only)
theorem State.courseChecks_base (s : State) (q : QueueId) (n : Word32) (d : Desc) (bs : List Byte) (f : State → State) (hf : ∀ u, (f u).base = u.base) : (State.courseChecks s q n d bs f).base = s.base := by
  unfold State.courseChecks
  try dsimp only
  repeat' first
    | with_reducible rfl
    | (intro _)
    | (with_reducible refine Eq.trans (hf _) ?_)
    | (with_reducible refine Eq.trans (base_of_keep (State.finish_keep _ _ _ _ _)) ?_)
    | (with_reducible refine Eq.trans (foldl_base _ ?_ _ _) ?_)
    | (with_reducible refine Eq.trans (foldl_base1 _ ?_ _ _) ?_)
    | split
    | (simp only [base_mk])
    | (dsimp only)
theorem State.seqData_base (s : State) (q : QueueId) (n : Word32) (d : Desc) (data : List Byte) : (State.seqData s q n d data).base = s.base := by
  unfold State.seqData
  try dsimp only
  repeat' first
    | with_reducible rfl
    | (intro _)
    | (with_reducible refine Eq.trans (base_of_keep (State.finish_keep _ _ _ _ _)) ?_)
    | (with_reducible refine Eq.trans (base_of_keep (State.seqAccept_keep _ _ _ _ _ _)) ?_)
    | (with_reducible refine Eq.trans (foldl_base _ ?_ _ _) ?_)
    | (with_reducible refine Eq.trans (foldl_base1 _ ?_ _ _) ?_)
    | split
    | (simp only [base_mk])
    | (dsimp only)
theorem State.coursePass2_base (s : State) (q : QueueId) (n : Word32) (d : Desc) (crc : Word32) (bs : List Byte) : (State.coursePass2 s q n d crc bs).base = s.base := by
  unfold State.coursePass2
  try dsimp only
  repeat' first
    | with_reducible rfl
    | (intro _)
    | (with_reducible refine Eq.trans (base_of_keep (State.configured_keep _ _ _)) ?_)
    | (with_reducible refine Eq.trans (base_of_keep (State.finish_keep _ _ _ _ _)) ?_)
    | (with_reducible refine Eq.trans (base_of_keep (State.putBank_keep _ _ _ _)) ?_)
    | (with_reducible refine Eq.trans (base_of_keep (State.courseDone_keep _ _ _ _ _ _)) ?_)
    | (with_reducible refine Eq.trans (foldl_base _ ?_ _ _) ?_)
    | (with_reducible refine Eq.trans (foldl_base1 _ ?_ _ _) ?_)
    | split
    | (simp only [base_mk])
    | (dsimp only)
theorem State.coursePass1_base (s : State) (q : QueueId) (n : Word32) (d : Desc) (bs : List Byte) : (State.coursePass1 s q n d bs).base = s.base := by
  unfold State.coursePass1
  try dsimp only
  repeat' first
    | with_reducible rfl
    | (intro _)
    | (with_reducible refine Eq.trans (base_of_keep (State.addOp_keep _ _ _ _)) ?_)
    | (with_reducible refine Eq.trans (base_of_keep (State.emit_keep _ _)) ?_)
    | (with_reducible refine Eq.trans (base_of_keep (State.overtake_keep _ _ _)) ?_)
    | (with_reducible refine Eq.trans (State.courseChecks_base _ _ _ _ _ _ ?_) ?_)
    | (with_reducible refine Eq.trans (foldl_base _ ?_ _ _) ?_)
    | (with_reducible refine Eq.trans (foldl_base1 _ ?_ _ _) ?_)
    | split
    | (simp only [base_mk])
    | (dsimp only)
theorem State.fwData_base (s : State) (n : Word32) (d : Desc) (data : List Byte) : (State.fwData s n d data).base = s.base := by
  unfold State.fwData
  try dsimp only
  repeat' first
    | with_reducible rfl
    | (intro _)
    | (with_reducible refine Eq.trans (base_of_keep (State.modMason_keep _ _)) ?_)
    | (with_reducible refine Eq.trans (base_of_keep (State.finish_keep _ _ _ _ _)) ?_)
    | (with_reducible refine Eq.trans (base_of_keep (State.modSerial_keep _ _)) ?_)
    | (with_reducible refine Eq.trans (foldl_base _ ?_ _ _) ?_)
    | (with_reducible refine Eq.trans (foldl_base1 _ ?_ _ _) ?_)
    | split
    | (simp only [base_mk])
    | (dsimp only)
theorem State.accessData_base (s : State) (n : Word32) (d : Desc) (data : List Byte) : (State.accessData s n d data).base = s.base := by
  unfold State.accessData
  try dsimp only
  repeat' first
    | with_reducible rfl
    | (intro _)
    | (with_reducible refine Eq.trans (base_of_keep (State.configured_keep _ _ _)) ?_)
    | (with_reducible refine Eq.trans (base_of_keep (State.finish_keep _ _ _ _ _)) ?_)
    | (with_reducible refine Eq.trans (foldl_base _ ?_ _ _) ?_)
    | (with_reducible refine Eq.trans (foldl_base1 _ ?_ _ _) ?_)
    | split
    | (simp only [base_mk])
    | (dsimp only)
theorem execCommandDataReadComplete_base (dt : Nat) (q : QueueId) (n : Word32) (data : List Byte) (s : State) {t : State} (h : execCommandDataReadComplete dt q n data s = .next t) : t.base = (s.elapse dt).base := by
  simp only [execCommandDataReadComplete] at h
  first
    | (injection h with h; subst h)
    | (split at h; exact absurd h (by simp); injection h with h; subst h)
  repeat' first
    | with_reducible rfl
    | (intro _)
    | (with_reducible refine Eq.trans (State.when_base _ _ _ ?_) ?_)
    | (with_reducible refine Eq.trans (State.coefData_base _ _ _ _ _) ?_)
    | (with_reducible refine Eq.trans (State.seqData_base _ _ _ _ _) ?_)
    | (with_reducible refine Eq.trans (State.coursePass2_base _ _ _ _ _ _) ?_)
    | (with_reducible refine Eq.trans (State.coursePass1_base _ _ _ _ _) ?_)
    | (with_reducible refine Eq.trans (State.fwData_base _ _ _ _) ?_)
    | (with_reducible refine Eq.trans (State.accessData_base _ _ _ _) ?_)
    | (with_reducible refine Eq.trans (foldl_base _ ?_ _ _) ?_)
    | (with_reducible refine Eq.trans (foldl_base1 _ ?_ _ _) ?_)
    | split
    | (simp only [base_mk])
    | (dsimp only)
theorem State.startRole_base (s : State) (cause : Nat) : (State.startRole s cause).base = s.base := by
  unfold State.startRole
  try dsimp only
  repeat' first
    | with_reducible rfl
    | (intro _)
    | (with_reducible refine Eq.trans (base_of_keep (State.modPair_keep _ _)) ?_)
    | (with_reducible refine Eq.trans (base_of_keep (State.pairEvent_keep _ _ _)) ?_)
    | (with_reducible refine Eq.trans (State.hold_base _ _) ?_)
    | (with_reducible refine Eq.trans (foldl_base _ ?_ _ _) ?_)
    | (with_reducible refine Eq.trans (foldl_base1 _ ?_ _ _) ?_)
    | split
    | (simp only [base_mk])
    | (dsimp only)
theorem State.enterStandby_base (s : State) (fresh : Bool) : (State.enterStandby s fresh).base = s.base := by
  unfold State.enterStandby
  try dsimp only
  repeat' first
    | with_reducible rfl
    | (intro _)
    | (with_reducible refine Eq.trans (State.cold_base _ _) ?_)
    | (with_reducible refine Eq.trans (foldl_base _ ?_ _ _) ?_)
    | (with_reducible refine Eq.trans (foldl_base1 _ ?_ _ _) ?_)
    | split
    | (simp only [base_mk])
    | (dsimp only)
theorem execPairRoleDecision_base (dt : Nat) (s : State) {t : State} (h : execPairRoleDecision dt s = .next t) : t.base = (s.elapse dt).base := by
  simp only [execPairRoleDecision] at h
  first
    | (injection h with h; subst h)
    | (split at h; exact absurd h (by simp); injection h with h; subst h)
  repeat' first
    | with_reducible rfl
    | (intro _)
    | (with_reducible refine Eq.trans (State.when_base _ _ _ ?_) ?_)
    | (with_reducible refine Eq.trans (State.startRole_base _ _) ?_)
    | (with_reducible refine Eq.trans (State.enterStandby_base _ _) ?_)
    | (with_reducible refine Eq.trans (foldl_base _ ?_ _ _) ?_)
    | (with_reducible refine Eq.trans (foldl_base1 _ ?_ _ _) ?_)
    | split
    | (simp only [base_mk])
    | (dsimp only)
theorem State.dropJournal_base (s : State) : (State.dropJournal s).base = s.base := by
  unfold State.dropJournal
  try dsimp only
  repeat' first
    | with_reducible rfl
    | (intro _)
    | (with_reducible refine Eq.trans (base_of_keep (State.modPair_keep _ _)) ?_)
    | (with_reducible refine Eq.trans (base_of_keep (State.logged_keep _ _ _)) ?_)
    | (with_reducible refine Eq.trans (base_of_keep (State.deltaDone_keep _ _)) ?_)
    | (with_reducible refine Eq.trans (foldl_base _ ?_ _ _) ?_)
    | (with_reducible refine Eq.trans (foldl_base1 _ ?_ _ _) ?_)
    | split
    | (simp only [base_mk])
    | (dsimp only)
theorem execAccessLock_base (dt : Nat) (n : Word32) (s : State) {t : State} (h : execAccessLock dt n s = .next t) : t.base = (s.elapse dt).base := by
  simp only [execAccessLock] at h
  first
    | (injection h with h; subst h)
    | (split at h; exact absurd h (by simp); injection h with h; subst h)
  repeat' first
    | with_reducible rfl
    | (intro _)
    | (with_reducible refine Eq.trans (base_of_keep (State.configured_keep _ _ _)) ?_)
    | (with_reducible refine Eq.trans (base_of_keep (State.finish_keep _ _ _ _ _)) ?_)
    | (with_reducible refine Eq.trans (State.adm_base _ _ _ _ _ _ ?_) ?_)
    | (with_reducible refine Eq.trans (foldl_base _ ?_ _ _) ?_)
    | (with_reducible refine Eq.trans (foldl_base1 _ ?_ _ _) ?_)
    | split
    | (simp only [base_mk])
    | (dsimp only)
theorem execActGntLow_base (dt : Nat) (s : State) {t : State} (h : execActGntLow dt s = .next t) : t.base = (s.elapse dt).base := by
  simp only [execActGntLow] at h
  first
    | (injection h with h; subst h)
    | (split at h; exact absurd h (by simp); injection h with h; subst h)
  repeat' first
    | with_reducible rfl
    | (intro _)
    | (with_reducible refine Eq.trans (base_of_keep (State.modPair_keep _ _)) ?_)
    | (with_reducible refine Eq.trans (State.when_base _ _ _ ?_) ?_)
    | (with_reducible refine Eq.trans (State.grantTake_base _) ?_)
    | (with_reducible refine Eq.trans (foldl_base _ ?_ _ _) ?_)
    | (with_reducible refine Eq.trans (foldl_base1 _ ?_ _ _) ?_)
    | split
    | (simp only [base_mk])
    | (dsimp only)
theorem execPowerOnResetAssert_base (dt : Nat) (rail : Rail) (s : State) {t : State} (h : execPowerOnResetAssert dt rail s = .next t) : t.base = (s.elapse dt).base := by
  simp only [execPowerOnResetAssert] at h
  first
    | (injection h with h; subst h)
    | (split at h; exact absurd h (by simp); injection h with h; subst h)
  repeat' first
    | with_reducible rfl
    | (intro _)
    | (with_reducible refine Eq.trans (foldl_base _ ?_ _ _) ?_)
    | (with_reducible refine Eq.trans (foldl_base1 _ ?_ _ _) ?_)
    | split
    | (simp only [base_mk])
    | (dsimp only)
theorem execEnterDormant_base (dt : Nat) (s : State) {t : State} (h : execEnterDormant dt s = .next t) : t.base = (s.elapse dt).base := by
  simp only [execEnterDormant] at h
  injection h with h; subst h
  refine State.when_base _ _ _ ?_
  exact (base_mk _ ..).trans (base_of_keep (State.diesLost_keep _))
theorem execReleaseExpiry_base (dt : Nat) (s : State) {t : State} (h : execReleaseExpiry dt s = .next t) : t.base = (s.elapse dt).base := by
  simp only [execReleaseExpiry] at h
  first
    | (injection h with h; subst h)
    | (split at h; exact absurd h (by simp); injection h with h; subst h)
  repeat' first
    | with_reducible rfl
    | (intro _)
    | (with_reducible refine Eq.trans (State.when_base _ _ _ ?_) ?_)
    | (with_reducible refine Eq.trans (State.enterStandby_base _ _) ?_)
    | (with_reducible refine Eq.trans (foldl_base _ ?_ _ _) ?_)
    | (with_reducible refine Eq.trans (foldl_base1 _ ?_ _ _) ?_)
    | split
    | (simp only [base_mk])
    | (dsimp only)
theorem execYield_base (dt : Nat) (cause : Byte) (s : State) {t : State} (h : execYield dt cause s = .next t) : t.base = (s.elapse dt).base := by
  simp only [execYield] at h
  first
    | (injection h with h; subst h)
    | (split at h; exact absurd h (by simp); injection h with h; subst h)
  repeat' first
    | with_reducible rfl
    | (intro _)
    | (with_reducible refine Eq.trans (State.when_base _ _ _ ?_) ?_)
    | (with_reducible refine Eq.trans (base_of_keep (State.pairEvent_keep _ _ _)) ?_)
    | (with_reducible refine Eq.trans (State.takeover_base _ _) ?_)
    | (with_reducible refine Eq.trans (foldl_base _ ?_ _ _) ?_)
    | (with_reducible refine Eq.trans (foldl_base1 _ ?_ _ _) ?_)
    | split
    | (simp only [base_mk])
    | (dsimp only)
theorem State.bothLost_base (s : State) : (State.bothLost s).base = s.base := by
  unfold State.bothLost
  try dsimp only
  repeat' first
    | with_reducible rfl
    | (intro _)
    | (with_reducible refine Eq.trans (base_of_keep (State.roleLoss_keep _ _)) ?_)
    | (with_reducible refine Eq.trans (State.takeover_base _ _) ?_)
    | (with_reducible refine Eq.trans (foldl_base _ ?_ _ _) ?_)
    | (with_reducible refine Eq.trans (foldl_base1 _ ?_ _ _) ?_)
    | split
    | (simp only [base_mk])
    | (dsimp only)
theorem execPathLoss_base (dt : Nat) (zafifa : Bool) (s : State) {t : State} (h : execPathLoss dt zafifa s = .next t) : t.base = (s.elapse dt).base := by
  simp only [execPathLoss] at h
  first
    | (injection h with h; subst h)
    | (split at h; exact absurd h (by simp); injection h with h; subst h)
  repeat' first
    | with_reducible rfl
    | (intro _)
    | (with_reducible refine Eq.trans (base_of_keep (State.modPair_keep _ _)) ?_)
    | (with_reducible refine Eq.trans (State.when_base _ _ _ ?_) ?_)
    | (with_reducible refine Eq.trans (base_of_keep (State.degrade_keep _)) ?_)
    | (with_reducible refine Eq.trans (State.grantTake_base _) ?_)
    | (with_reducible refine Eq.trans (State.dropJournal_base _) ?_)
    | (with_reducible refine Eq.trans (State.bothLost_base _) ?_)
    | (with_reducible refine Eq.trans (foldl_base _ ?_ _ _) ?_)
    | (with_reducible refine Eq.trans (foldl_base1 _ ?_ _ _) ?_)
    | split
    | (simp only [base_mk])
    | (dsimp only)

end Sys2Proof.Machine
end

