-- ==== Sys2Proof/Laws/FrameEvent.lean ====
section
/-!
SUPPORT. Meanings of a field die's own events change channels, quadrants, requests, the commands that wait for a channel, the Course engine's counts and the archive, and what they report.
-/
namespace Sys2Proof.Machine
open Sys2Proof

/-- Their values together. -/
abbrev EventT := (List Instr) × Nat × Nat × Nat × Bool × (BitVec 4) × Bool × Bool × Bool × Bool × Bool × (BitVec 5) × (BitVec 5) × Bool × Bool × Nat × Bool × Bool × Word64 × (Option Word64) × Nat × Nat × (BitVec 5) × (BitVec 4) × Nat × (Vector Byte 10) × (Option Byte) × Nat × Ang × (Vector Meas 4) × (Vector Chain 16) × (Option Nat) × Nat × Nat × Vault × (Vector Plumb 8) × Serial × (Vector Word64 22) × Bool × Word32 × Pair × (List Host.Cell)
/-- The fields that this file is about. -/
def State.event (s : State) : EventT := (s.pending, s.clock, s.zero, s.freeCtr, s.por, s.rails, s.viso, s.clk25, s.dormantReq, s.dormant, s.wokeDormant, s.straps, s.strapsNow, s.throttled, s.safeN, s.safeNAt, s.encSafe, s.visoLost, s.devw, s.devwNew, s.logicMw, s.visoMw, s.faultMask, s.syncw, s.flush, s.routes, s.fieldDue, s.fetchSeq, s.ang, s.meas, s.chains, s.syncTick, s.syncMerged, s.syncOut, s.vault, s.plumb, s.serial, s.rows, s.locked, s.cfgGen, s.pair, s.plinth)
theorem event_mk (X : State) (host : HostRegs) (msix : Vector MsixEntry 68) (queues : Vector Queue 64) (out : List HostOut) (outWait : List HostOut) (staging : List (Record × Option (QueueId × Word32))) (ops : List Op) (chans : Vector Chan 128) (quads : Vector Quad 4) (reqs : List Req) (reqSeq : Nat) (course : Course) (arch : Arch) (mason : Mason) :
    State.event ⟨X.pending, X.clock, X.zero, X.freeCtr, X.por, X.rails, X.viso, X.clk25, X.dormantReq, X.dormant, X.wokeDormant, X.straps, X.strapsNow, X.throttled, X.safeN, X.safeNAt, X.encSafe, X.visoLost, X.devw, X.devwNew, X.logicMw, X.visoMw, X.faultMask, X.syncw, X.flush, X.routes, host, msix, queues, out, outWait, staging, X.fieldDue, ops, chans, quads, reqs, reqSeq, X.fetchSeq, X.ang, course, X.meas, X.chains, X.syncTick, X.syncMerged, X.syncOut, arch, X.vault, X.plumb, X.serial, mason, X.rows, X.locked, X.cfgGen, X.pair, X.plinth⟩ = X.event := rfl
theorem event_pair {β : Type} {p : State × β} {a : State} {b : β} (h : p = (a, b)) {x : EventT} (hk : p.1.event = x) : a.event = x := by
  subst h; exact hk
theorem foldl_event {α : Type} (f : State → α → State) (h : ∀ s a, (f s a).event = s.event) (l : List α) (s : State) :
    (l.foldl f s).event = s.event := by
  induction l generalizing s with
  | nil => rfl
  | cons a l ih => simp only [List.foldl_cons]; rw [ih, h]
theorem foldl_event1 {α β : Type} (f : State × β → α → State × β) (h : ∀ s a, (f s a).1.event = s.1.event) (l : List α) (s : State × β) :
    (l.foldl f s).1.event = s.1.event := by
  induction l generalizing s with
  | nil => rfl
  | cons a l ih => simp only [List.foldl_cons]; rw [ih, h]

theorem State.modChan_event (s : State) (c : ChanId) (f : Chan → Chan) : (State.modChan s c f).event = s.event := by
  unfold State.modChan
  try dsimp only
  repeat' first
    | with_reducible rfl
    | (intro _)
    | (with_reducible refine Eq.trans (foldl_event _ ?_ _ _) ?_)
    | (with_reducible refine Eq.trans (foldl_event1 _ ?_ _ _) ?_)
    | split
    | (simp only [event_mk])
    | (dsimp only)
theorem State.stage_event (s : State) (r : Record) (who : optParam (Option (QueueId × Word32)) none) : (State.stage s r who).1.event = s.event := by
  unfold State.stage
  try dsimp only
  repeat' first
    | with_reducible rfl
    | (intro _)
    | (with_reducible refine Eq.trans (foldl_event _ ?_ _ _) ?_)
    | (with_reducible refine Eq.trans (foldl_event1 _ ?_ _ _) ?_)
    | split
    | (simp only [event_mk])
    | (dsimp only)
theorem State.stageCount_event (s : State) (r : Record) (ok : State → State) (full : State → State) (hok : ∀ u, (ok u).event = u.event) (hfull : ∀ u, (full u).event = u.event) : (State.stageCount s r ok full).event = s.event := by
  unfold State.stageCount
  try dsimp only
  repeat' first
    | with_reducible rfl
    | (intro _)
    | (with_reducible refine Eq.trans (hok _) ?_)
    | (with_reducible refine Eq.trans (hfull _) ?_)
    | (with_reducible refine event_pair (by assumption) (Eq.trans (State.stage_event _ _ _) ?_))
    | (with_reducible refine Eq.trans (State.stage_event _ _ _) ?_)
    | (with_reducible refine Eq.trans (foldl_event _ ?_ _ _) ?_)
    | (with_reducible refine Eq.trans (foldl_event1 _ ?_ _ _) ?_)
    | split
    | (simp only [event_mk])
    | (dsimp only)
theorem State.modQueue_event (s : State) (q : QueueId) (f : Queue → Queue) : (State.modQueue s q f).event = s.event := by
  unfold State.modQueue
  try dsimp only
  repeat' first
    | with_reducible rfl
    | (intro _)
    | (with_reducible refine Eq.trans (foldl_event _ ?_ _ _) ?_)
    | (with_reducible refine Eq.trans (foldl_event1 _ ?_ _ _) ?_)
    | split
    | (simp only [event_mk])
    | (dsimp only)
theorem State.drained_event (s : State) (q : QueueId) : (State.drained s q).event = s.event := by
  unfold State.drained
  try dsimp only
  repeat' first
    | with_reducible rfl
    | (intro _)
    | (with_reducible refine Eq.trans (State.modQueue_event _ _ _) ?_)
    | (with_reducible refine Eq.trans (foldl_event _ ?_ _ _) ?_)
    | (with_reducible refine Eq.trans (foldl_event1 _ ?_ _ _) ?_)
    | split
    | (simp only [event_mk])
    | (dsimp only)
theorem State.modMason_event (s : State) (f : Mason → Mason) : (State.modMason s f).event = s.event := by
  unfold State.modMason
  try dsimp only
  repeat' first
    | with_reducible rfl
    | (intro _)
    | (with_reducible refine Eq.trans (foldl_event _ ?_ _ _) ?_)
    | (with_reducible refine Eq.trans (foldl_event1 _ ?_ _ _) ?_)
    | split
    | (simp only [event_mk])
    | (dsimp only)
theorem State.emit_event (s : State) (o : HostOut) : (State.emit s o).event = s.event := by
  unfold State.emit
  try dsimp only
  repeat' first
    | with_reducible rfl
    | (intro _)
    | (with_reducible refine Eq.trans (foldl_event _ ?_ _ _) ?_)
    | (with_reducible refine Eq.trans (foldl_event1 _ ?_ _ _) ?_)
    | split
    | (simp only [event_mk])
    | (dsimp only)
theorem setMsix_event (s : State) (v : VecId) (f : MsixEntry → MsixEntry) : (setMsix s v f).event = s.event := by
  unfold setMsix
  try dsimp only
  repeat' first
    | with_reducible rfl
    | (intro _)
    | (with_reducible refine Eq.trans (foldl_event _ ?_ _ _) ?_)
    | (with_reducible refine Eq.trans (foldl_event1 _ ?_ _ _) ?_)
    | split
    | (simp only [event_mk])
    | (dsimp only)
theorem State.signal_event (s : State) (v : VecId) : (State.signal s v).event = s.event := by
  unfold State.signal
  try dsimp only
  repeat' first
    | with_reducible rfl
    | (intro _)
    | (with_reducible refine Eq.trans (State.emit_event _ _) ?_)
    | (with_reducible refine Eq.trans (setMsix_event _ _ _) ?_)
    | (with_reducible refine Eq.trans (foldl_event _ ?_ _ _) ?_)
    | (with_reducible refine Eq.trans (foldl_event1 _ ?_ _ _) ?_)
    | split
    | (simp only [event_mk])
    | (dsimp only)
theorem State.signalQueue_event (s : State) (q : QueueId) : (State.signalQueue s q).event = s.event := by
  unfold State.signalQueue
  try dsimp only
  repeat' first
    | with_reducible rfl
    | (intro _)
    | (with_reducible refine Eq.trans (State.modQueue_event _ _ _) ?_)
    | (with_reducible refine Eq.trans (State.signal_event _ _) ?_)
    | (with_reducible refine Eq.trans (foldl_event _ ?_ _ _) ?_)
    | (with_reducible refine Eq.trans (foldl_event1 _ ?_ _ _) ?_)
    | split
    | (simp only [event_mk])
    | (dsimp only)
theorem State.completeRaw_event (s : State) (q : QueueId) (n : Word32) (st : Status) (detail : Nat) (time : Nat) (result : Mask128) : (State.completeRaw s q n st detail time result).event = s.event := by
  unfold State.completeRaw
  try dsimp only
  repeat' first
    | with_reducible rfl
    | (intro _)
    | (with_reducible refine Eq.trans (State.modQueue_event _ _ _) ?_)
    | (with_reducible refine Eq.trans (State.modMason_event _ _) ?_)
    | (with_reducible refine Eq.trans (State.emit_event _ _) ?_)
    | (with_reducible refine Eq.trans (State.signalQueue_event _ _) ?_)
    | (with_reducible refine Eq.trans (foldl_event _ ?_ _ _) ?_)
    | (with_reducible refine Eq.trans (foldl_event1 _ ?_ _ _) ?_)
    | split
    | (simp only [event_mk])
    | (dsimp only)
theorem State.finishDrains_event (s : State) : (State.finishDrains s).event = s.event := by
  unfold State.finishDrains
  try dsimp only
  repeat' first
    | with_reducible rfl
    | (intro _)
    | (with_reducible refine Eq.trans (State.modQueue_event _ _ _) ?_)
    | (with_reducible refine Eq.trans (State.drained_event _ _) ?_)
    | (with_reducible refine Eq.trans (State.completeRaw_event _ _ _ _ _ _ _) ?_)
    | (with_reducible refine Eq.trans (foldl_event _ ?_ _ _) ?_)
    | (with_reducible refine Eq.trans (foldl_event1 _ ?_ _ _) ?_)
    | split
    | (simp only [event_mk])
    | (dsimp only)
theorem State.complete_event (s : State) (q : QueueId) (n : Word32) (st : Status) (detail : Nat) (time : Nat) (result : Mask128) : (State.complete s q n st detail time result).event = s.event := by
  unfold State.complete
  try dsimp only
  repeat' first
    | with_reducible rfl
    | (intro _)
    | (with_reducible refine Eq.trans (State.drained_event _ _) ?_)
    | (with_reducible refine Eq.trans (State.completeRaw_event _ _ _ _ _ _ _) ?_)
    | (with_reducible refine Eq.trans (State.finishDrains_event _) ?_)
    | (with_reducible refine Eq.trans (foldl_event _ ?_ _ _) ?_)
    | (with_reducible refine Eq.trans (foldl_event1 _ ?_ _ _) ?_)
    | split
    | (simp only [event_mk])
    | (dsimp only)
theorem State.modHost_event (s : State) (f : HostRegs → HostRegs) : (State.modHost s f).event = s.event := by
  unfold State.modHost
  try dsimp only
  repeat' first
    | with_reducible rfl
    | (intro _)
    | (with_reducible refine Eq.trans (foldl_event _ ?_ _ _) ?_)
    | (with_reducible refine Eq.trans (foldl_event1 _ ?_ _ _) ?_)
    | split
    | (simp only [event_mk])
    | (dsimp only)
theorem State.noteSet_event (s : State) (k : Nat) : (State.noteSet s k).event = s.event := by
  unfold State.noteSet
  try dsimp only
  repeat' first
    | with_reducible rfl
    | (intro _)
    | (with_reducible refine Eq.trans (State.modHost_event _ _) ?_)
    | (with_reducible refine Eq.trans (foldl_event _ ?_ _ _) ?_)
    | (with_reducible refine Eq.trans (foldl_event1 _ ?_ _ _) ?_)
    | split
    | (simp only [event_mk])
    | (dsimp only)
theorem State.modArch_event (s : State) (f : Arch → Arch) : (State.modArch s f).event = s.event := by
  unfold State.modArch
  try dsimp only
  repeat' first
    | with_reducible rfl
    | (intro _)
    | (with_reducible refine Eq.trans (foldl_event _ ?_ _ _) ?_)
    | (with_reducible refine Eq.trans (foldl_event1 _ ?_ _ _) ?_)
    | split
    | (simp only [event_mk])
    | (dsimp only)
theorem State.modCourse_event (s : State) (f : Course → Course) : (State.modCourse s f).event = s.event := by
  unfold State.modCourse
  try dsimp only
  repeat' first
    | with_reducible rfl
    | (intro _)
    | (with_reducible refine Eq.trans (foldl_event _ ?_ _ _) ?_)
    | (with_reducible refine Eq.trans (foldl_event1 _ ?_ _ _) ?_)
    | split
    | (simp only [event_mk])
    | (dsimp only)
theorem State.when_event (s : State) (b : Bool) (f : State → State) (hf : (f s).event = s.event) : (State.when s b f).event = s.event := by
  unfold State.when; split
  · exact hf
  · rfl
theorem State.completeOp_event (s : State) (o : Op) (st : Status) (detail : Nat) (time : Nat) (result : Mask128) : (State.completeOp s o st detail time result).event = s.event := by
  unfold State.completeOp
  try dsimp only
  repeat' first
    | with_reducible rfl
    | (intro _)
    | (with_reducible refine Eq.trans (State.complete_event _ _ _ _ _ _ _) ?_)
    | (with_reducible refine Eq.trans (foldl_event _ ?_ _ _) ?_)
    | (with_reducible refine Eq.trans (foldl_event1 _ ?_ _ _) ?_)
    | split
    | (simp only [event_mk])
    | (dsimp only)
theorem State.setDev_event (s : State) (cause : Word32) (en : Word32) : (State.setDev s cause en).event = s.event := by
  unfold State.setDev
  try dsimp only
  repeat' first
    | with_reducible rfl
    | (intro _)
    | (with_reducible refine Eq.trans (State.signal_event _ _) ?_)
    | (with_reducible refine Eq.trans (State.modHost_event _ _) ?_)
    | (with_reducible refine Eq.trans (foldl_event _ ?_ _ _) ?_)
    | (with_reducible refine Eq.trans (foldl_event1 _ ?_ _ _) ?_)
    | split
    | (simp only [event_mk])
    | (dsimp only)
theorem State.raiseCause_event (s : State) (bitNo : Nat) : (State.raiseCause s bitNo).event = s.event := by
  unfold State.raiseCause
  try dsimp only
  repeat' first
    | with_reducible rfl
    | (intro _)
    | (with_reducible refine Eq.trans (State.noteSet_event _ _) ?_)
    | (with_reducible refine Eq.trans (State.setDev_event _ _ _) ?_)
    | (with_reducible refine Eq.trans (foldl_event _ ?_ _ _) ?_)
    | (with_reducible refine Eq.trans (foldl_event1 _ ?_ _ _) ?_)
    | split
    | (simp only [event_mk])
    | (dsimp only)
theorem State.outDecided_event (s : State) (q : QueueId) (n : Word32) : (State.outDecided s q n).event = s.event := by
  unfold State.outDecided
  try dsimp only
  repeat' first
    | with_reducible rfl
    | (intro _)
    | (with_reducible refine Eq.trans (State.completeOp_event _ _ _ _ _ _) ?_)
    | (with_reducible refine Eq.trans (foldl_event _ ?_ _ _) ?_)
    | (with_reducible refine Eq.trans (foldl_event1 _ ?_ _ _) ?_)
    | split
    | (simp only [event_mk])
    | (dsimp only)
theorem State.setOut_event (s : State) (o : Op) (x : OutOp) : (State.setOut s o x).event = s.event := by
  unfold State.setOut
  try dsimp only
  repeat' first
    | with_reducible rfl
    | (intro _)
    | (with_reducible refine Eq.trans (foldl_event _ ?_ _ _) ?_)
    | (with_reducible refine Eq.trans (foldl_event1 _ ?_ _ _) ?_)
    | split
    | (simp only [event_mk])
    | (dsimp only)
theorem State.decided_event (s : State) (q : QueueId) (n : Word32) (c : ChanId) (d : Decision) : (State.decided s q n c d).event = s.event := by
  unfold State.decided
  try dsimp only
  repeat' first
    | with_reducible rfl
    | (intro _)
    | (with_reducible refine Eq.trans (State.outDecided_event _ _ _) ?_)
    | (with_reducible refine Eq.trans (State.setOut_event _ _ _) ?_)
    | (with_reducible refine Eq.trans (foldl_event _ ?_ _ _) ?_)
    | (with_reducible refine Eq.trans (foldl_event1 _ ?_ _ _) ?_)
    | split
    | (simp only [event_mk])
    | (dsimp only)
theorem State.request_event (s : State) (c : ChanId) (src : ReqSrc) (k : ReqKind) : (State.request s c src k).event = s.event := by
  unfold State.request
  try dsimp only
  repeat' first
    | with_reducible rfl
    | (intro _)
    | (with_reducible refine Eq.trans (foldl_event _ ?_ _ _) ?_)
    | (with_reducible refine Eq.trans (foldl_event1 _ ?_ _ _) ?_)
    | split
    | (simp only [event_mk])
    | (dsimp only)
theorem State.modQuad_event (s : State) (q : QuadId) (f : Quad → Quad) : (State.modQuad s q f).event = s.event := by
  unfold State.modQuad
  try dsimp only
  repeat' first
    | with_reducible rfl
    | (intro _)
    | (with_reducible refine Eq.trans (foldl_event _ ?_ _ _) ?_)
    | (with_reducible refine Eq.trans (foldl_event1 _ ?_ _ _) ?_)
    | split
    | (simp only [event_mk])
    | (dsimp only)
theorem State.freezeNow_event (s : State) : (State.freezeNow s).event = s.event := by
  unfold State.freezeNow
  try dsimp only
  repeat' first
    | with_reducible rfl
    | (intro _)
    | (with_reducible refine Eq.trans (State.modArch_event _ _) ?_)
    | (with_reducible refine Eq.trans (State.raiseCause_event _ _) ?_)
    | (with_reducible refine Eq.trans (foldl_event _ ?_ _ _) ?_)
    | (with_reducible refine Eq.trans (foldl_event1 _ ?_ _ _) ?_)
    | split
    | (simp only [event_mk])
    | (dsimp only)
theorem State.archTrigger_event (s : State) (code : Nat) (num : Nat) (post : Nat) (who : Option (QueueId × Word32)) : (State.archTrigger s code num post who).event = s.event := by
  unfold State.archTrigger
  try dsimp only
  repeat' first
    | with_reducible rfl
    | (intro _)
    | (with_reducible refine Eq.trans (State.modArch_event _ _) ?_)
    | (with_reducible refine Eq.trans (State.freezeNow_event _) ?_)
    | (with_reducible refine Eq.trans (foldl_event _ ?_ _ _) ?_)
    | (with_reducible refine Eq.trans (foldl_event1 _ ?_ _ _) ?_)
    | split
    | (simp only [event_mk])
    | (dsimp only)
theorem State.diagTrigger_event (s : State) (code : Nat) (num : Nat) : (State.diagTrigger s code num).event = s.event := by
  unfold State.diagTrigger
  try dsimp only
  repeat' first
    | with_reducible rfl
    | (intro _)
    | (with_reducible refine Eq.trans (State.archTrigger_event _ _ _ _ _) ?_)
    | (with_reducible refine Eq.trans (foldl_event _ ?_ _ _) ?_)
    | (with_reducible refine Eq.trans (foldl_event1 _ ?_ _ _) ?_)
    | split
    | (simp only [event_mk])
    | (dsimp only)
theorem State.diagRecord_event (s : State) (num : Nat) (qd : QuadId) (isQuad : Bool) (raised : Bool) (code : Nat) (ob : Byte) : (State.diagRecord s num qd isQuad raised code ob).event = s.event := by
  unfold State.diagRecord
  try dsimp only
  repeat' first
    | with_reducible rfl
    | (intro _)
    | (with_reducible refine Eq.trans (State.stageCount_event _ _ _ _ ?_ ?_) ?_)
    | (with_reducible refine Eq.trans (State.modQuad_event _ _ _) ?_)
    | (with_reducible refine Eq.trans (foldl_event _ ?_ _ _) ?_)
    | (with_reducible refine Eq.trans (foldl_event1 _ ?_ _ _) ?_)
    | split
    | (simp only [event_mk])
    | (dsimp only)
theorem State.settleReq_event (s : State) (r : Req) (d : Decision) : (State.settleReq s r d).event = s.event := by
  unfold State.settleReq
  try dsimp only
  repeat' first
    | with_reducible rfl
    | (intro _)
    | (with_reducible refine Eq.trans (State.modCourse_event _ _) ?_)
    | (with_reducible refine Eq.trans (State.decided_event _ _ _ _ _) ?_)
    | (with_reducible refine Eq.trans (foldl_event _ ?_ _ _) ?_)
    | (with_reducible refine Eq.trans (foldl_event1 _ ?_ _ _) ?_)
    | split
    | (simp only [event_mk])
    | (dsimp only)
theorem State.raiseDiag_event (s : State) (c : ChanId) (code : Nat) : (State.raiseDiag s c code).event = s.event := by
  unfold State.raiseDiag
  try dsimp only
  repeat' first
    | with_reducible rfl
    | (intro _)
    | (with_reducible refine Eq.trans (State.modChan_event _ _ _) ?_)
    | (with_reducible refine Eq.trans (State.diagTrigger_event _ _ _) ?_)
    | (with_reducible refine Eq.trans (State.diagRecord_event _ _ _ _ _ _ _) ?_)
    | (with_reducible refine Eq.trans (foldl_event _ ?_ _ _) ?_)
    | (with_reducible refine Eq.trans (foldl_event1 _ ?_ _ _) ?_)
    | split
    | (simp only [event_mk])
    | (dsimp only)
theorem State.readCheck_event (s : State) (c : ChanId) (land : Bool) : (State.readCheck s c land).event = s.event := by
  unfold State.readCheck
  try dsimp only
  repeat' first
    | with_reducible rfl
    | (intro _)
    | (with_reducible refine Eq.trans (State.raiseDiag_event _ _ _) ?_)
    | (with_reducible refine Eq.trans (foldl_event _ ?_ _ _) ?_)
    | (with_reducible refine Eq.trans (foldl_event1 _ ?_ _ _) ?_)
    | split
    | (simp only [event_mk])
    | (dsimp only)
theorem State.readFrame_event (s : State) (c : ChanId) (land : Bool) (f : Nat) : (State.readFrame s c land f).event = s.event := by
  unfold State.readFrame
  try dsimp only
  repeat' first
    | with_reducible rfl
    | (intro _)
    | (with_reducible refine Eq.trans (State.modChan_event _ _ _) ?_)
    | (with_reducible refine Eq.trans (State.readCheck_event _ _ _) ?_)
    | (with_reducible refine Eq.trans (foldl_event _ ?_ _ _) ?_)
    | (with_reducible refine Eq.trans (foldl_event1 _ ?_ _ _) ?_)
    | split
    | (simp only [event_mk])
    | (dsimp only)
theorem State.clearDiag_event (s : State) (c : ChanId) (code : Nat) : (State.clearDiag s c code).event = s.event := by
  unfold State.clearDiag
  try dsimp only
  repeat' first
    | with_reducible rfl
    | (intro _)
    | (with_reducible refine Eq.trans (State.modChan_event _ _ _) ?_)
    | (with_reducible refine Eq.trans (State.diagRecord_event _ _ _ _ _ _ _) ?_)
    | (with_reducible refine Eq.trans (foldl_event _ ?_ _ _) ?_)
    | (with_reducible refine Eq.trans (foldl_event1 _ ?_ _ _) ?_)
    | split
    | (simp only [event_mk])
    | (dsimp only)
theorem State.clearQuadDiag_event (s : State) (q : QuadId) (code : Nat) : (State.clearQuadDiag s q code).event = s.event := by
  unfold State.clearQuadDiag
  try dsimp only
  repeat' first
    | with_reducible rfl
    | (intro _)
    | (with_reducible refine Eq.trans (State.modQuad_event _ _ _) ?_)
    | (with_reducible refine Eq.trans (State.diagRecord_event _ _ _ _ _ _ _) ?_)
    | (with_reducible refine Eq.trans (foldl_event _ ?_ _ _) ?_)
    | (with_reducible refine Eq.trans (foldl_event1 _ ?_ _ _) ?_)
    | split
    | (simp only [event_mk])
    | (dsimp only)
theorem State.raiseQuadDiag_event (s : State) (q : QuadId) (code : Nat) : (State.raiseQuadDiag s q code).event = s.event := by
  unfold State.raiseQuadDiag
  try dsimp only
  repeat' first
    | with_reducible rfl
    | (intro _)
    | (with_reducible refine Eq.trans (State.modQuad_event _ _ _) ?_)
    | (with_reducible refine Eq.trans (State.diagTrigger_event _ _ _) ?_)
    | (with_reducible refine Eq.trans (State.diagRecord_event _ _ _ _ _ _ _) ?_)
    | (with_reducible refine Eq.trans (foldl_event _ ?_ _ _) ?_)
    | (with_reducible refine Eq.trans (foldl_event1 _ ?_ _ _) ?_)
    | split
    | (simp only [event_mk])
    | (dsimp only)
theorem State.reportClass_event (s : State) (q : QuadId) (k : LClass) : (State.reportClass s q k).event = s.event := by
  unfold State.reportClass
  try dsimp only
  repeat' first
    | with_reducible rfl
    | (intro _)
    | (with_reducible refine Eq.trans (State.clearQuadDiag_event _ _ _) ?_)
    | (with_reducible refine Eq.trans (State.raiseQuadDiag_event _ _ _) ?_)
    | (with_reducible refine Eq.trans (foldl_event _ ?_ _ _) ?_)
    | (with_reducible refine Eq.trans (foldl_event1 _ ?_ _ _) ?_)
    | split
    | (simp only [event_mk])
    | (dsimp only)
theorem State.whenLinked_event (s : State) (q : QuadId) (f : State → State) (hf : (f s).event = s.event) : (State.whenLinked s q f).event = s.event :=
  State.when_event _ _ _ hf
theorem State.setDrv_event (s : State) (c : ChanId) (lvl : Bool) (t : Nat) : (State.setDrv s c lvl t).event = s.event := by
  unfold State.setDrv
  try dsimp only
  repeat' first
    | with_reducible rfl
    | (intro _)
    | (with_reducible refine Eq.trans (State.modChan_event _ _ _) ?_)
    | (with_reducible refine Eq.trans (foldl_event _ ?_ _ _) ?_)
    | (with_reducible refine Eq.trans (foldl_event1 _ ?_ _ _) ?_)
    | split
    | (simp only [event_mk])
    | (dsimp only)
theorem State.lplus_event (s : State) (q : QuadId) (p : LClass → Bool) (measured : Bool) (f : State → State) (hf : ∀ u, (f u).event = u.event) : (State.lplus s q p measured f).event = s.event := by
  unfold State.lplus
  try dsimp only
  repeat' first
    | with_reducible rfl
    | (intro _)
    | (with_reducible refine Eq.trans (hf _) ?_)
    | (with_reducible refine Eq.trans (State.when_event _ _ _ ?_) ?_)
    | (with_reducible refine Eq.trans (foldl_event _ ?_ _ _) ?_)
    | (with_reducible refine Eq.trans (foldl_event1 _ ?_ _ _) ?_)
    | split
    | (simp only [event_mk])
    | (dsimp only)
theorem execOpenLoadResume_event (dt : Nat) (q : QuadId) (s : State) {t : State} (h : execOpenLoadResume dt q s = .next t) : t.event = (s.elapse dt).event := by
  simp only [execOpenLoadResume] at h
  first
    | (injection h with h; subst h)
    | (split at h; exact absurd h (by simp); injection h with h; subst h)
  repeat' first
    | with_reducible rfl
    | (intro _)
    | (with_reducible refine Eq.trans (State.when_event _ _ _ ?_) ?_)
    | (with_reducible refine Eq.trans (State.modQuad_event _ _ _) ?_)
    | (with_reducible refine Eq.trans (foldl_event _ ?_ _ _) ?_)
    | (with_reducible refine Eq.trans (foldl_event1 _ ?_ _ _) ?_)
    | split
    | (simp only [event_mk])
    | (dsimp only)
theorem execCurrentLimit_event (dt : Nat) (r : Sensed ChanId Nat) (s : State) {t : State} (h : execCurrentLimit dt r s = .next t) : t.event = (s.elapse dt).event := by
  simp only [execCurrentLimit] at h
  first
    | (injection h with h; subst h)
    | (split at h; exact absurd h (by simp); injection h with h; subst h)
  repeat' first
    | with_reducible rfl
    | (intro _)
    | (with_reducible refine Eq.trans (State.modChan_event _ _ _) ?_)
    | (with_reducible refine Eq.trans (State.when_event _ _ _ ?_) ?_)
    | (with_reducible refine Eq.trans (foldl_event _ ?_ _ _) ?_)
    | (with_reducible refine Eq.trans (foldl_event1 _ ?_ _ _) ?_)
    | split
    | (simp only [event_mk])
    | (dsimp only)
theorem State.safeAgain_event (s : State) (l : ChanId) : (State.safeAgain s l).event = s.event := by
  unfold State.safeAgain
  try dsimp only
  repeat' first
    | with_reducible rfl
    | (intro _)
    | (with_reducible refine Eq.trans (State.modChan_event _ _ _) ?_)
    | (with_reducible refine Eq.trans (foldl_event _ ?_ _ _) ?_)
    | (with_reducible refine Eq.trans (foldl_event1 _ ?_ _ _) ?_)
    | split
    | (simp only [event_mk])
    | (dsimp only)
theorem State.comeBack_event (s : State) (l : ChanId) (supply : Bool) : (State.comeBack s l supply).event = s.event := by
  unfold State.comeBack
  try dsimp only
  repeat' first
    | with_reducible rfl
    | (intro _)
    | (with_reducible refine Eq.trans (State.request_event _ _ _ _) ?_)
    | (with_reducible refine Eq.trans (State.safeAgain_event _ _) ?_)
    | (with_reducible refine Eq.trans (foldl_event _ ?_ _ _) ?_)
    | (with_reducible refine Eq.trans (foldl_event1 _ ?_ _ _) ?_)
    | split
    | (simp only [event_mk])
    | (dsimp only)
theorem State.supplyReturn_event (s : State) (q : QuadId) : (State.supplyReturn s q).event = s.event := by
  unfold State.supplyReturn
  try dsimp only
  repeat' first
    | with_reducible rfl
    | (intro _)
    | (with_reducible refine Eq.trans (State.comeBack_event _ _ _) ?_)
    | (with_reducible refine Eq.trans (foldl_event _ ?_ _ _) ?_)
    | (with_reducible refine Eq.trans (foldl_event1 _ ?_ _ _) ?_)
    | split
    | (simp only [event_mk])
    | (dsimp only)
theorem State.dropUnit_event (s : State) (c : ChanId) : (State.dropUnit s c).event = s.event := by
  unfold State.dropUnit
  try dsimp only
  repeat' first
    | with_reducible rfl
    | (intro _)
    | (with_reducible refine Eq.trans (State.modChan_event _ _ _) ?_)
    | (with_reducible refine Eq.trans (State.setDrv_event _ _ _ _) ?_)
    | (with_reducible refine Eq.trans (foldl_event _ ?_ _ _) ?_)
    | (with_reducible refine Eq.trans (foldl_event1 _ ?_ _ _) ?_)
    | split
    | (simp only [event_mk])
    | (dsimp only)
theorem State.offUnit_event (s : State) (c : ChanId) (cause : OffCause) (cool : Bool) (mark : Bool) : (State.offUnit s c cause cool mark).event = s.event := by
  unfold State.offUnit
  try dsimp only
  repeat' first
    | with_reducible rfl
    | (intro _)
    | (with_reducible refine Eq.trans (State.modChan_event _ _ _) ?_)
    | (with_reducible refine Eq.trans (State.dropUnit_event _ _) ?_)
    | (with_reducible refine Eq.trans (foldl_event _ ?_ _ _) ?_)
    | (with_reducible refine Eq.trans (foldl_event1 _ ?_ _ _) ?_)
    | split
    | (simp only [event_mk])
    | (dsimp only)
theorem execOpenOffClear_event (dt : Nat) (r : Lasting ChanId Nat) (s : State) {t : State} (h : execOpenOffClear dt r s = .next t) : t.event = (s.elapse dt).event := by
  simp only [execOpenOffClear] at h
  first
    | (injection h with h; subst h)
    | (split at h; exact absurd h (by simp); injection h with h; subst h)
  repeat' first
    | with_reducible rfl
    | (intro _)
    | (with_reducible refine Eq.trans (State.when_event _ _ _ ?_) ?_)
    | (with_reducible refine Eq.trans (State.clearDiag_event _ _ _) ?_)
    | (with_reducible refine Eq.trans (foldl_event _ ?_ _ _) ?_)
    | (with_reducible refine Eq.trans (foldl_event1 _ ?_ _ _) ?_)
    | split
    | (simp only [event_mk])
    | (dsimp only)
theorem State.quadOff_event (s : State) (q : QuadId) : (State.quadOff s q).event = s.event := by
  unfold State.quadOff
  try dsimp only
  repeat' first
    | with_reducible rfl
    | (intro _)
    | (with_reducible refine Eq.trans (State.dropUnit_event _ _) ?_)
    | (with_reducible refine Eq.trans (foldl_event _ ?_ _ _) ?_)
    | (with_reducible refine Eq.trans (foldl_event1 _ ?_ _ _) ?_)
    | split
    | (simp only [event_mk])
    | (dsimp only)
theorem execReadbackMismatchClear_event (dt : Nat) (c : ChanId) (s : State) {t : State} (h : execReadbackMismatchClear dt c s = .next t) : t.event = (s.elapse dt).event := by
  simp only [execReadbackMismatchClear] at h
  first
    | (injection h with h; subst h)
    | (split at h; exact absurd h (by simp); injection h with h; subst h)
  repeat' first
    | with_reducible rfl
    | (intro _)
    | (with_reducible refine Eq.trans (State.when_event _ _ _ ?_) ?_)
    | (with_reducible refine Eq.trans (State.clearDiag_event _ _ _) ?_)
    | (with_reducible refine Eq.trans (foldl_event _ ?_ _ _) ?_)
    | (with_reducible refine Eq.trans (foldl_event1 _ ?_ _ _) ?_)
    | split
    | (simp only [event_mk])
    | (dsimp only)
theorem State.settledOn_event (s : State) (c : ChanId) : (State.settledOn s c).event = s.event := by
  unfold State.settledOn
  try dsimp only
  repeat' first
    | with_reducible rfl
    | (intro _)
    | (with_reducible refine Eq.trans (State.modChan_event _ _ _) ?_)
    | (with_reducible refine Eq.trans (State.clearDiag_event _ _ _) ?_)
    | (with_reducible refine Eq.trans (foldl_event _ ?_ _ _) ?_)
    | (with_reducible refine Eq.trans (foldl_event1 _ ?_ _ _) ?_)
    | split
    | (simp only [event_mk])
    | (dsimp only)
theorem execReverse_event (dt : Nat) (r : Lasting ChanId Int) (s : State) {t : State} (h : execReverse dt r s = .next t) : t.event = (s.elapse dt).event := by
  simp only [execReverse] at h
  first
    | (injection h with h; subst h)
    | (split at h; exact absurd h (by simp); injection h with h; subst h)
  repeat' first
    | with_reducible rfl
    | (intro _)
    | (with_reducible refine Eq.trans (State.modChan_event _ _ _) ?_)
    | (with_reducible refine Eq.trans (State.when_event _ _ _ ?_) ?_)
    | (with_reducible refine Eq.trans (State.raiseDiag_event _ _ _) ?_)
    | (with_reducible refine Eq.trans (State.whenLinked_event _ _ _ ?_) ?_)
    | (with_reducible refine Eq.trans (State.dropUnit_event _ _) ?_)
    | (with_reducible refine Eq.trans (foldl_event _ ?_ _ _) ?_)
    | (with_reducible refine Eq.trans (foldl_event1 _ ?_ _ _) ?_)
    | split
    | (simp only [event_mk])
    | (dsimp only)
theorem State.enterClass_event (s : State) (q : QuadId) (k : LClass) : (State.enterClass s q k).event = s.event := by
  unfold State.enterClass
  try dsimp only
  repeat' first
    | with_reducible rfl
    | (intro _)
    | (with_reducible refine Eq.trans (State.modChan_event _ _ _) ?_)
    | (with_reducible refine Eq.trans (State.modQuad_event _ _ _) ?_)
    | (with_reducible refine Eq.trans (State.reportClass_event _ _ _) ?_)
    | (with_reducible refine Eq.trans (State.whenLinked_event _ _ _ ?_) ?_)
    | (with_reducible refine Eq.trans (foldl_event _ ?_ _ _) ?_)
    | (with_reducible refine Eq.trans (foldl_event1 _ ?_ _ _) ?_)
    | split
    | (simp only [event_mk])
    | (dsimp only)
theorem State.leaveSupply_event (s : State) (q : QuadId) (full : Nat) : (State.leaveSupply s q full).event = s.event := by
  unfold State.leaveSupply
  try dsimp only
  repeat' first
    | with_reducible rfl
    | (intro _)
    | (with_reducible refine Eq.trans (State.modQuad_event _ _ _) ?_)
    | (with_reducible refine Eq.trans (State.whenLinked_event _ _ _ ?_) ?_)
    | (with_reducible refine Eq.trans (State.supplyReturn_event _ _) ?_)
    | (with_reducible refine Eq.trans (State.enterClass_event _ _ _) ?_)
    | (with_reducible refine Eq.trans (foldl_event _ ?_ _ _) ?_)
    | (with_reducible refine Eq.trans (foldl_event1 _ ?_ _ _) ?_)
    | split
    | (simp only [event_mk])
    | (dsimp only)
theorem State.hotReturn_event (s : State) (q : QuadId) : (State.hotReturn s q).event = s.event := by
  unfold State.hotReturn
  try dsimp only
  repeat' first
    | with_reducible rfl
    | (intro _)
    | (with_reducible refine Eq.trans (State.comeBack_event _ _ _) ?_)
    | (with_reducible refine Eq.trans (foldl_event _ ?_ _ _) ?_)
    | (with_reducible refine Eq.trans (foldl_event1 _ ?_ _ _) ?_)
    | split
    | (simp only [event_mk])
    | (dsimp only)
theorem State.unreport_event (s : State) (l : ChanId) (code : Nat) : (State.unreport s l code).event = s.event := by
  unfold State.unreport
  try dsimp only
  repeat' first
    | with_reducible rfl
    | (intro _)
    | (with_reducible refine Eq.trans (State.modChan_event _ _ _) ?_)
    | (with_reducible refine Eq.trans (foldl_event _ ?_ _ _) ?_)
    | (with_reducible refine Eq.trans (foldl_event1 _ ?_ _ _) ?_)
    | split
    | (simp only [event_mk])
    | (dsimp only)
theorem State.latchUnit_event (s : State) (l : ChanId) : (State.latchUnit s l).event = s.event := by
  unfold State.latchUnit
  try dsimp only
  repeat' first
    | with_reducible rfl
    | (intro _)
    | (with_reducible refine Eq.trans (State.modChan_event _ _ _) ?_)
    | (with_reducible refine Eq.trans (State.settleReq_event _ _ _) ?_)
    | (with_reducible refine Eq.trans (State.raiseDiag_event _ _ _) ?_)
    | (with_reducible refine Eq.trans (foldl_event _ ?_ _ _) ?_)
    | (with_reducible refine Eq.trans (foldl_event1 _ ?_ _ _) ?_)
    | split
    | (simp only [event_mk])
    | (dsimp only)
theorem State.thermalEvent_event (s : State) (l : ChanId) : (State.thermalEvent s l).1.event = s.event := by
  unfold State.thermalEvent
  try dsimp only
  repeat' first
    | with_reducible rfl
    | (intro _)
    | (with_reducible refine Eq.trans (State.modChan_event _ _ _) ?_)
    | (with_reducible refine Eq.trans (foldl_event _ ?_ _ _) ?_)
    | (with_reducible refine Eq.trans (foldl_event1 _ ?_ _ _) ?_)
    | split
    | (simp only [event_mk])
    | (dsimp only)
theorem State.offReport_event (s : State) (l : ChanId) (refOn : Bool) (diag : Option (ChanId × Nat)) :
    (State.offReport s l refOn diag).event = s.event := by
  have h : (if refOn then s.thermalEvent l else (s, false)).1.event = s.event := by
    cases refOn
    · rfl
    · exact State.thermalEvent_event s l
  unfold State.offReport
  generalize (if refOn then s.thermalEvent l else (s, false)) = r at h ⊢
  have h2 : (match diag with | some d => r.1.whenLinked (quadOf l) fun s => s.raiseDiag d.1 d.2 | none => r.1).event = s.event := by
    split
    · exact Eq.trans (State.whenLinked_event _ _ _ (State.raiseDiag_event _ _ _)) h
    · exact h
  dsimp only
  split
  · exact Eq.trans (State.latchUnit_event _ _) h2
  · exact h2
theorem State.protectOff_event (s : State) (c : ChanId) (cause : OffCause) (cool : Bool) (diag : Option (ChanId × Nat)) : (State.protectOff s c cause cool diag).event = s.event := by
  unfold State.protectOff
  try dsimp only
  repeat' first
    | with_reducible rfl
    | (intro _)
    | (with_reducible refine Eq.trans (State.offUnit_event _ _ _ _ _) ?_)
    | (with_reducible refine Eq.trans (State.unreport_event _ _ _) ?_)
    | (with_reducible refine Eq.trans (State.offReport_event _ _ _ _) ?_)
    | (with_reducible refine Eq.trans (foldl_event _ ?_ _ _) ?_)
    | (with_reducible refine Eq.trans (foldl_event1 _ ?_ _ _) ?_)
    | split
    | (simp only [event_mk])
    | (dsimp only)
theorem execShortLimit_event (dt : Nat) (c : ChanId) (s : State) {t : State} (h : execShortLimit dt c s = .next t) : t.event = (s.elapse dt).event := by
  simp only [execShortLimit] at h
  first
    | (injection h with h; subst h)
    | (split at h; exact absurd h (by simp); injection h with h; subst h)
  repeat' first
    | with_reducible rfl
    | (intro _)
    | (with_reducible refine Eq.trans (State.when_event _ _ _ ?_) ?_)
    | (with_reducible refine Eq.trans (State.protectOff_event _ _ _ _ _) ?_)
    | (with_reducible refine Eq.trans (foldl_event _ ?_ _ _) ?_)
    | (with_reducible refine Eq.trans (foldl_event1 _ ?_ _ _) ?_)
    | split
    | (simp only [event_mk])
    | (dsimp only)
theorem execLplusOverExit_event (dt : Nat) (r : Lasting QuadId Nat) (full : Nat) (s : State) {t : State} (h : execLplusOverExit dt r full s = .next t) : t.event = (s.elapse dt).event := by
  simp only [execLplusOverExit] at h
  first
    | (injection h with h; subst h)
    | (split at h; exact absurd h (by simp); injection h with h; subst h)
  repeat' first
    | with_reducible rfl
    | (intro _)
    | (with_reducible refine Eq.trans (State.lplus_event _ _ _ _ _ ?_) ?_)
    | (with_reducible refine Eq.trans (State.leaveSupply_event _ _ _) ?_)
    | (with_reducible refine Eq.trans (foldl_event _ ?_ _ _) ?_)
    | (with_reducible refine Eq.trans (foldl_event1 _ ?_ _ _) ?_)
    | split
    | (simp only [event_mk])
    | (dsimp only)
theorem execDieHot_event (dt : Nat) (r : Sensed QuadId Int) (s : State) {t : State} (h : execDieHot dt r s = .next t) : t.event = (s.elapse dt).event := by
  simp only [execDieHot] at h
  first
    | (injection h with h; subst h)
    | (split at h; exact absurd h (by simp); injection h with h; subst h)
  repeat' first
    | with_reducible rfl
    | (intro _)
    | (with_reducible refine Eq.trans (State.when_event _ _ _ ?_) ?_)
    | (with_reducible refine Eq.trans (State.modQuad_event _ _ _) ?_)
    | (with_reducible refine Eq.trans (State.raiseQuadDiag_event _ _ _) ?_)
    | (with_reducible refine Eq.trans (State.whenLinked_event _ _ _ ?_) ?_)
    | (with_reducible refine Eq.trans (State.protectOff_event _ _ _ _ _) ?_)
    | (with_reducible refine Eq.trans (foldl_event _ ?_ _ _) ?_)
    | (with_reducible refine Eq.trans (foldl_event1 _ ?_ _ _) ?_)
    | split
    | (simp only [event_mk])
    | (dsimp only)
theorem execReverseClear_event (dt : Nat) (r : Lasting ChanId Int) (s : State) {t : State} (h : execReverseClear dt r s = .next t) : t.event = (s.elapse dt).event := by
  simp only [execReverseClear] at h
  first
    | (injection h with h; subst h)
    | (split at h; exact absurd h (by simp); injection h with h; subst h)
  repeat' first
    | with_reducible rfl
    | (intro _)
    | (with_reducible refine Eq.trans (State.modChan_event _ _ _) ?_)
    | (with_reducible refine Eq.trans (State.when_event _ _ _ ?_) ?_)
    | (with_reducible refine Eq.trans (State.clearDiag_event _ _ _) ?_)
    | (with_reducible refine Eq.trans (State.whenLinked_event _ _ _ ?_) ?_)
    | (with_reducible refine Eq.trans (State.comeBack_event _ _ _) ?_)
    | (with_reducible refine Eq.trans (foldl_event _ ?_ _ _) ?_)
    | (with_reducible refine Eq.trans (foldl_event1 _ ?_ _ _) ?_)
    | split
    | (simp only [event_mk])
    | (dsimp only)
theorem execThermOff_event (dt : Nat) (r : Sensed ChanId Int) (s : State) {t : State} (h : execThermOff dt r s = .next t) : t.event = (s.elapse dt).event := by
  simp only [execThermOff] at h
  first
    | (injection h with h; subst h)
    | (split at h; exact absurd h (by simp); injection h with h; subst h)
  repeat' first
    | with_reducible rfl
    | (intro _)
    | (with_reducible refine Eq.trans (State.modChan_event _ _ _) ?_)
    | (with_reducible refine Eq.trans (State.when_event _ _ _ ?_) ?_)
    | (with_reducible refine Eq.trans (State.protectOff_event _ _ _ _ _) ?_)
    | (with_reducible refine Eq.trans (foldl_event _ ?_ _ _) ?_)
    | (with_reducible refine Eq.trans (foldl_event1 _ ?_ _ _) ?_)
    | split
    | (simp only [event_mk])
    | (dsimp only)
theorem execLplusOver_event (dt : Nat) (r : Lasting QuadId Nat) (s : State) {t : State} (h : execLplusOver dt r s = .next t) : t.event = (s.elapse dt).event := by
  simp only [execLplusOver] at h
  first
    | (injection h with h; subst h)
    | (split at h; exact absurd h (by simp); injection h with h; subst h)
  repeat' first
    | with_reducible rfl
    | (intro _)
    | (with_reducible refine Eq.trans (State.lplus_event _ _ _ _ _ ?_) ?_)
    | (with_reducible refine Eq.trans (State.quadOff_event _ _) ?_)
    | (with_reducible refine Eq.trans (State.enterClass_event _ _ _) ?_)
    | (with_reducible refine Eq.trans (foldl_event _ ?_ _ _) ?_)
    | (with_reducible refine Eq.trans (foldl_event1 _ ?_ _ _) ?_)
    | split
    | (simp only [event_mk])
    | (dsimp only)
theorem execOverload_event (dt : Nat) (r : Lasting ChanId Nat) (s : State) {t : State} (h : execOverload dt r s = .next t) : t.event = (s.elapse dt).event := by
  simp only [execOverload] at h
  first
    | (injection h with h; subst h)
    | (split at h; exact absurd h (by simp); injection h with h; subst h)
  repeat' first
    | with_reducible rfl
    | (intro _)
    | (with_reducible refine Eq.trans (State.when_event _ _ _ ?_) ?_)
    | (with_reducible refine Eq.trans (State.protectOff_event _ _ _ _ _) ?_)
    | (with_reducible refine Eq.trans (foldl_event _ ?_ _ _) ?_)
    | (with_reducible refine Eq.trans (foldl_event1 _ ?_ _ _) ?_)
    | split
    | (simp only [event_mk])
    | (dsimp only)
theorem execWireBreak_event (dt : Nat) (r : Lasting ChanId Nat) (s : State) {t : State} (h : execWireBreak dt r s = .next t) : t.event = (s.elapse dt).event := by
  simp only [execWireBreak] at h
  first
    | (injection h with h; subst h)
    | (split at h; exact absurd h (by simp); injection h with h; subst h)
  repeat' first
    | with_reducible rfl
    | (intro _)
    | (with_reducible refine Eq.trans (State.when_event _ _ _ ?_) ?_)
    | (with_reducible refine Eq.trans (State.raiseDiag_event _ _ _) ?_)
    | (with_reducible refine Eq.trans (foldl_event _ ?_ _ _) ?_)
    | (with_reducible refine Eq.trans (foldl_event1 _ ?_ _ _) ?_)
    | split
    | (simp only [event_mk])
    | (dsimp only)
theorem execEdgeLockoutEnd_event (dt : Nat) (c : ChanId) (sample : Bool) (s : State) {t : State} (h : execEdgeLockoutEnd dt c sample s = .next t) : t.event = (s.elapse dt).event := by
  simp only [execEdgeLockoutEnd] at h
  first
    | (injection h with h; subst h)
    | (split at h; exact absurd h (by simp); injection h with h; subst h)
  repeat' first
    | with_reducible rfl
    | (intro _)
    | (with_reducible refine Eq.trans (State.modChan_event _ _ _) ?_)
    | (with_reducible refine Eq.trans (State.when_event _ _ _ ?_) ?_)
    | (with_reducible refine Eq.trans (foldl_event _ ?_ _ _) ?_)
    | (with_reducible refine Eq.trans (foldl_event1 _ ?_ _ _) ?_)
    | split
    | (simp only [event_mk])
    | (dsimp only)
theorem execShortLplusClear_event (dt : Nat) (c : ChanId) (s : State) {t : State} (h : execShortLplusClear dt c s = .next t) : t.event = (s.elapse dt).event := by
  simp only [execShortLplusClear] at h
  first
    | (injection h with h; subst h)
    | (split at h; exact absurd h (by simp); injection h with h; subst h)
  repeat' first
    | with_reducible rfl
    | (intro _)
    | (with_reducible refine Eq.trans (State.when_event _ _ _ ?_) ?_)
    | (with_reducible refine Eq.trans (State.clearDiag_event _ _ _) ?_)
    | (with_reducible refine Eq.trans (foldl_event _ ?_ _ _) ?_)
    | (with_reducible refine Eq.trans (foldl_event1 _ ?_ _ _) ?_)
    | split
    | (simp only [event_mk])
    | (dsimp only)
theorem execWireBreakClear_event (dt : Nat) (r : Lasting ChanId Nat) (s : State) {t : State} (h : execWireBreakClear dt r s = .next t) : t.event = (s.elapse dt).event := by
  simp only [execWireBreakClear] at h
  first
    | (injection h with h; subst h)
    | (split at h; exact absurd h (by simp); injection h with h; subst h)
  repeat' first
    | with_reducible rfl
    | (intro _)
    | (with_reducible refine Eq.trans (State.when_event _ _ _ ?_) ?_)
    | (with_reducible refine Eq.trans (State.clearDiag_event _ _ _) ?_)
    | (with_reducible refine Eq.trans (foldl_event _ ?_ _ _) ?_)
    | (with_reducible refine Eq.trans (foldl_event1 _ ?_ _ _) ?_)
    | split
    | (simp only [event_mk])
    | (dsimp only)
theorem execSettleEnd_event (dt : Nat) (c : ChanId) (land : Bool) (s : State) {t : State} (h : execSettleEnd dt c land s = .next t) : t.event = (s.elapse dt).event := by
  simp only [execSettleEnd] at h
  first
    | (injection h with h; subst h)
    | (split at h; exact absurd h (by simp); injection h with h; subst h)
  repeat' first
    | with_reducible rfl
    | (intro _)
    | (with_reducible refine Eq.trans (State.modChan_event _ _ _) ?_)
    | (with_reducible refine Eq.trans (State.when_event _ _ _ ?_) ?_)
    | (with_reducible refine Eq.trans (State.readFrame_event _ _ _ _) ?_)
    | (with_reducible refine Eq.trans (State.settledOn_event _ _) ?_)
    | (with_reducible refine Eq.trans (foldl_event _ ?_ _ _) ?_)
    | (with_reducible refine Eq.trans (foldl_event1 _ ?_ _ _) ?_)
    | split
    | (simp only [event_mk])
    | (dsimp only)
theorem execInputAccept_event (dt : Nat) (c : ChanId) (r : Held Bool) (s : State) {t : State} (h : execInputAccept dt c r s = .next t) : t.event = (s.elapse dt).event := by
  simp only [execInputAccept] at h
  first
    | (injection h with h; subst h)
    | (split at h; exact absurd h (by simp); injection h with h; subst h)
  repeat' first
    | with_reducible rfl
    | (intro _)
    | (with_reducible refine Eq.trans (State.modChan_event _ _ _) ?_)
    | (with_reducible refine Eq.trans (State.when_event _ _ _ ?_) ?_)
    | (with_reducible refine Eq.trans (foldl_event _ ?_ _ _) ?_)
    | (with_reducible refine Eq.trans (foldl_event1 _ ?_ _ _) ?_)
    | split
    | (simp only [event_mk])
    | (dsimp only)
theorem execOpenOn_event (dt : Nat) (r : Lasting ChanId Nat) (s : State) {t : State} (h : execOpenOn dt r s = .next t) : t.event = (s.elapse dt).event := by
  simp only [execOpenOn] at h
  first
    | (injection h with h; subst h)
    | (split at h; exact absurd h (by simp); injection h with h; subst h)
  repeat' first
    | with_reducible rfl
    | (intro _)
    | (with_reducible refine Eq.trans (State.when_event _ _ _ ?_) ?_)
    | (with_reducible refine Eq.trans (State.raiseDiag_event _ _ _) ?_)
    | (with_reducible refine Eq.trans (foldl_event _ ?_ _ _) ?_)
    | (with_reducible refine Eq.trans (foldl_event1 _ ?_ _ _) ?_)
    | split
    | (simp only [event_mk])
    | (dsimp only)
theorem execDieHotClear_event (dt : Nat) (r : Sensed QuadId Int) (s : State) {t : State} (h : execDieHotClear dt r s = .next t) : t.event = (s.elapse dt).event := by
  simp only [execDieHotClear] at h
  first
    | (injection h with h; subst h)
    | (split at h; exact absurd h (by simp); injection h with h; subst h)
  repeat' first
    | with_reducible rfl
    | (intro _)
    | (with_reducible refine Eq.trans (State.when_event _ _ _ ?_) ?_)
    | (with_reducible refine Eq.trans (State.modQuad_event _ _ _) ?_)
    | (with_reducible refine Eq.trans (State.clearQuadDiag_event _ _ _) ?_)
    | (with_reducible refine Eq.trans (State.whenLinked_event _ _ _ ?_) ?_)
    | (with_reducible refine Eq.trans (State.hotReturn_event _ _) ?_)
    | (with_reducible refine Eq.trans (foldl_event _ ?_ _ _) ?_)
    | (with_reducible refine Eq.trans (foldl_event1 _ ?_ _ _) ?_)
    | split
    | (simp only [event_mk])
    | (dsimp only)
theorem execOpenOnClear_event (dt : Nat) (r : Lasting ChanId Nat) (s : State) {t : State} (h : execOpenOnClear dt r s = .next t) : t.event = (s.elapse dt).event := by
  simp only [execOpenOnClear] at h
  first
    | (injection h with h; subst h)
    | (split at h; exact absurd h (by simp); injection h with h; subst h)
  repeat' first
    | with_reducible rfl
    | (intro _)
    | (with_reducible refine Eq.trans (State.when_event _ _ _ ?_) ?_)
    | (with_reducible refine Eq.trans (State.clearDiag_event _ _ _) ?_)
    | (with_reducible refine Eq.trans (foldl_event _ ?_ _ _) ?_)
    | (with_reducible refine Eq.trans (foldl_event1 _ ?_ _ _) ?_)
    | split
    | (simp only [event_mk])
    | (dsimp only)
theorem execCurrentLimitExit_event (dt : Nat) (c : ChanId) (s : State) {t : State} (h : execCurrentLimitExit dt c s = .next t) : t.event = (s.elapse dt).event := by
  simp only [execCurrentLimitExit] at h
  first
    | (injection h with h; subst h)
    | (split at h; exact absurd h (by simp); injection h with h; subst h)
  repeat' first
    | with_reducible rfl
    | (intro _)
    | (with_reducible refine Eq.trans (State.modChan_event _ _ _) ?_)
    | (with_reducible refine Eq.trans (State.when_event _ _ _ ?_) ?_)
    | (with_reducible refine Eq.trans (foldl_event _ ?_ _ _) ?_)
    | (with_reducible refine Eq.trans (foldl_event1 _ ?_ _ _) ?_)
    | split
    | (simp only [event_mk])
    | (dsimp only)
theorem execLplusUnderExit_event (dt : Nat) (r : Lasting QuadId Nat) (full : Nat) (s : State) {t : State} (h : execLplusUnderExit dt r full s = .next t) : t.event = (s.elapse dt).event := by
  simp only [execLplusUnderExit] at h
  first
    | (injection h with h; subst h)
    | (split at h; exact absurd h (by simp); injection h with h; subst h)
  repeat' first
    | with_reducible rfl
    | (intro _)
    | (with_reducible refine Eq.trans (State.lplus_event _ _ _ _ _ ?_) ?_)
    | (with_reducible refine Eq.trans (State.leaveSupply_event _ _ _) ?_)
    | (with_reducible refine Eq.trans (foldl_event _ ?_ _ _) ?_)
    | (with_reducible refine Eq.trans (foldl_event1 _ ?_ _ _) ?_)
    | split
    | (simp only [event_mk])
    | (dsimp only)
theorem execInrushWindowEnd_event (dt : Nat) (c : ChanId) (s : State) {t : State} (h : execInrushWindowEnd dt c s = .next t) : t.event = (s.elapse dt).event := by
  simp only [execInrushWindowEnd] at h
  first
    | (injection h with h; subst h)
    | (split at h; exact absurd h (by simp); injection h with h; subst h)
  repeat' first
    | with_reducible rfl
    | (intro _)
    | (with_reducible refine Eq.trans (State.modChan_event _ _ _) ?_)
    | (with_reducible refine Eq.trans (State.when_event _ _ _ ?_) ?_)
    | (with_reducible refine Eq.trans (foldl_event _ ?_ _ _) ?_)
    | (with_reducible refine Eq.trans (foldl_event1 _ ?_ _ _) ?_)
    | split
    | (simp only [event_mk])
    | (dsimp only)
theorem execWireBreakResume_event (dt : Nat) (q : QuadId) (s : State) {t : State} (h : execWireBreakResume dt q s = .next t) : t.event = (s.elapse dt).event := by
  simp only [execWireBreakResume] at h
  first
    | (injection h with h; subst h)
    | (split at h; exact absurd h (by simp); injection h with h; subst h)
  repeat' first
    | with_reducible rfl
    | (intro _)
    | (with_reducible refine Eq.trans (State.when_event _ _ _ ?_) ?_)
    | (with_reducible refine Eq.trans (State.modQuad_event _ _ _) ?_)
    | (with_reducible refine Eq.trans (foldl_event _ ?_ _ _) ?_)
    | (with_reducible refine Eq.trans (foldl_event1 _ ?_ _ _) ?_)
    | split
    | (simp only [event_mk])
    | (dsimp only)
theorem execLplusNormal_event (dt : Nat) (r : Lasting QuadId Nat) (s : State) {t : State} (h : execLplusNormal dt r s = .next t) : t.event = (s.elapse dt).event := by
  simp only [execLplusNormal] at h
  first
    | (injection h with h; subst h)
    | (split at h; exact absurd h (by simp); injection h with h; subst h)
  repeat' first
    | with_reducible rfl
    | (intro _)
    | (with_reducible refine Eq.trans (State.lplus_event _ _ _ _ _ ?_) ?_)
    | (with_reducible refine Eq.trans (State.enterClass_event _ _ _) ?_)
    | (with_reducible refine Eq.trans (foldl_event _ ?_ _ _) ?_)
    | (with_reducible refine Eq.trans (foldl_event1 _ ?_ _ _) ?_)
    | split
    | (simp only [event_mk])
    | (dsimp only)
theorem execLplusUnder_event (dt : Nat) (r : Lasting QuadId Nat) (s : State) {t : State} (h : execLplusUnder dt r s = .next t) : t.event = (s.elapse dt).event := by
  simp only [execLplusUnder] at h
  first
    | (injection h with h; subst h)
    | (split at h; exact absurd h (by simp); injection h with h; subst h)
  repeat' first
    | with_reducible rfl
    | (intro _)
    | (with_reducible refine Eq.trans (State.lplus_event _ _ _ _ _ ?_) ?_)
    | (with_reducible refine Eq.trans (State.quadOff_event _ _) ?_)
    | (with_reducible refine Eq.trans (State.enterClass_event _ _ _) ?_)
    | (with_reducible refine Eq.trans (foldl_event _ ?_ _ _) ?_)
    | (with_reducible refine Eq.trans (foldl_event1 _ ?_ _ _) ?_)
    | split
    | (simp only [event_mk])
    | (dsimp only)
theorem execLplusLow_event (dt : Nat) (r : Lasting QuadId Nat) (s : State) {t : State} (h : execLplusLow dt r s = .next t) : t.event = (s.elapse dt).event := by
  simp only [execLplusLow] at h
  first
    | (injection h with h; subst h)
    | (split at h; exact absurd h (by simp); injection h with h; subst h)
  repeat' first
    | with_reducible rfl
    | (intro _)
    | (with_reducible refine Eq.trans (State.lplus_event _ _ _ _ _ ?_) ?_)
    | (with_reducible refine Eq.trans (State.enterClass_event _ _ _) ?_)
    | (with_reducible refine Eq.trans (foldl_event _ ?_ _ _) ?_)
    | (with_reducible refine Eq.trans (foldl_event1 _ ?_ _ _) ?_)
    | split
    | (simp only [event_mk])
    | (dsimp only)
theorem execRetryWindowExpiry_event (dt : Nat) (c : ChanId) (s : State) {t : State} (h : execRetryWindowExpiry dt c s = .next t) : t.event = (s.elapse dt).event := by
  simp only [execRetryWindowExpiry] at h
  first
    | (injection h with h; subst h)
    | (split at h; exact absurd h (by simp); injection h with h; subst h)
  repeat' first
    | with_reducible rfl
    | (intro _)
    | (with_reducible refine Eq.trans (State.modChan_event _ _ _) ?_)
    | (with_reducible refine Eq.trans (State.when_event _ _ _ ?_) ?_)
    | (with_reducible refine Eq.trans (foldl_event _ ?_ _ _) ?_)
    | (with_reducible refine Eq.trans (foldl_event1 _ ?_ _ _) ?_)
    | split
    | (simp only [event_mk])
    | (dsimp only)
theorem execOpenOff_event (dt : Nat) (r : Lasting ChanId Nat) (s : State) {t : State} (h : execOpenOff dt r s = .next t) : t.event = (s.elapse dt).event := by
  simp only [execOpenOff] at h
  first
    | (injection h with h; subst h)
    | (split at h; exact absurd h (by simp); injection h with h; subst h)
  repeat' first
    | with_reducible rfl
    | (intro _)
    | (with_reducible refine Eq.trans (State.when_event _ _ _ ?_) ?_)
    | (with_reducible refine Eq.trans (State.raiseDiag_event _ _ _) ?_)
    | (with_reducible refine Eq.trans (foldl_event _ ?_ _ _) ?_)
    | (with_reducible refine Eq.trans (foldl_event1 _ ?_ _ _) ?_)
    | split
    | (simp only [event_mk])
    | (dsimp only)

end Sys2Proof.Machine
end

