-- ==== Sys2Proof/Laws/FrameField.lean ====
section
/-!
SUPPORT. Meanings of the host side leave the field, the Course engine, the measurement, the chains, Plumb, the serial port and the archive alone.
-/
namespace Sys2Proof.Machine
open Sys2Proof

/-- Their values together. -/
abbrev FieldT := (Vector Chan 128) × (Vector Quad 4) × (List Req) × Nat × Ang × Course × (Vector Meas 4) × (Vector Chain 16) × Arch × (Vector Plumb 8) × Serial
/-- The fields that this file is about. -/
def State.field (s : State) : FieldT := (s.chans, s.quads, s.reqs, s.reqSeq, s.ang, s.course, s.meas, s.chains, s.arch, s.plumb, s.serial)
theorem field_mk (X : State) (pending : List Instr) (clock : Nat) (zero : Nat) (freeCtr : Nat) (por : Bool) (rails : BitVec 4) (viso : Bool) (clk25 : Bool) (dormantReq : Bool) (dormant : Bool) (wokeDormant : Bool) (straps : BitVec 5) (strapsNow : BitVec 5) (throttled : Bool) (safeN : Bool) (safeNAt : Nat) (encSafe : Bool) (visoLost : Bool) (devw : Word64) (devwNew : Option Word64) (logicMw : Nat) (visoMw : Nat) (faultMask : BitVec 5) (syncw : BitVec 4) (flush : Nat) (routes : Vector Byte 10) (host : HostRegs) (msix : Vector MsixEntry 68) (queues : Vector Queue 64) (out : List HostOut) (outWait : List HostOut) (staging : List (Record × Option (QueueId × Word32))) (fieldDue : Option Byte) (ops : List Op) (fetchSeq : Nat) (syncTick : Option Nat) (syncMerged : Nat) (syncOut : Nat) (vault : Vault) (mason : Mason) (rows : Vector Word64 22) (locked : Bool) (cfgGen : Word32) (pair : Pair) (plinth : List Host.Cell) :
    State.field ⟨pending, clock, zero, freeCtr, por, rails, viso, clk25, dormantReq, dormant, wokeDormant, straps, strapsNow, throttled, safeN, safeNAt, encSafe, visoLost, devw, devwNew, logicMw, visoMw, faultMask, syncw, flush, routes, host, msix, queues, out, outWait, staging, fieldDue, ops, X.chans, X.quads, X.reqs, X.reqSeq, fetchSeq, X.ang, X.course, X.meas, X.chains, syncTick, syncMerged, syncOut, X.arch, vault, X.plumb, X.serial, mason, rows, locked, cfgGen, pair, plinth⟩ = X.field := rfl
theorem field_pair {β : Type} {p : State × β} {a : State} {b : β} (h : p = (a, b)) {x : FieldT} (hk : p.1.field = x) : a.field = x := by
  subst h; exact hk
theorem foldl_field {α : Type} (f : State → α → State) (h : ∀ s a, (f s a).field = s.field) (l : List α) (s : State) :
    (l.foldl f s).field = s.field := by
  induction l generalizing s with
  | nil => rfl
  | cons a l ih => simp only [List.foldl_cons]; rw [ih, h]
theorem foldl_field1 {α β : Type} (f : State × β → α → State × β) (h : ∀ s a, (f s a).1.field = s.1.field) (l : List α) (s : State × β) :
    (l.foldl f s).1.field = s.1.field := by
  induction l generalizing s with
  | nil => rfl
  | cons a l ih => simp only [List.foldl_cons]; rw [ih, h]

theorem State.useFresh_field (s : State) : (State.useFresh s).field = s.field := by
  unfold State.useFresh
  try dsimp only
  repeat' first
    | with_reducible rfl
    | (intro _)
    | (with_reducible refine Eq.trans (foldl_field _ ?_ _ _) ?_)
    | (with_reducible refine Eq.trans (foldl_field1 _ ?_ _ _) ?_)
    | split
    | (simp only [field_mk])
    | (dsimp only)
theorem State.stage_field (s : State) (r : Record) (who : optParam (Option (QueueId × Word32)) none) : (State.stage s r who).1.field = s.field := by
  unfold State.stage
  try dsimp only
  repeat' first
    | with_reducible rfl
    | (intro _)
    | (with_reducible refine Eq.trans (foldl_field _ ?_ _ _) ?_)
    | (with_reducible refine Eq.trans (foldl_field1 _ ?_ _ _) ?_)
    | split
    | (simp only [field_mk])
    | (dsimp only)
theorem State.modPair_field (s : State) (f : Pair → Pair) : (State.modPair s f).field = s.field := by
  unfold State.modPair
  try dsimp only
  repeat' first
    | with_reducible rfl
    | (intro _)
    | (with_reducible refine Eq.trans (foldl_field _ ?_ _ _) ?_)
    | (with_reducible refine Eq.trans (foldl_field1 _ ?_ _ _) ?_)
    | split
    | (simp only [field_mk])
    | (dsimp only)
theorem State.configured_field (s : State) (who : Option (QueueId × Word32)) (measured : optParam Bool true) : (State.configured s who measured).field = s.field := by
  unfold State.configured
  try dsimp only
  repeat' first
    | with_reducible rfl
    | (intro _)
    | (with_reducible refine Eq.trans (State.useFresh_field _) ?_)
    | (with_reducible refine Eq.trans (State.modPair_field _ _) ?_)
    | (with_reducible refine Eq.trans (foldl_field _ ?_ _ _) ?_)
    | (with_reducible refine Eq.trans (foldl_field1 _ ?_ _ _) ?_)
    | split
    | (simp only [field_mk])
    | (dsimp only)
theorem State.addOp_field (s : State) (q : QueueId) (n : Word32) (k : OpKind) : (State.addOp s q n k).field = s.field := by
  unfold State.addOp
  try dsimp only
  repeat' first
    | with_reducible rfl
    | (intro _)
    | (with_reducible refine Eq.trans (foldl_field _ ?_ _ _) ?_)
    | (with_reducible refine Eq.trans (foldl_field1 _ ?_ _ _) ?_)
    | split
    | (simp only [field_mk])
    | (dsimp only)
theorem State.modQueue_field (s : State) (q : QueueId) (f : Queue → Queue) : (State.modQueue s q f).field = s.field := by
  unfold State.modQueue
  try dsimp only
  repeat' first
    | with_reducible rfl
    | (intro _)
    | (with_reducible refine Eq.trans (foldl_field _ ?_ _ _) ?_)
    | (with_reducible refine Eq.trans (foldl_field1 _ ?_ _ _) ?_)
    | split
    | (simp only [field_mk])
    | (dsimp only)
theorem State.drained_field (s : State) (q : QueueId) : (State.drained s q).field = s.field := by
  unfold State.drained
  try dsimp only
  repeat' first
    | with_reducible rfl
    | (intro _)
    | (with_reducible refine Eq.trans (State.modQueue_field _ _ _) ?_)
    | (with_reducible refine Eq.trans (foldl_field _ ?_ _ _) ?_)
    | (with_reducible refine Eq.trans (foldl_field1 _ ?_ _ _) ?_)
    | split
    | (simp only [field_mk])
    | (dsimp only)
theorem State.modMason_field (s : State) (f : Mason → Mason) : (State.modMason s f).field = s.field := by
  unfold State.modMason
  try dsimp only
  repeat' first
    | with_reducible rfl
    | (intro _)
    | (with_reducible refine Eq.trans (foldl_field _ ?_ _ _) ?_)
    | (with_reducible refine Eq.trans (foldl_field1 _ ?_ _ _) ?_)
    | split
    | (simp only [field_mk])
    | (dsimp only)
theorem State.emit_field (s : State) (o : HostOut) : (State.emit s o).field = s.field := by
  unfold State.emit
  try dsimp only
  repeat' first
    | with_reducible rfl
    | (intro _)
    | (with_reducible refine Eq.trans (foldl_field _ ?_ _ _) ?_)
    | (with_reducible refine Eq.trans (foldl_field1 _ ?_ _ _) ?_)
    | split
    | (simp only [field_mk])
    | (dsimp only)
theorem setMsix_field (s : State) (v : VecId) (f : MsixEntry → MsixEntry) : (setMsix s v f).field = s.field := by
  unfold setMsix
  try dsimp only
  repeat' first
    | with_reducible rfl
    | (intro _)
    | (with_reducible refine Eq.trans (foldl_field _ ?_ _ _) ?_)
    | (with_reducible refine Eq.trans (foldl_field1 _ ?_ _ _) ?_)
    | split
    | (simp only [field_mk])
    | (dsimp only)
theorem State.signal_field (s : State) (v : VecId) : (State.signal s v).field = s.field := by
  unfold State.signal
  try dsimp only
  repeat' first
    | with_reducible rfl
    | (intro _)
    | (with_reducible refine Eq.trans (State.emit_field _ _) ?_)
    | (with_reducible refine Eq.trans (setMsix_field _ _ _) ?_)
    | (with_reducible refine Eq.trans (foldl_field _ ?_ _ _) ?_)
    | (with_reducible refine Eq.trans (foldl_field1 _ ?_ _ _) ?_)
    | split
    | (simp only [field_mk])
    | (dsimp only)
theorem State.signalQueue_field (s : State) (q : QueueId) : (State.signalQueue s q).field = s.field := by
  unfold State.signalQueue
  try dsimp only
  repeat' first
    | with_reducible rfl
    | (intro _)
    | (with_reducible refine Eq.trans (State.modQueue_field _ _ _) ?_)
    | (with_reducible refine Eq.trans (State.signal_field _ _) ?_)
    | (with_reducible refine Eq.trans (foldl_field _ ?_ _ _) ?_)
    | (with_reducible refine Eq.trans (foldl_field1 _ ?_ _ _) ?_)
    | split
    | (simp only [field_mk])
    | (dsimp only)
theorem State.completeRaw_field (s : State) (q : QueueId) (n : Word32) (st : Status) (detail : Nat) (time : Nat) (result : Mask128) : (State.completeRaw s q n st detail time result).field = s.field := by
  unfold State.completeRaw
  try dsimp only
  repeat' first
    | with_reducible rfl
    | (intro _)
    | (with_reducible refine Eq.trans (State.modQueue_field _ _ _) ?_)
    | (with_reducible refine Eq.trans (State.modMason_field _ _) ?_)
    | (with_reducible refine Eq.trans (State.emit_field _ _) ?_)
    | (with_reducible refine Eq.trans (State.signalQueue_field _ _) ?_)
    | (with_reducible refine Eq.trans (foldl_field _ ?_ _ _) ?_)
    | (with_reducible refine Eq.trans (foldl_field1 _ ?_ _ _) ?_)
    | split
    | (simp only [field_mk])
    | (dsimp only)
theorem State.finishDrains_field (s : State) : (State.finishDrains s).field = s.field := by
  unfold State.finishDrains
  try dsimp only
  repeat' first
    | with_reducible rfl
    | (intro _)
    | (with_reducible refine Eq.trans (State.modQueue_field _ _ _) ?_)
    | (with_reducible refine Eq.trans (State.drained_field _ _) ?_)
    | (with_reducible refine Eq.trans (State.completeRaw_field _ _ _ _ _ _ _) ?_)
    | (with_reducible refine Eq.trans (foldl_field _ ?_ _ _) ?_)
    | (with_reducible refine Eq.trans (foldl_field1 _ ?_ _ _) ?_)
    | split
    | (simp only [field_mk])
    | (dsimp only)
theorem State.complete_field (s : State) (q : QueueId) (n : Word32) (st : Status) (detail : Nat) (time : Nat) (result : Mask128) : (State.complete s q n st detail time result).field = s.field := by
  unfold State.complete
  try dsimp only
  repeat' first
    | with_reducible rfl
    | (intro _)
    | (with_reducible refine Eq.trans (State.drained_field _ _) ?_)
    | (with_reducible refine Eq.trans (State.completeRaw_field _ _ _ _ _ _ _) ?_)
    | (with_reducible refine Eq.trans (State.finishDrains_field _) ?_)
    | (with_reducible refine Eq.trans (foldl_field _ ?_ _ _) ?_)
    | (with_reducible refine Eq.trans (foldl_field1 _ ?_ _ _) ?_)
    | split
    | (simp only [field_mk])
    | (dsimp only)
theorem State.started_field (s : State) (q : QueueId) (n : Word32) : (State.started s q n).field = s.field := by
  unfold State.started
  try dsimp only
  repeat' first
    | with_reducible rfl
    | (intro _)
    | (with_reducible refine Eq.trans (State.modQueue_field _ _ _) ?_)
    | (with_reducible refine Eq.trans (foldl_field _ ?_ _ _) ?_)
    | (with_reducible refine Eq.trans (foldl_field1 _ ?_ _ _) ?_)
    | split
    | (simp only [field_mk])
    | (dsimp only)
theorem State.finish_field (s : State) (q : QueueId) (n : Word32) (st : Status) (detail : Nat) : (State.finish s q n st detail).field = s.field := by
  unfold State.finish
  try dsimp only
  repeat' first
    | with_reducible rfl
    | (intro _)
    | (with_reducible refine Eq.trans (State.complete_field _ _ _ _ _ _ _) ?_)
    | (with_reducible refine Eq.trans (foldl_field _ ?_ _ _) ?_)
    | (with_reducible refine Eq.trans (foldl_field1 _ ?_ _ _) ?_)
    | split
    | (simp only [field_mk])
    | (dsimp only)
theorem State.modHost_field (s : State) (f : HostRegs → HostRegs) : (State.modHost s f).field = s.field := by
  unfold State.modHost
  try dsimp only
  repeat' first
    | with_reducible rfl
    | (intro _)
    | (with_reducible refine Eq.trans (foldl_field _ ?_ _ _) ?_)
    | (with_reducible refine Eq.trans (foldl_field1 _ ?_ _ _) ?_)
    | split
    | (simp only [field_mk])
    | (dsimp only)
theorem State.noteSet_field (s : State) (k : Nat) : (State.noteSet s k).field = s.field := by
  unfold State.noteSet
  try dsimp only
  repeat' first
    | with_reducible rfl
    | (intro _)
    | (with_reducible refine Eq.trans (State.modHost_field _ _) ?_)
    | (with_reducible refine Eq.trans (foldl_field _ ?_ _ _) ?_)
    | (with_reducible refine Eq.trans (foldl_field1 _ ?_ _ _) ?_)
    | split
    | (simp only [field_mk])
    | (dsimp only)
theorem State.deny_field (s : State) (m : Nat) (t : Nat) (perm : Nat) : (State.deny s m t perm).field = s.field := by
  unfold State.deny
  try dsimp only
  repeat' first
    | with_reducible rfl
    | (intro _)
    | (with_reducible refine Eq.trans (State.modHost_field _ _) ?_)
    | (with_reducible refine Eq.trans (State.noteSet_field _ _) ?_)
    | (with_reducible refine Eq.trans (foldl_field _ ?_ _ _) ?_)
    | (with_reducible refine Eq.trans (foldl_field1 _ ?_ _ _) ?_)
    | split
    | (simp only [field_mk])
    | (dsimp only)
theorem State.io_field (s : State) (q : QueueId) (n : Word32) (form : Desc → Bool) (needs : Desc → List (Nat × Nat)) (bad : Desc → Bool → Option Nat) (body : Desc → State → State) (hbody : ∀ x0 u, (body x0 u).field = u.field) : (State.io s q n form needs bad body).field = s.field := by
  unfold State.io
  try dsimp only
  repeat' first
    | with_reducible rfl
    | (intro _)
    | (with_reducible refine Eq.trans (hbody _ _) ?_)
    | (with_reducible refine Eq.trans (State.started_field _ _ _) ?_)
    | (with_reducible refine Eq.trans (State.finish_field _ _ _ _ _) ?_)
    | (with_reducible refine Eq.trans (State.deny_field _ _ _ _) ?_)
    | (with_reducible refine Eq.trans (foldl_field _ ?_ _ _) ?_)
    | (with_reducible refine Eq.trans (foldl_field1 _ ?_ _ _) ?_)
    | split
    | (simp only [field_mk])
    | (dsimp only)
theorem State.when_field (s : State) (b : Bool) (f : State → State) (hf : (f s).field = s.field) : (State.when s b f).field = s.field := by
  unfold State.when; split
  · exact hf
  · rfl
theorem State.completeOp_field (s : State) (o : Op) (st : Status) (detail : Nat) (time : Nat) (result : Mask128) : (State.completeOp s o st detail time result).field = s.field := by
  unfold State.completeOp
  try dsimp only
  repeat' first
    | with_reducible rfl
    | (intro _)
    | (with_reducible refine Eq.trans (State.complete_field _ _ _ _ _ _ _) ?_)
    | (with_reducible refine Eq.trans (foldl_field _ ?_ _ _) ?_)
    | (with_reducible refine Eq.trans (foldl_field1 _ ?_ _ _) ?_)
    | split
    | (simp only [field_mk])
    | (dsimp only)
theorem State.setDev_field (s : State) (cause : Word32) (en : Word32) : (State.setDev s cause en).field = s.field := by
  unfold State.setDev
  try dsimp only
  repeat' first
    | with_reducible rfl
    | (intro _)
    | (with_reducible refine Eq.trans (State.signal_field _ _) ?_)
    | (with_reducible refine Eq.trans (State.modHost_field _ _) ?_)
    | (with_reducible refine Eq.trans (foldl_field _ ?_ _ _) ?_)
    | (with_reducible refine Eq.trans (foldl_field1 _ ?_ _ _) ?_)
    | split
    | (simp only [field_mk])
    | (dsimp only)
theorem State.raiseCause_field (s : State) (bitNo : Nat) : (State.raiseCause s bitNo).field = s.field := by
  unfold State.raiseCause
  try dsimp only
  repeat' first
    | with_reducible rfl
    | (intro _)
    | (with_reducible refine Eq.trans (State.noteSet_field _ _) ?_)
    | (with_reducible refine Eq.trans (State.setDev_field _ _ _) ?_)
    | (with_reducible refine Eq.trans (foldl_field _ ?_ _ _) ?_)
    | (with_reducible refine Eq.trans (foldl_field1 _ ?_ _ _) ?_)
    | split
    | (simp only [field_mk])
    | (dsimp only)
theorem State.stageAny_field (s : State) (r : Record) : (State.stageAny s r).field = s.field := by
  unfold State.stageAny
  try dsimp only
  repeat' first
    | with_reducible rfl
    | (intro _)
    | (with_reducible refine field_pair (by assumption) (Eq.trans (State.stage_field _ _ _) ?_))
    | (with_reducible refine Eq.trans (State.stage_field _ _ _) ?_)
    | (with_reducible refine Eq.trans (foldl_field _ ?_ _ _) ?_)
    | (with_reducible refine Eq.trans (foldl_field1 _ ?_ _ _) ?_)
    | split
    | (simp only [field_mk])
    | (dsimp only)
theorem State.masonRecord_field (s : State) : (State.masonRecord s).field = s.field := by
  unfold State.masonRecord
  try dsimp only
  repeat' first
    | with_reducible rfl
    | (intro _)
    | (with_reducible refine Eq.trans (State.stageAny_field _ _) ?_)
    | (with_reducible refine Eq.trans (foldl_field _ ?_ _ _) ?_)
    | (with_reducible refine Eq.trans (foldl_field1 _ ?_ _ _) ?_)
    | split
    | (simp only [field_mk])
    | (dsimp only)
theorem State.setShed_field (s : State) (k : Fin 5) : (State.setShed s k).field = s.field := by
  unfold State.setShed
  try dsimp only
  repeat' first
    | with_reducible rfl
    | (intro _)
    | (with_reducible refine Eq.trans (State.modMason_field _ _) ?_)
    | (with_reducible refine Eq.trans (State.raiseCause_field _ _) ?_)
    | (with_reducible refine Eq.trans (State.masonRecord_field _) ?_)
    | (with_reducible refine Eq.trans (foldl_field _ ?_ _ _) ?_)
    | (with_reducible refine Eq.trans (foldl_field1 _ ?_ _ _) ?_)
    | split
    | (simp only [field_mk])
    | (dsimp only)
theorem execLivenessGatePass_field (dt : Nat) (s : State) {t : State} (h : execLivenessGatePass dt s = .next t) : t.field = (s.elapse dt).field := by
  simp only [execLivenessGatePass] at h
  first
    | (injection h with h; subst h)
    | (split at h; exact absurd h (by simp); injection h with h; subst h)
  repeat' first
    | with_reducible rfl
    | (intro _)
    | (with_reducible refine Eq.trans (State.modPair_field _ _) ?_)
    | (with_reducible refine Eq.trans (State.when_field _ _ _ ?_) ?_)
    | (with_reducible refine Eq.trans (foldl_field _ ?_ _ _) ?_)
    | (with_reducible refine Eq.trans (foldl_field1 _ ?_ _ _) ?_)
    | split
    | (simp only [field_mk])
    | (dsimp only)
theorem State.retire_field (s : State) (q : QueueId) (b : RecBuf) (st : Status) : (State.retire s q b st).field = s.field := by
  unfold State.retire
  try dsimp only
  repeat' first
    | with_reducible rfl
    | (intro _)
    | (with_reducible refine Eq.trans (State.modQueue_field _ _ _) ?_)
    | (with_reducible refine Eq.trans (State.complete_field _ _ _ _ _ _ _) ?_)
    | (with_reducible refine Eq.trans (foldl_field _ ?_ _ _) ?_)
    | (with_reducible refine Eq.trans (foldl_field1 _ ?_ _ _) ?_)
    | split
    | (simp only [field_mk])
    | (dsimp only)
theorem State.pairEvent_field (s : State) (ev : Byte) (data : Word64) : (State.pairEvent s ev data).field = s.field := by
  unfold State.pairEvent
  try dsimp only
  repeat' first
    | with_reducible rfl
    | (intro _)
    | (with_reducible refine Eq.trans (State.raiseCause_field _ _) ?_)
    | (with_reducible refine Eq.trans (State.stageAny_field _ _) ?_)
    | (with_reducible refine Eq.trans (foldl_field _ ?_ _ _) ?_)
    | (with_reducible refine Eq.trans (foldl_field1 _ ?_ _ _) ?_)
    | split
    | (simp only [field_mk])
    | (dsimp only)
theorem State.zsend_field (s : State) (f : ZFrame) : (State.zsend s f).field = s.field := by
  unfold State.zsend
  try dsimp only
  repeat' first
    | with_reducible rfl
    | (intro _)
    | (with_reducible refine Eq.trans (State.modPair_field _ _) ?_)
    | (with_reducible refine Eq.trans (foldl_field _ ?_ _ _) ?_)
    | (with_reducible refine Eq.trans (foldl_field1 _ ?_ _ _) ?_)
    | split
    | (simp only [field_mk])
    | (dsimp only)
theorem State.sendCommit_field (s : State) : (State.sendCommit s).field = s.field := by
  unfold State.sendCommit
  try dsimp only
  repeat' first
    | with_reducible rfl
    | (intro _)
    | (with_reducible refine Eq.trans (State.modPair_field _ _) ?_)
    | (with_reducible refine Eq.trans (State.zsend_field _ _) ?_)
    | (with_reducible refine Eq.trans (foldl_field _ ?_ _ _) ?_)
    | (with_reducible refine Eq.trans (foldl_field1 _ ?_ _ _) ?_)
    | split
    | (simp only [field_mk])
    | (dsimp only)
theorem State.capture_field (s : State) (final : Bool) : (State.capture s final).field = s.field := by
  unfold State.capture
  try dsimp only
  repeat' first
    | with_reducible rfl
    | (intro _)
    | (with_reducible refine Eq.trans (State.useFresh_field _) ?_)
    | (with_reducible refine Eq.trans (State.modPair_field _ _) ?_)
    | (with_reducible refine Eq.trans (State.sendCommit_field _) ?_)
    | (with_reducible refine Eq.trans (foldl_field _ ?_ _ _) ?_)
    | (with_reducible refine Eq.trans (foldl_field1 _ ?_ _ _) ?_)
    | split
    | (simp only [field_mk])
    | (dsimp only)
theorem State.finalCapture_field (s : State) : (State.finalCapture s).field = s.field := by
  unfold State.finalCapture
  try dsimp only
  repeat' first
    | with_reducible rfl
    | (intro _)
    | (with_reducible refine Eq.trans (State.capture_field _ _) ?_)
    | (with_reducible refine Eq.trans (foldl_field _ ?_ _ _) ?_)
    | (with_reducible refine Eq.trans (foldl_field1 _ ?_ _ _) ?_)
    | split
    | (simp only [field_mk])
    | (dsimp only)
theorem execHandoverDrained_field (dt : Nat) (s : State) {t : State} (h : execHandoverDrained dt s = .next t) : t.field = (s.elapse dt).field := by
  simp only [execHandoverDrained] at h
  first
    | (injection h with h; subst h)
    | (split at h; exact absurd h (by simp); injection h with h; subst h)
  repeat' first
    | with_reducible rfl
    | (intro _)
    | (with_reducible refine Eq.trans (State.modPair_field _ _) ?_)
    | (with_reducible refine Eq.trans (State.when_field _ _ _ ?_) ?_)
    | (with_reducible refine Eq.trans (State.retire_field _ _ _ _) ?_)
    | (with_reducible refine Eq.trans (State.pairEvent_field _ _ _) ?_)
    | (with_reducible refine Eq.trans (State.finalCapture_field _) ?_)
    | (with_reducible refine Eq.trans (foldl_field _ ?_ _ _) ?_)
    | (with_reducible refine Eq.trans (foldl_field1 _ ?_ _ _) ?_)
    | split
    | (simp only [field_mk])
    | (dsimp only)
theorem State.logEvent_field (s : State) (kind : Nat) (data : Nat) (fault : Bool) : (State.logEvent s kind data fault).field = s.field := by
  unfold State.logEvent
  try dsimp only
  repeat' first
    | with_reducible rfl
    | (intro _)
    | (with_reducible refine Eq.trans (State.modMason_field _ _) ?_)
    | (with_reducible refine Eq.trans (foldl_field _ ?_ _ _) ?_)
    | (with_reducible refine Eq.trans (foldl_field1 _ ?_ _ _) ?_)
    | split
    | (simp only [field_mk])
    | (dsimp only)
theorem State.vaultUe_field (s : State) (addr : Nat) : (State.vaultUe s addr).field = s.field := by
  unfold State.vaultUe
  try dsimp only
  repeat' first
    | with_reducible rfl
    | (intro _)
    | (with_reducible refine Eq.trans (State.raiseCause_field _ _) ?_)
    | (with_reducible refine Eq.trans (State.logEvent_field _ _ _ _) ?_)
    | (with_reducible refine Eq.trans (foldl_field _ ?_ _ _) ?_)
    | (with_reducible refine Eq.trans (foldl_field1 _ ?_ _ _) ?_)
    | split
    | (simp only [field_mk])
    | (dsimp only)
theorem execAdminCommandStart_field (dt : Nat) (n : Word32) (s : State) {t : State} (h : execAdminCommandStart dt n s = .next t) : t.field = (s.elapse dt).field := by
  simp only [execAdminCommandStart] at h
  first
    | (injection h with h; subst h)
    | (split at h; exact absurd h (by simp); injection h with h; subst h)
  repeat' first
    | with_reducible rfl
    | (intro _)
    | (with_reducible refine Eq.trans (State.modMason_field _ _) ?_)
    | (with_reducible refine Eq.trans (State.started_field _ _ _) ?_)
    | (with_reducible refine Eq.trans (State.finish_field _ _ _ _ _) ?_)
    | (with_reducible refine Eq.trans (State.when_field _ _ _ ?_) ?_)
    | (with_reducible refine Eq.trans (foldl_field _ ?_ _ _) ?_)
    | (with_reducible refine Eq.trans (foldl_field1 _ ?_ _ _) ?_)
    | split
    | (simp only [field_mk])
    | (dsimp only)
theorem State.adm_field (s : State) (n : Word32) (form : Desc → Bool) (needs : Desc → List (Nat × Nat)) (bad : Desc → Option Nat) (body : Desc → State → State) (hbody : ∀ x0 u, (body x0 u).field = u.field) : (State.adm s n form needs bad body).field = s.field := by
  unfold State.adm
  try dsimp only
  repeat' first
    | with_reducible rfl
    | (intro _)
    | (with_reducible refine Eq.trans (hbody _ _) ?_)
    | (with_reducible refine Eq.trans (State.finish_field _ _ _ _ _) ?_)
    | (with_reducible refine Eq.trans (State.deny_field _ _ _ _) ?_)
    | (with_reducible refine Eq.trans (foldl_field _ ?_ _ _) ?_)
    | (with_reducible refine Eq.trans (foldl_field1 _ ?_ _ _) ?_)
    | split
    | (simp only [field_mk])
    | (dsimp only)
theorem State.fset_field (s : State) (n : Word32) (fid : Nat) (selBad : Desc → Bool) (valBad : Desc → Bool) (body : Desc → State → State) (hbody : ∀ x0 u, (body x0 u).field = u.field) : (State.fset s n fid selBad valBad body).field = s.field := by
  unfold State.fset
  try dsimp only
  repeat' first
    | with_reducible rfl
    | (intro _)
    | (with_reducible refine Eq.trans (hbody _ _) ?_)
    | (with_reducible refine Eq.trans (State.adm_field _ _ _ _ _ _ ?_) ?_)
    | (with_reducible refine Eq.trans (foldl_field _ ?_ _ _) ?_)
    | (with_reducible refine Eq.trans (foldl_field1 _ ?_ _ _) ?_)
    | split
    | (simp only [field_mk])
    | (dsimp only)
theorem State.setCfgDone_field (s : State) (n : Word32) : (State.setCfgDone s n).field = s.field := by
  unfold State.setCfgDone
  try dsimp only
  repeat' first
    | with_reducible rfl
    | (intro _)
    | (with_reducible refine Eq.trans (State.configured_field _ _ _) ?_)
    | (with_reducible refine Eq.trans (State.finish_field _ _ _ _ _) ?_)
    | (with_reducible refine Eq.trans (foldl_field _ ?_ _ _) ?_)
    | (with_reducible refine Eq.trans (foldl_field1 _ ?_ _ _) ?_)
    | split
    | (simp only [field_mk])
    | (dsimp only)
theorem execSetRecordRoute_field (dt : Nat) (n : Word32) (s : State) {t : State} (h : execSetRecordRoute dt n s = .next t) : t.field = (s.elapse dt).field := by
  simp only [execSetRecordRoute] at h
  first
    | (injection h with h; subst h)
    | (split at h; exact absurd h (by simp); injection h with h; subst h)
  repeat' first
    | with_reducible rfl
    | (intro _)
    | (with_reducible refine Eq.trans (State.fset_field _ _ _ _ _ _ ?_) ?_)
    | (with_reducible refine Eq.trans (State.setCfgDone_field _ _) ?_)
    | (with_reducible refine Eq.trans (foldl_field _ ?_ _ _) ?_)
    | (with_reducible refine Eq.trans (foldl_field1 _ ?_ _ _) ?_)
    | split
    | (simp only [field_mk])
    | (dsimp only)
theorem State.beginDrain_field (s : State) (q : QueueId) : (State.beginDrain s q).field = s.field := by
  unfold State.beginDrain
  try dsimp only
  repeat' first
    | with_reducible rfl
    | (intro _)
    | (with_reducible refine Eq.trans (State.modQueue_field _ _ _) ?_)
    | (with_reducible refine Eq.trans (State.drained_field _ _) ?_)
    | (with_reducible refine Eq.trans (State.finishDrains_field _) ?_)
    | (with_reducible refine Eq.trans (State.complete_field _ _ _ _ _ _ _) ?_)
    | (with_reducible refine Eq.trans (State.retire_field _ _ _ _) ?_)
    | (with_reducible refine Eq.trans (foldl_field _ ?_ _ _) ?_)
    | (with_reducible refine Eq.trans (foldl_field1 _ ?_ _ _) ?_)
    | split
    | (simp only [field_mk])
    | (dsimp only)
theorem State.freeMason_field (s : State) : (State.freeMason s).field = s.field := by
  unfold State.freeMason
  try dsimp only
  repeat' first
    | with_reducible rfl
    | (intro _)
    | (with_reducible refine Eq.trans (State.modMason_field _ _) ?_)
    | (with_reducible refine Eq.trans (foldl_field _ ?_ _ _) ?_)
    | (with_reducible refine Eq.trans (foldl_field1 _ ?_ _ _) ?_)
    | split
    | (simp only [field_mk])
    | (dsimp only)
theorem execQueueQuiesce_field (dt : Nat) (n : Word32) (s : State) {t : State} (h : execQueueQuiesce dt n s = .next t) : t.field = (s.elapse dt).field := by
  simp only [execQueueQuiesce] at h
  first
    | (injection h with h; subst h)
    | (split at h; exact absurd h (by simp); injection h with h; subst h)
  repeat' first
    | with_reducible rfl
    | (intro _)
    | (with_reducible refine Eq.trans (State.addOp_field _ _ _ _) ?_)
    | (with_reducible refine Eq.trans (State.finish_field _ _ _ _ _) ?_)
    | (with_reducible refine Eq.trans (State.adm_field _ _ _ _ _ _ ?_) ?_)
    | (with_reducible refine Eq.trans (State.beginDrain_field _ _) ?_)
    | (with_reducible refine Eq.trans (State.freeMason_field _) ?_)
    | (with_reducible refine Eq.trans (foldl_field _ ?_ _ _) ?_)
    | (with_reducible refine Eq.trans (foldl_field1 _ ?_ _ _) ?_)
    | split
    | (simp only [field_mk])
    | (dsimp only)
theorem State.recover_field (s : State) : (State.recover s).field = s.field := by
  unfold State.recover
  try dsimp only
  repeat' first
    | with_reducible rfl
    | (intro _)
    | (with_reducible refine Eq.trans (State.modMason_field _ _) ?_)
    | (with_reducible refine Eq.trans (foldl_field _ ?_ _ _) ?_)
    | (with_reducible refine Eq.trans (foldl_field1 _ ?_ _ _) ?_)
    | split
    | (simp only [field_mk])
    | (dsimp only)
theorem execSetRecordFlush_field (dt : Nat) (n : Word32) (s : State) {t : State} (h : execSetRecordFlush dt n s = .next t) : t.field = (s.elapse dt).field := by
  simp only [execSetRecordFlush] at h
  first
    | (injection h with h; subst h)
    | (split at h; exact absurd h (by simp); injection h with h; subst h)
  repeat' first
    | with_reducible rfl
    | (intro _)
    | (with_reducible refine Eq.trans (State.fset_field _ _ _ _ _ _ ?_) ?_)
    | (with_reducible refine Eq.trans (State.setCfgDone_field _ _) ?_)
    | (with_reducible refine Eq.trans (foldl_field _ ?_ _ _) ?_)
    | (with_reducible refine Eq.trans (foldl_field1 _ ?_ _ _) ?_)
    | split
    | (simp only [field_mk])
    | (dsimp only)
theorem State.plinthPut_field (s : State) (addr : Nat) (data : List Byte) (f : State → State) (hf : ∀ s, (f s).field = s.field) {t : State} (h : s.plinthPut addr data f = .next t) : t.field = s.field := by
  unfold State.plinthPut at h
  split at h
  · injection h with h; subst h; rfl
  · split at h
    · exact absurd h (by simp)
    · injection h with h; subst h; exact (hf _).trans (field_mk _ ..)
theorem execLog_field (dt : Nat) (e : Word64) (s : State) {t : State} (h : execLog dt e s = .next t) : t.field = (s.elapse dt).field := by
  simp only [execLog] at h
  split at h
  all_goals
    split at h
    · injection h with h; subst h; rfl
    · refine State.plinthPut_field _ _ _ _ (fun u => ?_) h
      exact (State.zsend_field _ _).trans (State.modPair_field _ _)
theorem execCommit_field (dt : Nat) (header : List Byte) (s : State) {t : State} (h : execCommit dt header s = .next t) : t.field = (s.elapse dt).field := by
  simp only [execCommit] at h
  split at h
  · injection h with h; subst h; rfl
  · refine State.plinthPut_field _ _ _ _ (fun u => ?_) h
    exact (State.zsend_field _ _).trans (State.modPair_field _ _)
theorem State.degrade_field (s : State) : (State.degrade s).field = s.field := by
  unfold State.degrade
  try dsimp only
  repeat' first
    | with_reducible rfl
    | (intro _)
    | (with_reducible refine Eq.trans (State.modPair_field _ _) ?_)
    | (with_reducible refine Eq.trans (State.pairEvent_field _ _ _) ?_)
    | (with_reducible refine Eq.trans (foldl_field _ ?_ _ _) ?_)
    | (with_reducible refine Eq.trans (foldl_field1 _ ?_ _ _) ?_)
    | split
    | (simp only [field_mk])
    | (dsimp only)
theorem State.startResync_field (s : State) (who : Option Word32) : (State.startResync s who).field = s.field := by
  unfold State.startResync
  try dsimp only
  repeat' first
    | with_reducible rfl
    | (intro _)
    | (with_reducible refine Eq.trans (State.modPair_field _ _) ?_)
    | (with_reducible refine Eq.trans (foldl_field _ ?_ _ _) ?_)
    | (with_reducible refine Eq.trans (foldl_field1 _ ?_ _ _) ?_)
    | split
    | (simp only [field_mk])
    | (dsimp only)
theorem State.fwCommit_field (s : State) (n : Word32) (action : Nat) (served : Bool) (body : State → State) (hbody : ∀ u, (body u).field = u.field) : (State.fwCommit s n action served body).field = s.field := by
  unfold State.fwCommit
  try dsimp only
  repeat' first
    | with_reducible rfl
    | (intro _)
    | (with_reducible refine Eq.trans (hbody _) ?_)
    | (with_reducible refine Eq.trans (State.adm_field _ _ _ _ _ _ ?_) ?_)
    | (with_reducible refine Eq.trans (foldl_field _ ?_ _ _) ?_)
    | (with_reducible refine Eq.trans (foldl_field1 _ ?_ _ _) ?_)
    | split
    | (simp only [field_mk])
    | (dsimp only)
theorem State.verified_field (s : State) (n : Word32) (ok : State → State) (hok : ∀ u, (ok u).field = u.field) : (State.verified s n ok).field = s.field := by
  unfold State.verified
  try dsimp only
  repeat' first
    | with_reducible rfl
    | (intro _)
    | (with_reducible refine Eq.trans (hok _) ?_)
    | (with_reducible refine Eq.trans (State.finish_field _ _ _ _ _) ?_)
    | (with_reducible refine Eq.trans (foldl_field _ ?_ _ _) ?_)
    | (with_reducible refine Eq.trans (foldl_field1 _ ?_ _ _) ?_)
    | split
    | (simp only [field_mk])
    | (dsimp only)
theorem execFwCommitStart_field (dt : Nat) (n : Word32) (s : State) {t : State} (h : execFwCommitStart dt n s = .next t) : t.field = (s.elapse dt).field := by
  simp only [execFwCommitStart] at h
  first
    | (injection h with h; subst h)
    | (split at h; exact absurd h (by simp); injection h with h; subst h)
  repeat' first
    | with_reducible rfl
    | (intro _)
    | (with_reducible refine Eq.trans (State.modMason_field _ _) ?_)
    | (with_reducible refine Eq.trans (State.finish_field _ _ _ _ _) ?_)
    | (with_reducible refine Eq.trans (State.fwCommit_field _ _ _ _ _ ?_) ?_)
    | (with_reducible refine Eq.trans (State.verified_field _ _ _ ?_) ?_)
    | (with_reducible refine Eq.trans (foldl_field _ ?_ _ _) ?_)
    | (with_reducible refine Eq.trans (foldl_field1 _ ?_ _ _) ?_)
    | split
    | (simp only [field_mk])
    | (dsimp only)
theorem State.setWign_field (s : State) : (State.setWign s).field = s.field := by
  unfold State.setWign
  try dsimp only
  repeat' first
    | with_reducible rfl
    | (intro _)
    | (with_reducible refine Eq.trans (State.modHost_field _ _) ?_)
    | (with_reducible refine Eq.trans (State.noteSet_field _ _) ?_)
    | (with_reducible refine Eq.trans (foldl_field _ ?_ _ _) ?_)
    | (with_reducible refine Eq.trans (foldl_field1 _ ?_ _ _) ?_)
    | split
    | (simp only [field_mk])
    | (dsimp only)
theorem State.barWrite_field (s : State) (t : Nat) (f : State → State) (hf : ∀ u, (f u).field = u.field) : (State.barWrite s t f).field = s.field := by
  unfold State.barWrite
  try dsimp only
  repeat' first
    | with_reducible rfl
    | (intro _)
    | (with_reducible refine Eq.trans (hf _) ?_)
    | (with_reducible refine Eq.trans (State.configured_field _ _ _) ?_)
    | (with_reducible refine Eq.trans (State.deny_field _ _ _ _) ?_)
    | (with_reducible refine Eq.trans (State.setWign_field _) ?_)
    | (with_reducible refine Eq.trans (foldl_field _ ?_ _ _) ?_)
    | (with_reducible refine Eq.trans (foldl_field1 _ ?_ _ _) ?_)
    | split
    | (simp only [field_mk])
    | (dsimp only)
theorem execIndexReadComplete_field (dt : Nat) (sqp : Vector Word32 64) (cqc : Vector Word32 64) (s : State) {t : State} (h : execIndexReadComplete dt sqp cqc s = .next t) : t.field = (s.elapse dt).field := by
  simp only [execIndexReadComplete] at h
  first
    | (injection h with h; subst h)
    | (split at h; exact absurd h (by simp); injection h with h; subst h)
  repeat' first
    | with_reducible rfl
    | (intro _)
    | (with_reducible refine Eq.trans (State.modQueue_field _ _ _) ?_)
    | (with_reducible refine Eq.trans (State.modHost_field _ _) ?_)
    | (with_reducible refine Eq.trans (State.when_field _ _ _ ?_) ?_)
    | (with_reducible refine Eq.trans (State.raiseCause_field _ _) ?_)
    | (with_reducible refine Eq.trans (foldl_field _ ?_ _ _) ?_)
    | (with_reducible refine Eq.trans (foldl_field1 _ ?_ _ _) ?_)
    | split
    | (simp only [field_mk])
    | (dsimp only)
theorem State.adminEnable_field (s : State) : (State.adminEnable s).field = s.field := by
  unfold State.adminEnable
  try dsimp only
  repeat' first
    | with_reducible rfl
    | (intro _)
    | (with_reducible refine Eq.trans (State.modQueue_field _ _ _) ?_)
    | (with_reducible refine Eq.trans (State.modHost_field _ _) ?_)
    | (with_reducible refine Eq.trans (State.noteSet_field _ _) ?_)
    | (with_reducible refine Eq.trans (foldl_field _ ?_ _ _) ?_)
    | (with_reducible refine Eq.trans (foldl_field1 _ ?_ _ _) ?_)
    | split
    | (simp only [field_mk])
    | (dsimp only)
theorem State.adminDisable_field (s : State) : (State.adminDisable s).field = s.field := by
  unfold State.adminDisable
  try dsimp only
  repeat' first
    | with_reducible rfl
    | (intro _)
    | (with_reducible refine Eq.trans (State.drained_field _ _) ?_)
    | (with_reducible refine Eq.trans (State.modHost_field _ _) ?_)
    | (with_reducible refine Eq.trans (State.beginDrain_field _ _) ?_)
    | (with_reducible refine Eq.trans (foldl_field _ ?_ _ _) ?_)
    | (with_reducible refine Eq.trans (foldl_field1 _ ?_ _ _) ?_)
    | split
    | (simp only [field_mk])
    | (dsimp only)
theorem State.clearCauses_field (s : State) (v : Word32) : (State.clearCauses s v).field = s.field := by
  unfold State.clearCauses
  try dsimp only
  repeat' first
    | with_reducible rfl
    | (intro _)
    | (with_reducible refine Eq.trans (State.setDev_field _ _ _) ?_)
    | (with_reducible refine Eq.trans (foldl_field _ ?_ _ _) ?_)
    | (with_reducible refine Eq.trans (foldl_field1 _ ?_ _ _) ?_)
    | split
    | (simp only [field_mk])
    | (dsimp only)
theorem State.unmask_field (s : State) (v : VecId) : (State.unmask s v).field = s.field := by
  unfold State.unmask
  try dsimp only
  repeat' first
    | with_reducible rfl
    | (intro _)
    | (with_reducible refine Eq.trans (setMsix_field _ _ _) ?_)
    | (with_reducible refine Eq.trans (State.signal_field _ _) ?_)
    | (with_reducible refine Eq.trans (foldl_field _ ?_ _ _) ?_)
    | (with_reducible refine Eq.trans (foldl_field1 _ ?_ _ _) ?_)
    | split
    | (simp only [field_mk])
    | (dsimp only)
theorem State.setDone_field (s : State) (n : Word32) : (State.setDone s n).field = s.field := by
  unfold State.setDone
  try dsimp only
  repeat' first
    | with_reducible rfl
    | (intro _)
    | (with_reducible refine Eq.trans (State.finish_field _ _ _ _ _) ?_)
    | (with_reducible refine Eq.trans (foldl_field _ ?_ _ _) ?_)
    | (with_reducible refine Eq.trans (foldl_field1 _ ?_ _ _) ?_)
    | split
    | (simp only [field_mk])
    | (dsimp only)
theorem execSetPowerTarget_field (dt : Nat) (n : Word32) (s : State) {t : State} (h : execSetPowerTarget dt n s = .next t) : t.field = (s.elapse dt).field := by
  simp only [execSetPowerTarget] at h
  first
    | (injection h with h; subst h)
    | (split at h; exact absurd h (by simp); injection h with h; subst h)
  repeat' first
    | with_reducible rfl
    | (intro _)
    | (with_reducible refine Eq.trans (State.finish_field _ _ _ _ _) ?_)
    | (with_reducible refine Eq.trans (State.fset_field _ _ _ _ _ _ ?_) ?_)
    | (with_reducible refine Eq.trans (State.setDone_field _ _) ?_)
    | (with_reducible refine Eq.trans (foldl_field _ ?_ _ _) ?_)
    | (with_reducible refine Eq.trans (foldl_field1 _ ?_ _ _) ?_)
    | split
    | (simp only [field_mk])
    | (dsimp only)
theorem execClk25Loss_field (dt : Nat) (s : State) {t : State} (h : execClk25Loss dt s = .next t) : t.field = (s.elapse dt).field := by
  simp only [execClk25Loss] at h
  first
    | (injection h with h; subst h)
    | (split at h; exact absurd h (by simp); injection h with h; subst h)
  repeat' first
    | with_reducible rfl
    | (intro _)
    | (with_reducible refine Eq.trans (State.when_field _ _ _ ?_) ?_)
    | (with_reducible refine Eq.trans (foldl_field _ ?_ _ _) ?_)
    | (with_reducible refine Eq.trans (foldl_field1 _ ?_ _ _) ?_)
    | split
    | (simp only [field_mk])
    | (dsimp only)
theorem execBusMasterEnable_field (dt : Nat) (on : Bool) (memSpace : Bool) (msixOn : Bool) (s : State) {t : State} (h : execBusMasterEnable dt on memSpace msixOn s = .next t) : t.field = (s.elapse dt).field := by
  simp only [execBusMasterEnable] at h
  first
    | (injection h with h; subst h)
    | (split at h; exact absurd h (by simp); injection h with h; subst h)
  repeat' first
    | with_reducible rfl
    | (intro _)
    | (with_reducible refine Eq.trans (State.modHost_field _ _) ?_)
    | (with_reducible refine Eq.trans (State.when_field _ _ _ ?_) ?_)
    | (with_reducible refine Eq.trans (foldl_field _ ?_ _ _) ?_)
    | (with_reducible refine Eq.trans (foldl_field1 _ ?_ _ _) ?_)
    | split
    | (simp only [field_mk])
    | (dsimp only)
theorem State.checkStaged_field (s : State) (q : QueueId) (n : Word32) (d : Desc) {t : State} (h : s.checkStaged q n d = .ok t) : t.field = s.field := by
  unfold State.checkStaged at h
  revert h
  repeat' split
  all_goals first | (intro h; cases h; done) | (intro h; injection h with h; subst h; first | rfl | exact State.modQueue_field _ _ _)
theorem execDescriptorStaged_field (dt : Nat) (q : QueueId) (n : Word32) (d : Desc) (ue : Bool) (s : State) {t : State} (h : execDescriptorStaged dt q n d ue s = .next t) : t.field = (s.elapse dt).field := by
  simp only [execDescriptorStaged] at h
  injection h with h; subst h
  refine Eq.trans (State.when_field _ _ _ ?_) rfl
  split
  · exact Eq.trans (State.finish_field _ _ _ _ _) (Eq.trans (State.vaultUe_field _ _) (State.modQueue_field _ _ _))
  · split
    · exact Eq.trans (State.finish_field _ _ _ _ _) (State.modQueue_field _ _ _)
    · next heq =>
      have hk := Eq.trans (State.checkStaged_field _ _ _ _ heq) (State.modQueue_field _ _ _)
      split
      · exact Eq.trans (State.finish_field _ _ _ _ _) hk
      · split
        · exact Eq.trans (State.finish_field _ _ _ _ _) hk
        · exact hk
theorem execQueueResume_field (dt : Nat) (n : Word32) (s : State) {t : State} (h : execQueueResume dt n s = .next t) : t.field = (s.elapse dt).field := by
  simp only [execQueueResume] at h
  first
    | (injection h with h; subst h)
    | (split at h; exact absurd h (by simp); injection h with h; subst h)
  repeat' first
    | with_reducible rfl
    | (intro _)
    | (with_reducible refine Eq.trans (State.modQueue_field _ _ _) ?_)
    | (with_reducible refine Eq.trans (State.finish_field _ _ _ _ _) ?_)
    | (with_reducible refine Eq.trans (State.adm_field _ _ _ _ _ _ ?_) ?_)
    | (with_reducible refine Eq.trans (foldl_field _ ?_ _ _) ?_)
    | (with_reducible refine Eq.trans (foldl_field1 _ ?_ _ _) ?_)
    | split
    | (simp only [field_mk])
    | (dsimp only)
theorem execCheckpointCapture_field (dt : Nat) (s : State) {t : State} (h : execCheckpointCapture dt s = .next t) : t.field = (s.elapse dt).field := by
  simp only [execCheckpointCapture] at h
  first
    | (injection h with h; subst h)
    | (split at h; exact absurd h (by simp); injection h with h; subst h)
  repeat' first
    | with_reducible rfl
    | (intro _)
    | (with_reducible refine Eq.trans (State.when_field _ _ _ ?_) ?_)
    | (with_reducible refine Eq.trans (State.capture_field _ _) ?_)
    | (with_reducible refine Eq.trans (foldl_field _ ?_ _ _) ?_)
    | (with_reducible refine Eq.trans (foldl_field1 _ ?_ _ _) ?_)
    | split
    | (simp only [field_mk])
    | (dsimp only)
theorem execHbInEdge_field (dt : Nat) (s : State) {t : State} (h : execHbInEdge dt s = .next t) : t.field = (s.elapse dt).field := by
  simp only [execHbInEdge] at h
  first
    | (injection h with h; subst h)
    | (split at h; exact absurd h (by simp); injection h with h; subst h)
  repeat' first
    | with_reducible rfl
    | (intro _)
    | (with_reducible refine Eq.trans (State.modPair_field _ _) ?_)
    | (with_reducible refine Eq.trans (State.when_field _ _ _ ?_) ?_)
    | (with_reducible refine Eq.trans (State.degrade_field _) ?_)
    | (with_reducible refine Eq.trans (foldl_field _ ?_ _ _) ?_)
    | (with_reducible refine Eq.trans (foldl_field1 _ ?_ _ _) ?_)
    | split
    | (simp only [field_mk])
    | (dsimp only)
theorem execRecordFlushTimeout_field (dt : Nat) (q : QueueId) (s : State) {t : State} (h : execRecordFlushTimeout dt q s = .next t) : t.field = (s.elapse dt).field := by
  simp only [execRecordFlushTimeout] at h
  first
    | (injection h with h; subst h)
    | (split at h; exact absurd h (by simp); injection h with h; subst h)
  repeat' first
    | with_reducible rfl
    | (intro _)
    | (with_reducible refine Eq.trans (State.when_field _ _ _ ?_) ?_)
    | (with_reducible refine Eq.trans (State.retire_field _ _ _ _) ?_)
    | (with_reducible refine Eq.trans (foldl_field _ ?_ _ _) ?_)
    | (with_reducible refine Eq.trans (foldl_field1 _ ?_ _ _) ?_)
    | split
    | (simp only [field_mk])
    | (dsimp only)
theorem State.stageField_field (s : State) : (State.stageField s).field = s.field := by
  unfold State.stageField
  try dsimp only
  repeat' first
    | with_reducible rfl
    | (intro _)
    | (with_reducible refine Eq.trans (foldl_field _ ?_ _ _) ?_)
    | (with_reducible refine Eq.trans (foldl_field1 _ ?_ _ _) ?_)
    | split
    | (simp only [field_mk])
    | (dsimp only)
theorem execRecordBuffer_field (dt : Nat) (q : QueueId) (n : Word32) (s : State) {t : State} (h : execRecordBuffer dt q n s = .next t) : t.field = (s.elapse dt).field := by
  simp only [execRecordBuffer] at h
  first
    | (injection h with h; subst h)
    | (split at h; exact absurd h (by simp); injection h with h; subst h)
  repeat' first
    | with_reducible rfl
    | (intro _)
    | (with_reducible refine Eq.trans (State.modQueue_field _ _ _) ?_)
    | (with_reducible refine Eq.trans (State.io_field _ _ _ _ _ _ _ ?_) ?_)
    | (with_reducible refine Eq.trans (State.stageField_field _) ?_)
    | (with_reducible refine Eq.trans (foldl_field _ ?_ _ _) ?_)
    | (with_reducible refine Eq.trans (foldl_field1 _ ?_ _ _) ?_)
    | split
    | (simp only [field_mk])
    | (dsimp only)
theorem State.recordStraps_field (s : State) (straps : BitVec 5) : (State.recordStraps s straps).field = s.field := by
  unfold State.recordStraps
  try dsimp only
  repeat' first
    | with_reducible rfl
    | (intro _)
    | (with_reducible refine Eq.trans (State.modMason_field _ _) ?_)
    | (with_reducible refine Eq.trans (State.logEvent_field _ _ _ _) ?_)
    | (with_reducible refine Eq.trans (foldl_field _ ?_ _ _) ?_)
    | (with_reducible refine Eq.trans (foldl_field1 _ ?_ _ _) ?_)
    | split
    | (simp only [field_mk])
    | (dsimp only)
theorem execDoorbellPoll_field (dt : Nat) (s : State) {t : State} (h : execDoorbellPoll dt s = .next t) : t.field = (s.elapse dt).field := by
  simp only [execDoorbellPoll] at h
  first
    | (injection h with h; subst h)
    | (split at h; exact absurd h (by simp); injection h with h; subst h)
  repeat' first
    | with_reducible rfl
    | (intro _)
    | (with_reducible refine Eq.trans (State.emit_field _ _) ?_)
    | (with_reducible refine Eq.trans (State.modHost_field _ _) ?_)
    | (with_reducible refine Eq.trans (State.when_field _ _ _ ?_) ?_)
    | (with_reducible refine Eq.trans (foldl_field _ ?_ _ _) ?_)
    | (with_reducible refine Eq.trans (foldl_field1 _ ?_ _ _) ?_)
    | split
    | (simp only [field_mk])
    | (dsimp only)
theorem execQueueCreate_field (dt : Nat) (n : Word32) (s : State) {t : State} (h : execQueueCreate dt n s = .next t) : t.field = (s.elapse dt).field := by
  simp only [execQueueCreate] at h
  first
    | (injection h with h; subst h)
    | (split at h; exact absurd h (by simp); injection h with h; subst h)
  repeat' first
    | with_reducible rfl
    | (intro _)
    | (with_reducible refine Eq.trans (State.modQueue_field _ _ _) ?_)
    | (with_reducible refine Eq.trans (State.finish_field _ _ _ _ _) ?_)
    | (with_reducible refine Eq.trans (State.adm_field _ _ _ _ _ _ ?_) ?_)
    | (with_reducible refine Eq.trans (foldl_field _ ?_ _ _) ?_)
    | (with_reducible refine Eq.trans (foldl_field1 _ ?_ _ _) ?_)
    | split
    | (simp only [field_mk])
    | (dsimp only)
theorem execMasonRestartComplete_field (dt : Nat) (digestOk : Bool) (s : State) {t : State} (h : execMasonRestartComplete dt digestOk s = .next t) : t.field = (s.elapse dt).field := by
  simp only [execMasonRestartComplete] at h
  first
    | (injection h with h; subst h)
    | (split at h; exact absurd h (by simp); injection h with h; subst h)
  repeat' first
    | with_reducible rfl
    | (intro _)
    | (with_reducible refine Eq.trans (State.modMason_field _ _) ?_)
    | (with_reducible refine Eq.trans (State.when_field _ _ _ ?_) ?_)
    | (with_reducible refine Eq.trans (State.recover_field _) ?_)
    | (with_reducible refine Eq.trans (foldl_field _ ?_ _ _) ?_)
    | (with_reducible refine Eq.trans (foldl_field1 _ ?_ _ _) ?_)
    | split
    | (simp only [field_mk])
    | (dsimp only)
theorem execVisoRestored_field (dt : Nat) (s : State) {t : State} (h : execVisoRestored dt s = .next t) : t.field = (s.elapse dt).field := by
  simp only [execVisoRestored] at h
  first
    | (injection h with h; subst h)
    | (split at h; exact absurd h (by simp); injection h with h; subst h)
  repeat' first
    | with_reducible rfl
    | (intro _)
    | (with_reducible refine Eq.trans (State.when_field _ _ _ ?_) ?_)
    | (with_reducible refine Eq.trans (foldl_field _ ?_ _ _) ?_)
    | (with_reducible refine Eq.trans (foldl_field1 _ ?_ _ _) ?_)
    | split
    | (simp only [field_mk])
    | (dsimp only)
theorem execFunctionLevelResetComplete_field (dt : Nat) (s : State) {t : State} (h : execFunctionLevelResetComplete dt s = .next t) : t.field = (s.elapse dt).field := by
  simp only [execFunctionLevelResetComplete] at h
  first
    | (injection h with h; subst h)
    | (split at h; exact absurd h (by simp); injection h with h; subst h)
  repeat' first
    | with_reducible rfl
    | (intro _)
    | (with_reducible refine Eq.trans (State.modHost_field _ _) ?_)
    | (with_reducible refine Eq.trans (State.when_field _ _ _ ?_) ?_)
    | (with_reducible refine Eq.trans (foldl_field _ ?_ _ _) ?_)
    | (with_reducible refine Eq.trans (foldl_field1 _ ?_ _ _) ?_)
    | split
    | (simp only [field_mk])
    | (dsimp only)
theorem execIdentify_field (dt : Nat) (n : Word32) (s : State) {t : State} (h : execIdentify dt n s = .next t) : t.field = (s.elapse dt).field := by
  simp only [execIdentify] at h
  first
    | (injection h with h; subst h)
    | (split at h; exact absurd h (by simp); injection h with h; subst h)
  repeat' first
    | with_reducible rfl
    | (intro _)
    | (with_reducible refine Eq.trans (State.complete_field _ _ _ _ _ _ _) ?_)
    | (with_reducible refine Eq.trans (State.adm_field _ _ _ _ _ _ ?_) ?_)
    | (with_reducible refine Eq.trans (foldl_field _ ?_ _ _) ?_)
    | (with_reducible refine Eq.trans (foldl_field1 _ ?_ _ _) ?_)
    | split
    | (simp only [field_mk])
    | (dsimp only)
theorem State.answer_field (s : State) (v : Word32) : (State.answer s v).field = s.field := by
  unfold State.answer
  try dsimp only
  repeat' first
    | with_reducible rfl
    | (intro _)
    | (with_reducible refine Eq.trans (foldl_field _ ?_ _ _) ?_)
    | (with_reducible refine Eq.trans (foldl_field1 _ ?_ _ _) ?_)
    | split
    | (simp only [field_mk])
    | (dsimp only)
theorem State.barRead_field (s : State) (t : Nat) (f : State → State) (hf : ∀ u, (f u).field = u.field) : (State.barRead s t f).field = s.field := by
  unfold State.barRead
  try dsimp only
  repeat' first
    | with_reducible rfl
    | (intro _)
    | (with_reducible refine Eq.trans (hf _) ?_)
    | (with_reducible refine Eq.trans (State.deny_field _ _ _ _) ?_)
    | (with_reducible refine Eq.trans (State.answer_field _ _) ?_)
    | (with_reducible refine Eq.trans (foldl_field _ ?_ _ _) ?_)
    | (with_reducible refine Eq.trans (foldl_field1 _ ?_ _ _) ?_)
    | split
    | (simp only [field_mk])
    | (dsimp only)
theorem execGlTimeRead_field (dt : Nat) (s : State) {t : State} (h : execGlTimeRead dt s = .next t) : t.field = (s.elapse dt).field := by
  simp only [execGlTimeRead] at h
  first
    | (injection h with h; subst h)
    | (split at h; exact absurd h (by simp); injection h with h; subst h)
  repeat' first
    | with_reducible rfl
    | (intro _)
    | (with_reducible refine Eq.trans (State.modHost_field _ _) ?_)
    | (with_reducible refine Eq.trans (State.answer_field _ _) ?_)
    | (with_reducible refine Eq.trans (State.barRead_field _ _ _ ?_) ?_)
    | (with_reducible refine Eq.trans (foldl_field _ ?_ _ _) ?_)
    | (with_reducible refine Eq.trans (foldl_field1 _ ?_ _ _) ?_)
    | split
    | (simp only [field_mk])
    | (dsimp only)
theorem State.indoubt_field (s : State) (q : QueueId) (cids : List Word16) (k : Nat) : (State.indoubt s q cids k).field = s.field := by
  induction k generalizing s cids with
  | zero => rfl
  | succ k ih => exact Eq.trans (ih _ _) (Eq.trans (State.emit_field _ _) (Eq.trans (State.modQueue_field _ _ _) rfl))
theorem State.resumeQueue_field (s : State) (q : QueueId) (phases : Nat) (cids : List Word16) : (State.resumeQueue s q phases cids).field = s.field := by
  unfold State.resumeQueue
  try dsimp only
  repeat' first
    | with_reducible rfl
    | (intro _)
    | (with_reducible refine Eq.trans (State.modQueue_field _ _ _) ?_)
    | (with_reducible refine Eq.trans (State.drained_field _ _) ?_)
    | (with_reducible refine Eq.trans (State.signalQueue_field _ _) ?_)
    | (with_reducible refine Eq.trans (State.indoubt_field _ _ _ _) ?_)
    | (with_reducible refine Eq.trans (foldl_field _ ?_ _ _) ?_)
    | (with_reducible refine Eq.trans (foldl_field1 _ ?_ _ _) ?_)
    | split
    | (simp only [field_mk])
    | (dsimp only)
theorem execAdminQueueEnable_field (dt : Nat) (s : State) {t : State} (h : execAdminQueueEnable dt s = .next t) : t.field = (s.elapse dt).field := by
  simp only [execAdminQueueEnable] at h
  first
    | (injection h with h; subst h)
    | (split at h; exact absurd h (by simp); injection h with h; subst h)
  repeat' first
    | with_reducible rfl
    | (intro _)
    | (with_reducible refine Eq.trans (State.barWrite_field _ _ _ ?_) ?_)
    | (with_reducible refine Eq.trans (State.adminEnable_field _) ?_)
    | (with_reducible refine Eq.trans (foldl_field _ ?_ _ _) ?_)
    | (with_reducible refine Eq.trans (foldl_field1 _ ?_ _ _) ?_)
    | split
    | (simp only [field_mk])
    | (dsimp only)
theorem execLivenessGateFail_field (dt : Nat) (s : State) {t : State} (h : execLivenessGateFail dt s = .next t) : t.field = (s.elapse dt).field := by
  simp only [execLivenessGateFail] at h
  first
    | (injection h with h; subst h)
    | (split at h; exact absurd h (by simp); injection h with h; subst h)
  repeat' first
    | with_reducible rfl
    | (intro _)
    | (with_reducible refine Eq.trans (State.modPair_field _ _) ?_)
    | (with_reducible refine Eq.trans (State.when_field _ _ _ ?_) ?_)
    | (with_reducible refine Eq.trans (foldl_field _ ?_ _ _) ?_)
    | (with_reducible refine Eq.trans (foldl_field1 _ ?_ _ _) ?_)
    | split
    | (simp only [field_mk])
    | (dsimp only)
theorem State.dbgRead_field (s : State) (ue : Bool) : (State.dbgRead s ue).field = s.field := by
  unfold State.dbgRead
  try dsimp only
  repeat' first
    | with_reducible rfl
    | (intro _)
    | (with_reducible refine Eq.trans (State.useFresh_field _) ?_)
    | (with_reducible refine Eq.trans (State.modHost_field _ _) ?_)
    | (with_reducible refine Eq.trans (State.noteSet_field _ _) ?_)
    | (with_reducible refine Eq.trans (State.deny_field _ _ _ _) ?_)
    | (with_reducible refine Eq.trans (State.vaultUe_field _ _) ?_)
    | (with_reducible refine Eq.trans (State.answer_field _ _) ?_)
    | (with_reducible refine Eq.trans (foldl_field _ ?_ _ _) ?_)
    | (with_reducible refine Eq.trans (foldl_field1 _ ?_ _ _) ?_)
    | split
    | (simp only [field_mk])
    | (dsimp only)
theorem execDbgDataRead_field (dt : Nat) (ue : Bool) (s : State) {t : State} (h : execDbgDataRead dt ue s = .next t) : t.field = (s.elapse dt).field := by
  simp only [execDbgDataRead] at h
  first
    | (injection h with h; subst h)
    | (split at h; exact absurd h (by simp); injection h with h; subst h)
  repeat' first
    | with_reducible rfl
    | (intro _)
    | (with_reducible refine Eq.trans (State.barRead_field _ _ _ ?_) ?_)
    | (with_reducible refine Eq.trans (State.dbgRead_field _ _) ?_)
    | (with_reducible refine Eq.trans (foldl_field _ ?_ _ _) ?_)
    | (with_reducible refine Eq.trans (foldl_field1 _ ?_ _ _) ?_)
    | split
    | (simp only [field_mk])
    | (dsimp only)
theorem execHiDevcauseWrite_field (dt : Nat) (v : Word32) (s : State) {t : State} (h : execHiDevcauseWrite dt v s = .next t) : t.field = (s.elapse dt).field := by
  simp only [execHiDevcauseWrite] at h
  first
    | (injection h with h; subst h)
    | (split at h; exact absurd h (by simp); injection h with h; subst h)
  repeat' first
    | with_reducible rfl
    | (intro _)
    | (with_reducible refine Eq.trans (State.barWrite_field _ _ _ ?_) ?_)
    | (with_reducible refine Eq.trans (State.clearCauses_field _ _) ?_)
    | (with_reducible refine Eq.trans (foldl_field _ ?_ _ _) ?_)
    | (with_reducible refine Eq.trans (foldl_field1 _ ?_ _ _) ?_)
    | split
    | (simp only [field_mk])
    | (dsimp only)
theorem execPairControlHandover_field (dt : Nat) (n : Word32) (s : State) {t : State} (h : execPairControlHandover dt n s = .next t) : t.field = (s.elapse dt).field := by
  simp only [execPairControlHandover] at h
  first
    | (injection h with h; subst h)
    | (split at h; exact absurd h (by simp); injection h with h; subst h)
  repeat' first
    | with_reducible rfl
    | (intro _)
    | (with_reducible refine Eq.trans (State.modPair_field _ _) ?_)
    | (with_reducible refine Eq.trans (State.addOp_field _ _ _ _) ?_)
    | (with_reducible refine Eq.trans (State.finish_field _ _ _ _ _) ?_)
    | (with_reducible refine Eq.trans (State.adm_field _ _ _ _ _ _ ?_) ?_)
    | (with_reducible refine Eq.trans (State.freeMason_field _) ?_)
    | (with_reducible refine Eq.trans (foldl_field _ ?_ _ _) ?_)
    | (with_reducible refine Eq.trans (foldl_field1 _ ?_ _ _) ?_)
    | split
    | (simp only [field_mk])
    | (dsimp only)
theorem execPairControlResync_field (dt : Nat) (n : Word32) (s : State) {t : State} (h : execPairControlResync dt n s = .next t) : t.field = (s.elapse dt).field := by
  simp only [execPairControlResync] at h
  first
    | (injection h with h; subst h)
    | (split at h; exact absurd h (by simp); injection h with h; subst h)
  repeat' first
    | with_reducible rfl
    | (intro _)
    | (with_reducible refine Eq.trans (State.addOp_field _ _ _ _) ?_)
    | (with_reducible refine Eq.trans (State.finish_field _ _ _ _ _) ?_)
    | (with_reducible refine Eq.trans (State.adm_field _ _ _ _ _ _ ?_) ?_)
    | (with_reducible refine Eq.trans (State.freeMason_field _) ?_)
    | (with_reducible refine Eq.trans (State.startResync_field _ _) ?_)
    | (with_reducible refine Eq.trans (foldl_field _ ?_ _ _) ?_)
    | (with_reducible refine Eq.trans (foldl_field1 _ ?_ _ _) ?_)
    | split
    | (simp only [field_mk])
    | (dsimp only)
theorem execCalibrate_field (dt : Nat) (q : QueueId) (n : Word32) (s : State) {t : State} (h : execCalibrate dt q n s = .next t) : t.field = (s.elapse dt).field := by
  simp only [execCalibrate] at h
  first
    | (injection h with h; subst h)
    | (split at h; exact absurd h (by simp); injection h with h; subst h)
  repeat' first
    | with_reducible rfl
    | (intro _)
    | (with_reducible refine Eq.trans (State.addOp_field _ _ _ _) ?_)
    | (with_reducible refine Eq.trans (State.finish_field _ _ _ _ _) ?_)
    | (with_reducible refine Eq.trans (State.io_field _ _ _ _ _ _ _ ?_) ?_)
    | (with_reducible refine Eq.trans (foldl_field _ ?_ _ _) ?_)
    | (with_reducible refine Eq.trans (foldl_field1 _ ?_ _ _) ?_)
    | split
    | (simp only [field_mk])
    | (dsimp only)
theorem execRngHealthTestFail_field (dt : Nat) (s : State) {t : State} (h : execRngHealthTestFail dt s = .next t) : t.field = (s.elapse dt).field := by
  simp only [execRngHealthTestFail] at h
  first
    | (injection h with h; subst h)
    | (split at h; exact absurd h (by simp); injection h with h; subst h)
  repeat' first
    | with_reducible rfl
    | (intro _)
    | (with_reducible refine Eq.trans (State.modMason_field _ _) ?_)
    | (with_reducible refine Eq.trans (State.when_field _ _ _ ?_) ?_)
    | (with_reducible refine Eq.trans (foldl_field _ ?_ _ _) ?_)
    | (with_reducible refine Eq.trans (foldl_field1 _ ?_ _ _) ?_)
    | split
    | (simp only [field_mk])
    | (dsimp only)
theorem execQueueDelete_field (dt : Nat) (n : Word32) (s : State) {t : State} (h : execQueueDelete dt n s = .next t) : t.field = (s.elapse dt).field := by
  simp only [execQueueDelete] at h
  first
    | (injection h with h; subst h)
    | (split at h; exact absurd h (by simp); injection h with h; subst h)
  repeat' first
    | with_reducible rfl
    | (intro _)
    | (with_reducible refine Eq.trans (State.addOp_field _ _ _ _) ?_)
    | (with_reducible refine Eq.trans (State.finishDrains_field _) ?_)
    | (with_reducible refine Eq.trans (State.finish_field _ _ _ _ _) ?_)
    | (with_reducible refine Eq.trans (State.retire_field _ _ _ _) ?_)
    | (with_reducible refine Eq.trans (State.adm_field _ _ _ _ _ _ ?_) ?_)
    | (with_reducible refine Eq.trans (State.beginDrain_field _ _) ?_)
    | (with_reducible refine Eq.trans (State.freeMason_field _) ?_)
    | (with_reducible refine Eq.trans (foldl_field _ ?_ _ _) ?_)
    | (with_reducible refine Eq.trans (foldl_field1 _ ?_ _ _) ?_)
    | split
    | (simp only [field_mk])
    | (dsimp only)
theorem execDescriptorFetch_field (dt : Nat) (q : QueueId) (count : Nat) (s : State) {t : State} (h : execDescriptorFetch dt q count s = .next t) : t.field = (s.elapse dt).field := by
  simp only [execDescriptorFetch] at h
  first
    | (injection h with h; subst h)
    | (split at h; exact absurd h (by simp); injection h with h; subst h)
  repeat' first
    | with_reducible rfl
    | (intro _)
    | (with_reducible refine Eq.trans (State.modPair_field _ _) ?_)
    | (with_reducible refine Eq.trans (State.modQueue_field _ _ _) ?_)
    | (with_reducible refine Eq.trans (State.emit_field _ _) ?_)
    | (with_reducible refine Eq.trans (State.when_field _ _ _ ?_) ?_)
    | (with_reducible refine Eq.trans (foldl_field _ ?_ _ _) ?_)
    | (with_reducible refine Eq.trans (foldl_field1 _ ?_ _ _) ?_)
    | split
    | (simp only [field_mk])
    | (dsimp only)
theorem execAdminQueueDisable_field (dt : Nat) (s : State) {t : State} (h : execAdminQueueDisable dt s = .next t) : t.field = (s.elapse dt).field := by
  simp only [execAdminQueueDisable] at h
  first
    | (injection h with h; subst h)
    | (split at h; exact absurd h (by simp); injection h with h; subst h)
  repeat' first
    | with_reducible rfl
    | (intro _)
    | (with_reducible refine Eq.trans (State.barWrite_field _ _ _ ?_) ?_)
    | (with_reducible refine Eq.trans (State.adminDisable_field _) ?_)
    | (with_reducible refine Eq.trans (foldl_field _ ?_ _ _) ?_)
    | (with_reducible refine Eq.trans (foldl_field1 _ ?_ _ _) ?_)
    | split
    | (simp only [field_mk])
    | (dsimp only)
theorem execArchiveRead_field (dt : Nat) (q : QueueId) (n : Word32) (s : State) {t : State} (h : execArchiveRead dt q n s = .next t) : t.field = (s.elapse dt).field := by
  simp only [execArchiveRead] at h
  first
    | (injection h with h; subst h)
    | (split at h; exact absurd h (by simp); injection h with h; subst h)
  repeat' first
    | with_reducible rfl
    | (intro _)
    | (with_reducible refine field_pair (by assumption) (Eq.trans (State.stage_field _ _ _) ?_))
    | (with_reducible refine Eq.trans (State.stage_field _ _ _) ?_)
    | (with_reducible refine Eq.trans (State.complete_field _ _ _ _ _ _ _) ?_)
    | (with_reducible refine Eq.trans (State.io_field _ _ _ _ _ _ _ ?_) ?_)
    | (with_reducible refine Eq.trans (foldl_field _ ?_ _ _) ?_)
    | (with_reducible refine Eq.trans (foldl_field1 _ ?_ _ _) ?_)
    | split
    | (simp only [field_mk])
    | (dsimp only)
theorem execCoalesceTimeout_field (dt : Nat) (q : QueueId) (s : State) {t : State} (h : execCoalesceTimeout dt q s = .next t) : t.field = (s.elapse dt).field := by
  simp only [execCoalesceTimeout] at h
  first
    | (injection h with h; subst h)
    | (split at h; exact absurd h (by simp); injection h with h; subst h)
  repeat' first
    | with_reducible rfl
    | (intro _)
    | (with_reducible refine Eq.trans (State.signalQueue_field _ _) ?_)
    | (with_reducible refine Eq.trans (State.when_field _ _ _ ?_) ?_)
    | (with_reducible refine Eq.trans (foldl_field _ ?_ _ _) ?_)
    | (with_reducible refine Eq.trans (foldl_field1 _ ?_ _ _) ?_)
    | split
    | (simp only [field_mk])
    | (dsimp only)
theorem execAccessLock_field (dt : Nat) (n : Word32) (s : State) {t : State} (h : execAccessLock dt n s = .next t) : t.field = (s.elapse dt).field := by
  simp only [execAccessLock] at h
  first
    | (injection h with h; subst h)
    | (split at h; exact absurd h (by simp); injection h with h; subst h)
  repeat' first
    | with_reducible rfl
    | (intro _)
    | (with_reducible refine Eq.trans (State.configured_field _ _ _) ?_)
    | (with_reducible refine Eq.trans (State.finish_field _ _ _ _ _) ?_)
    | (with_reducible refine Eq.trans (State.adm_field _ _ _ _ _ _ ?_) ?_)
    | (with_reducible refine Eq.trans (foldl_field _ ?_ _ _) ?_)
    | (with_reducible refine Eq.trans (foldl_field1 _ ?_ _ _) ?_)
    | split
    | (simp only [field_mk])
    | (dsimp only)
theorem execFwCommitAdvance_field (dt : Nat) (n : Word32) (s : State) {t : State} (h : execFwCommitAdvance dt n s = .next t) : t.field = (s.elapse dt).field := by
  simp only [execFwCommitAdvance] at h
  first
    | (injection h with h; subst h)
    | (split at h; exact absurd h (by simp); injection h with h; subst h)
  repeat' first
    | with_reducible rfl
    | (intro _)
    | (with_reducible refine Eq.trans (State.modMason_field _ _) ?_)
    | (with_reducible refine Eq.trans (State.finish_field _ _ _ _ _) ?_)
    | (with_reducible refine Eq.trans (State.fwCommit_field _ _ _ _ _ ?_) ?_)
    | (with_reducible refine Eq.trans (foldl_field _ ?_ _ _) ?_)
    | (with_reducible refine Eq.trans (foldl_field1 _ ?_ _ _) ?_)
    | split
    | (simp only [field_mk])
    | (dsimp only)
theorem execStrapChange_field (dt : Nat) (straps : BitVec 5) (s : State) {t : State} (h : execStrapChange dt straps s = .next t) : t.field = (s.elapse dt).field := by
  simp only [execStrapChange] at h
  first
    | (injection h with h; subst h)
    | (split at h; exact absurd h (by simp); injection h with h; subst h)
  repeat' first
    | with_reducible rfl
    | (intro _)
    | (with_reducible refine Eq.trans (State.modMason_field _ _) ?_)
    | (with_reducible refine Eq.trans (State.when_field _ _ _ ?_) ?_)
    | (with_reducible refine Eq.trans (State.recordStraps_field _ _) ?_)
    | (with_reducible refine Eq.trans (foldl_field _ ?_ _ _) ?_)
    | (with_reducible refine Eq.trans (foldl_field1 _ ?_ _ _) ?_)
    | split
    | (simp only [field_mk])
    | (dsimp only)
theorem execUnknownOpcode_field (dt : Nat) (q : QueueId) (n : Word32) (s : State) {t : State} (h : execUnknownOpcode dt q n s = .next t) : t.field = (s.elapse dt).field := by
  simp only [execUnknownOpcode] at h
  first
    | (injection h with h; subst h)
    | (split at h; exact absurd h (by simp); injection h with h; subst h)
  repeat' first
    | with_reducible rfl
    | (intro _)
    | (with_reducible refine Eq.trans (State.io_field _ _ _ _ _ _ _ ?_) ?_)
    | (with_reducible refine Eq.trans (State.adm_field _ _ _ _ _ _ ?_) ?_)
    | (with_reducible refine Eq.trans (foldl_field _ ?_ _ _) ?_)
    | (with_reducible refine Eq.trans (foldl_field1 _ ?_ _ _) ?_)
    | split
    | (simp only [field_mk])
    | (dsimp only)
theorem execLinkReturnToL0_field (dt : Nat) (s : State) {t : State} (h : execLinkReturnToL0 dt s = .next t) : t.field = (s.elapse dt).field := by
  simp only [execLinkReturnToL0] at h
  first
    | (injection h with h; subst h)
    | (split at h; exact absurd h (by simp); injection h with h; subst h)
  repeat' first
    | with_reducible rfl
    | (intro _)
    | (with_reducible refine Eq.trans (State.modHost_field _ _) ?_)
    | (with_reducible refine Eq.trans (State.when_field _ _ _ ?_) ?_)
    | (with_reducible refine Eq.trans (foldl_field _ ?_ _ _) ?_)
    | (with_reducible refine Eq.trans (foldl_field1 _ ?_ _ _) ?_)
    | split
    | (simp only [field_mk])
    | (dsimp only)
theorem execPerstRelease_field (dt : Nat) (s : State) {t : State} (h : execPerstRelease dt s = .next t) : t.field = (s.elapse dt).field := by
  simp only [execPerstRelease] at h
  first
    | (injection h with h; subst h)
    | (split at h; exact absurd h (by simp); injection h with h; subst h)
  repeat' first
    | with_reducible rfl
    | (intro _)
    | (with_reducible refine Eq.trans (State.modHost_field _ _) ?_)
    | (with_reducible refine Eq.trans (State.when_field _ _ _ ?_) ?_)
    | (with_reducible refine Eq.trans (foldl_field _ ?_ _ _) ?_)
    | (with_reducible refine Eq.trans (foldl_field1 _ ?_ _ _) ?_)
    | split
    | (simp only [field_mk])
    | (dsimp only)
theorem execHostResume_field (dt : Nat) (phases : Vector Nat 64) (cids : List Word16) (s : State) {t : State} (h : execHostResume dt phases cids s = .next t) : t.field = (s.elapse dt).field := by
  simp only [execHostResume] at h
  first
    | (injection h with h; subst h)
    | (split at h; exact absurd h (by simp); injection h with h; subst h)
  repeat' first
    | with_reducible rfl
    | (intro _)
    | (with_reducible refine Eq.trans (State.modPair_field _ _) ?_)
    | (with_reducible refine Eq.trans (State.when_field _ _ _ ?_) ?_)
    | (with_reducible refine Eq.trans (State.stageAny_field _ _) ?_)
    | (with_reducible refine Eq.trans (State.pairEvent_field _ _ _) ?_)
    | (with_reducible refine Eq.trans (State.resumeQueue_field _ _ _ _) ?_)
    | (with_reducible refine Eq.trans (foldl_field _ ?_ _ _) ?_)
    | (with_reducible refine Eq.trans (foldl_field1 _ ?_ _ _) ?_)
    | split
    | (simp only [field_mk])
    | (dsimp only)
theorem execFwCommitVerify_field (dt : Nat) (n : Word32) (s : State) {t : State} (h : execFwCommitVerify dt n s = .next t) : t.field = (s.elapse dt).field := by
  simp only [execFwCommitVerify] at h
  first
    | (injection h with h; subst h)
    | (split at h; exact absurd h (by simp); injection h with h; subst h)
  repeat' first
    | with_reducible rfl
    | (intro _)
    | (with_reducible refine Eq.trans (State.finish_field _ _ _ _ _) ?_)
    | (with_reducible refine Eq.trans (State.fwCommit_field _ _ _ _ _ ?_) ?_)
    | (with_reducible refine Eq.trans (State.verified_field _ _ _ ?_) ?_)
    | (with_reducible refine Eq.trans (foldl_field _ ?_ _ _) ?_)
    | (with_reducible refine Eq.trans (foldl_field1 _ ?_ _ _) ?_)
    | split
    | (simp only [field_mk])
    | (dsimp only)
theorem execPowerOnResetAssert_field (dt : Nat) (rail : Rail) (s : State) {t : State} (h : execPowerOnResetAssert dt rail s = .next t) : t.field = (s.elapse dt).field := by
  simp only [execPowerOnResetAssert] at h
  first
    | (injection h with h; subst h)
    | (split at h; exact absurd h (by simp); injection h with h; subst h)
  repeat' first
    | with_reducible rfl
    | (intro _)
    | (with_reducible refine Eq.trans (foldl_field _ ?_ _ _) ?_)
    | (with_reducible refine Eq.trans (foldl_field1 _ ?_ _ _) ?_)
    | split
    | (simp only [field_mk])
    | (dsimp only)
theorem execMasonLoadWindow_field (dt : Nat) (load : Nat) (s : State) {t : State} (h : execMasonLoadWindow dt load s = .next t) : t.field = (s.elapse dt).field := by
  simp only [execMasonLoadWindow] at h
  first
    | (injection h with h; subst h)
    | (split at h; exact absurd h (by simp); injection h with h; subst h)
  repeat' first
    | with_reducible rfl
    | (intro _)
    | (with_reducible refine Eq.trans (State.modMason_field _ _) ?_)
    | (with_reducible refine Eq.trans (State.when_field _ _ _ ?_) ?_)
    | (with_reducible refine Eq.trans (State.setShed_field _ _) ?_)
    | (with_reducible refine Eq.trans (foldl_field _ ?_ _ _) ?_)
    | (with_reducible refine Eq.trans (foldl_field1 _ ?_ _ _) ?_)
    | split
    | (simp only [field_mk])
    | (dsimp only)
theorem execResyncComplete_field (dt : Nat) (s : State) {t : State} (h : execResyncComplete dt s = .next t) : t.field = (s.elapse dt).field := by
  simp only [execResyncComplete] at h
  first
    | (injection h with h; subst h)
    | (split at h; exact absurd h (by simp); injection h with h; subst h)
  repeat' first
    | with_reducible rfl
    | (intro _)
    | (with_reducible refine Eq.trans (State.modPair_field _ _) ?_)
    | (with_reducible refine Eq.trans (State.when_field _ _ _ ?_) ?_)
    | (with_reducible refine Eq.trans (State.completeOp_field _ _ _ _ _ _) ?_)
    | (with_reducible refine Eq.trans (State.pairEvent_field _ _ _) ?_)
    | (with_reducible refine Eq.trans (foldl_field _ ?_ _ _) ?_)
    | (with_reducible refine Eq.trans (foldl_field1 _ ?_ _ _) ?_)
    | split
    | (simp only [field_mk])
    | (dsimp only)
theorem execMasonStatusPeriodic_field (dt : Nat) (s : State) {t : State} (h : execMasonStatusPeriodic dt s = .next t) : t.field = (s.elapse dt).field := by
  simp only [execMasonStatusPeriodic] at h
  first
    | (injection h with h; subst h)
    | (split at h; exact absurd h (by simp); injection h with h; subst h)
  repeat' first
    | with_reducible rfl
    | (intro _)
    | (with_reducible refine Eq.trans (State.modMason_field _ _) ?_)
    | (with_reducible refine Eq.trans (State.when_field _ _ _ ?_) ?_)
    | (with_reducible refine Eq.trans (State.masonRecord_field _) ?_)
    | (with_reducible refine Eq.trans (foldl_field _ ?_ _ _) ?_)
    | (with_reducible refine Eq.trans (foldl_field1 _ ?_ _ _) ?_)
    | split
    | (simp only [field_mk])
    | (dsimp only)
theorem execD0ToD3hot_field (dt : Nat) (s : State) {t : State} (h : execD0ToD3hot dt s = .next t) : t.field = (s.elapse dt).field := by
  simp only [execD0ToD3hot] at h
  first
    | (injection h with h; subst h)
    | (split at h; exact absurd h (by simp); injection h with h; subst h)
  repeat' first
    | with_reducible rfl
    | (intro _)
    | (with_reducible refine Eq.trans (State.modHost_field _ _) ?_)
    | (with_reducible refine Eq.trans (State.when_field _ _ _ ?_) ?_)
    | (with_reducible refine Eq.trans (foldl_field _ ?_ _ _) ?_)
    | (with_reducible refine Eq.trans (foldl_field1 _ ?_ _ _) ?_)
    | split
    | (simp only [field_mk])
    | (dsimp only)
theorem execHeartbeatSend_field (dt : Nat) (s : State) {t : State} (h : execHeartbeatSend dt s = .next t) : t.field = (s.elapse dt).field := by
  simp only [execHeartbeatSend] at h
  first
    | (injection h with h; subst h)
    | (split at h; exact absurd h (by simp); injection h with h; subst h)
  repeat' first
    | with_reducible rfl
    | (intro _)
    | (with_reducible refine Eq.trans (State.modPair_field _ _) ?_)
    | (with_reducible refine Eq.trans (State.when_field _ _ _ ?_) ?_)
    | (with_reducible refine Eq.trans (State.zsend_field _ _) ?_)
    | (with_reducible refine Eq.trans (foldl_field _ ?_ _ _) ?_)
    | (with_reducible refine Eq.trans (foldl_field1 _ ?_ _ _) ?_)
    | split
    | (simp only [field_mk])
    | (dsimp only)
theorem execFwLoad_field (dt : Nat) (n : Word32) (s : State) {t : State} (h : execFwLoad dt n s = .next t) : t.field = (s.elapse dt).field := by
  simp only [execFwLoad] at h
  first
    | (injection h with h; subst h)
    | (split at h; exact absurd h (by simp); injection h with h; subst h)
  repeat' first
    | with_reducible rfl
    | (intro _)
    | (with_reducible refine Eq.trans (State.addOp_field _ _ _ _) ?_)
    | (with_reducible refine Eq.trans (State.emit_field _ _) ?_)
    | (with_reducible refine Eq.trans (State.finish_field _ _ _ _ _) ?_)
    | (with_reducible refine Eq.trans (State.adm_field _ _ _ _ _ _ ?_) ?_)
    | (with_reducible refine Eq.trans (foldl_field _ ?_ _ _) ?_)
    | (with_reducible refine Eq.trans (foldl_field1 _ ?_ _ _) ?_)
    | split
    | (simp only [field_mk])
    | (dsimp only)
theorem execSecRowRead_field (dt : Nat) (row : Fin 22) (s : State) {t : State} (h : execSecRowRead dt row s = .next t) : t.field = (s.elapse dt).field := by
  simp only [execSecRowRead] at h
  first
    | (injection h with h; subst h)
    | (split at h; exact absurd h (by simp); injection h with h; subst h)
  repeat' first
    | with_reducible rfl
    | (intro _)
    | (with_reducible refine Eq.trans (State.modHost_field _ _) ?_)
    | (with_reducible refine Eq.trans (State.answer_field _ _) ?_)
    | (with_reducible refine Eq.trans (State.barRead_field _ _ _ ?_) ?_)
    | (with_reducible refine Eq.trans (foldl_field _ ?_ _ _) ?_)
    | (with_reducible refine Eq.trans (foldl_field1 _ ?_ _ _) ?_)
    | split
    | (simp only [field_mk])
    | (dsimp only)
theorem execSetSync_field (dt : Nat) (n : Word32) (s : State) {t : State} (h : execSetSync dt n s = .next t) : t.field = (s.elapse dt).field := by
  simp only [execSetSync] at h
  first
    | (injection h with h; subst h)
    | (split at h; exact absurd h (by simp); injection h with h; subst h)
  repeat' first
    | with_reducible rfl
    | (intro _)
    | (with_reducible refine Eq.trans (State.fset_field _ _ _ _ _ _ ?_) ?_)
    | (with_reducible refine Eq.trans (State.setCfgDone_field _ _) ?_)
    | (with_reducible refine Eq.trans (foldl_field _ ?_ _ _) ?_)
    | (with_reducible refine Eq.trans (foldl_field1 _ ?_ _ _) ?_)
    | split
    | (simp only [field_mk])
    | (dsimp only)
theorem execHbOutToggle_field (dt : Nat) (s : State) {t : State} (h : execHbOutToggle dt s = .next t) : t.field = (s.elapse dt).field := by
  simp only [execHbOutToggle] at h
  first
    | (injection h with h; subst h)
    | (split at h; exact absurd h (by simp); injection h with h; subst h)
  repeat' first
    | with_reducible rfl
    | (intro _)
    | (with_reducible refine Eq.trans (State.modPair_field _ _) ?_)
    | (with_reducible refine Eq.trans (State.when_field _ _ _ ?_) ?_)
    | (with_reducible refine Eq.trans (foldl_field _ ?_ _ _) ?_)
    | (with_reducible refine Eq.trans (foldl_field1 _ ?_ _ _) ?_)
    | split
    | (simp only [field_mk])
    | (dsimp only)
theorem execAccessLoad_field (dt : Nat) (n : Word32) (s : State) {t : State} (h : execAccessLoad dt n s = .next t) : t.field = (s.elapse dt).field := by
  simp only [execAccessLoad] at h
  first
    | (injection h with h; subst h)
    | (split at h; exact absurd h (by simp); injection h with h; subst h)
  repeat' first
    | with_reducible rfl
    | (intro _)
    | (with_reducible refine Eq.trans (State.addOp_field _ _ _ _) ?_)
    | (with_reducible refine Eq.trans (State.emit_field _ _) ?_)
    | (with_reducible refine Eq.trans (State.finish_field _ _ _ _ _) ?_)
    | (with_reducible refine Eq.trans (State.adm_field _ _ _ _ _ _ ?_) ?_)
    | (with_reducible refine Eq.trans (foldl_field _ ?_ _ _) ?_)
    | (with_reducible refine Eq.trans (foldl_field1 _ ?_ _ _) ?_)
    | split
    | (simp only [field_mk])
    | (dsimp only)
theorem execMsixVectorUnmask_field (dt : Nat) (v : VecId) (s : State) {t : State} (h : execMsixVectorUnmask dt v s = .next t) : t.field = (s.elapse dt).field := by
  simp only [execMsixVectorUnmask] at h
  first
    | (injection h with h; subst h)
    | (split at h; exact absurd h (by simp); injection h with h; subst h)
  repeat' first
    | with_reducible rfl
    | (intro _)
    | (with_reducible refine Eq.trans (State.barWrite_field _ _ _ ?_) ?_)
    | (with_reducible refine Eq.trans (State.unmask_field _ _) ?_)
    | (with_reducible refine Eq.trans (foldl_field _ ?_ _ _) ?_)
    | (with_reducible refine Eq.trans (foldl_field1 _ ?_ _ _) ?_)
    | split
    | (simp only [field_mk])
    | (dsimp only)
theorem execLogRead_field (dt : Nat) (n : Word32) (s : State) {t : State} (h : execLogRead dt n s = .next t) : t.field = (s.elapse dt).field := by
  simp only [execLogRead] at h
  first
    | (injection h with h; subst h)
    | (split at h; exact absurd h (by simp); injection h with h; subst h)
  repeat' first
    | with_reducible rfl
    | (intro _)
    | (with_reducible refine Eq.trans (State.emit_field _ _) ?_)
    | (with_reducible refine Eq.trans (State.complete_field _ _ _ _ _ _ _) ?_)
    | (with_reducible refine Eq.trans (State.adm_field _ _ _ _ _ _ ?_) ?_)
    | (with_reducible refine Eq.trans (foldl_field _ ?_ _ _) ?_)
    | (with_reducible refine Eq.trans (foldl_field1 _ ?_ _ _) ?_)
    | split
    | (simp only [field_mk])
    | (dsimp only)
theorem execCoefLoad_field (dt : Nat) (q : QueueId) (n : Word32) (s : State) {t : State} (h : execCoefLoad dt q n s = .next t) : t.field = (s.elapse dt).field := by
  simp only [execCoefLoad] at h
  first
    | (injection h with h; subst h)
    | (split at h; exact absurd h (by simp); injection h with h; subst h)
  repeat' first
    | with_reducible rfl
    | (intro _)
    | (with_reducible refine Eq.trans (State.addOp_field _ _ _ _) ?_)
    | (with_reducible refine Eq.trans (State.emit_field _ _) ?_)
    | (with_reducible refine Eq.trans (State.finish_field _ _ _ _ _) ?_)
    | (with_reducible refine Eq.trans (State.io_field _ _ _ _ _ _ _ ?_) ?_)
    | (with_reducible refine Eq.trans (foldl_field _ ?_ _ _) ?_)
    | (with_reducible refine Eq.trans (foldl_field1 _ ?_ _ _) ?_)
    | split
    | (simp only [field_mk])
    | (dsimp only)
theorem execBody_field (dt : Nat) (addr : Word32) (data : List Byte) (s : State) {t : State} (h : execBody dt addr data s = .next t) : t.field = (s.elapse dt).field := by
  exact State.plinthPut_field _ _ _ _ (fun _ => rfl) h
theorem execHiDevenWrite_field (dt : Nat) (v : Word32) (s : State) {t : State} (h : execHiDevenWrite dt v s = .next t) : t.field = (s.elapse dt).field := by
  simp only [execHiDevenWrite] at h
  first
    | (injection h with h; subst h)
    | (split at h; exact absurd h (by simp); injection h with h; subst h)
  repeat' first
    | with_reducible rfl
    | (intro _)
    | (with_reducible refine Eq.trans (State.setDev_field _ _ _) ?_)
    | (with_reducible refine Eq.trans (State.barWrite_field _ _ _ ?_) ?_)
    | (with_reducible refine Eq.trans (foldl_field _ ?_ _ _) ?_)
    | (with_reducible refine Eq.trans (foldl_field1 _ ?_ _ _) ?_)
    | split
    | (simp only [field_mk])
    | (dsimp only)
theorem execRngHealthTestPass_field (dt : Nat) (s : State) {t : State} (h : execRngHealthTestPass dt s = .next t) : t.field = (s.elapse dt).field := by
  simp only [execRngHealthTestPass] at h
  first
    | (injection h with h; subst h)
    | (split at h; exact absurd h (by simp); injection h with h; subst h)
  repeat' first
    | with_reducible rfl
    | (intro _)
    | (with_reducible refine Eq.trans (State.modMason_field _ _) ?_)
    | (with_reducible refine Eq.trans (State.when_field _ _ _ ?_) ?_)
    | (with_reducible refine Eq.trans (foldl_field _ ?_ _ _) ?_)
    | (with_reducible refine Eq.trans (foldl_field1 _ ?_ _ _) ?_)
    | split
    | (simp only [field_mk])
    | (dsimp only)
theorem execCheckpointNow_field (dt : Nat) (n : Word32) (s : State) {t : State} (h : execCheckpointNow dt n s = .next t) : t.field = (s.elapse dt).field := by
  simp only [execCheckpointNow] at h
  first
    | (injection h with h; subst h)
    | (split at h; exact absurd h (by simp); injection h with h; subst h)
  repeat' first
    | with_reducible rfl
    | (intro _)
    | (with_reducible refine Eq.trans (State.modPair_field _ _) ?_)
    | (with_reducible refine Eq.trans (State.addOp_field _ _ _ _) ?_)
    | (with_reducible refine Eq.trans (State.finish_field _ _ _ _ _) ?_)
    | (with_reducible refine Eq.trans (State.adm_field _ _ _ _ _ _ ?_) ?_)
    | (with_reducible refine Eq.trans (State.freeMason_field _) ?_)
    | (with_reducible refine Eq.trans (foldl_field _ ?_ _ _) ?_)
    | (with_reducible refine Eq.trans (foldl_field1 _ ?_ _ _) ?_)
    | split
    | (simp only [field_mk])
    | (dsimp only)
theorem execAttest_field (dt : Nat) (n : Word32) (overtaken : Nat) (s : State) {t : State} (h : execAttest dt n overtaken s = .next t) : t.field = (s.elapse dt).field := by
  simp only [execAttest] at h
  first
    | (injection h with h; subst h)
    | (split at h; exact absurd h (by simp); injection h with h; subst h)
  repeat' first
    | with_reducible rfl
    | (intro _)
    | (with_reducible refine Eq.trans (State.useFresh_field _) ?_)
    | (with_reducible refine Eq.trans (State.emit_field _ _) ?_)
    | (with_reducible refine Eq.trans (State.complete_field _ _ _ _ _ _ _) ?_)
    | (with_reducible refine Eq.trans (State.finish_field _ _ _ _ _) ?_)
    | (with_reducible refine Eq.trans (State.adm_field _ _ _ _ _ _ ?_) ?_)
    | (with_reducible refine Eq.trans (foldl_field _ ?_ _ _) ?_)
    | (with_reducible refine Eq.trans (foldl_field1 _ ?_ _ _) ?_)
    | split
    | (simp only [field_mk])
    | (dsimp only)
theorem execSetFaultNClassMask_field (dt : Nat) (n : Word32) (s : State) {t : State} (h : execSetFaultNClassMask dt n s = .next t) : t.field = (s.elapse dt).field := by
  simp only [execSetFaultNClassMask] at h
  first
    | (injection h with h; subst h)
    | (split at h; exact absurd h (by simp); injection h with h; subst h)
  repeat' first
    | with_reducible rfl
    | (intro _)
    | (with_reducible refine Eq.trans (State.fset_field _ _ _ _ _ _ ?_) ?_)
    | (with_reducible refine Eq.trans (State.setCfgDone_field _ _) ?_)
    | (with_reducible refine Eq.trans (foldl_field _ ?_ _ _) ?_)
    | (with_reducible refine Eq.trans (foldl_field1 _ ?_ _ _) ?_)
    | split
    | (simp only [field_mk])
    | (dsimp only)

end Sys2Proof.Machine
end

