-- ==== Sys2Proof/Laws/FrameLock.lean ====
section
/-!
SUPPORT. The access tables and their lock under the journal's frames and the loss of rails, clock and power.
-/
namespace Sys2Proof.Machine
open Sys2Proof

/-- Their values together. -/
abbrev LockT := (Vector Word64 22) × Bool
/-- The fields that this file is about. -/
def State.lock (s : State) : LockT := (s.rows, s.locked)
theorem lock_mk (X : State) (pending : List Instr) (clock : Nat) (zero : Nat) (freeCtr : Nat) (por : Bool) (rails : BitVec 4) (viso : Bool) (clk25 : Bool) (dormantReq : Bool) (dormant : Bool) (wokeDormant : Bool) (straps : BitVec 5) (strapsNow : BitVec 5) (throttled : Bool) (safeN : Bool) (safeNAt : Nat) (encSafe : Bool) (visoLost : Bool) (devw : Word64) (devwNew : Option Word64) (logicMw : Nat) (visoMw : Nat) (faultMask : BitVec 5) (syncw : BitVec 4) (flush : Nat) (routes : Vector Byte 10) (host : HostRegs) (msix : Vector MsixEntry 68) (queues : Vector Queue 64) (out : List HostOut) (outWait : List HostOut) (staging : List (Record × Option (QueueId × Word32))) (fieldDue : Option Byte) (ops : List Op) (chans : Vector Chan 128) (quads : Vector Quad 4) (reqs : List Req) (reqSeq : Nat) (fetchSeq : Nat) (ang : Ang) (course : Course) (meas : Vector Meas 4) (chains : Vector Chain 16) (syncTick : Option Nat) (syncMerged : Nat) (syncOut : Nat) (arch : Arch) (vault : Vault) (plumb : Vector Plumb 8) (serial : Serial) (mason : Mason) (cfgGen : Word32) (pair : Pair) (plinth : List Host.Cell) :
    State.lock ⟨pending, clock, zero, freeCtr, por, rails, viso, clk25, dormantReq, dormant, wokeDormant, straps, strapsNow, throttled, safeN, safeNAt, encSafe, visoLost, devw, devwNew, logicMw, visoMw, faultMask, syncw, flush, routes, host, msix, queues, out, outWait, staging, fieldDue, ops, chans, quads, reqs, reqSeq, fetchSeq, ang, course, meas, chains, syncTick, syncMerged, syncOut, arch, vault, plumb, serial, mason, X.rows, X.locked, cfgGen, pair, plinth⟩ = X.lock := rfl
theorem lock_pair {β : Type} {p : State × β} {a : State} {b : β} (h : p = (a, b)) {x : LockT} (hk : p.1.lock = x) : a.lock = x := by
  subst h; exact hk
theorem foldl_lock {α : Type} (f : State → α → State) (h : ∀ s a, (f s a).lock = s.lock) (l : List α) (s : State) :
    (l.foldl f s).lock = s.lock := by
  induction l generalizing s with
  | nil => rfl
  | cons a l ih => simp only [List.foldl_cons]; rw [ih, h]
theorem foldl_lock1 {α β : Type} (f : State × β → α → State × β) (h : ∀ s a, (f s a).1.lock = s.1.lock) (l : List α) (s : State × β) :
    (l.foldl f s).1.lock = s.1.lock := by
  induction l generalizing s with
  | nil => rfl
  | cons a l ih => simp only [List.foldl_cons]; rw [ih, h]

theorem State.modPair_lock (s : State) (f : Pair → Pair) : (State.modPair s f).lock = s.lock := by
  unfold State.modPair
  try dsimp only
  repeat' first
    | with_reducible rfl
    | (intro _)
    | (with_reducible refine Eq.trans (foldl_lock _ ?_ _ _) ?_)
    | (with_reducible refine Eq.trans (foldl_lock1 _ ?_ _ _) ?_)
    | split
    | (simp only [lock_mk])
    | (dsimp only)
theorem State.when_lock (s : State) (b : Bool) (f : State → State) (hf : (f s).lock = s.lock) : (State.when s b f).lock = s.lock := by
  unfold State.when; split
  · exact hf
  · rfl
theorem State.zsend_lock (s : State) (f : ZFrame) : (State.zsend s f).lock = s.lock := by
  unfold State.zsend
  try dsimp only
  repeat' first
    | with_reducible rfl
    | (intro _)
    | (with_reducible refine Eq.trans (State.modPair_lock _ _) ?_)
    | (with_reducible refine Eq.trans (foldl_lock _ ?_ _ _) ?_)
    | (with_reducible refine Eq.trans (foldl_lock1 _ ?_ _ _) ?_)
    | split
    | (simp only [lock_mk])
    | (dsimp only)
theorem State.plinthPut_lock (s : State) (addr : Nat) (data : List Byte) (f : State → State) (hf : ∀ s, (f s).lock = s.lock) {t : State} (h : s.plinthPut addr data f = .next t) : t.lock = s.lock := by
  unfold State.plinthPut at h
  split at h
  · injection h with h; subst h; rfl
  · split at h
    · exact absurd h (by simp)
    · injection h with h; subst h; exact (hf _).trans (lock_mk _ ..)
theorem execLog_lock (dt : Nat) (e : Word64) (s : State) {t : State} (h : execLog dt e s = .next t) : t.lock = (s.elapse dt).lock := by
  simp only [execLog] at h
  split at h
  all_goals
    split at h
    · injection h with h; subst h; rfl
    · refine State.plinthPut_lock _ _ _ _ (fun u => ?_) h
      exact (State.zsend_lock _ _).trans (State.modPair_lock _ _)
theorem execCommit_lock (dt : Nat) (header : List Byte) (s : State) {t : State} (h : execCommit dt header s = .next t) : t.lock = (s.elapse dt).lock := by
  simp only [execCommit] at h
  split at h
  · injection h with h; subst h; rfl
  · refine State.plinthPut_lock _ _ _ _ (fun u => ?_) h
    exact (State.zsend_lock _ _).trans (State.modPair_lock _ _)
theorem execClk25Loss_lock (dt : Nat) (s : State) {t : State} (h : execClk25Loss dt s = .next t) : t.lock = (s.elapse dt).lock := by
  simp only [execClk25Loss] at h
  first
    | (injection h with h; subst h)
    | (split at h; exact absurd h (by simp); injection h with h; subst h)
  repeat' first
    | with_reducible rfl
    | (intro _)
    | (with_reducible refine Eq.trans (State.when_lock _ _ _ ?_) ?_)
    | (with_reducible refine Eq.trans (foldl_lock _ ?_ _ _) ?_)
    | (with_reducible refine Eq.trans (foldl_lock1 _ ?_ _ _) ?_)
    | split
    | (simp only [lock_mk])
    | (dsimp only)
theorem State.applyTiming_lock (s : State) (w : Word64) : (State.applyTiming s w).lock = s.lock := by
  unfold State.applyTiming
  try dsimp only
  repeat' first
    | with_reducible rfl
    | (intro _)
    | (with_reducible refine Eq.trans (foldl_lock _ ?_ _ _) ?_)
    | (with_reducible refine Eq.trans (foldl_lock1 _ ?_ _ _) ?_)
    | split
    | (simp only [lock_mk])
    | (dsimp only)
theorem State.retime_lock (s : State) : (State.retime s).lock = s.lock := by
  unfold State.retime
  try dsimp only
  repeat' first
    | with_reducible rfl
    | (intro _)
    | (with_reducible refine Eq.trans (State.applyTiming_lock _ _) ?_)
    | (with_reducible refine Eq.trans (foldl_lock _ ?_ _ _) ?_)
    | (with_reducible refine Eq.trans (foldl_lock1 _ ?_ _ _) ?_)
    | split
    | (simp only [lock_mk])
    | (dsimp only)
theorem execDelta_lock (dt : Nat) (addr : Word32) (data : List Byte) (s : State) {t : State} (h : execDelta dt addr data s = .next t) : t.lock = (s.elapse dt).lock := by
  simp only [execDelta] at h
  refine State.plinthPut_lock _ _ _ _ (fun u => ?_) h
  refine (State.zsend_lock _ _).trans ?_
  split
  · exact (State.retime_lock _).trans ((State.modPair_lock _ _).trans (lock_mk _ ..))
  · exact (State.modPair_lock _ _).trans (lock_mk _ ..)
theorem execPowerOnResetAssert_lock (dt : Nat) (rail : Rail) (s : State) {t : State} (h : execPowerOnResetAssert dt rail s = .next t) : t.lock = (s.elapse dt).lock := by
  simp only [execPowerOnResetAssert] at h
  first
    | (injection h with h; subst h)
    | (split at h; exact absurd h (by simp); injection h with h; subst h)
  repeat' first
    | with_reducible rfl
    | (intro _)
    | (with_reducible refine Eq.trans (foldl_lock _ ?_ _ _) ?_)
    | (with_reducible refine Eq.trans (foldl_lock1 _ ?_ _ _) ?_)
    | split
    | (simp only [lock_mk])
    | (dsimp only)
theorem execBody_lock (dt : Nat) (addr : Word32) (data : List Byte) (s : State) {t : State} (h : execBody dt addr data s = .next t) : t.lock = (s.elapse dt).lock := by
  exact State.plinthPut_lock _ _ _ _ (fun _ => rfl) h

end Sys2Proof.Machine
end

