-- ==== Sys2Proof/Laws/FramePort.lean ====
section
/-!
SUPPORT. Meanings of the serial port's events change the port and what they report.
-/
namespace Sys2Proof.Machine
open Sys2Proof

/-- Their values together. -/
abbrev PortT := (List Instr) × Nat × Nat × Nat × Bool × (BitVec 4) × Bool × Bool × Bool × Bool × Bool × (BitVec 5) × (BitVec 5) × Bool × Bool × Nat × Bool × Bool × Word64 × (Option Word64) × Nat × Nat × (BitVec 5) × (BitVec 4) × Nat × (Vector Byte 10) × (Vector Queue 64) × (Option Byte) × (List Op) × (Vector Chan 128) × (Vector Quad 4) × (List Req) × Nat × Nat × Ang × Course × (Vector Meas 4) × (Vector Chain 16) × (Option Nat) × Nat × Nat × Arch × Vault × (Vector Plumb 8) × Mason × (Vector Word64 22) × Bool × Word32 × Pair × (List Host.Cell)
/-- The fields that this file is about. -/
def State.port (s : State) : PortT := (s.pending, s.clock, s.zero, s.freeCtr, s.por, s.rails, s.viso, s.clk25, s.dormantReq, s.dormant, s.wokeDormant, s.straps, s.strapsNow, s.throttled, s.safeN, s.safeNAt, s.encSafe, s.visoLost, s.devw, s.devwNew, s.logicMw, s.visoMw, s.faultMask, s.syncw, s.flush, s.routes, s.queues, s.fieldDue, s.ops, s.chans, s.quads, s.reqs, s.reqSeq, s.fetchSeq, s.ang, s.course, s.meas, s.chains, s.syncTick, s.syncMerged, s.syncOut, s.arch, s.vault, s.plumb, s.mason, s.rows, s.locked, s.cfgGen, s.pair, s.plinth)
theorem port_mk (X : State) (host : HostRegs) (msix : Vector MsixEntry 68) (out : List HostOut) (outWait : List HostOut) (staging : List (Record × Option (QueueId × Word32))) (serial : Serial) :
    State.port ⟨X.pending, X.clock, X.zero, X.freeCtr, X.por, X.rails, X.viso, X.clk25, X.dormantReq, X.dormant, X.wokeDormant, X.straps, X.strapsNow, X.throttled, X.safeN, X.safeNAt, X.encSafe, X.visoLost, X.devw, X.devwNew, X.logicMw, X.visoMw, X.faultMask, X.syncw, X.flush, X.routes, host, msix, X.queues, out, outWait, staging, X.fieldDue, X.ops, X.chans, X.quads, X.reqs, X.reqSeq, X.fetchSeq, X.ang, X.course, X.meas, X.chains, X.syncTick, X.syncMerged, X.syncOut, X.arch, X.vault, X.plumb, serial, X.mason, X.rows, X.locked, X.cfgGen, X.pair, X.plinth⟩ = X.port := rfl
theorem port_pair {β : Type} {p : State × β} {a : State} {b : β} (h : p = (a, b)) {x : PortT} (hk : p.1.port = x) : a.port = x := by
  subst h; exact hk
theorem foldl_port {α : Type} (f : State → α → State) (h : ∀ s a, (f s a).port = s.port) (l : List α) (s : State) :
    (l.foldl f s).port = s.port := by
  induction l generalizing s with
  | nil => rfl
  | cons a l ih => simp only [List.foldl_cons]; rw [ih, h]
theorem foldl_port1 {α β : Type} (f : State × β → α → State × β) (h : ∀ s a, (f s a).1.port = s.1.port) (l : List α) (s : State × β) :
    (l.foldl f s).1.port = s.1.port := by
  induction l generalizing s with
  | nil => rfl
  | cons a l ih => simp only [List.foldl_cons]; rw [ih, h]

theorem State.stage_port (s : State) (r : Record) (who : optParam (Option (QueueId × Word32)) none) : (State.stage s r who).1.port = s.port := by
  unfold State.stage
  try dsimp only
  repeat' first
    | with_reducible rfl
    | (intro _)
    | (with_reducible refine Eq.trans (foldl_port _ ?_ _ _) ?_)
    | (with_reducible refine Eq.trans (foldl_port1 _ ?_ _ _) ?_)
    | split
    | (simp only [port_mk])
    | (dsimp only)
theorem State.emit_port (s : State) (o : HostOut) : (State.emit s o).port = s.port := by
  unfold State.emit
  try dsimp only
  repeat' first
    | with_reducible rfl
    | (intro _)
    | (with_reducible refine Eq.trans (foldl_port _ ?_ _ _) ?_)
    | (with_reducible refine Eq.trans (foldl_port1 _ ?_ _ _) ?_)
    | split
    | (simp only [port_mk])
    | (dsimp only)
theorem setMsix_port (s : State) (v : VecId) (f : MsixEntry → MsixEntry) : (setMsix s v f).port = s.port := by
  unfold setMsix
  try dsimp only
  repeat' first
    | with_reducible rfl
    | (intro _)
    | (with_reducible refine Eq.trans (foldl_port _ ?_ _ _) ?_)
    | (with_reducible refine Eq.trans (foldl_port1 _ ?_ _ _) ?_)
    | split
    | (simp only [port_mk])
    | (dsimp only)
theorem State.signal_port (s : State) (v : VecId) : (State.signal s v).port = s.port := by
  unfold State.signal
  try dsimp only
  repeat' first
    | with_reducible rfl
    | (intro _)
    | (with_reducible refine Eq.trans (State.emit_port _ _) ?_)
    | (with_reducible refine Eq.trans (setMsix_port _ _ _) ?_)
    | (with_reducible refine Eq.trans (foldl_port _ ?_ _ _) ?_)
    | (with_reducible refine Eq.trans (foldl_port1 _ ?_ _ _) ?_)
    | split
    | (simp only [port_mk])
    | (dsimp only)
theorem State.modHost_port (s : State) (f : HostRegs → HostRegs) : (State.modHost s f).port = s.port := by
  unfold State.modHost
  try dsimp only
  repeat' first
    | with_reducible rfl
    | (intro _)
    | (with_reducible refine Eq.trans (foldl_port _ ?_ _ _) ?_)
    | (with_reducible refine Eq.trans (foldl_port1 _ ?_ _ _) ?_)
    | split
    | (simp only [port_mk])
    | (dsimp only)
theorem State.noteSet_port (s : State) (k : Nat) : (State.noteSet s k).port = s.port := by
  unfold State.noteSet
  try dsimp only
  repeat' first
    | with_reducible rfl
    | (intro _)
    | (with_reducible refine Eq.trans (State.modHost_port _ _) ?_)
    | (with_reducible refine Eq.trans (foldl_port _ ?_ _ _) ?_)
    | (with_reducible refine Eq.trans (foldl_port1 _ ?_ _ _) ?_)
    | split
    | (simp only [port_mk])
    | (dsimp only)
theorem State.deny_port (s : State) (m : Nat) (t : Nat) (perm : Nat) : (State.deny s m t perm).port = s.port := by
  unfold State.deny
  try dsimp only
  repeat' first
    | with_reducible rfl
    | (intro _)
    | (with_reducible refine Eq.trans (State.modHost_port _ _) ?_)
    | (with_reducible refine Eq.trans (State.noteSet_port _ _) ?_)
    | (with_reducible refine Eq.trans (foldl_port _ ?_ _ _) ?_)
    | (with_reducible refine Eq.trans (foldl_port1 _ ?_ _ _) ?_)
    | split
    | (simp only [port_mk])
    | (dsimp only)
theorem State.when_port (s : State) (b : Bool) (f : State → State) (hf : (f s).port = s.port) : (State.when s b f).port = s.port := by
  unfold State.when; split
  · exact hf
  · rfl
theorem State.modSerial_port (s : State) (f : Serial → Serial) : (State.modSerial s f).port = s.port := by
  unfold State.modSerial
  try dsimp only
  repeat' first
    | with_reducible rfl
    | (intro _)
    | (with_reducible refine Eq.trans (foldl_port _ ?_ _ _) ?_)
    | (with_reducible refine Eq.trans (foldl_port1 _ ?_ _ _) ?_)
    | split
    | (simp only [port_mk])
    | (dsimp only)
theorem State.setDev_port (s : State) (cause : Word32) (en : Word32) : (State.setDev s cause en).port = s.port := by
  unfold State.setDev
  try dsimp only
  repeat' first
    | with_reducible rfl
    | (intro _)
    | (with_reducible refine Eq.trans (State.signal_port _ _) ?_)
    | (with_reducible refine Eq.trans (State.modHost_port _ _) ?_)
    | (with_reducible refine Eq.trans (foldl_port _ ?_ _ _) ?_)
    | (with_reducible refine Eq.trans (foldl_port1 _ ?_ _ _) ?_)
    | split
    | (simp only [port_mk])
    | (dsimp only)
theorem State.raiseCause_port (s : State) (bitNo : Nat) : (State.raiseCause s bitNo).port = s.port := by
  unfold State.raiseCause
  try dsimp only
  repeat' first
    | with_reducible rfl
    | (intro _)
    | (with_reducible refine Eq.trans (State.noteSet_port _ _) ?_)
    | (with_reducible refine Eq.trans (State.setDev_port _ _ _) ?_)
    | (with_reducible refine Eq.trans (foldl_port _ ?_ _ _) ?_)
    | (with_reducible refine Eq.trans (foldl_port1 _ ?_ _ _) ?_)
    | split
    | (simp only [port_mk])
    | (dsimp only)
theorem State.stageAny_port (s : State) (r : Record) : (State.stageAny s r).port = s.port := by
  unfold State.stageAny
  try dsimp only
  repeat' first
    | with_reducible rfl
    | (intro _)
    | (with_reducible refine port_pair (by assumption) (Eq.trans (State.stage_port _ _ _) ?_))
    | (with_reducible refine Eq.trans (State.stage_port _ _ _) ?_)
    | (with_reducible refine Eq.trans (foldl_port _ ?_ _ _) ?_)
    | (with_reducible refine Eq.trans (foldl_port1 _ ?_ _ _) ?_)
    | split
    | (simp only [port_mk])
    | (dsimp only)
theorem execSlaveSelectFall_port (dt : Nat) (s : State) {t : State} (h : execSlaveSelectFall dt s = .next t) : t.port = (s.elapse dt).port := by
  simp only [execSlaveSelectFall] at h
  first
    | (injection h with h; subst h)
    | (split at h; exact absurd h (by simp); injection h with h; subst h)
  repeat' first
    | with_reducible rfl
    | (intro _)
    | (with_reducible refine Eq.trans (State.modSerial_port _ _) ?_)
    | (with_reducible refine Eq.trans (foldl_port _ ?_ _ _) ?_)
    | (with_reducible refine Eq.trans (foldl_port1 _ ?_ _ _) ?_)
    | split
    | (simp only [port_mk])
    | (dsimp only)
theorem State.stageOpen_port (s : State) : (State.stageOpen s).port = s.port := by
  unfold State.stageOpen
  try dsimp only
  repeat' first
    | with_reducible rfl
    | (intro _)
    | (with_reducible refine Eq.trans (State.modSerial_port _ _) ?_)
    | (with_reducible refine Eq.trans (State.stageAny_port _ _) ?_)
    | (with_reducible refine Eq.trans (foldl_port _ ?_ _ _) ?_)
    | (with_reducible refine Eq.trans (foldl_port1 _ ?_ _ _) ?_)
    | split
    | (simp only [port_mk])
    | (dsimp only)
theorem State.drainWord_port (s : State) : (State.drainWord s).port = s.port := by
  unfold State.drainWord
  try dsimp only
  repeat' first
    | with_reducible rfl
    | (intro _)
    | (with_reducible refine Eq.trans (State.modSerial_port _ _) ?_)
    | (with_reducible refine Eq.trans (State.stageOpen_port _) ?_)
    | (with_reducible refine Eq.trans (foldl_port _ ?_ _ _) ?_)
    | (with_reducible refine Eq.trans (foldl_port1 _ ?_ _ _) ?_)
    | split
    | (simp only [port_mk])
    | (dsimp only)
theorem State.drainRx_port (s : State) : (State.drainRx s).port = s.port := by
  unfold State.drainRx
  try dsimp only
  repeat' first
    | with_reducible rfl
    | (intro _)
    | (with_reducible refine Eq.trans (State.drainWord_port _) ?_)
    | (with_reducible refine Eq.trans (foldl_port _ ?_ _ _) ?_)
    | (with_reducible refine Eq.trans (foldl_port1 _ ?_ _ _) ?_)
    | split
    | (simp only [port_mk])
    | (dsimp only)
theorem execXipRead_port (dt : Nat) (addr : Nat) (line : List Byte) (next : List Byte) (s : State) {t : State} (h : execXipRead dt addr line next s = .next t) : t.port = (s.elapse dt).port := by
  simp only [execXipRead] at h
  first
    | (injection h with h; subst h)
    | (split at h; exact absurd h (by simp); injection h with h; subst h)
  repeat' first
    | with_reducible rfl
    | (intro _)
    | (with_reducible refine Eq.trans (State.when_port _ _ _ ?_) ?_)
    | (with_reducible refine Eq.trans (State.modSerial_port _ _) ?_)
    | (with_reducible refine Eq.trans (foldl_port _ ?_ _ _) ?_)
    | (with_reducible refine Eq.trans (foldl_port1 _ ?_ _ _) ?_)
    | split
    | (simp only [port_mk])
    | (dsimp only)
theorem execSlaveWord_port (dt : Nat) (w : Word32) (s : State) {t : State} (h : execSlaveWord dt w s = .next t) : t.port = (s.elapse dt).port := by
  simp only [execSlaveWord] at h
  first
    | (injection h with h; subst h)
    | (split at h; exact absurd h (by simp); injection h with h; subst h)
  repeat' first
    | with_reducible rfl
    | (intro _)
    | (with_reducible refine Eq.trans (State.deny_port _ _ _ _) ?_)
    | (with_reducible refine Eq.trans (State.when_port _ _ _ ?_) ?_)
    | (with_reducible refine Eq.trans (State.modSerial_port _ _) ?_)
    | (with_reducible refine Eq.trans (State.drainRx_port _) ?_)
    | (with_reducible refine Eq.trans (foldl_port _ ?_ _ _) ?_)
    | (with_reducible refine Eq.trans (foldl_port1 _ ?_ _ _) ?_)
    | split
    | (simp only [port_mk])
    | (dsimp only)
theorem execSpCollide_port (dt : Nat) (sel : Fin 2 × Fin 3) (s : State) {t : State} (h : execSpCollide dt sel s = .next t) : t.port = (s.elapse dt).port := by
  simp only [execSpCollide] at h
  first
    | (injection h with h; subst h)
    | (split at h; exact absurd h (by simp); injection h with h; subst h)
  repeat' first
    | with_reducible rfl
    | (intro _)
    | (with_reducible refine Eq.trans (State.when_port _ _ _ ?_) ?_)
    | (with_reducible refine Eq.trans (State.modSerial_port _ _) ?_)
    | (with_reducible refine Eq.trans (State.raiseCause_port _ _) ?_)
    | (with_reducible refine Eq.trans (foldl_port _ ?_ _ _) ?_)
    | (with_reducible refine Eq.trans (foldl_port1 _ ?_ _ _) ?_)
    | split
    | (simp only [port_mk])
    | (dsimp only)
theorem execSidebandRecordTimeout_port (dt : Nat) (s : State) {t : State} (h : execSidebandRecordTimeout dt s = .next t) : t.port = (s.elapse dt).port := by
  simp only [execSidebandRecordTimeout] at h
  first
    | (injection h with h; subst h)
    | (split at h; exact absurd h (by simp); injection h with h; subst h)
  repeat' first
    | with_reducible rfl
    | (intro _)
    | (with_reducible refine Eq.trans (State.when_port _ _ _ ?_) ?_)
    | (with_reducible refine Eq.trans (State.stageOpen_port _) ?_)
    | (with_reducible refine Eq.trans (State.drainRx_port _) ?_)
    | (with_reducible refine Eq.trans (foldl_port _ ?_ _ _) ?_)
    | (with_reducible refine Eq.trans (foldl_port1 _ ?_ _ _) ?_)
    | split
    | (simp only [port_mk])
    | (dsimp only)
theorem execSerialRetry_port (dt : Nat) (s : State) {t : State} (h : execSerialRetry dt s = .next t) : t.port = (s.elapse dt).port := by
  simp only [execSerialRetry] at h
  first
    | (injection h with h; subst h)
    | (split at h; exact absurd h (by simp); injection h with h; subst h)
  repeat' first
    | with_reducible rfl
    | (intro _)
    | (with_reducible refine Eq.trans (State.when_port _ _ _ ?_) ?_)
    | (with_reducible refine Eq.trans (State.modSerial_port _ _) ?_)
    | (with_reducible refine Eq.trans (foldl_port _ ?_ _ _) ?_)
    | (with_reducible refine Eq.trans (foldl_port1 _ ?_ _ _) ?_)
    | split
    | (simp only [port_mk])
    | (dsimp only)
theorem execSlaveSelectRise_port (dt : Nat) (bits : Nat) (s : State) {t : State} (h : execSlaveSelectRise dt bits s = .next t) : t.port = (s.elapse dt).port := by
  simp only [execSlaveSelectRise] at h
  first
    | (injection h with h; subst h)
    | (split at h; exact absurd h (by simp); injection h with h; subst h)
  repeat' first
    | with_reducible rfl
    | (intro _)
    | (with_reducible refine Eq.trans (State.when_port _ _ _ ?_) ?_)
    | (with_reducible refine Eq.trans (State.modSerial_port _ _) ?_)
    | (with_reducible refine Eq.trans (State.stageOpen_port _) ?_)
    | (with_reducible refine Eq.trans (State.drainRx_port _) ?_)
    | (with_reducible refine Eq.trans (foldl_port _ ?_ _ _) ?_)
    | (with_reducible refine Eq.trans (foldl_port1 _ ?_ _ _) ?_)
    | split
    | (simp only [port_mk])
    | (dsimp only)

end Sys2Proof.Machine
end

