-- ==== Sys2Proof/Laws/FrameStart.lean ====
section
/-!
SUPPORT. The queue of commands, the clock and the Plinth under the commands at which the logic die starts anew.
-/
namespace Sys2Proof.Machine
open Sys2Proof

/-- Their values together. -/
abbrev StartT := (List Instr) × Nat × (List Host.Cell)
/-- The fields that this file is about. -/
def State.start (s : State) : StartT := (s.pending, s.clock, s.plinth)
theorem start_mk (X : State) (zero : Nat) (freeCtr : Nat) (por : Bool) (rails : BitVec 4) (viso : Bool) (clk25 : Bool) (dormantReq : Bool) (dormant : Bool) (wokeDormant : Bool) (straps : BitVec 5) (strapsNow : BitVec 5) (throttled : Bool) (safeN : Bool) (safeNAt : Nat) (encSafe : Bool) (visoLost : Bool) (devw : Word64) (devwNew : Option Word64) (logicMw : Nat) (visoMw : Nat) (faultMask : BitVec 5) (syncw : BitVec 4) (flush : Nat) (routes : Vector Byte 10) (host : HostRegs) (msix : Vector MsixEntry 68) (queues : Vector Queue 64) (out : List HostOut) (outWait : List HostOut) (staging : List (Record × Option (QueueId × Word32))) (fieldDue : Option Byte) (ops : List Op) (chans : Vector Chan 128) (quads : Vector Quad 4) (reqs : List Req) (reqSeq : Nat) (fetchSeq : Nat) (ang : Ang) (course : Course) (meas : Vector Meas 4) (chains : Vector Chain 16) (syncTick : Option Nat) (syncMerged : Nat) (syncOut : Nat) (arch : Arch) (vault : Vault) (plumb : Vector Plumb 8) (serial : Serial) (mason : Mason) (rows : Vector Word64 22) (locked : Bool) (cfgGen : Word32) (pair : Pair) :
    State.start ⟨X.pending, X.clock, zero, freeCtr, por, rails, viso, clk25, dormantReq, dormant, wokeDormant, straps, strapsNow, throttled, safeN, safeNAt, encSafe, visoLost, devw, devwNew, logicMw, visoMw, faultMask, syncw, flush, routes, host, msix, queues, out, outWait, staging, fieldDue, ops, chans, quads, reqs, reqSeq, fetchSeq, ang, course, meas, chains, syncTick, syncMerged, syncOut, arch, vault, plumb, serial, mason, rows, locked, cfgGen, pair, X.plinth⟩ = X.start := rfl
theorem start_pair {β : Type} {p : State × β} {a : State} {b : β} (h : p = (a, b)) {x : StartT} (hk : p.1.start = x) : a.start = x := by
  subst h; exact hk
theorem foldl_start {α : Type} (f : State → α → State) (h : ∀ s a, (f s a).start = s.start) (l : List α) (s : State) :
    (l.foldl f s).start = s.start := by
  induction l generalizing s with
  | nil => rfl
  | cons a l ih => simp only [List.foldl_cons]; rw [ih, h]
theorem foldl_start1 {α β : Type} (f : State × β → α → State × β) (h : ∀ s a, (f s a).1.start = s.1.start) (l : List α) (s : State × β) :
    (l.foldl f s).1.start = s.1.start := by
  induction l generalizing s with
  | nil => rfl
  | cons a l ih => simp only [List.foldl_cons]; rw [ih, h]

theorem State.stage_start (s : State) (r : Record) (who : optParam (Option (QueueId × Word32)) none) : (State.stage s r who).1.start = s.start := by
  unfold State.stage
  try dsimp only
  repeat' first
    | with_reducible rfl
    | (intro _)
    | (with_reducible refine Eq.trans (foldl_start _ ?_ _ _) ?_)
    | (with_reducible refine Eq.trans (foldl_start1 _ ?_ _ _) ?_)
    | split
    | (simp only [start_mk])
    | (dsimp only)
theorem State.modMason_start (s : State) (f : Mason → Mason) : (State.modMason s f).start = s.start := by
  unfold State.modMason
  try dsimp only
  repeat' first
    | with_reducible rfl
    | (intro _)
    | (with_reducible refine Eq.trans (foldl_start _ ?_ _ _) ?_)
    | (with_reducible refine Eq.trans (foldl_start1 _ ?_ _ _) ?_)
    | split
    | (simp only [start_mk])
    | (dsimp only)
theorem State.emit_start (s : State) (o : HostOut) : (State.emit s o).start = s.start := by
  unfold State.emit
  try dsimp only
  repeat' first
    | with_reducible rfl
    | (intro _)
    | (with_reducible refine Eq.trans (foldl_start _ ?_ _ _) ?_)
    | (with_reducible refine Eq.trans (foldl_start1 _ ?_ _ _) ?_)
    | split
    | (simp only [start_mk])
    | (dsimp only)
theorem setMsix_start (s : State) (v : VecId) (f : MsixEntry → MsixEntry) : (setMsix s v f).start = s.start := by
  unfold setMsix
  try dsimp only
  repeat' first
    | with_reducible rfl
    | (intro _)
    | (with_reducible refine Eq.trans (foldl_start _ ?_ _ _) ?_)
    | (with_reducible refine Eq.trans (foldl_start1 _ ?_ _ _) ?_)
    | split
    | (simp only [start_mk])
    | (dsimp only)
theorem State.signal_start (s : State) (v : VecId) : (State.signal s v).start = s.start := by
  unfold State.signal
  try dsimp only
  repeat' first
    | with_reducible rfl
    | (intro _)
    | (with_reducible refine Eq.trans (State.emit_start _ _) ?_)
    | (with_reducible refine Eq.trans (setMsix_start _ _ _) ?_)
    | (with_reducible refine Eq.trans (foldl_start _ ?_ _ _) ?_)
    | (with_reducible refine Eq.trans (foldl_start1 _ ?_ _ _) ?_)
    | split
    | (simp only [start_mk])
    | (dsimp only)
theorem State.modHost_start (s : State) (f : HostRegs → HostRegs) : (State.modHost s f).start = s.start := by
  unfold State.modHost
  try dsimp only
  repeat' first
    | with_reducible rfl
    | (intro _)
    | (with_reducible refine Eq.trans (foldl_start _ ?_ _ _) ?_)
    | (with_reducible refine Eq.trans (foldl_start1 _ ?_ _ _) ?_)
    | split
    | (simp only [start_mk])
    | (dsimp only)
theorem State.noteSet_start (s : State) (k : Nat) : (State.noteSet s k).start = s.start := by
  unfold State.noteSet
  try dsimp only
  repeat' first
    | with_reducible rfl
    | (intro _)
    | (with_reducible refine Eq.trans (State.modHost_start _ _) ?_)
    | (with_reducible refine Eq.trans (foldl_start _ ?_ _ _) ?_)
    | (with_reducible refine Eq.trans (foldl_start1 _ ?_ _ _) ?_)
    | split
    | (simp only [start_mk])
    | (dsimp only)
theorem State.when_start (s : State) (b : Bool) (f : State → State) (hf : (f s).start = s.start) : (State.when s b f).start = s.start := by
  unfold State.when; split
  · exact hf
  · rfl
theorem State.setDev_start (s : State) (cause : Word32) (en : Word32) : (State.setDev s cause en).start = s.start := by
  unfold State.setDev
  try dsimp only
  repeat' first
    | with_reducible rfl
    | (intro _)
    | (with_reducible refine Eq.trans (State.signal_start _ _) ?_)
    | (with_reducible refine Eq.trans (State.modHost_start _ _) ?_)
    | (with_reducible refine Eq.trans (foldl_start _ ?_ _ _) ?_)
    | (with_reducible refine Eq.trans (foldl_start1 _ ?_ _ _) ?_)
    | split
    | (simp only [start_mk])
    | (dsimp only)
theorem State.raiseCause_start (s : State) (bitNo : Nat) : (State.raiseCause s bitNo).start = s.start := by
  unfold State.raiseCause
  try dsimp only
  repeat' first
    | with_reducible rfl
    | (intro _)
    | (with_reducible refine Eq.trans (State.noteSet_start _ _) ?_)
    | (with_reducible refine Eq.trans (State.setDev_start _ _ _) ?_)
    | (with_reducible refine Eq.trans (foldl_start _ ?_ _ _) ?_)
    | (with_reducible refine Eq.trans (foldl_start1 _ ?_ _ _) ?_)
    | split
    | (simp only [start_mk])
    | (dsimp only)
theorem State.romWait_start (s : State) (fault : BitVec 4) : (State.romWait s fault).start = s.start := by
  unfold State.romWait
  try dsimp only
  repeat' first
    | with_reducible rfl
    | (intro _)
    | (with_reducible refine Eq.trans (State.modMason_start _ _) ?_)
    | (with_reducible refine Eq.trans (foldl_start _ ?_ _ _) ?_)
    | (with_reducible refine Eq.trans (foldl_start1 _ ?_ _ _) ?_)
    | split
    | (simp only [start_mk])
    | (dsimp only)
theorem State.romStart_start (s : State) : (State.romStart s).start = s.start := by
  unfold State.romStart
  try dsimp only
  repeat' first
    | with_reducible rfl
    | (intro _)
    | (with_reducible refine Eq.trans (State.modMason_start _ _) ?_)
    | (with_reducible refine Eq.trans (State.romWait_start _ _) ?_)
    | (with_reducible refine Eq.trans (foldl_start _ ?_ _ _) ?_)
    | (with_reducible refine Eq.trans (foldl_start1 _ ?_ _ _) ?_)
    | split
    | (simp only [start_mk])
    | (dsimp only)
theorem State.cold_start (s : State) (silence : Nat) : (State.cold s silence).start = s.start := by
  unfold State.cold
  try dsimp only
  repeat' first
    | with_reducible rfl
    | (intro _)
    | (with_reducible refine Eq.trans (foldl_start _ ?_ _ _) ?_)
    | (with_reducible refine Eq.trans (foldl_start1 _ ?_ _ _) ?_)
    | split
    | (simp only [start_mk])
    | (dsimp only)
theorem State.visoReport_start (s : State) : (State.visoReport s).start = s.start := by
  unfold State.visoReport
  try dsimp only
  repeat' first
    | with_reducible rfl
    | (intro _)
    | (with_reducible refine start_pair (by assumption) (Eq.trans (State.stage_start _ _ _) ?_))
    | (with_reducible refine Eq.trans (State.stage_start _ _ _) ?_)
    | (with_reducible refine Eq.trans (State.raiseCause_start _ _) ?_)
    | (with_reducible refine Eq.trans (foldl_start _ ?_ _ _) ?_)
    | (with_reducible refine Eq.trans (foldl_start1 _ ?_ _ _) ?_)
    | split
    | (simp only [start_mk])
    | (dsimp only)
theorem State.boot_start (s : State) (pins : StartPins) : (State.boot s pins).start = s.start := by
  unfold State.boot
  try dsimp only
  repeat' first
    | with_reducible rfl
    | (intro _)
    | (with_reducible refine Eq.trans (State.romStart_start _) ?_)
    | (with_reducible refine Eq.trans (State.cold_start _ _) ?_)
    | (with_reducible refine Eq.trans (State.visoReport_start _) ?_)
    | (with_reducible refine Eq.trans (foldl_start _ ?_ _ _) ?_)
    | (with_reducible refine Eq.trans (foldl_start1 _ ?_ _ _) ?_)
    | split
    | (simp only [start_mk])
    | (dsimp only)
theorem execWake_start (dt : Nat) (pins : StartPins) (s : State) {t : State} (h : execWake dt pins s = .next t) : t.start = (s.elapse dt).start := by
  simp only [execWake] at h
  first
    | (injection h with h; subst h)
    | (split at h; exact absurd h (by simp); injection h with h; subst h)
  repeat' first
    | with_reducible rfl
    | (intro _)
    | (with_reducible refine Eq.trans (State.when_start _ _ _ ?_) ?_)
    | (with_reducible refine Eq.trans (State.boot_start _ _) ?_)
    | (with_reducible refine Eq.trans (foldl_start _ ?_ _ _) ?_)
    | (with_reducible refine Eq.trans (foldl_start1 _ ?_ _ _) ?_)
    | split
    | (simp only [start_mk])
    | (dsimp only)
theorem execClk25Return_start (dt : Nat) (pins : StartPins) (s : State) {t : State} (h : execClk25Return dt pins s = .next t) : t.start = (s.elapse dt).start := by
  simp only [execClk25Return] at h
  first
    | (injection h with h; subst h)
    | (split at h; exact absurd h (by simp); injection h with h; subst h)
  repeat' first
    | with_reducible rfl
    | (intro _)
    | (with_reducible refine Eq.trans (State.when_start _ _ _ ?_) ?_)
    | (with_reducible refine Eq.trans (State.boot_start _ _) ?_)
    | (with_reducible refine Eq.trans (foldl_start _ ?_ _ _) ?_)
    | (with_reducible refine Eq.trans (foldl_start1 _ ?_ _ _) ?_)
    | split
    | (simp only [start_mk])
    | (dsimp only)
theorem execPowerOnResetRelease_start (dt : Nat) (pins : StartPins) (s : State) {t : State} (h : execPowerOnResetRelease dt pins s = .next t) : t.start = (s.elapse dt).start := by
  simp only [execPowerOnResetRelease] at h
  first
    | (injection h with h; subst h)
    | (split at h; exact absurd h (by simp); injection h with h; subst h)
  repeat' first
    | with_reducible rfl
    | (intro _)
    | (with_reducible refine Eq.trans (State.when_start _ _ _ ?_) ?_)
    | (with_reducible refine Eq.trans (State.boot_start _ _) ?_)
    | (with_reducible refine Eq.trans (foldl_start _ ?_ _ _) ?_)
    | (with_reducible refine Eq.trans (foldl_start1 _ ?_ _ _) ?_)
    | split
    | (simp only [start_mk])
    | (dsimp only)

end Sys2Proof.Machine
end

