-- ==== Sys2Proof/Laws/FrameTime.lean ====
section
/-!
SUPPORT. The queue of commands, the clock and device time's origin under the journal frames that a standby takes.
-/
namespace Sys2Proof.Machine
open Sys2Proof

/-- Their values together. -/
abbrev TimeT := (List Instr) × Nat × Nat
/-- The fields that this file is about. -/
def State.time (s : State) : TimeT := (s.pending, s.clock, s.zero)
theorem time_mk (X : State) (freeCtr : Nat) (por : Bool) (rails : BitVec 4) (viso : Bool) (clk25 : Bool) (dormantReq : Bool) (dormant : Bool) (wokeDormant : Bool) (straps : BitVec 5) (strapsNow : BitVec 5) (throttled : Bool) (safeN : Bool) (safeNAt : Nat) (encSafe : Bool) (visoLost : Bool) (devw : Word64) (devwNew : Option Word64) (logicMw : Nat) (visoMw : Nat) (faultMask : BitVec 5) (syncw : BitVec 4) (flush : Nat) (routes : Vector Byte 10) (host : HostRegs) (msix : Vector MsixEntry 68) (queues : Vector Queue 64) (out : List HostOut) (outWait : List HostOut) (staging : List (Record × Option (QueueId × Word32))) (fieldDue : Option Byte) (ops : List Op) (chans : Vector Chan 128) (quads : Vector Quad 4) (reqs : List Req) (reqSeq : Nat) (fetchSeq : Nat) (ang : Ang) (course : Course) (meas : Vector Meas 4) (chains : Vector Chain 16) (syncTick : Option Nat) (syncMerged : Nat) (syncOut : Nat) (arch : Arch) (vault : Vault) (plumb : Vector Plumb 8) (serial : Serial) (mason : Mason) (rows : Vector Word64 22) (locked : Bool) (cfgGen : Word32) (pair : Pair) (plinth : List Host.Cell) :
    State.time ⟨X.pending, X.clock, X.zero, freeCtr, por, rails, viso, clk25, dormantReq, dormant, wokeDormant, straps, strapsNow, throttled, safeN, safeNAt, encSafe, visoLost, devw, devwNew, logicMw, visoMw, faultMask, syncw, flush, routes, host, msix, queues, out, outWait, staging, fieldDue, ops, chans, quads, reqs, reqSeq, fetchSeq, ang, course, meas, chains, syncTick, syncMerged, syncOut, arch, vault, plumb, serial, mason, rows, locked, cfgGen, pair, plinth⟩ = X.time := rfl
theorem time_pair {β : Type} {p : State × β} {a : State} {b : β} (h : p = (a, b)) {x : TimeT} (hk : p.1.time = x) : a.time = x := by
  subst h; exact hk
theorem foldl_time {α : Type} (f : State → α → State) (h : ∀ s a, (f s a).time = s.time) (l : List α) (s : State) :
    (l.foldl f s).time = s.time := by
  induction l generalizing s with
  | nil => rfl
  | cons a l ih => simp only [List.foldl_cons]; rw [ih, h]
theorem foldl_time1 {α β : Type} (f : State × β → α → State × β) (h : ∀ s a, (f s a).1.time = s.1.time) (l : List α) (s : State × β) :
    (l.foldl f s).1.time = s.1.time := by
  induction l generalizing s with
  | nil => rfl
  | cons a l ih => simp only [List.foldl_cons]; rw [ih, h]

theorem State.modPair_time (s : State) (f : Pair → Pair) : (State.modPair s f).time = s.time := by
  unfold State.modPair
  try dsimp only
  repeat' first
    | with_reducible rfl
    | (intro _)
    | (with_reducible refine Eq.trans (foldl_time _ ?_ _ _) ?_)
    | (with_reducible refine Eq.trans (foldl_time1 _ ?_ _ _) ?_)
    | split
    | (simp only [time_mk])
    | (dsimp only)
theorem State.zsend_time (s : State) (f : ZFrame) : (State.zsend s f).time = s.time := by
  unfold State.zsend
  try dsimp only
  repeat' first
    | with_reducible rfl
    | (intro _)
    | (with_reducible refine Eq.trans (State.modPair_time _ _) ?_)
    | (with_reducible refine Eq.trans (foldl_time _ ?_ _ _) ?_)
    | (with_reducible refine Eq.trans (foldl_time1 _ ?_ _ _) ?_)
    | split
    | (simp only [time_mk])
    | (dsimp only)
theorem State.plinthPut_time (s : State) (addr : Nat) (data : List Byte) (f : State → State) (hf : ∀ s, (f s).time = s.time) {t : State} (h : s.plinthPut addr data f = .next t) : t.time = s.time := by
  unfold State.plinthPut at h
  split at h
  · injection h with h; subst h; rfl
  · split at h
    · exact absurd h (by simp)
    · injection h with h; subst h; exact (hf _).trans (time_mk _ ..)
theorem execLog_time (dt : Nat) (e : Word64) (s : State) {t : State} (h : execLog dt e s = .next t) : t.time = (s.elapse dt).time := by
  simp only [execLog] at h
  split at h
  all_goals
    split at h
    · injection h with h; subst h; rfl
    · refine State.plinthPut_time _ _ _ _ (fun u => ?_) h
      exact (State.zsend_time _ _).trans (State.modPair_time _ _)
theorem execCommit_time (dt : Nat) (header : List Byte) (s : State) {t : State} (h : execCommit dt header s = .next t) : t.time = (s.elapse dt).time := by
  simp only [execCommit] at h
  split at h
  · injection h with h; subst h; rfl
  · refine State.plinthPut_time _ _ _ _ (fun u => ?_) h
    exact (State.zsend_time _ _).trans (State.modPair_time _ _)
theorem State.applyTiming_time (s : State) (w : Word64) : (State.applyTiming s w).time = s.time := by
  unfold State.applyTiming
  try dsimp only
  repeat' first
    | with_reducible rfl
    | (intro _)
    | (with_reducible refine Eq.trans (foldl_time _ ?_ _ _) ?_)
    | (with_reducible refine Eq.trans (foldl_time1 _ ?_ _ _) ?_)
    | split
    | (simp only [time_mk])
    | (dsimp only)
theorem State.retime_time (s : State) : (State.retime s).time = s.time := by
  unfold State.retime
  try dsimp only
  repeat' first
    | with_reducible rfl
    | (intro _)
    | (with_reducible refine Eq.trans (State.applyTiming_time _ _) ?_)
    | (with_reducible refine Eq.trans (foldl_time _ ?_ _ _) ?_)
    | (with_reducible refine Eq.trans (foldl_time1 _ ?_ _ _) ?_)
    | split
    | (simp only [time_mk])
    | (dsimp only)
theorem execDelta_time (dt : Nat) (addr : Word32) (data : List Byte) (s : State) {t : State} (h : execDelta dt addr data s = .next t) : t.time = (s.elapse dt).time := by
  simp only [execDelta] at h
  refine State.plinthPut_time _ _ _ _ (fun u => ?_) h
  refine (State.zsend_time _ _).trans ?_
  split
  · exact (State.retime_time _).trans ((State.modPair_time _ _).trans (time_mk _ ..))
  · exact (State.modPair_time _ _).trans (time_mk _ ..)
theorem execBody_time (dt : Nat) (addr : Word32) (data : List Byte) (s : State) {t : State} (h : execBody dt addr data s = .next t) : t.time = (s.elapse dt).time := by
  exact State.plinthPut_time _ _ _ _ (fun _ => rfl) h

end Sys2Proof.Machine
end

