-- ==== Sys2Proof/Laws/Memory.lean ====
section
/-!
SUPPORT. The Plinth store: its canonical form, which every write keeps, and what a read finds after a write.
-/
namespace Sys2Proof.Machine
open Sys2Proof

theorem memOk_mono {lo lo' : Nat} {m : List Host.Cell} (h : memOk lo m = true) (hl : lo' ≤ lo) : memOk lo' m = true := by
  cases m with
  | nil => rfl
  | cons c m =>
    simp only [memOk, Bool.and_eq_true, decide_eq_true_eq] at h ⊢
    exact ⟨⟨by omega, h.1.2⟩, h.2⟩
/-- Below its first address a canonical store reads 0. -/
theorem memRead_low {lo a : Nat} {m : List Host.Cell} (h : memOk lo m = true) (ha : a < lo) : memRead m a = 0 := by
  induction m generalizing lo with
  | nil => rfl
  | cons c m ih =>
    simp only [memOk, Bool.and_eq_true, decide_eq_true_eq] at h
    have hc : (c.1 == a) = false := by simpa using (by omega : c.1 ≠ a)
    have := ih h.2 (by omega)
    unfold memRead at this ⊢
    rw [List.find?_cons, hc]
    exact this
theorem memRead_cons (x : Nat) (y : Byte) (m : List Host.Cell) (a : Nat) :
    memRead ((x, y) :: m) a = if x = a then y else memRead m a := by
  unfold memRead
  rw [List.find?_cons]
  by_cases h : x = a
  · simp [h]
  · have : (x == a) = false := by simpa using h
    simp [h, this]
/-- One write keeps the canonical form. -/
theorem memWrite_ok {lo a : Nat} {b : Byte} {m : List Host.Cell} (h : memOk lo m = true) (ha : lo ≤ a) :
    memOk lo (memWrite m a b) = true := by
  induction m generalizing lo with
  | nil => unfold memWrite; split <;> simp_all [memOk]
  | cons c m ih =>
    obtain ⟨x, y⟩ := c
    simp only [memOk, Bool.and_eq_true, decide_eq_true_eq, bne_iff_ne, ne_eq] at h
    obtain ⟨⟨h1, h2⟩, h3⟩ := h
    unfold memWrite
    split
    · split
      · simp only [memOk, Bool.and_eq_true, decide_eq_true_eq, bne_iff_ne, ne_eq]
        exact ⟨⟨h1, h2⟩, h3⟩
      · simp only [memOk, Bool.and_eq_true, decide_eq_true_eq, bne_iff_ne, ne_eq]
        exact ⟨⟨ha, by simp_all⟩, ⟨by omega, h2⟩, h3⟩
    · split
      · split
        · exact memOk_mono h3 (by omega)
        · simp only [memOk, Bool.and_eq_true, decide_eq_true_eq, bne_iff_ne, ne_eq]
          exact ⟨⟨h1, by simp_all⟩, h3⟩
      · simp only [memOk, Bool.and_eq_true, decide_eq_true_eq, bne_iff_ne, ne_eq]
        rename_i hn he
        have : a ≠ x := by simpa using he
        exact ⟨⟨h1, h2⟩, ih h3 (by omega)⟩
/-- A read after a write. -/
theorem memRead_write {lo a x : Nat} {b : Byte} {m : List Host.Cell} (h : memOk lo m = true) :
    memRead (memWrite m a b) x = if x = a then b else memRead m x := by
  induction m generalizing lo with
  | nil =>
    unfold memWrite
    split
    · rename_i hb; simp only [beq_iff_eq] at hb; subst hb; split <;> rfl
    · rw [memRead_cons]; simp only [eq_comm]
  | cons c m ih =>
    obtain ⟨u, v⟩ := c
    simp only [memOk, Bool.and_eq_true, decide_eq_true_eq, bne_iff_ne, ne_eq] at h
    obtain ⟨⟨h1, h2⟩, h3⟩ := h
    unfold memWrite
    split
    · rename_i hlt
      split
      · rename_i hb; simp only [beq_iff_eq] at hb; subst hb
        split
        · rename_i hx; subst hx
          rw [memRead_cons, if_neg (by omega), memRead_low h3 (by omega)]
        · rfl
      · rw [memRead_cons]; simp only [eq_comm]
    · split
      · rename_i hge heq
        have he : a = u := by simpa using heq
        subst he
        split
        · rename_i hb; simp only [beq_iff_eq] at hb; subst hb
          split
          · rename_i hx; subst hx; rw [memRead_low h3 (by omega)]
          · rename_i hx; rw [memRead_cons, if_neg (fun hh => hx hh.symm)]
        · rw [memRead_cons, memRead_cons]
          by_cases hx : a = x
          · simp [hx]
          · rw [if_neg hx, if_neg hx, if_neg (fun hh => hx hh.symm)]
      · rename_i hge heq
        have he : a ≠ u := by simpa using heq
        rw [memRead_cons, memRead_cons, ih h3]
        by_cases hx : u = x
        · rw [if_pos hx, if_pos hx, if_neg (fun hh => he (hh.symm.trans hx.symm))]
        · rw [if_neg hx, if_neg hx]
theorem memWriteAll_ok {lo a : Nat} {bs : List Byte} {m : List Host.Cell} (h : memOk lo m = true) (ha : lo ≤ a) :
    memOk lo (memWriteAll m a bs) = true := by
  induction bs generalizing m a with
  | nil => exact h
  | cons b bs ih => exact ih (memWrite_ok h ha) (by omega)
/-- A read after a write of several bytes. -/
theorem memRead_writeAll {lo a x : Nat} {bs : List Byte} {m : List Host.Cell} (h : memOk lo m = true) (ha : lo ≤ a) :
    memRead (memWriteAll m a bs) x = if a ≤ x ∧ x < a + bs.length then bs.getD (x - a) 0 else memRead m x := by
  induction bs generalizing m a with
  | nil => rw [if_neg (by simp)]; rfl
  | cons b bs ih =>
    rw [memWriteAll, ih (memWrite_ok h ha) (by omega), memRead_write h]
    rw [List.length_cons]
    by_cases h1 : x = a
    · subst h1
      rw [if_neg (by omega), if_pos rfl, if_pos (by omega)]
      simp
    · by_cases h2 : a + 1 ≤ x ∧ x < a + 1 + bs.length
      · rw [if_pos h2, if_pos (by omega)]
        obtain ⟨k, rfl⟩ : ∃ k, x = a + 1 + k := ⟨x - (a + 1), by omega⟩
        rw [show a + 1 + k - (a + 1) = k from by omega, show a + 1 + k - a = k + 1 from by omega]
        rfl
      · rw [if_neg h2, if_neg h1, if_neg (by omega)]
/-- A write inside the Plinth lists no address outside it. -/
theorem memWrite_bound {k a : Nat} {b : Byte} {m : List Host.Cell} (h : ∀ c ∈ m, c.1 < k) (ha : a < k) :
    ∀ c ∈ memWrite m a b, c.1 < k := by
  induction m with
  | nil =>
    unfold memWrite
    split
    · exact h
    · simpa using ha
  | cons c m ih =>
    obtain ⟨u, v⟩ := c
    simp only [List.forall_mem_cons] at h
    unfold memWrite
    split
    · split <;> simp only [List.forall_mem_cons]
      · exact h
      · exact ⟨ha, h⟩
    · split
      · split
        · exact h.2
        · simp only [List.forall_mem_cons]; exact h
      · simp only [List.forall_mem_cons]; exact ⟨h.1, ih h.2⟩
theorem memWriteAll_bound {k a : Nat} {bs : List Byte} {m : List Host.Cell} (h : ∀ c ∈ m, c.1 < k) (ha : a + bs.length ≤ k) :
    ∀ c ∈ memWriteAll m a bs, c.1 < k := by
  induction bs generalizing m a with
  | nil => exact h
  | cons b bs ih =>
    rw [List.length_cons] at ha
    exact ih (memWrite_bound h (by omega)) (by omega)
theorem Memory.wf_iff (m : List Host.Cell) : Memory.wf m = true ↔ memOk 0 m = true ∧ ∀ c ∈ m, c.1 < plinthSize := by
  unfold Memory.wf
  rw [Bool.and_eq_true, List.all_eq_true]
  simp only [decide_eq_true_eq]
/-- A write inside the Plinth keeps Memory.wf. -/
theorem Memory.wf_writeAll {a : Nat} {bs : List Byte} {m : List Host.Cell} (h : Memory.wf m = true) (ha : a + bs.length ≤ plinthSize) :
    Memory.wf (memWriteAll m a bs) = true := by
  rw [Memory.wf_iff] at h ⊢
  exact ⟨memWriteAll_ok h.1 (by omega), memWriteAll_bound h.2 ha⟩

end Sys2Proof.Machine
end

