-- ==== Sys2Proof/Laws/PerInstr.lean ====
section
/-!
SUPPORT. Statements made for every command: the families of Safety.lean do not overlap.
-/
namespace Sys2Proof.Laws

/-- Command i belongs to at most one of the families host side, field event, serial port, start and change of role. -/
def Families.Statement (i : Instr) : Prop :=
  ([i.hostSide, i.fieldEvent, i.portEvent, i.starts, i.rescues].count true) ≤ 1

theorem Families.identify (x0 : _) (x1 : _) : Families.Statement (.identify x0 x1) := Nat.le_of_ble_eq_true rfl
theorem Families.queueCreate (x0 : _) (x1 : _) : Families.Statement (.queueCreate x0 x1) := Nat.le_of_ble_eq_true rfl
theorem Families.queueDelete (x0 : _) (x1 : _) : Families.Statement (.queueDelete x0 x1) := Nat.le_of_ble_eq_true rfl
theorem Families.queueQuiesce (x0 : _) (x1 : _) : Families.Statement (.queueQuiesce x0 x1) := Nat.le_of_ble_eq_true rfl
theorem Families.queueResume (x0 : _) (x1 : _) : Families.Statement (.queueResume x0 x1) := Nat.le_of_ble_eq_true rfl
theorem Families.setPowerTarget (x0 : _) (x1 : _) : Families.Statement (.setPowerTarget x0 x1) := Nat.le_of_ble_eq_true rfl
theorem Families.setQuadrantReset (x0 : _) (x1 : _) : Families.Statement (.setQuadrantReset x0 x1) := Nat.le_of_ble_eq_true rfl
theorem Families.setSupplyPolicy (x0 : _) (x1 : _) : Families.Statement (.setSupplyPolicy x0 x1) := Nat.le_of_ble_eq_true rfl
theorem Families.setFaultNClassMask (x0 : _) (x1 : _) : Families.Statement (.setFaultNClassMask x0 x1) := Nat.le_of_ble_eq_true rfl
theorem Families.setFieldWatchdog (x0 : _) (x1 : _) : Families.Statement (.setFieldWatchdog x0 x1) := Nat.le_of_ble_eq_true rfl
theorem Families.setSync (x0 : _) (x1 : _) : Families.Statement (.setSync x0 x1) := Nat.le_of_ble_eq_true rfl
theorem Families.setRecordFlush (x0 : _) (x1 : _) : Families.Statement (.setRecordFlush x0 x1) := Nat.le_of_ble_eq_true rfl
theorem Families.setRecordRoute (x0 : _) (x1 : _) : Families.Statement (.setRecordRoute x0 x1) := Nat.le_of_ble_eq_true rfl
theorem Families.setVaultLayout (x0 : _) (x1 : _) : Families.Statement (.setVaultLayout x0 x1) := Nat.le_of_ble_eq_true rfl
theorem Families.setArchive (x0 : _) (x1 : _) : Families.Statement (.setArchive x0 x1) := Nat.le_of_ble_eq_true rfl
theorem Families.setPairTiming (x0 : _) (x1 : _) : Families.Statement (.setPairTiming x0 x1) := Nat.le_of_ble_eq_true rfl
theorem Families.setPlumbSchedule (x0 : _) (x1 : _) : Families.Statement (.setPlumbSchedule x0 x1) := Nat.le_of_ble_eq_true rfl
theorem Families.setSerialPort (x0 : _) (x1 : _) : Families.Statement (.setSerialPort x0 x1) := Nat.le_of_ble_eq_true rfl
theorem Families.featureGet (x0 : _) (x1 : _) : Families.Statement (.featureGet x0 x1) := Nat.le_of_ble_eq_true rfl
theorem Families.logRead (x0 : _) (x1 : _) : Families.Statement (.logRead x0 x1) := Nat.le_of_ble_eq_true rfl
theorem Families.fwLoad (x0 : _) (x1 : _) : Families.Statement (.fwLoad x0 x1) := Nat.le_of_ble_eq_true rfl
theorem Families.fwCommitStart (x0 : _) (x1 : _) : Families.Statement (.fwCommitStart x0 x1) := Nat.le_of_ble_eq_true rfl
theorem Families.fwCommitVerify (x0 : _) (x1 : _) : Families.Statement (.fwCommitVerify x0 x1) := Nat.le_of_ble_eq_true rfl
theorem Families.fwCommitInstall (x0 : _) (x1 : _) : Families.Statement (.fwCommitInstall x0 x1) := Nat.le_of_ble_eq_true rfl
theorem Families.fwCommitActivate (x0 : _) (x1 : _) : Families.Statement (.fwCommitActivate x0 x1) := Nat.le_of_ble_eq_true rfl
theorem Families.fwCommitAdvance (x0 : _) (x1 : _) : Families.Statement (.fwCommitAdvance x0 x1) := Nat.le_of_ble_eq_true rfl
theorem Families.attest (x0 : _) (x1 : _) (x2 : _) : Families.Statement (.attest x0 x1 x2) := Nat.le_of_ble_eq_true rfl
theorem Families.accessLoad (x0 : _) (x1 : _) : Families.Statement (.accessLoad x0 x1) := Nat.le_of_ble_eq_true rfl
theorem Families.accessLock (x0 : _) (x1 : _) : Families.Statement (.accessLock x0 x1) := Nat.le_of_ble_eq_true rfl
theorem Families.pairControlHandover (x0 : _) (x1 : _) : Families.Statement (.pairControlHandover x0 x1) := Nat.le_of_ble_eq_true rfl
theorem Families.pairControlResync (x0 : _) (x1 : _) : Families.Statement (.pairControlResync x0 x1) := Nat.le_of_ble_eq_true rfl
theorem Families.checkpointNow (x0 : _) (x1 : _) : Families.Statement (.checkpointNow x0 x1) := Nat.le_of_ble_eq_true rfl
theorem Families.chConfig (x0 : _) (x1 : _) (x2 : _) : Families.Statement (.chConfig x0 x1 x2) := Nat.le_of_ble_eq_true rfl
theorem Families.outWrite (x0 : _) (x1 : _) (x2 : _) : Families.Statement (.outWrite x0 x1 x2) := Nat.le_of_ble_eq_true rfl
theorem Families.outPulseStart (x0 : _) (x1 : _) (x2 : _) : Families.Statement (.outPulseStart x0 x1 x2) := Nat.le_of_ble_eq_true rfl
theorem Families.outPulseStop (x0 : _) (x1 : _) (x2 : _) : Families.Statement (.outPulseStop x0 x1 x2) := Nat.le_of_ble_eq_true rfl
theorem Families.outPulseUpdate (x0 : _) (x1 : _) (x2 : _) : Families.Statement (.outPulseUpdate x0 x1 x2) := Nat.le_of_ble_eq_true rfl
theorem Families.safeDefine (x0 : _) (x1 : _) (x2 : _) : Families.Statement (.safeDefine x0 x1 x2) := Nat.le_of_ble_eq_true rfl
theorem Families.arm (x0 : _) (x1 : _) (x2 : _) : Families.Statement (.arm x0 x1 x2) := Nat.le_of_ble_eq_true rfl
theorem Families.disarm (x0 : _) (x1 : _) (x2 : _) : Families.Statement (.disarm x0 x1 x2) := Nat.le_of_ble_eq_true rfl
theorem Families.faultClear (x0 : _) (x1 : _) (x2 : _) : Families.Statement (.faultClear x0 x1 x2) := Nat.le_of_ble_eq_true rfl
theorem Families.budgetSet (x0 : _) (x1 : _) (x2 : _) : Families.Statement (.budgetSet x0 x1 x2) := Nat.le_of_ble_eq_true rfl
theorem Families.courseLoad (x0 : _) (x1 : _) (x2 : _) : Families.Statement (.courseLoad x0 x1 x2) := Nat.le_of_ble_eq_true rfl
theorem Families.courseSwap (x0 : _) (x1 : _) (x2 : _) : Families.Statement (.courseSwap x0 x1 x2) := Nat.le_of_ble_eq_true rfl
theorem Families.courseSwapImmediate (x0 : _) (x1 : _) (x2 : _) : Families.Statement (.courseSwapImmediate x0 x1 x2) := Nat.le_of_ble_eq_true rfl
theorem Families.angleConfig (x0 : _) (x1 : _) (x2 : _) : Families.Statement (.angleConfig x0 x1 x2) := Nat.le_of_ble_eq_true rfl
theorem Families.seqLoad (x0 : _) (x1 : _) (x2 : _) : Families.Statement (.seqLoad x0 x1 x2) := Nat.le_of_ble_eq_true rfl
theorem Families.inject (x0 : _) (x1 : _) (x2 : _) : Families.Statement (.inject x0 x1 x2) := Nat.le_of_ble_eq_true rfl
theorem Families.calibrate (x0 : _) (x1 : _) (x2 : _) : Families.Statement (.calibrate x0 x1 x2) := Nat.le_of_ble_eq_true rfl
theorem Families.accSnapshot (x0 : _) (x1 : _) (x2 : _) : Families.Statement (.accSnapshot x0 x1 x2) := Nat.le_of_ble_eq_true rfl
theorem Families.filterConfig (x0 : _) (x1 : _) (x2 : _) : Families.Statement (.filterConfig x0 x1 x2) := Nat.le_of_ble_eq_true rfl
theorem Families.coefLoad (x0 : _) (x1 : _) (x2 : _) : Families.Statement (.coefLoad x0 x1 x2) := Nat.le_of_ble_eq_true rfl
theorem Families.coefSwap (x0 : _) (x1 : _) (x2 : _) : Families.Statement (.coefSwap x0 x1 x2) := Nat.le_of_ble_eq_true rfl
theorem Families.sync (x0 : _) (x1 : _) (x2 : _) : Families.Statement (.sync x0 x1 x2) := Nat.le_of_ble_eq_true rfl
theorem Families.recordBuffer (x0 : _) (x1 : _) (x2 : _) : Families.Statement (.recordBuffer x0 x1 x2) := Nat.le_of_ble_eq_true rfl
theorem Families.archiveFreeze (x0 : _) (x1 : _) (x2 : _) : Families.Statement (.archiveFreeze x0 x1 x2) := Nat.le_of_ble_eq_true rfl
theorem Families.archiveRelease (x0 : _) (x1 : _) (x2 : _) : Families.Statement (.archiveRelease x0 x1 x2) := Nat.le_of_ble_eq_true rfl
theorem Families.archiveRead (x0 : _) (x1 : _) (x2 : _) : Families.Statement (.archiveRead x0 x1 x2) := Nat.le_of_ble_eq_true rfl
theorem Families.plumbScan (x0 : _) (x1 : _) (x2 : _) : Families.Statement (.plumbScan x0 x1 x2) := Nat.le_of_ble_eq_true rfl
theorem Families.sidebandSend (x0 : _) (x1 : _) (x2 : _) : Families.Statement (.sidebandSend x0 x1 x2) := Nat.le_of_ble_eq_true rfl
theorem Families.unknownOpcode (x0 : _) (x1 : _) (x2 : _) : Families.Statement (.unknownOpcode x0 x1 x2) := Nat.le_of_ble_eq_true rfl
theorem Families.outOn (x0 : _) (x1 : _) (x2 : _) : Families.Statement (.outOn x0 x1 x2) := Nat.le_of_ble_eq_true rfl
theorem Families.outOff (x0 : _) (x1 : _) (x2 : _) : Families.Statement (.outOff x0 x1 x2) := Nat.le_of_ble_eq_true rfl
theorem Families.outToggle (x0 : _) (x1 : _) (x2 : _) : Families.Statement (.outToggle x0 x1 x2) := Nat.le_of_ble_eq_true rfl
theorem Families.pulseStart (x0 : _) (x1 : _) (x2 : _) : Families.Statement (.pulseStart x0 x1 x2) := Nat.le_of_ble_eq_true rfl
theorem Families.pulseStop (x0 : _) (x1 : _) (x2 : _) : Families.Statement (.pulseStop x0 x1 x2) := Nat.le_of_ble_eq_true rfl
theorem Families.bankWrite (x0 : _) (x1 : _) (x2 : _) : Families.Statement (.bankWrite x0 x1 x2) := Nat.le_of_ble_eq_true rfl
theorem Families.adcTrigger (x0 : _) (x1 : _) (x2 : _) : Families.Statement (.adcTrigger x0 x1 x2) := Nat.le_of_ble_eq_true rfl
theorem Families.snapshot (x0 : _) (x1 : _) (x2 : _) : Families.Statement (.snapshot x0 x1 x2) := Nat.le_of_ble_eq_true rfl
theorem Families.mark (x0 : _) (x1 : _) (x2 : _) : Families.Statement (.mark x0 x1 x2) := Nat.le_of_ble_eq_true rfl
theorem Families.syncFire (x0 : _) (x1 : _) (x2 : _) : Families.Statement (.syncFire x0 x1 x2) := Nat.le_of_ble_eq_true rfl
theorem Families.adminQueueEnable (x0 : _) : Families.Statement (.adminQueueEnable x0) := Nat.le_of_ble_eq_true rfl
theorem Families.adminQueueDisable (x0 : _) : Families.Statement (.adminQueueDisable x0) := Nat.le_of_ble_eq_true rfl
theorem Families.hiHostwdWrite (x0 : _) (x1 : _) : Families.Statement (.hiHostwdWrite x0 x1) := Nat.le_of_ble_eq_true rfl
theorem Families.hiKeepalive (x0 : _) (x1 : _) : Families.Statement (.hiKeepalive x0 x1) := Nat.le_of_ble_eq_true rfl
theorem Families.hiDevcauseWrite (x0 : _) (x1 : _) : Families.Statement (.hiDevcauseWrite x0 x1) := Nat.le_of_ble_eq_true rfl
theorem Families.hiDevenWrite (x0 : _) (x1 : _) : Families.Statement (.hiDevenWrite x0 x1) := Nat.le_of_ble_eq_true rfl
theorem Families.glTimeRead (x0 : _) : Families.Statement (.glTimeRead x0) := Nat.le_of_ble_eq_true rfl
theorem Families.secRowRead (x0 : _) (x1 : _) : Families.Statement (.secRowRead x0 x1) := Nat.le_of_ble_eq_true rfl
theorem Families.dbgDataRead (x0 : _) (x1 : _) : Families.Statement (.dbgDataRead x0 x1) := Nat.le_of_ble_eq_true rfl
theorem Families.registerWrite (x0 : _) (x1 : _) (x2 : _) (x3 : _) : Families.Statement (.registerWrite x0 x1 x2 x3) := Nat.le_of_ble_eq_true rfl
theorem Families.msixVectorUnmask (x0 : _) (x1 : _) : Families.Statement (.msixVectorUnmask x0 x1) := Nat.le_of_ble_eq_true rfl
theorem Families.functionLevelReset (x0 : _) : Families.Statement (.functionLevelReset x0) := Nat.le_of_ble_eq_true rfl
theorem Families.busMasterEnable (x0 : _) (x1 : _) (x2 : _) (x3 : _) : Families.Statement (.busMasterEnable x0 x1 x2 x3) := Nat.le_of_ble_eq_true rfl
theorem Families.d3hotToD0 (x0 : _) : Families.Statement (.d3hotToD0 x0) := Nat.le_of_ble_eq_true rfl
theorem Families.perstAssert (x0 : _) : Families.Statement (.perstAssert x0) := Nat.le_of_ble_eq_true rfl
theorem Families.perstRelease (x0 : _) : Families.Statement (.perstRelease x0) := Nat.le_of_ble_eq_true rfl
theorem Families.powerOnResetAssert (x0 : _) (x1 : _) : Families.Statement (.powerOnResetAssert x0 x1) := Nat.le_of_ble_eq_true rfl
theorem Families.powerOnResetRelease (x0 : _) (x1 : _) : Families.Statement (.powerOnResetRelease x0 x1) := Nat.le_of_ble_eq_true rfl
theorem Families.strapChange (x0 : _) (x1 : _) : Families.Statement (.strapChange x0 x1) := Nat.le_of_ble_eq_true rfl
theorem Families.enterDormant (x0 : _) : Families.Statement (.enterDormant x0) := Nat.le_of_ble_eq_true rfl
theorem Families.wake (x0 : _) (x1 : _) : Families.Statement (.wake x0 x1) := Nat.le_of_ble_eq_true rfl
theorem Families.visoLost (x0 : _) : Families.Statement (.visoLost x0) := Nat.le_of_ble_eq_true rfl
theorem Families.visoRestored (x0 : _) : Families.Statement (.visoRestored x0) := Nat.le_of_ble_eq_true rfl
theorem Families.clk25Loss (x0 : _) : Families.Statement (.clk25Loss x0) := Nat.le_of_ble_eq_true rfl
theorem Families.clk25Return (x0 : _) (x1 : _) : Families.Statement (.clk25Return x0 x1) := Nat.le_of_ble_eq_true rfl
theorem Families.transformerStart (x0 : _) (x1 : _) : Families.Statement (.transformerStart x0 x1) := Nat.le_of_ble_eq_true rfl
theorem Families.fieldDieSync (x0 : _) (x1 : _) : Families.Statement (.fieldDieSync x0 x1) := Nat.le_of_ble_eq_true rfl
theorem Families.imageReadComplete (x0 : _) (x1 : _) : Families.Statement (.imageReadComplete x0 x1) := Nat.le_of_ble_eq_true rfl
theorem Families.firmwareReady (x0 : _) : Families.Statement (.firmwareReady x0) := Nat.le_of_ble_eq_true rfl
theorem Families.adminCommandStart (x0 : _) (x1 : _) : Families.Statement (.adminCommandStart x0 x1) := Nat.le_of_ble_eq_true rfl
theorem Families.masonWatchdogExpiry (x0 : _) : Families.Statement (.masonWatchdogExpiry x0) := Nat.le_of_ble_eq_true rfl
theorem Families.masonRestartComplete (x0 : _) (x1 : _) : Families.Statement (.masonRestartComplete x0 x1) := Nat.le_of_ble_eq_true rfl
theorem Families.masonLoadWindow (x0 : _) (x1 : _) : Families.Statement (.masonLoadWindow x0 x1) := Nat.le_of_ble_eq_true rfl
theorem Families.masonStatusPeriodic (x0 : _) : Families.Statement (.masonStatusPeriodic x0) := Nat.le_of_ble_eq_true rfl
theorem Families.throttleEnter (x0 : _) : Families.Statement (.throttleEnter x0) := Nat.le_of_ble_eq_true rfl
theorem Families.throttleExit (x0 : _) : Families.Statement (.throttleExit x0) := Nat.le_of_ble_eq_true rfl
theorem Families.hostWatchdogExpiry (x0 : _) : Families.Statement (.hostWatchdogExpiry x0) := Nat.le_of_ble_eq_true rfl
theorem Families.doorbellPoll (x0 : _) : Families.Statement (.doorbellPoll x0) := Nat.le_of_ble_eq_true rfl
theorem Families.pollComplete (x0 : _) (x1 : _) : Families.Statement (.pollComplete x0 x1) := Nat.le_of_ble_eq_true rfl
theorem Families.indexReadComplete (x0 : _) (x1 : _) (x2 : _) : Families.Statement (.indexReadComplete x0 x1 x2) := Nat.le_of_ble_eq_true rfl
theorem Families.descriptorFetch (x0 : _) (x1 : _) (x2 : _) : Families.Statement (.descriptorFetch x0 x1 x2) := Nat.le_of_ble_eq_true rfl
theorem Families.descriptorStaged (x0 : _) (x1 : _) (x2 : _) (x3 : _) (x4 : _) : Families.Statement (.descriptorStaged x0 x1 x2 x3 x4) := Nat.le_of_ble_eq_true rfl
theorem Families.hostReadFailure (x0 : _) (x1 : _) : Families.Statement (.hostReadFailure x0 x1) := Nat.le_of_ble_eq_true rfl
theorem Families.coalesceTimeout (x0 : _) (x1 : _) : Families.Statement (.coalesceTimeout x0 x1) := Nat.le_of_ble_eq_true rfl
theorem Families.recordFlushTimeout (x0 : _) (x1 : _) : Families.Statement (.recordFlushTimeout x0 x1) := Nat.le_of_ble_eq_true rfl
theorem Families.recordWrite (x0 : _) (x1 : _) : Families.Statement (.recordWrite x0 x1) := Nat.le_of_ble_eq_true rfl
theorem Families.downlinkFrame (x0 : _) (x1 : _) (x2 : _) (x3 : _) : Families.Statement (.downlinkFrame x0 x1 x2 x3) := Nat.le_of_ble_eq_true rfl
theorem Families.uplinkFrame (x0 : _) (x1 : _) (x2 : _) : Families.Statement (.uplinkFrame x0 x1 x2) := Nat.le_of_ble_eq_true rfl
theorem Families.fieldWatchdogExpiry (x0 : _) (x1 : _) : Families.Statement (.fieldWatchdogExpiry x0 x1) := Nat.le_of_ble_eq_true rfl
theorem Families.inputAccept (x0 : _) (x1 : _) (x2 : _) : Families.Statement (.inputAccept x0 x1 x2) := Nat.le_of_ble_eq_true rfl
theorem Families.edgeLockoutEnd (x0 : _) (x1 : _) (x2 : _) : Families.Statement (.edgeLockoutEnd x0 x1 x2) := Nat.le_of_ble_eq_true rfl
theorem Families.currentLimit (x0 : _) (x1 : _) : Families.Statement (.currentLimit x0 x1) := Nat.le_of_ble_eq_true rfl
theorem Families.shortLimit (x0 : _) (x1 : _) : Families.Statement (.shortLimit x0 x1) := Nat.le_of_ble_eq_true rfl
theorem Families.overload (x0 : _) (x1 : _) : Families.Statement (.overload x0 x1) := Nat.le_of_ble_eq_true rfl
theorem Families.thermOff (x0 : _) (x1 : _) : Families.Statement (.thermOff x0 x1) := Nat.le_of_ble_eq_true rfl
theorem Families.dieHot (x0 : _) (x1 : _) : Families.Statement (.dieHot x0 x1) := Nat.le_of_ble_eq_true rfl
theorem Families.dieHotClear (x0 : _) (x1 : _) : Families.Statement (.dieHotClear x0 x1) := Nat.le_of_ble_eq_true rfl
theorem Families.inrushWindowEnd (x0 : _) (x1 : _) : Families.Statement (.inrushWindowEnd x0 x1) := Nat.le_of_ble_eq_true rfl
theorem Families.reverse (x0 : _) (x1 : _) : Families.Statement (.reverse x0 x1) := Nat.le_of_ble_eq_true rfl
theorem Families.reverseClear (x0 : _) (x1 : _) : Families.Statement (.reverseClear x0 x1) := Nat.le_of_ble_eq_true rfl
theorem Families.retryWindowExpiry (x0 : _) (x1 : _) : Families.Statement (.retryWindowExpiry x0 x1) := Nat.le_of_ble_eq_true rfl
theorem Families.settleEnd (x0 : _) (x1 : _) (x2 : _) : Families.Statement (.settleEnd x0 x1 x2) := Nat.le_of_ble_eq_true rfl
theorem Families.readbackMismatchClear (x0 : _) (x1 : _) : Families.Statement (.readbackMismatchClear x0 x1) := Nat.le_of_ble_eq_true rfl
theorem Families.shortLplusClear (x0 : _) (x1 : _) : Families.Statement (.shortLplusClear x0 x1) := Nat.le_of_ble_eq_true rfl
theorem Families.openOff (x0 : _) (x1 : _) : Families.Statement (.openOff x0 x1) := Nat.le_of_ble_eq_true rfl
theorem Families.openOffClear (x0 : _) (x1 : _) : Families.Statement (.openOffClear x0 x1) := Nat.le_of_ble_eq_true rfl
theorem Families.openOn (x0 : _) (x1 : _) : Families.Statement (.openOn x0 x1) := Nat.le_of_ble_eq_true rfl
theorem Families.openOnClear (x0 : _) (x1 : _) : Families.Statement (.openOnClear x0 x1) := Nat.le_of_ble_eq_true rfl
theorem Families.openLoadResume (x0 : _) (x1 : _) : Families.Statement (.openLoadResume x0 x1) := Nat.le_of_ble_eq_true rfl
theorem Families.wireBreak (x0 : _) (x1 : _) : Families.Statement (.wireBreak x0 x1) := Nat.le_of_ble_eq_true rfl
theorem Families.wireBreakClear (x0 : _) (x1 : _) : Families.Statement (.wireBreakClear x0 x1) := Nat.le_of_ble_eq_true rfl
theorem Families.wireBreakResume (x0 : _) (x1 : _) : Families.Statement (.wireBreakResume x0 x1) := Nat.le_of_ble_eq_true rfl
theorem Families.lplusLow (x0 : _) (x1 : _) : Families.Statement (.lplusLow x0 x1) := Nat.le_of_ble_eq_true rfl
theorem Families.lplusNormal (x0 : _) (x1 : _) : Families.Statement (.lplusNormal x0 x1) := Nat.le_of_ble_eq_true rfl
theorem Families.lplusUnder (x0 : _) (x1 : _) : Families.Statement (.lplusUnder x0 x1) := Nat.le_of_ble_eq_true rfl
theorem Families.lplusUnderExit (x0 : _) (x1 : _) (x2 : _) : Families.Statement (.lplusUnderExit x0 x1 x2) := Nat.le_of_ble_eq_true rfl
theorem Families.lplusOver (x0 : _) (x1 : _) : Families.Statement (.lplusOver x0 x1) := Nat.le_of_ble_eq_true rfl
theorem Families.lplusOverExit (x0 : _) (x1 : _) (x2 : _) : Families.Statement (.lplusOverExit x0 x1 x2) := Nat.le_of_ble_eq_true rfl
theorem Families.testPulseStart (x0 : _) (x1 : _) : Families.Statement (.testPulseStart x0 x1) := Nat.le_of_ble_eq_true rfl
theorem Families.testPulseEnd (x0 : _) (x1 : _) (x2 : _) : Families.Statement (.testPulseEnd x0 x1 x2) := Nat.le_of_ble_eq_true rfl
theorem Families.switchOnAdmit (x0 : _) (x1 : _) : Families.Statement (.switchOnAdmit x0 x1) := Nat.le_of_ble_eq_true rfl
theorem Families.deferralLimit (x0 : _) (x1 : _) : Families.Statement (.deferralLimit x0 x1) := Nat.le_of_ble_eq_true rfl
theorem Families.pulseEdge (x0 : _) (x1 : _) : Families.Statement (.pulseEdge x0 x1) := Nat.le_of_ble_eq_true rfl
theorem Families.safePulseEdge (x0 : _) (x1 : _) : Families.Statement (.safePulseEdge x0 x1) := Nat.le_of_ble_eq_true rfl
theorem Families.safeSwitchOn (x0 : _) (x1 : _) : Families.Statement (.safeSwitchOn x0 x1) := Nat.le_of_ble_eq_true rfl
theorem Families.safeNLow (x0 : _) : Families.Statement (.safeNLow x0) := Nat.le_of_ble_eq_true rfl
theorem Families.safeNClear (x0 : _) : Families.Statement (.safeNClear x0) := Nat.le_of_ble_eq_true rfl
theorem Families.encoderEdge (x0 : _) (x1 : _) (x2 : _) : Families.Statement (.encoderEdge x0 x1 x2) := Nat.le_of_ble_eq_true rfl
theorem Families.referenceMark (x0 : _) : Families.Statement (.referenceMark x0) := Nat.le_of_ble_eq_true rfl
theorem Families.encStall (x0 : _) : Families.Statement (.encStall x0) := Nat.le_of_ble_eq_true rfl
theorem Families.coastTimeout (x0 : _) : Families.Statement (.coastTimeout x0) := Nat.le_of_ble_eq_true rfl
theorem Families.swapDone (x0 : _) : Families.Statement (.swapDone x0) := Nat.le_of_ble_eq_true rfl
theorem Families.courseRefill (x0 : _) (x1 : _) (x2 : _) (x3 : _) : Families.Statement (.courseRefill x0 x1 x2 x3) := Nat.le_of_ble_eq_true rfl
theorem Families.timerTrigger (x0 : _) (x1 : _) (x2 : _) : Families.Statement (.timerTrigger x0 x1 x2) := Nat.le_of_ble_eq_true rfl
theorem Families.conversionStart (x0 : _) (x1 : _) : Families.Statement (.conversionStart x0 x1) := Nat.le_of_ble_eq_true rfl
theorem Families.conversionResult (x0 : _) (x1 : _) (x2 : _) : Families.Statement (.conversionResult x0 x1 x2) := Nat.le_of_ble_eq_true rfl
theorem Families.calibrationStart (x0 : _) (x1 : _) : Families.Statement (.calibrationStart x0 x1) := Nat.le_of_ble_eq_true rfl
theorem Families.calibrationEnd (x0 : _) (x1 : _) (x2 : _) : Families.Statement (.calibrationEnd x0 x1 x2) := Nat.le_of_ble_eq_true rfl
theorem Families.filterBatchTimeout (x0 : _) (x1 : _) : Families.Statement (.filterBatchTimeout x0 x1) := Nat.le_of_ble_eq_true rfl
theorem Families.syncInEdge (x0 : _) (x1 : _) : Families.Statement (.syncInEdge x0 x1) := Nat.le_of_ble_eq_true rfl
theorem Families.scrubRequest (x0 : _) (x1 : _) (x2 : _) : Families.Statement (.scrubRequest x0 x1 x2) := Nat.le_of_ble_eq_true rfl
theorem Families.plumbPassDue (x0 : _) (x1 : _) : Families.Statement (.plumbPassDue x0 x1) := Nat.le_of_ble_eq_true rfl
theorem Families.plumbPassEnd (x0 : _) (x1 : _) (x2 : _) (x3 : _) : Families.Statement (.plumbPassEnd x0 x1 x2 x3) := Nat.le_of_ble_eq_true rfl
theorem Families.pairRoleDecision (x0 : _) : Families.Statement (.pairRoleDecision x0) := Nat.le_of_ble_eq_true rfl
theorem Families.heartbeatSend (x0 : _) : Families.Statement (.heartbeatSend x0) := Nat.le_of_ble_eq_true rfl
theorem Families.hbOutToggle (x0 : _) : Families.Statement (.hbOutToggle x0) := Nat.le_of_ble_eq_true rfl
theorem Families.heartbeat (x0 : _) (x1 : _) : Families.Statement (.heartbeat x0 x1) := Nat.le_of_ble_eq_true rfl
theorem Families.hbInEdge (x0 : _) : Families.Statement (.hbInEdge x0) := Nat.le_of_ble_eq_true rfl
theorem Families.pathLoss (x0 : _) (x1 : _) : Families.Statement (.pathLoss x0 x1) := Nat.le_of_ble_eq_true rfl
theorem Families.takeoverDrive (x0 : _) (x1 : _) : Families.Statement (.takeoverDrive x0 x1) := Nat.le_of_ble_eq_true rfl
theorem Families.hostResume (x0 : _) (x1 : _) (x2 : _) : Families.Statement (.hostResume x0 x1 x2) := Nat.le_of_ble_eq_true rfl
theorem Families.livenessGateFail (x0 : _) : Families.Statement (.livenessGateFail x0) := Nat.le_of_ble_eq_true rfl
theorem Families.actGntLow (x0 : _) : Families.Statement (.actGntLow x0) := Nat.le_of_ble_eq_true rfl
theorem Families.actGntHigh (x0 : _) : Families.Statement (.actGntHigh x0) := Nat.le_of_ble_eq_true rfl
theorem Families.releaseExpiry (x0 : _) : Families.Statement (.releaseExpiry x0) := Nat.le_of_ble_eq_true rfl
theorem Families.checkpointCapture (x0 : _) : Families.Statement (.checkpointCapture x0) := Nat.le_of_ble_eq_true rfl
theorem Families.yield (x0 : _) (x1 : _) : Families.Statement (.yield x0 x1) := Nat.le_of_ble_eq_true rfl
theorem Families.body (x0 : _) (x1 : _) (x2 : _) : Families.Statement (.body x0 x1 x2) := Nat.le_of_ble_eq_true rfl
theorem Families.delta (x0 : _) (x1 : _) (x2 : _) : Families.Statement (.delta x0 x1 x2) := Nat.le_of_ble_eq_true rfl
theorem Families.log (x0 : _) (x1 : _) : Families.Statement (.log x0 x1) := Nat.le_of_ble_eq_true rfl
theorem Families.commit (x0 : _) (x1 : _) : Families.Statement (.commit x0 x1) := Nat.le_of_ble_eq_true rfl
theorem Families.ack (x0 : _) (x1 : _) : Families.Statement (.ack x0 x1) := Nat.le_of_ble_eq_true rfl
theorem Families.resyncComplete (x0 : _) : Families.Statement (.resyncComplete x0) := Nat.le_of_ble_eq_true rfl
theorem Families.handoverDrained (x0 : _) : Families.Statement (.handoverDrained x0) := Nat.le_of_ble_eq_true rfl
theorem Families.spCollide (x0 : _) (x1 : _) : Families.Statement (.spCollide x0 x1) := Nat.le_of_ble_eq_true rfl
theorem Families.serialRetry (x0 : _) : Families.Statement (.serialRetry x0) := Nat.le_of_ble_eq_true rfl
theorem Families.xipRead (x0 : _) (x1 : _) (x2 : _) (x3 : _) : Families.Statement (.xipRead x0 x1 x2 x3) := Nat.le_of_ble_eq_true rfl
theorem Families.slaveSelectFall (x0 : _) : Families.Statement (.slaveSelectFall x0) := Nat.le_of_ble_eq_true rfl
theorem Families.slaveWord (x0 : _) (x1 : _) : Families.Statement (.slaveWord x0 x1) := Nat.le_of_ble_eq_true rfl
theorem Families.slaveSelectRise (x0 : _) (x1 : _) : Families.Statement (.slaveSelectRise x0 x1) := Nat.le_of_ble_eq_true rfl
theorem Families.sidebandRecordTimeout (x0 : _) : Families.Statement (.sidebandRecordTimeout x0) := Nat.le_of_ble_eq_true rfl
theorem Families.d0ToD3hot (x0 : _) : Families.Statement (.d0ToD3hot x0) := Nat.le_of_ble_eq_true rfl
theorem Families.linkReturnToL0 (x0 : _) : Families.Statement (.linkReturnToL0 x0) := Nat.le_of_ble_eq_true rfl
theorem Families.functionLevelResetComplete (x0 : _) : Families.Statement (.functionLevelResetComplete x0) := Nat.le_of_ble_eq_true rfl
theorem Families.commandDataReadComplete (x0 : _) (x1 : _) (x2 : _) (x3 : _) : Families.Statement (.commandDataReadComplete x0 x1 x2 x3) := Nat.le_of_ble_eq_true rfl
theorem Families.flashProgramEraseComplete (x0 : _) (x1 : _) : Families.Statement (.flashProgramEraseComplete x0 x1) := Nat.le_of_ble_eq_true rfl
theorem Families.plumbScanComplete (x0 : _) (x1 : _) (x2 : _) (x3 : _) : Families.Statement (.plumbScanComplete x0 x1 x2 x3) := Nat.le_of_ble_eq_true rfl
theorem Families.rngHealthTestFail (x0 : _) : Families.Statement (.rngHealthTestFail x0) := Nat.le_of_ble_eq_true rfl
theorem Families.rngHealthTestPass (x0 : _) : Families.Statement (.rngHealthTestPass x0) := Nat.le_of_ble_eq_true rfl
theorem Families.livenessGatePass (x0 : _) : Families.Statement (.livenessGatePass x0) := Nat.le_of_ble_eq_true rfl
theorem Families.currentLimitExit (x0 : _) (x1 : _) : Families.Statement (.currentLimitExit x0 x1) := Nat.le_of_ble_eq_true rfl
theorem Families.observerCap (x0 : _) : Families.Statement (.observerCap x0) := Nat.le_of_ble_eq_true rfl

end Sys2Proof.Laws
end

