-- ==== Sys2Proof/Laws/Run.lean ====
section
/-!
SUPPORT. When a queued command runs: the access check, the field check, and the two ways from a started descriptor to a
command's own effect (R435, R436, R465, R593, R641).
-/
namespace Sys2Proof.Machine
open Sys2Proof

/-! ## The lowest of a list of offenders -/

theorem lowestOffset_some (l : List Nat) (x : Nat) :
    (l.foldl (fun (b : Option Nat) x => match b with | some y => some (min x y) | none => some x) (some x)).isSome = true := by
  induction l generalizing x with
  | nil => rfl
  | cons a l ih => exact ih _

theorem lowestOffset_none (l : List Nat) :
    l.foldl (fun (b : Option Nat) x => match b with | some y => some (min x y) | none => some x) none = none ↔ l = [] := by
  cases l with
  | nil => simp
  | cons a l =>
    simp only [List.foldl_cons, reduceCtorEq, iff_false]
    intro h
    have := lowestOffset_some l a
    simp [h] at this

/-- No field of a descriptor fails: no reserved byte is set and no check holds (R9, R465, R469). -/
theorem firstBad_none (d : Desc) (p c : Bool) (used : List (Nat × Nat)) (checks : List (Bool × Nat)) :
    firstBad d p c used checks = none ↔ (reservedByte d p c used).isNone = true ∧ ∀ x ∈ checks, x.1 = false := by
  unfold firstBad
  dsimp only
  refine Iff.trans (lowestOffset_none _) ?_
  rw [List.append_eq_nil_iff, List.map_eq_nil_iff, List.filter_eq_nil_iff]
  cases reservedByte d p c used <;> simp

theorem lowestTarget_some (l : List (Nat × Nat)) (x : Nat × Nat) :
    (l.foldl (fun (b : Option (Nat × Nat)) p => match b with | some x => if p.1 < x.1 then some p else b | none => some p)
      (some x)).isSome = true := by
  induction l generalizing x with
  | nil => rfl
  | cons a l ih =>
    show (List.foldl _ (if a.1 < x.1 then some a else some x) l).isSome = true
    by_cases h : a.1 < x.1
    · rw [if_pos h]; exact ih _
    · rw [if_neg h]; exact ih _

/-- Nothing is denied exactly when every permission is there (R593). -/
theorem State.firstDenied_none (s : State) (m : Nat) (needs : List (Nat × Nat)) :
    s.firstDenied m needs = none ↔ s.permits m needs = true := by
  unfold State.firstDenied State.permits
  generalize hl : needs.filter (fun p => !s.allowed m p.1 p.2) = l
  have hn : l = [] ↔ (needs.all fun p => s.allowed m p.1 p.2) = true := by
    subst hl
    simp [List.filter_eq_nil_iff]
  rw [← hn]
  cases l with
  | nil => simp
  | cons a l =>
    refine iff_of_false (fun h => ?_) (by simp)
    have := lowestTarget_some l a
    simp only [List.foldl] at h this
    exact absurd (h ▸ this) (by simp)

/-- What a shaped descriptor is. -/
theorem shaped_iff (d : Desc) (op : Nat) (p c : Bool) (u : List (Nat × Nat)) :
    shaped d op p c u = true ↔ dOp d = op ∧ (reservedByte d p c u).isNone = true := by
  simp [shaped]

/-- FLAGS bit 4 is 0 in a good descriptor of a command that does not use it (R434). -/
theorem dCspec_of_reserved (d : Desc) (p : Bool) (u : List (Nat × Nat)) (h : (reservedByte d p false u).isNone = true) :
    dCspec d = false := by
  unfold reservedByte at h
  unfold dCspec
  by_contra hc
  rw [Bool.not_eq_false] at hc
  simp [hc] at h

/-! ## A command that starts -/

@[simp] theorem State.started_rows (s : State) (q : QueueId) (n : Word32) : (s.started q n).rows = s.rows := rfl
@[simp] theorem State.started_allowed (s : State) (q : QueueId) (n : Word32) (m t p : Nat) :
    (s.started q n).allowed m t p = s.allowed m t p := rfl
@[simp] theorem State.started_permits (s : State) (q : QueueId) (n : Word32) (m : Nat) (needs : List (Nat × Nat)) :
    (s.started q n).permits m needs = s.permits m needs := rfl
@[simp] theorem State.started_hctx (s : State) (q : QueueId) (n : Word32) : ((s.started q n).queue q).hctx = (s.queue q).hctx := by
  simp [State.started]
@[simp] theorem State.started_profile (s : State) (q : QueueId) (n : Word32) :
    ((s.started q n).queue q).profile = (s.queue q).profile := by
  simp [State.started]

/-- The effect of an admin command that Mason carries out, that is permitted and whose fields are good. -/
theorem State.adm_runs (s : State) (n : Word32) (d : Desc) (form : Desc → Bool) (needs : Desc → List (Nat × Nat))
    (bad : Desc → Option Nat) (body : Desc → State → State) (hr : s.admRuns n d = true) (hf : form d = true)
    (hp : s.permits 0 (needs d) = true) (hb : bad d = none) : s.adm n form needs bad body = body d s := by
  simp only [State.admRuns, Bool.and_eq_true, beq_iff_eq] at hr
  obtain ⟨⟨⟨h1, h2⟩, h3⟩, h4⟩ := hr
  unfold State.adm
  cases hfl : (s.queue 0).flight.find? fun e => e.num == n with
  | none => simp [hfl] at h3
  | some e =>
    simp only [hfl, Option.map_some, Option.some.injEq, Prod.mk.injEq] at h3
    obtain ⟨h5, h6⟩ := h3
    have h7 : (s.ops.any fun o => o.live && o.q == 0 && o.n == n) = false := by
      rw [List.any_eq_false]
      intro o ho
      have := List.all_eq_true.mp h4 o ho
      intro h
      simp only [Bool.and_eq_true, beq_iff_eq] at h
      simp [h.1.1, h.1.2, h.2] at this
    subst h5
    simp [h1, h2, h6, hf, h7, (s.firstDenied_none 0 (needs e.desc)).mpr hp, hb]

/-- The effect of an I/O command that starts, that is permitted and whose fields are good. -/
theorem State.io_runs (s : State) (q : QueueId) (n : Word32) (d : Desc) (form : Desc → Bool) (needs : Desc → List (Nat × Nat))
    (bad : Desc → Bool → Option Nat) (body : Desc → State → State) (hr : s.ioRuns q n d = true) (hf : form d = true)
    (hp : s.permits (s.queue q).hctx.val (needs d) = true) (hb : bad d (s.queue q).profile.isSome = none) :
    s.io q n form needs bad body = body d (s.started q n) := by
  simp only [State.ioRuns, Bool.and_eq_true, beq_iff_eq, bne_iff_ne, ne_eq] at hr
  unfold State.io
  have h1 : (s.started q n).firstDenied ((s.started q n).queue q).hctx.val (needs d) = none := by
    rw [State.firstDenied_none]; simpa using hp
  have h2 : (q == 0) = false := by simpa using hr.1
  simp only [hr.2, h2, hf, h1, Bool.not_true, Bool.or_self, Bool.false_eq_true, if_false]
  simp [hb]

/-- An admin command without a permission is denied (R593, R614). -/
theorem State.adm_denied (s : State) (n : Word32) (d : Desc) (form : Desc → Bool) (needs : Desc → List (Nat × Nat))
    (bad : Desc → Option Nat) (body : Desc → State → State) (t : Nat × Nat) (hr : s.admRuns n d = true) (hf : form d = true)
    (hp : s.firstDenied 0 (needs d) = some t) :
    s.adm n form needs bad body = (s.deny 0 t.1 t.2).finish 0 n .rejAccess t.1 := by
  simp only [State.admRuns, Bool.and_eq_true, beq_iff_eq] at hr
  obtain ⟨⟨⟨h1, h2⟩, h3⟩, h4⟩ := hr
  unfold State.adm
  cases hfl : (s.queue 0).flight.find? fun e => e.num == n with
  | none => simp [hfl] at h3
  | some e =>
    simp only [hfl, Option.map_some, Option.some.injEq, Prod.mk.injEq] at h3
    obtain ⟨h5, h6⟩ := h3
    have h7 : (s.ops.any fun o => o.live && o.q == 0 && o.n == n) = false := by
      rw [List.any_eq_false]
      intro o ho
      have := List.all_eq_true.mp h4 o ho
      intro h
      simp only [Bool.and_eq_true, beq_iff_eq] at h
      simp [h.1.1, h.1.2, h.2] at this
    subst h5
    simp [h1, h2, h6, hf, h7, hp]

/-- A queued command without a permission is denied (R593, R614). -/
theorem State.io_denied (s : State) (q : QueueId) (n : Word32) (d : Desc) (form : Desc → Bool) (needs : Desc → List (Nat × Nat))
    (bad : Desc → Bool → Option Nat) (body : Desc → State → State) (t : Nat × Nat) (hr : s.ioRuns q n d = true)
    (hf : form d = true) (hp : s.firstDenied (s.queue q).hctx.val (needs d) = some t) :
    s.io q n form needs bad body =
      ((s.started q n).deny (s.queue q).hctx.val t.1 t.2).finish q n .rejAccess t.1 := by
  simp only [State.ioRuns, Bool.and_eq_true, beq_iff_eq, bne_iff_ne, ne_eq] at hr
  unfold State.io
  have h1 : (s.started q n).firstDenied ((s.started q n).queue q).hctx.val (needs d) = some t := by
    rw [State.started_hctx]; exact hp
  have h2 : (q == 0) = false := by simpa using hr.1
  simp only [hr.2, h2, hf, h1, Bool.not_true, Bool.or_self, Bool.false_eq_true, if_false]
  simp

end Sys2Proof.Machine
end

