-- ==== Sys2Proof/Tests/Slice0.lean ====
section
/-!
SUPPORT. Tests: what Instr.wellFormed refuses, small examples worked out from the spec, and for every statement of
Certificates/Slice0/Obligations.lean a state and operands that meet its hypotheses, clause by clause.
-/
namespace Sys2Proof.Tests
set_option Elab.async false
open Sys2Proof Sys2Proof.Machine

/-! ## Small states and descriptors -/

/-- A descriptor whose number at each byte offset is given. -/
def desc (fs : List (Nat × Nat)) : Desc := fs.foldl (fun d p => d ||| BitVec.ofNat 512 (p.2 * 2 ^ (8 * p.1))) 0
/-- Descriptor 0 of a queue. -/
def item (d : Desc) (st : FlightStage) : Inflight := { num := 0, desc := d, stage := st, logged := true, aresync := false, rdrop := false, ford := 0 }
/-- Bus Master Enable is set and Mason's firmware is ready. -/
def ready : State := ((State.reset.modHost fun h => { h with bme := true }).modMason fun m => { m with stage := 6 })
/-- Mason carries out admin descriptor 0. -/
def adm (d : Desc) (s : State := ready) : State :=
  (s.modMason fun m => { m with busy := some 0 }).modQueue 0 fun _ => { Reset.queue with st := .active, flight := [item d .started] }
/-- Descriptor 0 of queue 1 may start. -/
def io (d : Desc) (s : State := ready) : State :=
  s.modQueue 1 fun _ => { Reset.queue with st := .active, flight := [item d .staged], ccnt := 4 }
/-- Every field die runs and is synchronised. -/
def field (s : State := ready) : State :=
  { s with quads := s.quads.map fun x => { x with started := some 0, sync := true, lastGood := some 0 } }
/-- Channel 2 is an output that HOST owns. -/
def out2 (f : Chan → Chan := id) (s : State := field) : State := s.modChan 2 fun x => f { x with chw := 0x000000C80BB80002 }
/-- A unit of a pair, in state st, with both paths present. -/
def paired (st : PState) (s : State := ready) : State :=
  ({ s with straps := 0b10010 }).modPair fun p => { p with st := st, zaf := { p.zaf with present := true, ever := true }, hb := { p.hb with present := true, ever := true } }

/-- Mason carries out d with the access that it needs. -/
def admOk (d : Desc) (needs : List (Nat × Nat)) (s : State := ready) : Bool := (adm d s).admRuns 0 d && (adm d s).permits 0 needs
/-- The I/O command d may start, with the access that it needs. -/
def ioOk (d : Desc) (needs : List (Nat × Nat)) (s : State := ready) : Bool := (io d s).ioRuns 1 0 d && (io d s).permits 0 needs

/-! ## Operands that no rule describes are not well-formed (WellFormed.lean) -/

theorem test_wf_fetch : (Instr.descriptorFetch 0 1 9).wellFormed = false := by decide
theorem test_wf_register : (Instr.registerWrite 0 0x1002 4 0).wellFormed = false := by decide
theorem test_wf_load : (Instr.masonLoadWindow 0 101).wellFormed = false := by decide
theorem test_wf_heartbeat : (Instr.heartbeat 0 [0]).wellFormed = false := by decide
theorem test_wf_body : (Instr.body 0 0 []).wellFormed = false := by decide
theorem test_wf_delta : (Instr.delta 0 0 []).wellFormed = false := by decide
theorem test_wf_commit : (Instr.commit 0 [0]).wellFormed = false := by decide
theorem test_wf_xip : (Instr.xipRead 0 0 [] []).wellFormed = false := by decide
theorem test_wf_select : (Instr.slaveSelectRise 0 32).wellFormed = false := by decide
theorem test_wf_good : (Instr.descriptorFetch 0 1 8).wellFormed = true := by decide

/-! ## Statements about every state and command -/

theorem test_elapse : ∀ s : State, s = s.elapse 0 := fun _ => rfl
theorem test_StepRunsFront : ∃ c s, step { State.reset with pending := [c] } = .next s ∧ c = .strapChange 0 0b10000 := ⟨_, _, rfl, rfl⟩
theorem test_QueueAndTime : ∃ t, State.reset.pending = [] ∧ step { State.reset with pending := [.strapChange 3 0] } = .next t ∧
    t.clock = 24 := ⟨_, rfl, rfl, rfl⟩
theorem test_StepKeepsInv : State.reset.Inv ∧ ∃ t, step State.reset = .next t := ⟨⟨rfl, Nat.le_refl _⟩, _, rfl⟩
theorem test_TablesLocked : ∃ t, step { State.reset with locked := true, pending := [.strapChange 0 0] } = .next t ∧
    (Instr.strapChange 0 0).starts = false ∧ (Instr.yield 0 1).rescues = true ∧ State.reset.pair.st = .single ∧
    State.reset.inPair = false := ⟨_, rfl, rfl, rfl, rfl, rfl⟩
theorem test_FamilyFrames : (Instr.identify 0 0).hostSide = true ∧ (Instr.dieHot 0 ⟨0, 150⟩).fieldEvent = true ∧
    (Instr.slaveWord 0 0).portEvent = true ∧ ∃ t, exec (.identify 0 0) State.reset = .next t := ⟨rfl, rfl, rfl, _, rfl⟩

/-! ## Admin commands -/

theorem test_QueueCommands_create : let d := desc [(0, 2), (4, 63), (5, 3), (6, 1), (7, 63), (8, 16), (9, 4), (11, 0x87), (12, 7)]
    (adm d).admRuns 0 d = true ∧ (adm d).permits 0 [(1, 4)] = true ∧ shaped d 2 false false [(4, 9), (14, 2), (16, 16)] = true ∧
    dNum d 4 1 = 63 ∧ dNum d 5 1 = 3 ∧ dNum d 6 1 = 1 ∧ dNum d 8 1 = 16 ∧ dNum d 9 1 = 4 ∧ dNum d 11 1 = 0x87 ∧ dNum d 12 1 = 7 ∧
    dNum d 16 1 % 64 = 0 ∧ dNum d 24 1 % 64 = 0 ∧ ((adm d).queue (dQueue d)).st = .absent ∧
    (∀ x, createProfile d = some x → plPoly (adm d).plumb[x].word = 3) ∧
    (((adm d).modQueue 63 fun u => { u with st := .active }).queue (dQueue d)).st ≠ .absent ∧
    createProfile d = some 7 ∧ plPoly ((adm d).modPlumb 7 fun c => { c with word := 0 }).plumb[(7 : CtxId)].word ≠ 3 := by decide +kernel
theorem test_QueueCommands_others : let a := desc [(0, 4), (4, 1)]; let b := desc [(0, 4), (1, 16), (4, 1)]; let c := desc [(0, 3), (4, 1)]
    (shaped a 4 false false [(4, 1)] = true ∧ (adm a).admRuns 0 a = true ∧ dNum a 4 1 = 1 ∧ dNum (desc [(0, 4)]) 4 1 = 0 ∧
      shaped (desc [(0, 4), (4, 64)]) 4 false false [(4, 1)] = true ∧ 63 < dNum (desc [(0, 3), (4, 64)]) 4 1) ∧
    ((adm a).ops = [] ∧ ((adm a).queue (dQueue a)).bufs = [] ∧ ((adm a).queue (dQueue a)).flight = [] ∧
      (let s := (adm a).modQueue 1 fun u => { u with st := .active, flight := [item 0 .started] }
       (s.queue (dQueue a)).flight ≠ [] ∧ (∀ e ∈ (s.queue (dQueue a)).flight, e.stage ≠ .staged) ∧ (s.queue (dQueue a)).st = .active)) ∧
    (shaped b 4 false true [(4, 1)] = true ∧ dCspec b = true ∧ (adm b).admRuns 0 b = true) ∧
    (shaped c 3 false false [(4, 1)] = true ∧ (adm c).admRuns 0 c = true ∧ ((adm c).queue (dQueue c)).st = .absent ∧
      ∀ st ∈ [QState.active, .quiesced, .error], (((adm c).modQueue 1 fun u => { u with st := st }).queue (dQueue c)).st = st) := by decide +kernel

theorem test_AdminQueriesAndLocks : let log := desc [(0, 7), (24, 32)]; let one := desc [(0, 0xB), (16, 8)]
    let all := desc [(0, 0xB), (4, 0xFF), (16, 176)]; let s := ready.modMason fun m => { m with log := [(0, 0, 0, 0)] }
    (admOk (desc [(0, 1)]) [] = true ∧ shaped (desc [(0, 1)]) 1 false false [] = true) ∧
    (admOk log [(0x14, 1)] s = true ∧ shaped log 7 false false [(4, 1), (8, 4), (16, 8), (24, 4)] = true ∧ dNum log 24 4 = 32 ∧
      dNum log 8 4 < (adm log s).mason.log.length) ∧
    (admOk one [(2, 4)] = true ∧ shaped one 0xB false false [(4, 1), (8, 8), (16, 4)] = true ∧ dNum one 4 1 ∈ targets ∧ dNum one 16 4 = 8) ∧
    (admOk all [(2, 4)] = true ∧ shaped all 0xB false false [(4, 1), (8, 8), (16, 4)] = true ∧ dNum all 4 1 = 0xFF ∧ dNum all 16 4 = 176) ∧
    (admOk (desc [(0, 0xC)]) [(2, 4)] = true ∧ shaped (desc [(0, 0xC)]) 0xC false false [] = true) ∧
    (admOk (desc [(0, 0xE)]) [(0x20, 4)] (paired .active) = true ∧ shaped (desc [(0, 0xE)]) 0xE false false [] = true ∧
      (paired .active).pair.st = .active ∧ (paired .active).pair.zaf.present = true) := by decide +kernel
/-- Feature word w for feature f and selector k. -/
def fset (f k w : Nat) : Desc := desc [(0, 5), (4, f), (6, k), (8, w)]
/-- The FEATURE_SET runs and names its feature. -/
def fsetOk (f k w : Nat) (s : State := ready) : Bool :=
  admOk (fset f k w) [(0, 2)] s && setsFeature (fset f k w) f && selOf (fset f k w) == k && d64 (fset f k w) 8 == BitVec.ofNat 64 w
theorem test_FeatureSets : fsetOk 1 0 1 = true ∧ fsetOk 3 3 1 = true ∧ fsetOk 3 0xFFFF 0 = true ∧ fsetOk 4 0 31 = true ∧
    fsetOk 5 0 100 = true ∧ fsetOk 5 0xFFFF 10000000 = true ∧ fsetOk 6 0 0b1010 = true ∧ fsetOk 7 0 10 = true ∧ fsetOk 7 0 100000 = true ∧
    fsetOk 8 0 0x400A = true ∧ fsetOk 8 0 0x3F01 = true ∧ fsetOk 0xA 0 0xFF1F = true ∧
    (fsetOk 0x20 0 Reset.pairw.toNat (paired .standby) = true ∧ ptBad Reset.pairw = false ∧ (paired .standby).inPair = true) ∧
    (fsetOk 0x20 0 Reset.pairw.toNat (paired .active) = true ∧ (paired .active).journals = true) ∧ ready.inPair = false ∧
    (fsetOk 0x28 7 (Reset.plumbw 7).toNat = true ∧ plBad (Reset.plumbw 7) = false ∧
      (adm (fset 0x28 7 (Reset.plumbw 7).toNat)).plumbInUse 7 (Reset.plumbw 7) = false) ∧
    (fsetOk 0x30 0 Reset.serialw.toNat = true ∧ spBad Reset.serialw = false ∧ ready.serial.scs = true ∧ ready.serial.tx = []) := by
  decide +kernel
theorem test_FeatureGets : let g (f k : Nat) : Desc := desc [(0, 6), (4, f), (6, k)]; let big (f k : Nat) : Desc := desc [(0, 6), (4, f), (6, k), (24, 0x10000)]
    (∀ p ∈ [(3, 3), (4, 0), (5, 3), (6, 0), (7, 0), (8, 10), (9, 0), (0xA, 0), (0x20, 0), (0x28, 7), (0x30, 0)],
      admOk (g p.1 p.2) [(0, 1)] = true ∧ shaped (g p.1 p.2) 6 false false [(4, 4)] = true ∧ dNum (g p.1 p.2) 4 2 = p.1 ∧
      selOf (g p.1 p.2) = p.2) ∧
    (∀ p ∈ [(0x10, 127), (0x11, 0), (0x12, 0), (0x16, 0), (0x17, 63), (0x21, 0)], admOk (big p.1 p.2) [(0, 1)] = true ∧
      shaped (big p.1 p.2) 6 false false [(4, 4), (16, 12)] = true ∧ dNum (big p.1 p.2) 4 2 = p.1 ∧ selOf (big p.1 p.2) = p.2) := by
  decide +kernel
theorem test_QuadrantResetAndLayout : fsetOk 2 3 1 = true ∧ (List.finRange 4).filter (selNames (fset 2 3 1)) = [3] ∧
    fsetOk 2 0xFFFF 1 = true ∧ fsetOk 9 0 0x804010 = true ∧ laBad 0x804010 = false ∧
    ∀ q : QueueId, q ≠ 0 → ((adm (fset 9 0 0x804010)).queue q).st = .absent := by decide +kernel
theorem test_FirmwareCommands : let load := desc [(0, 8), (4, 448 * 1024 - 1), (16, 1)]; let act (a : Nat) := desc [(0, 9), (4, a)]
    let at_ := desc [(0, 0xA), (48, 65536)]
    (admOk load [(0x40, 2)] = true ∧ shaped load 8 false false [(4, 4), (8, 8), (16, 4)] = true ∧
      dNum load 4 4 + dNum load 16 4 = 448 * 1024 ∧ dNum load 16 4 = 1) ∧
    (∀ a ∈ [1, 2, 3, 4, 5], admOk (act a) [(0x40, 4)] = true ∧ shaped (act a) 9 false false [(4, 1)] = true ∧ dNum (act a) 4 1 = a) ∧
    ready.mason.stage ≠ 4 ∧ (ready.romWait 0).mason.stage = 4 ∧
    (imFault (if ready.mason.stagedOk then ready.mason.staged else []) ready.mason.arcc ≠ 0) ∧
    (admOk at_ [(2, 1)] = true ∧ shaped at_ 0xA false false [(4, 48)] = true ∧ (adm at_).mason.rngOk = true ∧ dNum at_ 48 4 = 65536) := by
  decide +kernel
/-- The least image with a good header: whether it passes R576 rests on the opaque functions of log entry 9 alone. -/
def leastImage : List Byte :=
  leBytes 4 0x4E5A4F4B ++ leBytes 2 2 ++ leBytes 1 0xB1 ++ leBytes 1 128 ++ leBytes 4 0 ++ leBytes 4 256 ++ leBytes 4 1 ++
    List.replicate 493 0
theorem test_leastImage : imHeaderBad leastImage = false ∧ imSize leastImage = 513 ∧ leastImage.length = 513 ∧
    ¬ fieldAt leastImage 7 1 < 128 := by decide +kernel
set_option exponentiation.threshold 400 in
theorem test_FirmwareCommands_image (h1 : Config.certOk (slice leastImage 256 (imCert leastImage)) = true)
    (h2 : Config.sha384 (slice leastImage (256 + imCert leastImage) (imBody leastImage)) = BitVec.ofNat 384 (fieldAt leastImage 32 48))
    (h3 : Config.sigOk (slice leastImage 0 160) (slice leastImage 160 96) (slice leastImage 256 (imCert leastImage)) = true) :
    imFault leastImage 128 = 0 := by
  have t := test_leastImage
  unfold imFault imHeadFault imCertFault imBodyFault
  simp only [t.1, t.2.1, t.2.2.2, h1, h2, h3]
  decide
theorem test_UnknownOpcodes : admOk (desc [(0, 0xF)]) [] = true ∧ admOk (desc [(0, 5), (4, 2 ^ 16 - 1)]) [] = true ∧
    settable (dNum (desc [(0, 5), (4, 2 ^ 16 - 1)]) 4 2) = false ∧ admOk (desc [(0, 9), (4, 6)]) [] = true ∧
    dNum (desc [(0, 9), (4, 6)]) 4 1 = 6 ∧ ioOk (desc [(0, 0xFF)]) [] = true ∧ isIoOp (dOp (desc [(0, 0xFF)])) = false := by decide +kernel

/-! ## Start, power and host registers -/

/-- ready in firmware stage k. -/
def stageAt (k : BitVec 4) : State := ready.modMason fun m => { m with stage := k }
/-- ready with serial parts as after power-on and strap word w. -/
def strapped (w : BitVec 5) : State := { ready with straps := w }
theorem test_MasonStarts :
    ((stageAt 1).up = true ∧ (strapped 0b01000).bootsrc = 1 ∧ (strapped 0b10000).bootsrc = 2 ∧ (stageAt 1).mason.stage.toNat ≤ 1 ∧
      (stageAt 2).pair.st = .single ∧ (stageAt 2).serial.aborted = false ∧ (stageAt 2).mason.reading = []) ∧
    (let h := leastImage.take 256
     h.length = 256 ∧ imHeadFault h ((stageAt 2).modMason fun m => { m with arcc := 128 }).mason.arcc = 0 ∧ imHeadFault (List.replicate 256 0) 0 = 2 ∧ imHeadFault h 129 = 5 ∧
     imCert h = 256 ∧ imBody h = 1 ∧ imCert leastImage = 256 ∧ imBody leastImage = 1) ∧
    ((stageAt 5).mason.stage = 5 ∧ (stageAt 5).mason.restarting = false) ∧ ready.mason.stage = 6 ∧ (stageAt 3).mason.stage = 3 ∧
    ((stageAt 5).modMason fun m => { m with restarting := true }).mason.restarting = true ∧
    (ready.modQueue 0 fun _ => { Reset.queue with st := .active, flight := [item (desc [(0, 1)]) .staged] }).startable 0 0 =
      some (desc [(0, 1)]) ∧ ready.mason.busy = none := by decide +kernel

/-- ready with load shedding at step k, h windows high and l windows low so far, at device time t. -/
def shedAt (k : Fin 5) (h l t : Nat) : State := { ready with clock := t }.modMason fun m => { m with shed := k, highRun := h, lowRun := l }
theorem test_MasonWatches :
    (ready.up = true ∧ ready.mason.stage = 6) ∧ ((shedAt 0 8 0 0).mason.highRun + 1 < 10 ∧ (shedAt 0 0 98 0).mason.lowRun + 1 < 100) ∧
    (∀ k : Fin 4, 10 ≤ (shedAt k.castSucc 9 0 10000000).mason.highRun + 1 ∧ (shedAt k.castSucc 9 0 10000000).mason.shed = k.castSucc ∧
      (shedAt k.castSucc 9 0 10000000).mason.shedAt + 10000000 ≤ (shedAt k.castSucc 9 0 10000000).now) ∧
    (∀ k : Fin 4, 100 ≤ (shedAt k.succ 0 99 100000000).mason.lowRun + 1 ∧
      (shedAt k.succ 0 99 100000000).mason.restoreAt + 100000000 ≤ (shedAt k.succ 0 99 100000000).now) ∧
    ((shedAt 1 0 0 1000000000).mason.shed ≠ 0 ∧ (shedAt 1 0 0 1000000000).mason.statusAt + 1000000000 ≤ (shedAt 1 0 0 1000000000).now) ∧
    (ready.mason.shed.val < 2 ∧ (0 : BitVec 5) ≠ ready.strapsNow) ∧ (stageAt 5).mason.stage ≠ 6 ∧ ready.throttled = false ∧
    { ready with throttled := true }.throttled = true ∧ ready.serial.aborted = false ∧
    (∀ op ∈ [FlashOp.load, .install, .activate], (ready.modMason fun m => { m with flashOp := some (op, 0) }).mason.flashOp = some (op, 0)) ∧
    ready.bootsrc ≠ 1 := by decide +kernel
/-- Pins that the chip samples at its start. -/
def pins (w : BitVec 5) : StartPins := { straps := w, peerPresN := true, viso := true }
theorem test_PowerOnResetAndWake :
    (Rail.vio ≠ .vaon ∧ { ready with dormant := true }.dormant = true) ∧ (ready.clk25 = true ∧ ready.dormant = false ∧ ready.por = false) ∧
    ({ ready with dormantReq := true }.up = true ∧ { ready with dormantReq := true }.dormantReq = true) ∧
    ({ ready with por := true }.por = true ∧ { ready with por := true }.clk25 = true) ∧
    ({ ready with dormant := true }.dormant = true ∧ { ready with dormant := true }.clk25 = true) ∧
    ({ ready with clk25 := false, por := true }.clk25 = false ∧ { ready with clk25 := false, por := true }.rails = 0xF) := by decide +kernel
theorem test_SupplyAndDieStart :
    (ready.up = true ∧ ready.viso = true ∧ ready.pair.st ≠ .active) ∧ ((paired .active).viso = true ∧ (paired .active).pair.st = .active) ∧
    { ready with viso := false }.viso = false ∧
    ((ready.quad 0).started = none ∧ (∀ p : QuadId, p.val + 1 ≠ (0 : QuadId).val)) ∧
    (let s := (({ ready with clock := 1000000 } : State).modQuad 0 fun x => { x with started := some 0 }).modQuad 2 fun x => { x with started := some 0 }
     (∀ q : QuadId, (q = 1 ∨ q = 3) → (s.quad q).started = none ∧ ∀ p : QuadId, p.val + 1 = q.val →
      (s.quad p).started = some 0 ∧ 0 + 1000000 ≤ s.now)) ∧
    (∀ p : QuadId, (field.quad p).sync = true) ∧
    (let s := ready.modQuad 3 fun x => { x with started := some 0 }
     s.sendsFrames = true ∧ (s.quad 3).started.isSome = true ∧ (s.quad 3).sync = false ∧ (s.quad 3).stale = false) := by decide +kernel
/-- ready with admin queue registers of log-2 sizes n. -/
def aq (n : Nat) : State := ready.modHost fun h => { h with aqSize := BitVec.ofNat 32 (256 * n + n), dbBase := 1024, aqSq := 64, aqCq := 64 }
theorem test_HostControlWrites :
    (∀ n ∈ [3, 4, 16, 17], (aq n).hostUp = true ∧ (aq n).holdsRole = true ∧ (aq n).permits 0 [(1, 2)] = true ∧ ((aq n).queue 0).st = .absent) ∧
    ((adm 0).queue 0).st = .active ∧ ready.host.wdLock = false ∧
    (ready.modHost fun h => { h with wdLock := true }).host.wdLock = true ∧
    (∀ v : VecId, ready.msix[v].pend = false) ∧
    (let s : State := { ready with host := { ready.host with msixEn := true }, msix := .replicate 68 { addr := 0, data := 0, mask := true, pend := true } }
     ∀ v : VecId, s.msix[v].pend = true ∧ s.host.msixEn = true) := by decide +kernel
theorem test_RegisterReadsAndWrites :
    (ready.hostUp = true ∧ ready.permits 0 [(0, 1)] = true ∧ ready.permits 0 [(2, 1)] = true ∧ ready.permits 0 [(3, 1)] = true ∧
      ready.host.dbgWen = false) ∧
    (let s := ready.modHost fun h => { h with dbgWen := true, dbgAddr := 0x7FF80 }
     s.host.dbgWen = true ∧ s.permits 13 [(s.vaultTarget s.host.dbgAddr.toNat, 1)] = true ∧ (s.vaultWord s.host.dbgAddr.toNat).isSome = true) ∧
    ({ ready with rows := .replicate 22 0 }.permits 0 [(0, 1)] = false ∧ { ready with rows := .replicate 22 0 }.permits 0 [(1, 2)] = false) ∧
    (ready.holdsRole = true ∧ ready.permits 0 [(1, 2)] = true ∧ ready.permits 0 [(3, 2)] = true ∧ ready.permits 0 [(2, 2)] = true) ∧
    bit (0x80000000 : Word32) 31 = true ∧ (paired .standby).holdsRole = false ∧ (0x1000 ≤ 0x1FFE ∧ 0x1FFE < 0x2000 ∧ 0x1FFE % 2 = 0) ∧
    0x100000 ≤ 0x100000 := by decide +kernel

/-! ## The host interface -/

/-- Queue 1 is ACTIVE with one descriptor in stage st; descriptors 1 to 8 can be fetched. -/
def q1 (d : Desc) (st : FlightStage) (f : Queue → Queue := id) (s : State := ready) : State :=
  s.modQueue 1 fun _ => f { Reset.queue with
    st := .active, cls := 1, weight := 8, sqlog := 4, cqlog := 4, ccnt := 4, f := 1, sqp := 9, flight := [item d st] }
theorem test_LinkAndResets : (ready.up = true ∧ ready.hostUp = true) ∧
    (ready.host.perst = false ∧ (ready.modHost fun h => { h with d3hot := true }).hostUp = true ∧
      (ready.modHost fun h => { h with d3hot := true }).host.d3hot = true) ∧
    ((ready.modHost fun h => { h with flr := true }).up = true ∧ (ready.modHost fun h => { h with flr := true }).host.flr = true) ∧
    ((ready.modHost fun h => { h with perst := true }).up = true ∧ (ready.modHost fun h => { h with perst := true }).host.perst = true) ∧
    ready.host.d3hot = false ∧ 2 ≤ (ready.modHost fun h => { h with link := 2 }).host.link.val := by decide +kernel
theorem test_PollingAndFetching :
    (let s := q1 0 .staged
     s.hostUp = true ∧ s.pollRuns = true ∧ s.host.pollOut = false ∧ s.host.polledOnce = false ∧
     (∀ q : QueueId, (s.queue q).st = .absent ∨ (s.queue q).cqc = (s.queue q).w)) ∧
    (let s := ({ q1 0 .staged with clock := 2000 } : State).modHost fun h => { h with polledOnce := true }
     s.host.polledOnce = true ∧ s.host.pollAt ≤ s.now) ∧
    (let s := (q1 0 .staged).modHost fun h => { h with pollOut := true }
     s.host.pollOut = true ∧ 0 = s.host.gen ∧ s.pair.firstPoll = false ∧ 1 ≠ s.host.gen) ∧
    (let s := (q1 0 .staged).modHost fun h => { h with indexOut := true }
     s.host.indexOut = true ∧ ∀ q : QueueId, (s.queue q).st ≠ .absent → ((Vector.replicate 64 (17 : Word32))[q] - (s.queue q).f).toNat ≤ 2 ^ (s.queue q).sqlog ∧
       ((s.queue q).w - (Vector.replicate 64 (0 : Word32))[q]).toNat ≤ 2 ^ (s.queue q).cqlog) ∧
    (let s := q1 0 .staged
     s.journals = false ∧ s.pair.handover = none ∧ s.pair.handedOver = false ∧ s.mayFetch 1 8 = true ∧
     (∀ p : QueueId, (s.queue p).cls.val < (s.queue 1).cls.val → s.mayFetch p 1 = false) ∧ s.turnOf (s.queue 1).cls = some 1 ∧
     8 ≤ (s.queue 1).turnLeft ∧ (s.queue 1).f.toNat % 2 ^ (s.queue 1).sqlog + 8 ≤ 2 ^ (s.queue 1).sqlog) := by decide +kernel
/-- A descriptor with its ALIVE a and a good CHECK. -/
def checked (a : Nat) : Desc := let d := desc [(0, 0x40), (56, a)]; d ||| desc [(60, (crc32c (dBytes60 d)).toNat)]
/-- Profile context 7 counts ALIVE in 8 bits. -/
def wide : State := { ready with plumb := ready.plumb.set 7 { ready.plumb[7] with word := Reset.plumbw 7 ||| 0x10 } }
theorem test_StagingDescriptors :
    (let s := q1 0 .fetching
     s.hostUp = true ∧ (s.queue 1).flight.find? (fun x => x.num == 0) = some (item 0 .fetching) ∧ (item 0 .fetching).stage = .fetching ∧
     (s.queue 1).ahead 0 = [] ∧ (s.queue 1).profile = none ∧ (s.queue 1).st ≠ .draining ∧ s.mason.shed ≠ 4) ∧
    ((q1 0 .fetching fun u => { u with st := .draining }).queue 1).st = .draining ∧
    (let s := q1 0 .fetching (fun u => { u with profile := some 7 }) wide
     (s.queue 1).profile = some 7 ∧ plWidth s.plumb[(7 : CtxId)].word = 8 ∧ plStep s.plumb[(7 : CtxId)].word = 1 ∧ (s.queue 1).alive.toNat = 0 ∧
     dCheck 0 ≠ crc32c (dBytes60 0) ∧ (∀ a ∈ [0, 1, 2, 255, 256], dCheck (checked a) = crc32c (dBytes60 (checked a)) ∧ (dAlive (checked a)).toNat = a)) ∧
    ((q1 0 .fetching fun u => { u with profile := some 7, resync := true }).queue 1).resync = true := by decide +kernel
theorem test_RecordsAndBuffers :
    (let s := { q1 0 .started (fun u => { u with ctime := 1, oldest := some 0 }) with clock := 1000 }
     s.hostUp = true ∧ (s.queue 1).ctime ≠ 0 ∧ (s.queue 1).oldest = some 0 ∧ 0 + (s.queue 1).ctime * 1000 ≤ s.now) ∧
    (let s := { q1 0 .started (fun u => { u with bufs := [{ num := 0, addr := 0, len := 4096, used := 24, firstAt := some 0 }] }) with clock := 1000000 }
     (s.queue 1).bufs = [{ num := 0, addr := 0, len := 4096, used := 24, firstAt := some 0 }] ∧ 0 + s.flush * 1000 ≤ s.now) ∧
    (let r : Record := .inputEdge 2 0 0 0 0 0
     let s := { q1 0 .started (fun u => { u with bufs := [{ num := 0, addr := 0, len := 24, used := 0, firstAt := none }] }) with staging := [(r, none)] }
     s.holdsRole = true ∧ s.host.bme = true ∧ s.host.d3hot = false ∧ s.staging = [] ++ (r, none) :: [] ∧ s.destOf r = some 1 ∧
     (s.queue 1).bufs = [{ num := 0, addr := 0, len := 24, used := 0, firstAt := none }] ∧ 0 + r.len ≤ 24 ∧
     s.route r ≠ 0x40 ∧ ({ s with routes := .replicate 10 0x40 } : State).route r = 0x40 ∧
     (s.staging.map fun x => x.1.len).sum + (if s.serial.openRec = [] then 0 else (16 + 4 * s.serial.openRec.length + 7) / 8 * 8) = 24 ∧
     24 + r.len ≤ 65536 * laRstg s.vault.layout) ∧
    (let s := { ready with vault := { ready.vault with layout := 0 }, serial := { ready.serial with openRec := [0] } }
     (if s.serial.openRec = [] then 0 else (16 + 4 * s.serial.openRec.length + 7) / 8 * 8) = 24 ∧ 65536 * laRstg s.vault.layout < 24 + 24) := by decide +kernel
/-- Two staged records and a buffer of 4,096 bytes on queue 1, of which used are filled; rt routes INPUT_EDGE and ACC. -/
def twoRecords (used : Nat) (rt : Byte × Byte) : State :=
  let r : Record := .inputEdge 2 0 0 0 0 0
  { q1 0 .started (fun u => { u with bufs := [{ num := 0, addr := 0, len := 4096, used, firstAt := some 0 }] }) with
    staging := [(.sideband 0 0 0 [], none), (r, none)]
    routes := #v[rt.1, 0, 0, 0, 0, 0, 0, rt.2, 0, 0] }
theorem test_RecordOrder :
    (let s := twoRecords 4072 (1, 5)
     let r : Record := .inputEdge 2 0 0 0 0 0
     (∀ q, s.overfull q = false) ∧ s.destOf (.sideband 0 0 0 []) = none ∧ s.route (.sideband 0 0 0 []) ≠ 0x40 ∧
     s.route (.sideband 0 0 0 []) ≠ s.route r ∧ s.route r ≠ 0x40 ∧ s.destOf r = some 1) ∧
    (let s := twoRecords 4080 (1, 5)
     (s.queue 1).st = .active ∧ s.route (.sideband 0 0 0 []) ≠ 1 ∧ s.route (.inputEdge 2 0 0 0 0 0) = 1 ∧ 4096 < 4080 + (Record.inputEdge 2 0 0 0 0 0).len ∧
     s.overfull 0 = false) ∧
    (let s := twoRecords 0 (0x40, 5)
     s.route (.inputEdge 2 0 0 0 0 0) = 0x40 ∧ s.route (.sideband 0 0 0 []) ≠ 0x40 ∧ s.destOf (.sideband 0 0 0 []) = none) := by decide +kernel
theorem test_CompletionEntry : let s := q1 0 .started
    s.hostUp = true ∧ s.holdsRole = true ∧ s.host.bme = true ∧ s.host.d3hot = false ∧
    (s.queue 1).flight.find? (fun x => x.num == 0) = some (item 0 .started) ∧ dNocoal (0 : Desc) = false ∧ Status.done.urgent = false ∧
    (s.queue 1).unsig + 1 < (s.queue 1).ccnt := by decide +kernel
theorem test_SignalsAndCauses : (ready.hostUp = true ∧ ready.holdsRole = true ∧ ready.host.msixEn = false) ∧
    (let s := ready.modHost fun h => { h with msixEn := true }
     s.host.msixEn = true ∧ (∀ v : VecId, s.msix[v].mask = true) ∧ s.host.bme = true ∧ s.host.d3hot = false) ∧
    (∀ v : VecId, (Vector.replicate 68 { Reset.msixEntry with mask := false })[v].mask = false) ∧
    (ready.modHost fun h => { h with bme := false }).host.bme = false ∧
    (bit ready.justSet 15 = false ∧ bit (ready.modHost fun h => { h with setBits := 0x8000 }).justSet 15 = true) ∧
    (ready.host.denyValid = false ∧ (ready.modHost fun h => { h with denyValid := true, denyCount := 255 }).host.denyValid = true ∧
      (ready.modHost fun h => { h with denyValid := true, denyCount := 255 }).host.denyCount ≤ 255) := by decide +kernel
/-- Vector 64 + i rises from no set cause. -/
def rises (cause en : Word32) (i : Fin 4) : Bool := ready.host.devCause &&& ready.host.devEn &&& vecBits i == 0 && cause &&& en &&& vecBits i != 0
theorem test_SignalsAndCauses_rises : (∀ i, rises 0 0xFFF i = false) ∧
    (rises 1 0xFFF 0 = true ∧ rises 0x10 0xFFF 0 = true ∧ ∀ j, j ≠ 0 → rises 0x10 0xFFF j = false) ∧
    (rises 0x40 0xFFF 1 = true ∧ ∀ j, j ≠ 1 → rises 0x40 0xFFF j = false) ∧
    (rises 0x80 0xFFF 2 = true ∧ ∀ j, j ≠ 2 → rises 0x80 0xFFF j = false) ∧
    (rises 0x800 0xFFF 3 = true ∧ ∀ j, j ≠ 3 → rises 0x800 0xFFF j = false) := by decide +kernel

/-! ## Records, the archive, Plumb, the serial port and the field's settings -/

/-- The I/O command op with fields fs may start on queue 1, uses only the bytes that it names, and has the access it needs. -/
def cmd (op : Nat) (used fs needs : List (Nat × Nat)) (s : State := ready) : Bool :=
  let d := desc ((0, op) :: fs)
  ioOk d needs s && shaped d op (s.queue 1).profile.isSome false used && ((io d s).queue 1).hctx.val == 0
theorem test_DataCommands :
    cmd 0x48 [(8, 8), (16, 4)] [(8, 64), (16, 4096)] [(0x16, 1)] = true ∧ cmd 0x48 [(8, 8), (16, 4)] [(16, 16777216)] [(0x16, 1)] = true ∧
    (cmd 0x49 [(4, 2)] [(5, 1)] [(0x17, 4)] = true ∧ ready.arch.st = .recording) ∧
    (ready.modArch fun a => { a with st := .frozen }).arch.st ≠ .recording ∧
    (cmd 0x49 [(4, 1)] [(4, 1)] [(0x17, 4)] = true ∧ ready.arch.waiter = none) ∧
    (cmd 0x4A [(4, 6)] [(4, 1), (8, 4096)] [(0x17, 1)] = true ∧ ready.arch.slots = []) ∧
    cmd 0x4A [(4, 6)] [(4, 1), (8, 1)] [(0x17, 1)] = true ∧ ready.stageRoom 1160 = true ∧ ready.routes = .replicate 10 0 ∧
    (let d := desc [(0, 0x50), (4, 7), (8, 0xFFFFFF), (16, 1)]
     cmd 0x50 [(4, 3), (8, 24)] [(4, 7), (8, 0xFFFFFF), (16, 1)] (ready.scanNeeds d) = true ∧ dNum d 8 8 + dNum d 16 4 ≤ 0x1000000) ∧
    cmd 0x50 [(4, 3), (8, 24)] [(5, 1), (16, 16777216)] [] = true ∧
    cmd 0x58 [(4, 1), (8, 32)] [(4, 1), (8, 255)] [(0x16, 2)] = true ∧ cmd 0x58 [(4, 1), (8, 32)] [(4, 8)] [(0x16, 2)] = true ∧
    255 < 2 ^ spBits ready.serial.word := by decide +kernel
/-- Plumb context x as f makes it. -/
def pl (x : CtxId) (f : Plumb → Plumb) (s : State := ready) : State := s.modPlumb x f
theorem test_PlumbAndScrub :
    (let d := desc [(0, 0x50), (5, 1), (6, 1), (16, 1)]
     let s := (q1 d .started).modPlumb 0 fun c => { c with scan := some (1, 0) }
     s.hostUp = true ∧ s.plumb[(0 : CtxId)].scan = some (1, 0) ∧ (s.queue 1).flight.find? (fun y => y.num == 0) = some (item d .started) ∧
     dNum d 5 1 = 1 ∧ [(0 : Byte)].length = dNum d 16 4 ∧ dNum d 6 1 = 1) ∧
    (let s : State := { ready with clock := 1000000000 }
     ∀ x ∈ [(6 : CtxId), 7], plTarget s.plumb[x].word = x.val - 5 ∧ s.plumb[x].pass = false ∧ s.plumb[x].passDue = false ∧
      s.plumb[x].passAt + plSper s.plumb[x].word * 1000000 ≤ s.now) ∧
    (let s := pl 7 (fun c => { c with pass := true, obj := 30 })
     s.up = true ∧ s.plumb[(7 : CtxId)].pass = true ∧ s.plumb[(7 : CtxId)].obj < 31 ∧ s.stored 2 s.plumb[(7 : CtxId)].obj = Reset.crcZeros) ∧
    (let s := pl 6 (fun c => { c with pass := true, obj := 1 })
     s.plumb[(6 : CtxId)].pass = true ∧ 1 ∉ s.plumb[(6 : CtxId)].skip ∧ s.stored 1 1 = 0) ∧
    1 ∈ (pl 6 (fun c => { c with pass := true, obj := 1, skip := [1] })).plumb[(6 : CtxId)].skip := by decide +kernel
/-- Command d of queue q has started and reads its data. -/
def reads (q : QueueId) (d : Desc) (k : OpKind := .data) (s : State := ready) : State :=
  { s.modQueue q fun _ => { Reset.queue with st := .active, flight := [item d .started] } with ops := [{ q := q, n := 0, live := true, kind := k }] }
theorem test_CommandData :
    (∀ p ∈ [(0x30, 20, 1), (0x38, 8, 1), (0x41, 6, 4)], let d := desc [(0, p.1), p.2]; (reads 1 d).hostUp = true ∧
      (List.replicate 16 (0 : Byte)).length = dataLen d ∧ (reads 1 d).dataOp 1 0 = some (d, none)) ∧
    (let d := desc [(0, 8), (16, 1)]
     (reads 0 d .data (stageAt 4)).hostUp = true ∧ (reads 0 d .data (stageAt 4)).dataOp 0 0 = some (d, none) ∧ [(0 : Byte)].length = dataLen d ∧
     (reads 0 d .data (stageAt 4)).mason.stage = 4) ∧
    (let d := desc [(0, 0xB), (4, 0xFF), (16, 176)]
     (reads 0 d).dataOp 0 0 = some (d, none) ∧ dataLen d = 176 ∧ (reads 0 d).locked = false ∧ rowBad Reset.row = false ∧
     (reads 0 d).rowsInUse (.replicate 22 Reset.row) = false) ∧
    (let d := desc [(0, 0x30), (20, 1)]
     (reads 1 d (.coursePass2 0)).dataOp 1 0 = some (d, some 0)) ∧
    (ready.modHost fun h => { h with pollOut := true }).host.pollOut = true ∧
    (ready.modHost fun h => { h with indexOut := true }).host.indexOut = true ∧
    (item 0 .fetching ∈ ((q1 0 .fetching).queue 1).flight ∧ (item 0 .fetching).stage = .fetching ∧
      ((item 0 .fetching).num - 0).toNat < 1 ∧ ((q1 0 .fetching).queue 1).st ≠ .error) := by decide +kernel
/-- The serial port with word bits w set, as f makes it, 1 ms after reset. -/
def port (w : Word64) (f : Serial → Serial := id) : State :=
  { ready with clock := 1000000, serial := f { ready.serial with word := ready.serial.word ||| w } }
theorem test_SerialPort :
    ((port 0).serialUp = true ∧ spMmen (port 0).serial.word = true ∧ (port 0).serial.aborted = false ∧ (port 0).serial.scs = true) ∧
    ((port 0 fun c => { c with aborted := true }).serial.aborted = true ∧
      (port 0).serial.freeSince + 1000 * spTbus (port 0).serial.word ≤ (port 0).now) ∧
    (let d : FlashDev := { density := 0x4000000, wide := true, read := { proto := .p144, cmd := 0xEB, mode := 2, dummy := 4 }, clock := 100,
                            contBits := 0xA5, exit := [0xFF] }
     let s := port 0x10 fun c => { c with flash := #v[some d, none] }
     s.serial.flash[0] = some d ∧ 0x3FFFFFF < 0x4000000 ∧ 0x3FFFFFF < d.density ∧ 0 < d.density ∧ s.busFree = true ∧
     s.serial.lines.find? (fun l => l.1 == 0x3FFFF) = none ∧ s.serial.aborted = false) ∧
    ((List.replicate 256 (0 : Byte)).length = 256 ∧ (port 0).busFree = true ∧
      (port 0).serial.lines.find? (fun l => l.1 == 0) = none ∧ 127 % 256 < 128 ∧
      (port 0 fun c => { c with lines := [(0, [])] }).serial.lines.find? (fun l => l.1 == 0) = some (0, [])) ∧
    (let s := port 4 fun c => { c with scs := false }
     spSen s.serial.word = true ∧ s.serial.scs = false ∧ (255 : Word32).toNat < 2 ^ spBits s.serial.word ∧ s.permits 12 [(0x16, 2)] = true ∧
     { s with rows := .replicate 22 0 }.permits 12 [(0x16, 2)] = false ∧ 0 < 7 ∧ 7 < spBits s.serial.word) ∧
    (port 4 fun c => { c with rx := .replicate 64 (0, 0) }).serial.rx.length = 64 ∧
    (let s := port 4 fun c => { c with openRec := [0], lastWord := 900000 }
     s.serial.openRec ≠ [] ∧ s.serial.lastWord + 100000 ≤ s.now) ∧ (0 : Fin 2).val ≠ (2 : Fin 3).val ∧ 0x4000000 ≤ 0x4000000 := by decide +kernel
/-- R564: a line fill in 4-4-4 with 8 dummy cycles takes 528 clocks, one in 1-1-1 takes 2,088. -/
theorem test_lineFill : let x : Xfer := { sel := 0, clock := 100, proto := .p444, cmd := some 0xEB, addr := 0, addrBytes := 3, contBits := none,
                                           modeClks := 0, dummy := 8, data := 256 }
    x.clocks = 528 ∧ { x with cmd := none }.clocks = 526 ∧ { x with proto := .p111 }.clocks = 2088 := by decide

/-- CH_CONFIG of the mask m with groups g and words w0 to w2 runs in s. -/
def cfg (m g w0 w1 w2 : Nat) : List (Nat × Nat) := [(4, m), (20, g), (24, w0), (32, w1), (40, w2)]
def cfgd (m g w0 w1 w2 : Nat) : Desc := desc ((0, 0x20) :: cfg m g w0 w1 w2)
def cfgOk (m g w0 w1 w2 : Nat) (s : State := field) : Bool :=
  cmd 0x20 [(4, 17), (24, 24)] (cfg m g w0 w1 w2) (maskNeeds 0x30 2 (cfgd m g w0 w1 w2)) s && dMask (cfgd m g w0 w1 w2) 4 != 0 &&
  (g.testBit 0 || d64 (cfgd m g w0 w1 w2) 24 == 0) && (g.testBit 1 || d64 (cfgd m g w0 w1 w2) 32 == 0) && (g.testBit 2 || d64 (cfgd m g w0 w1 w2) 40 == 0)
/-- The reset word of the channel group with MODE INPUT and ITYPE type 2. -/
def type2 : Nat := 0x000000C80BB80011
/-- Channels 2 and 3 are a gang. -/
def gang : State := out2 fun x => { x with chw := x.chw ||| 0x400 }
theorem test_ChannelConfiguration :
    (cfgOk (2 ^ 127) 1 0 0 0 = true ∧ cfgFieldBad (cfgd (2 ^ 127) 1 0 0 0) = some 127) ∧
    (cfgOk 0xC 4 0 0 Reset.pulw.toNat gang = true ∧ cfgFieldBad (cfgd 0xC 4 0 0 Reset.pulw.toNat) = none ∧
      (maskChans (dMask (cfgd 0xC 4 0 0 Reset.pulw.toNat) 4)).find? ((io (cfgd 0xC 4 0 0 Reset.pulw.toNat) gang).cfgStateBad (cfgd 0xC 4 0 0 Reset.pulw.toNat)) = some 3) ∧
    (isType2 (BitVec.ofNat 64 type2) = true ∧ cfgOk 0x1FF 1 type2 0 0 = true ∧ cfgFieldBad (cfgd 0x1FF 1 type2 0 0) = none ∧
      (∀ c : ChanId, bit (dMask (cfgd 0x1FF 1 type2 0 0) 4) c.val = true → field.cfgStateBad (cfgd 0x1FF 1 type2 0 0) c = false) ∧
      field.cfgCapacity (cfgd 0x1FF 1 type2 0 0) = some 0) ∧
    (let w0 := Reset.chw.toNat + 1; let w1 := Reset.protw.toNat; let w2 := Reset.pulw.toNat
     cfgOk (2 ^ 128 - 1) 7 w0 w1 w2 = true ∧ cfgFieldBad (cfgd (2 ^ 128 - 1) 7 w0 w1 w2) = none ∧
      (∀ c : ChanId, field.cfgStateBad (cfgd (2 ^ 128 - 1) 7 w0 w1 w2) c = false) ∧ field.cfgCapacity (cfgd (2 ^ 128 - 1) 7 w0 w1 w2) = none) := by decide +kernel
theorem test_SafeValuesAndBudgets :
    (∀ p ∈ [[(20, 0)], [(20, 1)], [(20, 2)], [(20, 3), (24, 250)], [(20, 3), (24, 1000000), (28, 1024)]],
      let d := desc ((0, 0x23) :: (4, 0xC) :: p)
      cmd 0x23 [(4, 17), (24, 6)] ((4, 0xC) :: p) (maskNeeds 0x38 2 d) gang = true ∧ dMask d 4 = 0xC ∧
      (maskChans (dMask d 4)).find? gang.lastOdd = some 3 ∧ cmd 0x23 [(4, 17), (24, 6)] ((4, 0xC) :: p) (maskNeeds 0x38 2 d) field = true) ∧
    (∀ c : ChanId, field.lastOdd c = false) ∧
    (let d := desc [(0, 0x27), (8, 0xC), (24, Reset.budw.toNat)]
     (∀ s ∈ [true, false], cmd 0x27 [(4, 2), (8, 24)] [(8, 0xC), (24, Reset.budw.toNat)] ((maskQuads (dMask d 8)).map fun k => (0x30 + k, 2)) (if s then gang else field) = true) ∧
     budwBad (d64 d 24) = false ∧ dMask d 8 ≠ 0 ∧ (maskChans (dMask d 8)).find? gang.lastOdd = some 3) ∧
    (let d := desc [(0, 0x27), (4, 1), (5, 15), (24, Reset.qbudw.toNat)]
     cmd 0x27 [(4, 2), (8, 24)] [(4, 1), (5, 15), (24, Reset.qbudw.toNat)] ((bitsList 4 (dNum d 5 1)).map fun k => (0x30 + k, 2)) field = true ∧
     qbudwBad (d64 d 24) = false ∧ dMask d 8 = 0) ∧
    (let d := desc [(0, 0x27), (4, 2), (24, 85)]
     cmd 0x27 [(4, 2), (8, 24)] [(4, 2), (24, 85)] [(0, 2)] field = true ∧ dMask d 8 = 0 ∧ ∀ ae ∈ [true, false], devwBad ae (d64 d 24) = false) := by decide +kernel

/-! ## Arming, outputs, the course and the angle -/

/-- Channel 2 is a host-owned output of an armed quadrant, as f makes it. -/
def armed (f : Chan → Chan := id) : State := (out2 f).modQuad 0 fun x => { x with armed := true }
theorem test_ArmAndDisarm :
    (∀ k ∈ [1, 15], cmd 0x24 [(4, 1)] [(4, k)] ((bitsList 4 (dNum (desc [(4, k)]) 4 1)).map fun k => (0x38 + k, 4)) field = true ∧
      cmd 0x25 [(4, 1)] [(4, k)] ((bitsList 4 (dNum (desc [(4, k)]) 4 1)).map fun k => (0x38 + k, 4)) ready = true) ∧
    (field.redmode ≠ 3 ∧ ∀ k : QuadId, (field.quad k).sync = true ∧ (ready.quad k).sync = false) := by decide +kernel
theorem test_FaultClear :
    (∀ p ∈ [(2 ^ 128 - 1, 15, 0), (0, 0, 1)], let fs := [(4, p.1), (20, p.2.1), (21, p.2.2)]
      let d := desc fs
      cmd 0x26 [(4, 18)] fs (((maskQuads (dMask d 4)).map fun k => (0x30 + k, 2)) ++ ((bitsList 4 (dNum d 20 1)).map fun k => (0x30 + k, 2)) ++
        (if dNum d 21 1 = 1 then [(0x10, 4)] else [])) field = true) ∧
    (field.ang.st ≠ .frozen ∧ field.ang.st ≠ .safe) ∧ (field.modAng fun a => { a with st := .frozen }).ang.st = .frozen := by decide +kernel
/-- An output command op on channel 2 alone, with its other fields fs. -/
def outOk (op : Nat) (used fs : List (Nat × Nat)) (s : State) : Bool :=
  let d := desc ((4, 4) :: fs)
  cmd op used ((4, 4) :: fs) ((maskQuads (dMask d 4)).map fun k => (0x30 + k, 4)) s && dMask d 4 == 4
theorem test_OutputCommands :
    (outOk 0x21 [(4, 32)] [] armed = true ∧ outOk 0x21 [(4, 32)] [(20, 4)] armed = true ∧ armed.maskLeads 4 = [2] ∧ armed.ops = [] ∧
      armed.reqs = [] ∧ armed.accepts false 2 = true ∧ (out2).accepts false 2 = false ∧ bit (4 : Mask128) 2 = true ∧ bit (0 : Mask128) 2 = false) ∧
    (let s := armed fun x => { x with drv := true }
     (s.chan 2).drv = true ∧ (s.chan 2).gen = none ∧ (s.chan 2).test = .idle ∧ s.accepts false 2 = true) ∧
    ((armed.chan 2).drv = false ∧ (armed.chan 2).latch = false ∧ armed.supplyHolds 2 = false ∧ (armed.chan 2).gen = none) ∧
    (outOk 0x22 [(4, 18), (24, 8)] [(20, 0)] armed = true ∧ outOk 0x22 [(4, 18), (24, 8)] [(20, 1)] armed = true) ∧
    (∀ k ∈ [0, 1, 2], outOk 0x22 [(4, 18), (24, 8)] [(20, k), (21, 1), (24, Reset.pulw.toNat)] armed = true) ∧ pulwBad Reset.pulw = false := by decide +kernel
/-- The Course engine RUNS with position th and speed om, and course c. -/
def running (th om : Rat) (c : Course := Reset.course) (f : Ang → Ang := id) (s : State := ready) : State :=
  ({ s with course := c }).modAng fun a => f { a with st := .running, srcw := Reset.srcw ||| 1, seg := { t := 0, th := th, om := om, lim := 1000000000000 * om } }
/-- A swap is pending for the wrap w. -/
def swapping (w : Int) : Course := { Reset.course with swap := some { wrap := w, who := none } }
theorem test_CourseTables :
    (cmd 0x30 [(4, 1), (8, 16)] [(4, 1), (16, 8192 * 2 ^ 32 + 1000 * 4 + 2)] [(0x10, 2)] = true ∧ bwCount (BitVec.ofNat 64 (8192 * 2 ^ 32 + 4002)) ≠ 0 ∧
      bankwBad (BitVec.ofNat 64 (8192 * 2 ^ 32 + 4002)) = false) ∧
    (cmd 0x30 [(4, 1), (8, 16)] [(4, 1), (16, 4)] [(0x10, 2)] = true ∧ bwCount 4 = 0 ∧ bankwBad 4 = false ∧ ready.course.active ≠ 1 ∧
      ready.course.swap = none ∧ ready.journals = false) ∧
    (cmd 0x30 [(4, 1), (8, 16)] [(16, 4)] [(0x10, 2)] = true ∧ ready.course.active.val = 0) ∧
    (∀ k ∈ [0, 1], ∀ s ∈ [true, false], let d := desc [(0, 0x31), (1, 16 * k)]; let s := if s then ready else running 0 0
      ioOk d [(0x10, 4)] s = true ∧ shaped d 0x31 false true [] = true ∧ dCspec d = (k == 1)) ∧
    (ready.angleTick.copyWaits (courseRegion 1) 0x20000 = false ∧ ready.angleTick.course.swap = none ∧ ready.angleTick.firing = false) ∧
    ({ (paired .active) with pair := { (paired .active).pair with deltas := [(0x30000, 0, none)] } }.angleTick.copyWaits (courseRegion 1) 0x20000 = true) ∧
    ((running 0 (1 / 2)).angleTick.firing = true ∧ -rpmUnits 10 < (running 0 (1 / 2)).angleTick.omegaNow ∧ (running 0 (1 / 2)).angleTick.omegaNow < rpmUnits 10 ∧
      trVstall (running 0 (1 / 2)).angleTick.ang.trkw = 10) ∧ rpmUnits 10 ≤ (running 0 1).angleTick.omegaNow ∧
    (running 0 (1 / 2) (swapping 5)).angleTick.course.swap ≠ none ∧
    (let s := running 0 1 (swapping 0)
     s.firing = true ∧ s.angleTick.course.swap = some { wrap := 0, who := none } ∧ s.angleTick.ang.fwd = true ∧ (0 : Rat) * 4294967296 ≤ s.angleTick.thetaNow ∧
     (running 0 1 (swapping 1)).angleTick.thetaNow < (1 : Rat) * 4294967296) ∧
    (let f : Front := { bank := 0, lead := 0, ext := 0, clamped := false, changed := false, pre := 8 }
     f ∈ { Reset.course with fronts := [f] }.fronts ∧ f.bank = 0 ∧ f.lead = 0 ∧ f.pre ≤ 8) := by decide +kernel
/-- The fields of an ANGLE_CONFIG. -/
def angle (m s t r : Nat) : List (Nat × Nat) := [(4, m), (8, s), (16, t), (24, r)]
/-- Channel 2 belongs to the course. -/
def courseOwn : State := armed fun x => { x with chw := x.chw ||| 8 }
theorem test_AngleConfiguration :
    (cmd 0x32 [(4, 1), (8, 24)] (angle 7 Reset.srcw.toNat Reset.trkw.toNat 0) [(0x10, 4)] field = true ∧
      srcwBad Reset.srcw = false ∧ trkwBad Reset.trkw = false ∧ refwBad 0 = false ∧ toothBad Reset.srcw Reset.trkw = false ∧
      field.angleStruct Reset.srcw 0 = false) ∧
    (∀ k ∈ [1, 2, 4], cmd 0x32 [(4, 1), (8, 24)] [(4, k), (8, if k = 1 then Reset.srcw.toNat else 0), (16, if k = 2 then Reset.trkw.toNat else 0)] [(0x10, 4)] field = true) ∧
    (let w := Reset.srcw.toNat ||| 1
     cmd 0x32 [(4, 1), (8, 24)] (angle 1 w 0 0) [(0x10, 4)] courseOwn = true ∧ srcwBad (BitVec.ofNat 64 w) = false ∧
     toothBad (BitVec.ofNat 64 w) Reset.trkw = false ∧ courseOwn.angleStruct (BitVec.ofNat 64 w) 0 = true ∧ courseOwn.courseOwned 2 = true ∧
     (courseOwn.quad (quadOf 2)).armed = true ∧ cmd 0x32 [(4, 1), (8, 24)] (angle 1 w 0 0) [(0x10, 4)] field = true ∧
     (∀ c, field.courseOwned c = false) ∧ field.journals = false ∧ (paired .active field).journals = true ∧ srZuse (BitVec.ofNat 64 w) = true ∧ srZuse (BitVec.ofNat 64 (w - 8)) = false ∧
     srcwBad (BitVec.ofNat 64 (w - 8)) = false ∧ (field.modAng fun a => { a with srcw := BitVec.ofNat 64 (w - 8) }).angleClear.ang.encoder = true) := by decide +kernel
/-- The angle source is w (1 an encoder, 2 a tooth wheel), as f makes it. -/
def source (w : Word64) (f : Ang → Ang := id) : State := ready.modAng fun a => f { a with srcw := a.srcw ||| w, st := .running }
theorem test_AngleEvents :
    (ready.up = true ∧ srSrc (source 1).ang.srcw = 1 ∧ srSrc (source 2).ang.srcw = 2 ∧ srSrc (source 0).ang.srcw = 0) ∧
    ((source 1).ang.lvlA = false ∧ (source 1).ang.lvlB = false ∧ ∀ a ∈ [true, false], ∀ b ∈ [true, false],
      (source 1 fun x => { x with lvlA := a, lvlB := b }).ang.lvlA = a) ∧
    ((source 1).ang.chgA = none ∧ (source 1).ang.chgB = none ∧ srFilt (source 1).ang.srcw ≤ 2 ∧
      (let s : State := { source 1 (fun x => { x with chgA := some 1, chgB := some 3 }) with clock := 24 }
       (∀ t, s.ang.chgA = some t → t < s.now / 8 ∧ t + 2 ≤ s.now / 8) ∧ s.ang.chgB = some (s.now / 8))) ∧
    (srZuse (source 1).ang.srcw = true ∧ srZgate (source 1).ang.srcw < 4 ∧ (source 1).ang.idxCnt = none ∧ (source 1).ang.st = .running) ∧
    (let s := source 1 fun x => { x with srcw := x.srcw ||| 0x70, lvlA := true, lvlB := true, idxCnt := some 0, cnt := 3, trustNext := false }
     4 ≤ srZgate s.ang.srcw ∧ bit s.ang.srcw 5 = s.ang.lvlA ∧ bit s.ang.srcw 4 = s.ang.lvlB ∧ indexError (srCpr s.ang.srcw) (s.ang.cnt - 0) = 3 ∧
     srZtol s.ang.srcw < 3) ∧
    ((source 2 fun x => { x with gap := true, trustNext := false, teeth := 34 }).ang.gap = true ∧ srTeeth (source 2).ang.srcw - srTmiss (source 2).ang.srcw = 35) ∧
    (let s : State := { source 1 (fun x => { x with edges := [0], edgeSeg := { t := 0, th := 0, om := -4, lim := -1 } }) with clock := 500000000 }
     s.ang.edges = [0] ∧ 0 + trStall s.ang.trkw * 1000000 ≤ s.now ∧ rpmUnits (trVstall s.ang.trkw) ≤ 4 ∧ s.ang.edgeSeg.om = -4) ∧
    (let c : Coast := { theta := 0, omega := 1, t := 0, until_ := 0 }
     let s := source 1 fun x => { x with st := .coasting, coast := some c }
     s.ang.st = .coasting ∧ s.ang.coast = some c ∧ c.until_ ≤ s.now) ∧
    (let s : State := { source 1 (fun x => { x with seg := { t := 0, th := 0, om := 1, lim := 1 } }) with clock := 1 }
     s.ang.st ≠ .idle ∧ s.ang.seg.capped s.now = true) := by decide +kernel
theorem test_EncoderFaults : (ready.ang.st ≠ .running ∧ ready.ang.st ≠ .unreferenced) ∧
    (source 1).ang.st = .running ∧ (source 1 fun x => { x with st := .unreferenced }).ang.st = .unreferenced ∧
    ∀ k ∈ [0, 1, 2], (({ ready with course := { ready.course with banks := .replicate 2 { Reset.cbank with fpol := BitVec.ofNat 2 k } } }).cbank 0).fpol = BitVec.ofNat 2 k := by
  decide +kernel
theorem test_Reference : 4294967295 < 4294967296 ∧ (source 1).ang.st = .running ∧ (source 1 fun x => { x with st := .unreferenced }).ang.st = .unreferenced := by
  decide +kernel

/-! ## Course entries, the converters and the chains -/

/-- An entry at angle 1,000. -/
def entry (a t fl p : Nat) : Entry :=
  { angle := 1000, param := BitVec.ofNat 32 p, lead := 0, action := BitVec.ofNat 8 a, target := BitVec.ofNat 8 t, flags := BitVec.ofNat 8 fl }
/-- Entry e of bank 0 is reached now; its bank is suspect when sus is true. -/
def fire (e : Entry) (s : State := courseOwn) (sus : Bool := false) : State :=
  running 1000 0 { Reset.course with
    banks := .replicate 2 { Reset.cbank with entries := [e], suspect := sus },
    fronts := [{ bank := 0, lead := enLead e, ext := 1000, clamped := false, changed := false, pre := 16 }],
    due := [{ tick := 0, bank := 0, idx := 0 }] } id s
/-- The state after entry e counts as fired. -/
def shot (e : Entry) (s : State := courseOwn) : State := (fire e s).angleTick.modCourse fun c => { c with
  lastFire := some ((fire e s).angleTick.now / 8), fired := c.fired + 1, firing := c.firing + 1, due := [],
  fronts := c.fronts.map fun (g : Front) => if g.bank == 0 && g.lead == enLead e then { g with pre := g.pre - 1 } else g }

theorem test_CourseFiring :
    (fire (entry 1 2 2 0)).nextDue = some { tick := 0, bank := 0, idx := 0 } ∧
    ((fire (entry 1 2 2 0)).cbank 0).entries[0]? = some (entry 1 2 2 0) ∧ (fire (entry 1 2 2 0)).course.swap = none ∧
    (((fire (entry 1 2 2 0)).modCourse fun c => { c with due := [], fronts := c.fronts.map fun f => { f with ext := 0 } }).sweep (fun _ => 1000)).course.due = [{ tick := 0, bank := 0, idx := 0 }] := by decide +kernel

theorem test_CourseActions_fires :
    (∀ a ∈ [1, 2, 3, 4, 5, 6, 0x10, 0x11, 0x12, 0x13], (fire (entry a 2 2 0)).up = true ∧ (fire (entry a 2 2 0)).holdsRole = true ∧
      (fire (entry a 2 2 0)).angleTick.nextDue = some { tick := 0, bank := 0, idx := 0 } ∧
      ((fire (entry a 2 2 0)).angleTick.cbank 0).entries[0]? = some (entry a 2 2 0) ∧ ready.angleTick.nextDue = none ∧
      (entry a 2 2 0).action.toNat = a ∧ ((fire (entry a 2 2 0)).angleTick.cbank 0).suspect = false ∧
      (fire (entry a 2 2 0)).angleTick.course.bad.contains (0, 0) = false) ∧
    (fire (entry 1 2 2 0) courseOwn true).angleTick.nextDue = some { tick := 0, bank := 0, idx := 0 } ∧
    ((fire (entry 1 2 2 0) courseOwn true).angleTick.cbank 0).suspect = true := by decide +kernel
theorem test_CourseActions_channel :
    (∀ a ∈ [1, 2, 3, 4, 5], let e := entry a 2 2 0; let U := shot e
      U.lead (enChan e) = 2 ∧ U.allowed 9 0x30 4 = true ∧ (shot e { courseOwn with rows := .replicate 22 0 }).allowed 9 0x30 4 = false ∧
      U.accepts true 2 = true ∧ (shot e armed).accepts true 2 = false ∧ U.reqs = [] ∧ (U.chan 2).gen = none ∧ (U.chan 2).latch = false ∧
      (U.chan 2).drv = false ∧ U.supplyHolds 2 = false ∧ bit e.flags 2 = false) ∧
    (let U := shot (entry 1 2 2 0)
     (U.setLevel 2 false (.courseSoft 0)).2 ≠ .notApplied) ∧
    (let U := shot (entry 1 2 2 0) (armed fun x => { x with chw := x.chw ||| 8, latch := true })
     (U.setLevel 2 true (.courseSoft 0)).2 = .notApplied ∧ (U.chan 2).drv = false ∧ (U.chan 2).latch = true ∧ U.accepts true 2 = true) ∧
    (let U := shot (entry 1 2 2 0) (armed fun x => { x with chw := x.chw ||| 8, drv := true })
     U.accepts true 2 = true ∧ (U.chan 2).drv = true ∧ (U.chan 2).gen = none ∧ (U.chan 2).test = .idle) := by decide +kernel
theorem test_CourseActions_others :
    (let e := entry 6 0 2 0; let U := shot e
     e.target.toNat < 16 ∧ allChans.filter (fun c => decide (c.val / 8 = e.target.toNat) && U.isOutput c && !U.isOdd c) = [2] ∧
     U.allowed 9 0x30 4 = true ∧ U.accepts true 2 = true ∧ (shot e { courseOwn with rows := .replicate 22 0 }).allowed 9 0x30 4 = false) ∧
    (let e := entry 6 15 2 0; let U := shot e
     e.target.toNat < 16 ∧ allChans.filter (fun c => decide (c.val / 8 = e.target.toNat) && U.isOutput c && !U.isOdd c) = [] ∧
     U.allowed 9 (0x30 + e.target.toNat / 4) 4 = true) ∧
    ((entry 0x10 255 2 0).target.toNat / 64 = 3 ∧ (entry 0x10 255 2 0).target.toNat % 64 = 63) ∧
    (let U := shot (entry 0x11 0 2 0)
     U.arch.st ≠ .frozen ∧ U.archCap ≠ 0 ∧ U.course.lastSnap ≠ some U.frameNo) ∧
    (shot (entry 0x11 0 2 0) (courseOwn.modArch fun a => { a with st := .frozen })).arch.st = .frozen ∧
    (let s : State := { courseOwn with vault := { courseOwn.vault with layout := 0 } }
     (shot (entry 0x11 0 2 0) s).archCap = 0) ∧
    (let U := (shot (entry 0x11 0 2 0)).modCourse fun c => { c with lastSnap := some 0 }
     U.course.lastSnap = some U.frameNo) := by decide +kernel
/-- Quadrant 3's converter as f makes it. -/
def conv (f : Meas → Meas) (s : State := field) : State := s.modMeas 3 f
/-- Frame f of quadrant 3 was lost at its die. -/
def quad3Lost (f : Nat) : State := field.modQuad 3 fun x => { x with lostFrame := some f }

theorem test_MeasurementCommands :
    (cmd 0x38 [(4, 1), (8, 24)] [(4, 3), (24, 8191)] [(0x12, 2)] = true ∧ cmd 0x38 [(4, 1), (8, 24)] [(8, 2 ^ 64 - 1)] [(0x12, 2)] = true ∧
      fld (8191 : Word64) 13 51 = 0 ∧ bit (8191 : Word64) 12 = true ∧ bit (0 : Word64) 12 = false ∧ ready.meas[(3 : QuadId)].cal = false ∧
      (conv fun m => { m with cal := true }).meas[(3 : QuadId)].cal = true) ∧
    (cmd 0x3A [(4, 1)] [(4, 15)] [(0x12, 4)] field = true ∧ cmd 0x3A [(4, 1)] [(4, 1)] [(0x12, 4)] ready = true ∧
      (∀ k : QuadId, (field.quad k).sync = true ∧ (ready.quad k).sync = false) ∧ field.calRuns = false) ∧
    (let s := { field with ops := [{ q := 2, n := 0, live := true, kind := .cal [0] 0 }] }
     s.calRuns = true ∧ cmd 0x3A [(4, 1)] [(4, 1)] [(0x12, 4)] s = true) ∧
    (∀ k ∈ [0, 1], cmd 0x3B [(4, 1), (8, 9)] [(1, 16 * k), (4, 3), (8, 1), (16, 1)] [(0x12, 1)] = false ∨ k = 0) ∧
    (∀ k ∈ [0, 1], let d := desc [(0, 0x3B), (1, 16 * k), (4, 3), (8, 2 ^ 64 - 1), (16, 1)]
      shaped d 0x3B false true [(4, 1), (8, 9)] = true ∧ ioOk d [(0x12, 1)] = true ∧ dCspec d = (k == 1)) ∧
    (let r : Record := .acc 3 false 0 1 [[]]
     ready.route r ≠ 0x40 ∧ ready.stageRoom r.len = true ∧ { ready with routes := .replicate 10 0x40 }.route r = 0x40 ∧
     { ready with vault := { ready.vault with layout := 0 } }.stageRoom r.len = false) := by decide +kernel
/-- A word 0 of a slot with trigger t, and one with a timer of p µs. -/
def w0 (t : Nat) : Word64 := BitVec.ofNat 64 (t * 64)
/-- Slot i of quadrant 3 has the words a and b, and is otherwise as f makes it. -/
def slotAt (i : SlotId) (a b : Word64) (f : Slot → Slot := id) (s : State := field) : State :=
  s.modSlot 3 i fun x => f { x with w0 := a, w1 := b }
/-- An INJECT on quadrant 3 with fields fs. -/
def injOk (fs : List (Nat × Nat)) (s : State) : Bool := cmd 0x39 [(4, 2), (8, 24)] ((4, 3) :: fs) [(0x12, 4)] s
theorem test_Inject :
    (let s := slotAt (regSlot 63) (w0 4) 0
     injOk [(8, 2 ^ 63)] s = true ∧ injOk [(8, 1)] s = true ∧ (s.slot 3 (regSlot 63)).trig.isNone = true ∧ s.slotBusy 3 (regSlot 63) = false ∧
     slTrig (s.slot 3 (regSlot 63)).w0 = 4 ∧ s1Defer (s.slot 3 (regSlot 63)).w1 = false ∧ slTrig (s.slot 3 (regSlot 0)).w0 ≠ 4) ∧
    (injOk [(5, 1), (24, 0x24)] field = true ∧ fld (0 : Word64) 6 30 = 0 ∧ slotBad 0 0x24 = true) ∧
    (injOk [(5, 1), (24, 0xC0)] field = true ∧ slotBad 0 0xC0 = false ∧ field.modeBad 3 0xC0 = true) ∧
    (injOk [(5, 1), (24, 0x21 + 64)] field = true ∧ slotBad 0 (0x21 + 64) = false ∧ field.modeBad 3 (0x21 + 64) = false ∧
      rangeClash (field.slotsAfter 3 [(injSlot, 0, 0x21 + 64)]) injSlot = false ∧ field.meas[(3 : QuadId)].injNew = none ∧
      (conv fun m => { m with injNew := some (0, 0, 0, 0) }).meas[(3 : QuadId)].injNew = some (0, 0, 0, 0) ∧ (field.slot 3 injSlot).trig.isNone = true ∧ field.slotBusy 3 injSlot = false) ∧
    (let s := slotAt injSlot 0 0 fun x => { x with trig := some 0 }
     injOk [(5, 1), (24, 0x21 + 64)] s = true ∧ s.modeBad 3 (0x21 + 64) = false ∧ rangeClash (s.slotsAfter 3 [(injSlot, 0, 0x21 + 64)]) injSlot = false ∧
     (s.slot 3 injSlot).trig.isNone = false) := by decide +kernel
/-- A burst of slot i whose single conversion was sampled at 0 and gave code c. -/
def burst (i : SlotId) (w : Word64) (code : Option Nat) : Burst :=
  { id := 0, slot := i, w1 := w, req := 0, left := 0, convs := [{ at_ := 0, fin := 0, die := 0, code := code, recovery := false, settleTb := false }], lost := false, held := false, tag := none }
theorem test_TriggersAndConversions :
    (let s : State := { slotAt (regSlot 0) (w0 3 ||| 0x400) 0 with clock := 2000 }
     slTrig (s.slot 3 (regSlot 0)).w0 = 3 ∧ slTper (s.slot 3 (regSlot 0)).w0 = 2 ∧ s.now % (2 * 1000) = 0 ∧ ({ s with clock := 1999 } : State).now % (2 * 1000) ≠ 0) ∧
    ((field.quad 3).lostFrame = none ∧ ((quad3Lost 0).quad 3).lostFrame = some (1000 / 1000 - 1)) ∧
    ((field.slot 3 0).trig = none ∧ field.slotBusy 3 0 = false ∧ s1Defer (field.slot 3 0).w1 = false) ∧
    ((slotAt 0 0 0 fun x => { x with trig := some 0 }).slot 3 0).trig ≠ none ∧ (conv fun m => { m with burst := some (burst 0 0 none) }).slotBusy 3 0 = true ∧
    (s1Defer (0x4000 : Word64) = true ∧ field.deferPaused 3 = true) ∧
    (field.meas[(3 : QuadId)].cal = false ∧ field.meas[(3 : QuadId)].busyUntil ≤ field.now / 125 * 125 ∧ field.meas[(3 : QuadId)].nextDue 0 = none) ∧
    (let s := conv fun m => { m with burst := some (burst 0 0x61 none) }
     s.meas[(3 : QuadId)].nextDue 0 = some (.inl (burst 0 0x61 none)) ∧ s.modeBad 3 (burst 0 0x61 none).w1 = false) ∧
    (let s := slotAt 0 (w0 4) 0xC0 fun x => { x with trig := some 0 }
     s.meas[(3 : QuadId)].nextDue 0 = some (.inr (0, 0)) ∧ (s.quad 3).sync = true ∧ s1Defer (s.slot 3 0).w1 = false ∧ s.modeBad 3 (s.slot 3 0).w1 = true) ∧
    (let s := slotAt 0 (w0 4) 0x61 fun x => { x with trig := some 0 }
     s.meas[(3 : QuadId)].nextDue 0 = some (.inr (0, 0)) ∧ s.modeBad 3 (s.slot 3 0).w1 = false) ∧
    ((slotAt 0 (w0 4) 0x61 (fun x => { x with trig := some 0 }) ready).quad 3).sync = false := by decide +kernel
theorem test_ConversionOrder :
    (conv fun m => { m with inj := some (burst injSlot 0 none) }).meas[(3 : QuadId)].inj = some (burst injSlot 0 none) ∧
    ((slotAt injSlot 0 0 fun x => { x with trig := some 0 }).slot 3 injSlot).trig = some 0 ∧
    (conv fun m => { m with burst := some (burst 0 0 none) }).meas[(3 : QuadId)].burst = some (burst 0 0 none) ∧
    (∀ i : SlotId, (field.slot 3 i).trig = none) ∧
    (let s := slotAt 63 0 0 (fun x => { x with trig := some 124 }) (slotAt 62 0 0 (fun x => { x with trig := some 124 }) (slotAt 0 0 0 fun x => { x with trig := some 125 }))
     (s.slot 3 62).trig = some 124 ∧ (s.slot 3 63).trig = some 124 ∧ (s.slot 3 0).trig = some 125 ∧ 124 / 125 * 125 ≤ 125 ∧ (62 : SlotId) ≤ 63) := by decide +kernel
theorem test_ResultsAndCalibrations :
    (∀ k ∈ [0, 64], let i : SlotId := Fin.ofNat 65 k; let b := burst i 0x61 (some 0); let s := conv fun m => { m with wait := [b] }
      s.meas[(3 : QuadId)].wait.find? (fun b => (b.slot == injSlot) == (k == 64) && !b.lost && b.convs.all fun c => c.code.isSome) = some b) ∧
    field.meas[(3 : QuadId)].wait = [] ∧
    (let o : Op := { q := 1, n := 0, live := true, kind := .cal [3] 0 }
     let s : State := { field with ops := [o] }
     s.calOp = some (o, [3], 0) ∧ s.meas[(3 : QuadId)].cal = false ∧ s.meas[(3 : QuadId)].burst = none ∧ s.meas[(3 : QuadId)].inj = none ∧
     (s.slot 3 injSlot).trig = none ∧ s.meas[(3 : QuadId)].busyUntil ≤ s.now) ∧
    (∀ k ∈ [0, 1], let o : Op := { q := 1, n := 0, live := k == 1, kind := .cal [3] 0 }
     let s : State := conv (fun m => { m with cal := true }) { field with ops := [o] }
     s.meas[(3 : QuadId)].cal = true ∧ s.calOp = some (o, [3], 0)) ∧
    (∀ v ∈ [(0, 0), (2000, -5000), (2001, 0)], let c : Coef := { off := v.1, gain := v.2 }
      (-2000 ≤ c.off ∧ c.off ≤ 2000 ∧ -5000 ≤ c.gain ∧ c.gain ≤ 5000) ↔ v.1 ≠ 2001) ∧
    (∃ k ∈ [(2 : QuadId), 3], k ≠ 2) ∧
    (∀ w ∈ [0x200, 0x400, 0], let w1 := BitVec.ofNat 64 w
     s1Acc w1 = (w == 0x200) ∧ s1Mm w1 = (w == 0x400) ∧ s1Recx w1 = false ∧ (0 : Word16) &&& fOvr = 0) ∧
    (-2 ^ 47 ≤ (2 ^ 47 - 2 : Int) + 1 ∧ (2 ^ 47 - 2 : Int) + 1 < 2 ^ 47 ∧ Reset.acc.count ≠ 0xFFFFFFFF) ∧
    (bit ((Reset.acc.flags ||| 64) &&& ~~~(0x300 : Word16)) 6 = true ∧ bit (Reset.acc.flags &&& ~~~(0x300 : Word16)) 6 = false ∧
      bit (Reset.acc.flags &&& ~~~(0x300 : Word16)) 5 = false) := by decide +kernel

/-- Chain k as f k makes it. -/
def chained (f : ChainId → Chain → Chain) (s : State := ready) : State := { s with chains := Vector.ofFn fun k => f k s.chains[k] }
/-- C0 with ENABLE, one stage and T taps; C2 with the highest FSMAX. -/
def c0w (t : Nat) : Nat := 1 + 2 ^ 10 + (t - 1) * 2 ^ 21
/-- The first n chains run with the highest demand; the last one is as f makes it. -/
def crowd (n : Nat) (f : Chain → Chain) (s : State := ready) : State := chained (fun k c => if k = 15 then f c
  else if k.val < n then { c with st := .running, c0 := BitVec.ofNat 64 (c0w 256), c2 := 2000000 } else c) s
/-- A FILTER_CONFIG of chain 15 with C0 w and C2 v. -/
def filterOk (w v : Nat) (s : State) : Bool := cmd 0x40 [(4, 1), (8, 24)] [(4, 15), (8, w), (16, 0x1000000), (24, v)] [(0x11, 4)] s
theorem test_FilterCommands_config :
    (filterOk (c0w 256) 2000000 ready = true ∧ fld (BitVec.ofNat 64 (c0w 256)) 50 14 = 0 ∧ cN (BitVec.ofNat 64 (c0w 256)) = 1 ∧
      cSsrc (BitVec.ofNat 64 (c0w 256)) ≤ 64 ∧ fld (0x1000000 : Word64) 62 2 = 0 ∧ fld (0x1000000 : Word64) 48 7 = 0 ∧ oAngle 0x1000000 = false ∧
      2 ^ 24 ≤ oRatio 0x1000000 ∧ cFsmax 2000000 = 2000000 ∧ fld (2000000 : Word64) 21 43 = 0 ∧ cEnable (BitVec.ofNat 64 (c0w 256)) = true ∧
      cEnable Reset.c0 = false ∧ fld (0x4000000000000FFF : Word64) 12 36 = 0 ∧ oAngle 0x4000000000000FFF = true) ∧
    (let s := crowd 0 fun c => { c with st := .running }
     filterOk (c0w 1) 1 s = true ∧ s.chains[(15 : ChainId)].st = .running ∧ (1 : Word64) ≠ s.chains[(15 : ChainId)].c2) ∧
    (let s := crowd 0 fun c => { c with st := .draining }
     filterOk (c0w 1) 1 s = true ∧ s.chains[(15 : ChainId)].st = .draining) ∧
    (let s := crowd 0 fun c => { c with coefA := 1 :: List.replicate 255 0 }
     filterOk (c0w 2) 1 s = true ∧ cUser (BitVec.ofNat 64 (c0w 2)) = false ∧ symmetric (s.chains[(15 : ChainId)].coefA.take 2) = false) ∧
    (let s := crowd 6 id
     filterOk (c0w 256) 2000000 s = true ∧ symmetric ((s.chains[(15 : ChainId)].coefA).take 256) = true ∧
     3200000000 < s.demandBut (some 15) [.running, .suspended] + chainDemand (BitVec.ofNat 64 (c0w 256)) 2000000 false) ∧
    (let s := crowd 5 id
     s.demandBut (some 15) [.running, .suspended] + chainDemand (BitVec.ofNat 64 (c0w 256)) 2000000 false ≤ 3200000000) ∧
    (let s := crowd 0 fun c => { c with st := .running, c0 := BitVec.ofNat 64 (c0w 256), c1 := 0x1000000, c2 := 2000000 }
     filterOk (c0w 256 - 1) 2000000 s = true ∧ putFld (BitVec.ofNat 64 (c0w 256 - 1)) 0 1 0 = putFld s.chains[(15 : ChainId)].c0 0 1 0) ∧
    (let s := crowd 3 id { ready with throttled := true }
     s.throttled = true ∧ 1600000000 < s.demandBut (some 15) [.running] + chainDemand (BitVec.ofNat 64 (c0w 256)) 2000000 false) ∧
    (let s := crowd 3 id { ready with throttled := true }
     s.demandBut (some 15) [.running] + chainDemand (BitVec.ofNat 64 (c0w 1)) 2000000 false ≤ 1600000000) := by decide +kernel
theorem test_FilterCommands_coefficients :
    (cmd 0x41 [(4, 4), (8, 8)] [(4, 15), (5, 1), (6, 256)] [(0x11, 2)] = true ∧ cmd 0x41 [(4, 4), (8, 8)] [(4, 15), (5, 0), (6, 1)] [(0x11, 2)] = true ∧
      ready.chains[(15 : ChainId)].bankB = false ∧ ready.chains[(15 : ChainId)].fade = none ∧ ready.chains[(15 : ChainId)].pend = none) ∧
    (let f : Fade := { toB := true, k := 1, j := 0, who := some (1, 0) }
     let s := crowd 0 fun c => { c with fade := some f, pend := some f }
     s.chains[(15 : ChainId)].fade ≠ none ∧ s.chains[(15 : ChainId)].pend = some f ∧ f.toB = true ∧
     cmd 0x42 [(4, 4)] [(4, 15), (5, 1), (6, 256)] [(0x11, 4)] s = true) ∧
    (let s := { (paired .active) with pair := { (paired .active).pair with deltas := [(0x57FFF, 0, none)] } }
     s.copyWaits 0x50000 0x8000 = true ∧ cmd 0x42 [(4, 4)] [(4, 15), (5, 1), (6, 1)] [(0x11, 4)] s = true) ∧
    (cmd 0x42 [(4, 4)] [(4, 15), (5, 1), (6, 1)] [(0x11, 4)] = true ∧ ready.copyWaits 0x50000 0x8000 = false ∧
      symmetric (ready.chains[(15 : ChainId)].coefs true) = true ∧ ready.chains[(15 : ChainId)].st ≠ .running) ∧
    (let s := crowd 0 fun c => { c with c0 := BitVec.ofNat 64 (c0w 2), coefB := 1 :: List.replicate 255 0 }
     cUser s.chains[(15 : ChainId)].c0 = false ∧ symmetric (s.chains[(15 : ChainId)].coefs true) = false) ∧
    (let s := crowd 5 fun c => { c with st := .running, c0 := BitVec.ofNat 64 (c0w 256), c2 := 2000000 }
     s.chains[(15 : ChainId)].st = .running ∧ 3200000000 < s.demandBut (some 15) [.running, .suspended] + chainDemand s.chains[(15 : ChainId)].c0 s.chains[(15 : ChainId)].c2 true) ∧
    (let s := crowd 4 fun c => { c with st := .running, c0 := BitVec.ofNat 64 (c0w 256), c2 := 2000000 }
     s.chains[(15 : ChainId)].fade = none ∧
     s.demandBut (some 15) [.running, .suspended] + chainDemand s.chains[(15 : ChainId)].c0 s.chains[(15 : ChainId)].c2 true ≤ 3200000000) := by decide +kernel
theorem test_FilterCommands_sync :
    (cmd 0x43 [] [] [(0x11, 4)] = true ∧ ready.dspTick (ready.now + 1600) = 1600 ∧ ready.syncTick = none ∧ 1600 < 601 + 1000 ∧ 600 + 1000 ≤ 1600) ∧
    (∀ k ∈ [1, 2], fld ({ ready with syncw := BitVec.ofNat 4 k } : State).syncw 0 2 = k) ∧ fld ready.syncw 0 2 = 0 ∧
    (let o : FOut := { value := 0, angle := 0, rev := 0, stamp := 0, flags := 0 }
     let s := crowd 0 fun c => { c with batch := [o] }
     s.chains[(15 : ChainId)].batch = o :: [] ∧ s.now < s.chains[(15 : ChainId)].batchAt + 1000000 ∧
     s.chains[(15 : ChainId)].batchAt + 1000000 ≤ ({ s with clock := 1000000 } : State).now) := by decide +kernel


/-! ## The redundant pair -/

/-- A unit of a pair in state st, whose pair is otherwise as f makes it, and whose partner's HEARTBEAT shows x. -/
def unit_ (st : PState) (x : Nat) (f : Pair → Pair := id) (straps : BitVec 5 := 0b10010) : State :=
  { (paired st).modPair fun p => f { p with
      staticOk := true, partner := some { state := BitVec.ofNat 8 x, straps := 0b10011, hbcnt := 0, epoch := 0, cfggen := 0, cpseq := 0 } } with straps := straps }
theorem test_PairControl :
    (∀ k ∈ [1, 2], admOk (desc [(0, 0xD), (4, k)]) [(0x20, 4)] (unit_ .active 4) = true ∧ admOk (desc [(0, 0xD), (4, k)]) [(0x20, 4)] (unit_ .standby 4) = true ∧
      shaped (desc [(0, 0xD), (4, k)]) 0xD false false [(4, 1)] = true ∧ dNum (desc [(0, 0xD), (4, k)]) 4 1 = k) ∧
    (let s := unit_ .active 4
     s.pair.st = .active ∧ s.pair.degraded = false ∧ s.pair.lone = false ∧ s.pair.partnerReady = true ∧ s.ops = [] ∧ s.pair.zaf.present = true) ∧
    (unit_ .standby 4).pair.st ≠ .active ∧
    (let s := unit_ .active 4 fun p => { p with handover := some 0 }
     s.up = true ∧ s.pair.handedOver = false ∧ s.pair.handover = some 0 ∧ s.pair.finalDue = false ∧ s.pair.cap = none ∧
     (∀ q, (s.queue q).flight = []) ∧ s.now < s.pair.handoverAt + 10000000 ∧ s.pair.handoverAt + 10000000 ≤ ({ s with clock := 10000000 } : State).now) ∧
    (let s := { unit_ .active 4 (fun p => { p with resyncing := some (some 0), resyncCp := true }) with ops := [{ q := 0, n := 0, live := true, kind := .resync }] }
     s.pair.resyncCp = true ∧ s.pair.resyncing = some (some 0) ∧ (({ q := 0, n := 0, live := true, kind := .resync } : Op).kind = .resync)) := by decide +kernel
/-- A checkpoint whose COMMIT has been sent. -/
def caught (v : Word32) (final : Bool) : Capture := { seq := v, cfggen := 0, final := final, header := [], sent := true, who := [], logs := [] }
theorem test_JournalAtActive :
    (let s := { unit_ .active 4 with clock := 100000000 }
     s.up = true ∧ s.pair.zaf.present = true ∧ s.pair.cap = none ∧ s.pair.capAt + ptCpint s.pair.timing * 1000000 ≤ s.now) ∧
    (let s := { unit_ .active 4 (fun p => { p with logUsed := 1152 }) with clock := 1000000 }
     1152 ≤ s.pair.logUsed ∧ s.pair.capAt + 1000000 ≤ s.now) ∧
    (let s := { unit_ .active 4 (fun p => { p with capNow := true }) with clock := 999999 }
     s.pair.capNow = true ∧ s.now < s.pair.capAt + 1000000 ∧ s.now < s.pair.capAt + ptCpint s.pair.timing * 1000000) ∧
    (∀ k ∈ [0, 1], let c := caught 7 (k == 1); (unit_ .active 4 fun p => { p with cap := some c }).pair.cap = some c ∧ c.sent = true ∧ c.seq = 7) ∧
    (let s := unit_ .active 4 fun p => { p with resyncing := some none, resyncBytes := 0x7FF00 }
     s.pair.resyncing ≠ none ∧ s.pair.resyncBytes < 0x80000 ∧ (0xF00 : Word32).toNat = (s.pair.resyncBytes + 0x1000) % 0x80000) ∧
    (let s := unit_ .releasing 4 fun p => { p with deltas := [(8, 1, none)], logWait := [(16, 1, 0)] }
     s.pair.st = .releasing ∧ s.pair.resyncing = none ∧ s.pair.deltas = [] ++ (8, 1, none) :: [] ∧ s.pair.logWait = [] ++ (16, 1, 0) :: [] ∧ (8 : Word32) ≠ 16) := by decide +kernel
theorem test_JournalAtStandby :
    (let s := unit_ .standby 1
     s.up = true ∧ s.pair.st = .standby ∧ Memory.wf s.plinth = true ∧ s.pair.partner ≠ none ∧ (paired .standby).pair.partner = none) ∧
    ((0x200000 : Word32).toNat + 1 > 0x200000 ∧ (0x1FFF00 : Word32).toNat + 256 ≤ 0x200000 ∧ (List.replicate 256 (0 : Byte)).length ≤ 256) ∧
    (let s := unit_ .standby 1 fun p => { p with logTag := some 3, logUsed := 1536 }
     s.pair.logTag = some 3 ∧ (0x030000000000 : Word64).extractLsb' 40 8 = 3 ∧ 1536 ≤ s.pair.logUsed ∧ (0 : Word64).extractLsb' 40 8 ≠ 3) ∧
    ((List.replicate 64 (0 : Byte)).length = 64 ∧ ([] : List Byte).length ≠ 64) := by decide +kernel
/-- The bytes of a HEARTBEAT frame with STATE x, STRAPS y and EPOCH e. -/
def beat (x y e : Nat) : List Byte := leBytes 1 x ++ leBytes 1 y ++ leBytes 2 0 ++ leBytes 4 e ++ leBytes 8 0
/-- Both heartbeat paths are lost (or, with h false, the ZAFIFA path alone will be). -/
def pathless (st : PState) (h : Bool) (straps : BitVec 5) (f : Pair → Pair := id) : State :=
  { unit_ st 1 (fun p => f { p with zaf := { p.zaf with lost := true, present := false }, hb := { p.hb with lost := h } }) straps with clock := 1000000 }
theorem test_Heartbeats_paths :
    (let s := unit_ .active 4
     s.up = true ∧ s.redmode = 1 ∧ s.pair.gate = true ∧ s.pair.mute = false ∧ s.now < s.pair.hbLast + 1000 * ptHbper s.pair.timing ∧
     s.pair.hbLast + 1000 * ptHbper s.pair.timing ≤ ({ s with clock := 100000 } : State).now) ∧
    (unit_ .active 4 id 0b10100).redmode = 2 ∧ (unit_ .active 4 fun p => { p with gate := false }).pair.gate = false ∧
    (let x : HPath := { Reset.hpath with lost := true, goodSince := some 0 }
     x.lost = true ∧ 0 ≤ x.last + 100 ∧ 0 < 0 + 10 * 100) ∧ Reset.hpath.lost = false ∧
    ((pathless .standby false 0b10010).pair.degraded = false ∧ (pathless .standby false 0b10010).pair.zaf.lost ≠ (pathless .standby false 0b10010).pair.hb.lost) ∧
    ((pathless .standby true 0b10010 fun p => { p with degraded := true }).pair.degraded = true ∧
      (pathless .standby true 0b10010).pair.zaf.lost = (pathless .standby true 0b10010).pair.hb.lost) ∧
    ((beat 4 3 1).length = 16 ∧ (beat 4 3 1).getD 0 0 = 4 ∧ bit (4 : Byte) 2 = true ∧ fld (3 : Byte) 1 2 = 1 ∧ bit (3 : Byte) 0 = true ∧ (unit_ .active 4).roleB = false ∧
      BitVec.ofNat 32 (fieldAt (beat 4 3 1) 4 4) ≠ (unit_ .active 4).pair.epoch) := by decide +kernel
theorem test_Heartbeats_loss :
    (let s := unit_ .active 4
     s.pair.zaf.lost = false ∧ s.now < s.pair.zaf.last + ptTmiss s.pair.timing * (1000 * ptHbper s.pair.timing) ∧
     s.pair.zaf.last + ptTmiss s.pair.timing * (1000 * ptHbper s.pair.timing) ≤ ({ s with clock := 1000000 } : State).now) ∧
    (∀ k ∈ [0, 1], let st := if k = 0 then PState.standby else .active
      let s := { unit_ st 1 (fun p => { p with zaf := { p.zaf with lost := true }, hb := { p.hb with ever := true } }) with clock := 1000000 }
      let D := (s.modPair fun p => { p with hb := { p.hb with present := false, lost := true, goodSince := none, losses := p.hb.losses + 1 } }).degrade
      D.redmode = 1 ∧ D.pair.zaf.lost = true ∧ D.pair.hb.lost = true ∧ D.pair.hb.ever = true ∧ D.pair.st = st ∧ D.pair.peerAbsent = false) ∧
    (let D := (pathless .standby false 0b10100 fun p => { p with gntN := false }).degrade
     D.redmode = 2 ∧ D.pair.st = .standby ∧ D.pair.gntN = false ∧ D.partnerHolds = false) ∧
    (let D := (pathless .active false 0b10010 fun p => { p with peerAbsent := true }).degrade
     D.pair.st = .active ∧ D.pair.peerAbsent = true ∧ D.pair.hb.lost = false) := by decide +kernel
/-- A unit at its start. -/
def starting (straps : BitVec 5) (f : Pair → Pair := id) (t : Nat := 0) : State := { unit_ .starting 0 f straps with clock := t }
theorem test_Roles :
    ((starting 0b10010).up = true ∧ (starting 0b10010).pair.st = .starting ∧ (starting 0b10010).pair.mismatch = false) ∧
    (starting 0b10010 fun p => { p with mismatch := true }).pair.mismatch = true ∧ (starting 0b10010 fun p => { p with peerAbsent := true }).pair.peerAbsent = true ∧
    (let s := starting 0b10100 fun p => { p with gntN := false }
     s.redmode = 2 ∧ s.pair.gntN = false ∧ s.partnerHolds = false ∧ s.pair.peerAbsent = false) ∧
    ((starting 0b10100).redmode = 2 ∧ (starting 0b10100).pair.gntN = true) ∧
    (let s := { unit_ .starting 1 with clock := 1 }
     s.redmode = 1 ∧ s.partnerHolds = true) ∧
    ((starting 0b10010).redmode = 1 ∧ (starting 0b10010).roleB = false ∧ (starting 0b10010).partnerHolds = false) ∧
    (let s := starting 0b10011 id 499999999
     s.roleB = true ∧ s.pair.zaf.seen = false ∧ s.pair.hb.seen = false ∧ s.now < 500000000 ∧ 500000000 ≤ ({ s with clock := 500000000 } : State).now ∧ s.partnerHolds = false) ∧
    (starting 0b10011 fun p => { p with hb := { p.hb with seen := true } }).pair.hb.seen = true ∧
    ((unit_ .standby 0 id 0b10100).redmode = 2 ∧ (unit_ .standby 0 id 0b10100).partnerHolds = false ∧ (unit_ .active 0 id 0b10100).pair.st = .active) ∧
    (let s := unit_ .releasing 0
     s.pair.st = .releasing ∧ s.now < s.pair.tl + 1000000 * ptTrel s.pair.timing ∧
     s.pair.tl + 1000000 * ptTrel s.pair.timing ≤ ({ s with clock := 1000000000 } : State).now) := by decide +kernel
/-- The Plinth with a valid slot of SEQ 63 in its place, with no body. -/
def slot63 : List Host.Cell :=
  let b := 0x80000 + 0x6000 * 63
  (b, 63) :: (leBytes 4 (crc32c ((63 : Byte) :: List.replicate 59 0)).toNat).zipIdx.map fun p => (b + 60 + p.2, p.1)
/-- A standby that holds that Plinth, with the times t of its slots. -/
def standing (t : List (Nat × Nat)) : State := { unit_ .standby 1 (fun p => { p with slotTimes := t }) with plinth := slot63, clock := 10000000000 }
/-- The same once it has taken over by cause 1, before its static area is restored. -/
def taking (t : List (Nat × Nat)) : State :=
  (((standing t).hold 1).modPair fun p => { p with t1 := some (standing t).now, driven := false, slot := none }).romStart
theorem stage_pair (s : State) (r : Record) : (s.stage r).1.pair = s.pair := by
  unfold State.stage
  split
  · rfl
  · split <;> rfl
theorem chainRecord_pair (s : State) (k : ChainId) (x : Word16) (t : Nat) (v : Word32) (m : Nat) (o : List FOut) :
    (s.chainRecord k x t v m o).pair = s.pair := by
  unfold State.chainRecord State.stageCount
  dsimp only
  split
  · rfl
  · split <;> exact (congrArg (fun p : State × Bool => p.1.pair) ‹_›).symm.trans (stage_pair ..)
theorem startChains_pair (s : State) : s.startChains.pair = s.pair := by
  have hf : ∀ (l : List ChainId) (t : State), (l.foldl (fun (s : State) k =>
      if cEnable s.chains[k].c0 then s.chainStart k (s.dspTick s.now) 0 else s) t).pair = t.pair := by
    intro l
    induction l with
    | nil => intro t; rfl
    | cons k l ih =>
      intro t
      rw [List.foldl_cons, ih]
      split
      · exact chainRecord_pair ..
      · rfl
  exact hf _ s
theorem test_Takeover_slots : (standing []).pair.mismatch = false ∧ (taking []).pair.staticOk = true ∧
    ((((unit_ .standby 1 fun p => { p with staticOk := false }).hold 1).modPair fun p => { p with t1 := some 0 }).romStart).pair.staticOk = false ∧
    (taking []).restoreStatic.newestSlot = some 63 ∧ ({ taking [] with plinth := [] } : State).restoreStatic.newestSlot = none := by decide +kernel
theorem test_Takeover_times :
    (((taking []).restoreStatic.restoreSlot 63).startChains).pair.slotTimes = [] ∧
    (((taking [(63, 0)]).restoreStatic.restoreSlot 63).startChains).pair.slotTimes = [] ++ (63, 0) :: [] ∧
    ptStale (((taking [(63, 0)]).restoreStatic.restoreSlot 63).startChains).pair.timing * 1000000 < (standing [(63, 0)]).now - 0 ∧
    (standing [(63, 10000000000)]).now - 10000000000 ≤ ptStale (((taking [(63, 0)]).restoreStatic.restoreSlot 63).startChains).pair.timing * 1000000 := by
  simp only [startChains_pair]
  refine ⟨rfl, rfl, ?_, ?_⟩ <;> decide +kernel
theorem test_Takeover_resumes :
    (let s := unit_ .active 1 fun p => { p with t1 := some 0, driven := false }
     s.up = true ∧ s.pair.t1 = some 0 ∧ s.pair.driven = false ∧ (s.quad 0).sync = false ∧ s.pair.slot = none) ∧
    (let s := (field (unit_ .active 1 fun p => { p with t1 := some 0, slot := some 63 }))
     (∀ q : QuadId, (s.quad q).sync = true) ∧ s.pair.slot = some 63) ∧
    (let s := unit_ .active 1 fun p => { p with t1 := some 0, driven := true }
     s.pair.driven = true ∧ s.pair.ons = [] ∧ s.now < 0 + 2 * (1000 * ptHbper s.pair.timing) ∧
     0 + 2 * (1000 * ptHbper s.pair.timing) ≤ ({ s with clock := 1000000 } : State).now) ∧
    ((q1 0 .started).queue 1).st ≠ .absent ∧ (ready.queue 1).st = .absent := by decide +kernel

/-! ## The barrier, inputs, protection, Buttress and safe levels -/

/-- Quadrant 0 as f makes it. -/
def quad0 (f : Quad → Quad) (s : State := field) : State := s.modQuad 0 f
/-- A frame of good SYNC with the other bits w; its CRC agrees. -/
def up (w : Nat) : BitVec 200 := withCrc (2 * 2 ^ 190 + w)

theorem test_BarrierFrames :
    (field.up = true ∧ field.pair.st = .single ∧ (field.quad 0).frameSent = false ∧ (field.quad 0).sync = true ∧ (ready.quad 0).sync = false ∧
      (field.quad 0).mbox = []) ∧
    ((quad0 fun x => { x with frameSent := true }).quad 0).frameSent = true ∧ (field.quad 0).frame = field.frameNo ∧
    (∀ w ∈ [0, 2 ^ 190 - 1], fld (up w) 198 2 = 2 ∧ frameCrcOk (up w) = true ∧ fld (up w ^^^ BitVec.ofNat 200 (2 ^ 198)) 198 2 ≠ 2 ∧
      frameCrcOk (up w ^^^ 1) = false) ∧
    (∀ k ∈ [0, 3], ((quad0 fun x => { x with mbox := [.chanGroup 2 (Fin.ofNat 4 k), .protGroup 2 3] }).quad 0).mbox = .chanGroup 2 (Fin.ofNat 4 k) :: [.protGroup 2 3]) ∧
    (let s := out2 fun x => { x with chwNew := some Reset.chw, protNew := some Reset.protw, retry := 8 }
     (s.chan 2).chwNew = some Reset.chw ∧ (s.chan 2).protNew = some Reset.protw ∧ prRlim Reset.protw = 8 ∧ (s.chan 2).retry = 8 ∧ (s.chan 2).latch = false ∧
     s.lead 2 = 2 ∧ chIsOutput (s.chan 2).chw = true ∧ chIsOutput Reset.chw = false) ∧
    ((gang.modChan 2 fun x => x).lead 3 = 2) ∧
    (let s : State := { field with clock := 1000 }
     s.linked 0 = true ∧ s.sendsFrames = true ∧ 1 ≤ s.frameNo ∧ (s.quad 0).upFrame ≠ some (s.frameNo - 1) ∧
     ((s.modQuad 0 fun x => { x with upFrame := some 0 }).quad 0).upFrame = some (s.frameNo - 1)) ∧
    (chIsInput (field.chwOf 2) = true ∧ chIsOutput (field.chwOf 2) = false ∧ (field.chan 2).inTake = none ∧ (field.chan 2).inSt = (7 : Nat).testBit 3 ∧
      (field.chan 2).inSt ≠ (8 : Nat).testBit 3 ∧ ((field.modChan 2 fun x => { x with inTake := some 4 }).chan 2).inTake = some 4) ∧
    ((field.quad 0).lastGood = some 0 ∧ field.powered 0 = true ∧ (field.quad 0).fwTrig = false ∧ (field.quad 0).released = false ∧
      field.clock < 0 + (field.quad 0).silence * 1000 ∧ 0 + (field.quad 0).silence * 1000 ≤ ({ field with clock := 1000000 } : State).clock ∧
      (ready.quad 0).lastGood = none) := by decide +kernel

/-- Channel 2 is an input with the bits w of its group set, and is otherwise as f makes it, at device time t. -/
def in2 (w : Word64) (f : Chan → Chan := id) (t : Nat := 0) : State := { field.modChan 2 fun x => f { x with chw := x.chw ||| w } with clock := t }
theorem test_Inputs :
    (field.powered 0 = true ∧ field.linked 0 = true ∧ chIsInput (field.chwOf 2) = true ∧ (field.chan 2).acc = false ∧
      (field.chan 2).inTake = none) ∧
    (let s : State := in2 0 id 3000000
     chEdgeMode (s.chwOf 2) = false ∧ chDebounce (s.chwOf 2) * 1000 = 3000000 ∧ (s.chan 2).filtAt + 3000000 ≤ s.dieNow / 125 * 125) ∧
    (let s := in2 0x40 fun x => { x with lockUntil := some 125 }
     chEdgeMode (s.chwOf 2) = true ∧ chDebounce (s.chwOf 2) ≠ 0 ∧ (s.chan 2).lockUntil = some 125 ∧ s.dieNow / 125 * 125 < 125 ∧
     125 ≤ ({ s with clock := 125 } : State).dieNow / 125 * 125 ∧ (s.chan 2).acc = false) ∧
    (let s := in2 0x80 id 10000000
     chWben (s.chwOf 2) = true ∧ (s.quad 0).lclass = .normal ∧ (s.quad 0).wbResume = 0 ∧ bit (s.chan 2).standing 0xA = false ∧
     max (s.quad 0).wbFrom (s.chan 2).grpAt + 10000000 ≤ s.dieNow) ∧
    bit ((in2 0x80 fun x => { x with standing := 0x400 }).chan 2).standing 0xA = true ∧
    chWben (field.chwOf 2) = false ∧ ((quad0 fun x => { x with lclass := .over }).quad 0).lclass = .over ∧
    (let s := quad0 fun x => { x with wbResume := 10 }
     (s.quad 0).wbResume ≠ 0 ∧ s.dieNow < (s.quad 0).wbResume ∧ (s.quad 0).wbResume ≤ ({ s with clock := 10 } : State).dieNow) ∧
    (ready.ang.stateAt 0 = .idle ∧ (source 1).ang.stateAt 0 = .running ∧ (field.stage (.inputEdge 2 0 0 0 0 0)).2 = true ∧
      ({ field with vault := { field.vault with layout := 0 } }.stage (.inputEdge 2 0 0 0 0 0)).2 = false ∧
      { field with routes := .replicate 10 0x40 }.route (.inputEdge 2 0 0 0 0 0) = 0x40 ∧ field.route (.inputEdge 2 0 0 0 0 0) ≠ 0x40) := by decide +kernel

theorem test_Diagnostics :
    (field.linked 0 = true ∧ field.powered 0 = true ∧ (out2).isOutput 2 = true) ∧
    (let s := out2 fun x => { x with settle := some 8 }
     (s.chan 2).settle = some 8 ∧ s.dieNow < 8 ∧ 8 ≤ ({ s with clock := 8 } : State).dieNow ∧ (s.chan 2).drv = false ∧ (s.chan 2).test = .idle ∧ (s.chan 2).reverse = false ∧
     s.genDrives 2 = none ∧ (s.chan 2).inLimit = false ∧ (s.chan 2).inrush = none ∧ bit (s.chan 2).standing 9 = false) ∧
    ((out2 fun x => { x with drv := true }).chan 2).drv = true ∧ ((out2 fun x => { x with reverse := true }).chan 2).reverse = true ∧
    (let s : State := { out2 (fun x => { x with inSt := true }) with clock := 200000 }
     (s.chan 2).inSt = true ∧ (s.chan 2).inAt + chSettle (s.chwOf 2) * 1000 ≤ s.now ∧ ({ s with clock := 199999 } : State).now < (s.chan 2).inAt + chSettle (s.chwOf 2) * 1000) ∧
    (let g : Gen := { pulw := Reset.pulw, start := 0, phase := 0, next := none, want := none, lvl := true, edged := true, hold := 0, onUntil := 0, measured := none }
     let s := armed fun x => { x with gen := some g, drv := true, checkDue := true }
     s.genDrives 2 = some g ∧ (s.chan 2).settle = none ∧ (s.chan 2).checkDue = true ∧ g.phaseLeft (s.budOf 2) (1000 * 499 + 999) ≤ 1000 ∧
     ¬ g.phaseLeft (s.budOf 2) 999 ≤ 1000) ∧
    (let s : State := { armed (fun x => { x with protw := x.protw ||| 6 }) with clock := 11000000 }
     let s := s.modQuad 0 fun x => { x with dieArmed := true }
     prOloff (s.protOf 2) = true ∧ prOlon (s.protOf 2) = true ∧ (s.quad 0).lclass = .normal ∧ (s.quad 0).olResume = 0 ∧ (s.chan 2).settle = none ∧
     s.fieldOff 2 = false ∧ bit (s.chan 2).standing 5 = false ∧ bit (s.chan 2).standing 6 = false ∧ (s.quad 0).released = false ∧ (s.quad 0).fwTrig = false ∧
     s.genDrives 2 = none ∧ max (max (s.quad 0).olFrom (s.chan 2).grpAt) ((s.chan 2).drvAt + chSettle (s.chwOf 2) * 1000) + 10000000 ≤ s.dieNow) ∧
    (let s := quad0 fun x => { x with olResume := 10 }
     (s.quad 0).olResume ≠ 0 ∧ s.dieNow < (s.quad 0).olResume ∧ (s.quad 0).olResume ≤ ({ s with clock := 10 } : State).dieNow) ∧
    (∀ k ∈ [0, 1, 2, 3], let c := [LClass.normal, .low, .under, .over].getD k .normal
      let s : State := { quad0 (fun x => { x with lclass := c }) with clock := 10000000 }
      (s.quad 0).lclass = c ∧ (s.quad 0).classAt + 10000000 ≤ s.dieNow) := by decide +kernel

theorem test_Protection :
    (field.powered 0 = true ∧ (field.chan 2).inLimit = false ∧ (field.chan 2).drv = false ∧ ((out2 fun x => { x with drv := true }).chan 2).drv = true ∧
      (out2).members 2 = [2] ∧ gang.members 3 = [2, 3] ∧ ((out2 fun x => { x with inrush := some 8 }).chan 2).windowOn = true) ∧
    (let s : State := { out2 (fun x => { x with inLimit := true, drv := true }) with clock := 100000 }
     (s.chan 2).inLimit = true ∧ s.members (s.lead 2) = [2] ∧ (s.chan 2).inrush = none ∧ (s.chan 2).limitSince + 100000 ≤ s.dieNow ∧
     ({ s with clock := 99999 } : State).dieNow < (s.chan 2).limitSince + 100000) ∧
    (let s : State := { out2 (fun x => { x with drv := true }) with clock := 100000000 }
     prOvtime (s.protOf 2) * 10000000 = 100000000 ∧ (s.chan 2).ovFrom + 100000000 ≤ s.dieNow) ∧
    ((out2).modChan 2 fun x => { x with sliceHot := true }).isOutput 2 = true ∧ (field.modChan 2 fun x => { x with sliceHot := true }).isOutput 2 = false ∧
    (field.quad 0).hot = false ∧ ((quad0 fun x => { x with hot := true }).quad 0).hot = true ∧
    (let s := out2 fun x => { x with inrush := some 8 }
     (s.chan 2).inrush = some 8 ∧ s.dieNow < 8 ∧ 8 ≤ ({ s with clock := 8 } : State).dieNow) ∧
    (let s : State := { out2 (fun x => { x with reverse := true }) with clock := 200000 }
     (s.quad 0).lclass = .normal ∧ (s.chan 2).reverse = true ∧ ((out2).chan 2).reverse = false ∧
     (s.chan 2).revAt + chSettle (s.chwOf 2) * 1000 ≤ s.dieNow) ∧
    (let s := out2 fun x => { x with retry := 1 }
     (s.chan 2).retry ≠ 0 ∧ s.dieNow < (s.chan 2).lastThermal + prRwin (s.protOf 2) * 1000000000 ∧
     (s.chan 2).lastThermal + prRwin (s.protOf 2) * 1000000000 ≤ ({ s with clock := 10000000000 } : State).dieNow) ∧
    (let s := out2 fun x => { x with cause := .overload }
     OffCause.short.order ≠ 0 ∧ (s.chan 2).drv = false ∧ (s.chan 2).cause.order < OffCause.short.order ∧ (s.chan 2).causeAt = s.dieNow / 125 ∧
     OffCause.overload.order ≤ (s.chan 2).cause.order) ∧
    (prRlim ((out2).protOf 2) ≠ 0 ∧ prLatch ((out2).protOf 2) = false ∧ ((out2).chan 2).latch = false) := by decide +kernel

/-- A request of the source src for channel 2, waiting since frame 0. -/
def req (src : ReqSrc) (failed : Nat := 0) : Req := { chan := 2, src := src, kind := .level, frame := 0, key := 0, seq := 0, firing := 0, tested := none, failed := failed, olds := [] }
/-- It waits at Buttress, with channel 2 as f makes it, at device time t. -/
def asking (r : Req) (f : Chan → Chan := id) (t : Nat := 0) : State := { armed f with reqs := [r], clock := t, devw := 25 }
theorem test_Buttress_requests :
    (armed.pair.st = .single ∧ (armed.quad 0).statusMiss = false ∧ ((quad0 fun x => { x with statusMiss := true }).quad 0).statusMiss = true ∧ armed.reqs = []) ∧
    (let r := req (.host 1 0); let s := asking r
     quadOf r.chan = 0 ∧ s.readyReq r = true ∧ r.tested ≠ some s.frameNo ∧ r.rank ≠ 0 ∧ s.frozen 0 = false ∧ s.reqs = [] ++ r :: [] ∧
     ({ s with rows := s.rows, viso := true, quads := s.quads.map fun x => { x with armed := false } } : State).readyReq r = false) ∧
    (let r := req (.courseHard 0)
     r.rank = 0 ∧ (asking r fun x => { x with dstate := 2 }).testReq r ≠ 0) ∧
    (let r := req (.host 1 0); let s := asking r (fun x => { x with dstate := 2 }) 2000000
     s.testReq r = 1 ∧ r.failed = 0 ∧ r.src ≠ .restart ∧ r.rank = 2 ∧ s.readyReq r = true ∧ r.frame + 100 * buDmax (s.chan 2).budw ≤ s.frameNo ∧ buRefuse (s.chan 2).budw = false ∧
     ({ s with clock := 1999999 } : State).frameNo < r.frame + 100 * buDmax (s.chan 2).budw) ∧
    (let r := req (.courseSoft 0); let s := asking r (fun x => { x with dT := 200, budw := x.budw ||| 0x1000000 }) 2000000
     s.testReq r ≠ 0 ∧ s.testReq r ≠ 1 ∧ r.rank = 1 ∧ buRefuse (s.chan 2).budw = true ∧ s.readyReq r = true) ∧
    (let r := req .restart
     r.rank = 3) := by decide +kernel
theorem pPKG_cool (s : State) (h : dvTamb s.devw ≤ 85) : s.pPKG = 11000 := by
  unfold State.pPKG
  have : decide (85 < dvTamb s.devw) = false := decide_eq_false (by omega)
  simp [this]
theorem test_Buttress_admits : (asking (req (.host 1 0))).testReq (req (.host 1 0)) = 0 ∧ (asking (req (.courseHard 0))).testReq (req (.courseHard 0)) = 0 := by
  unfold State.testReq
  rw [pPKG_cool _ (by decide +kernel), pPKG_cool _ (by decide +kernel)]
  decide +kernel
theorem test_Buttress_headroom :
    1 / 10 ≤ ({ armed with devw := 25 } : State).headroom 0 (armed.inom 2) ∧
    ({ armed.modQuad 0 fun x => { x with qbudw := Reset.qbudw - 1150 } with devw := 25 } : State).headroom 0 (armed.inom 2) < 1 / 10 := by
  unfold State.headroom
  rw [pPKG_cool _ (by decide +kernel), pPKG_cool _ (by decide +kernel)]
  decide +kernel
theorem test_Buttress_time :
    (let s := armed fun x => { x with protw := x.protw ||| 8 }
     s.testDue 2 = true ∧ (∀ d ∈ quadChans 0, s.testDue d = true → (s.chan 2).testKey ≤ (s.chan d).testKey) ∧ (∀ d ∈ quadChans 0, (s.chan d).test = .idle)) ∧ armed.testDue 2 = false ∧
    (let s := (armed fun x => { x with protw := x.protw ||| 8 }).modChan 2 fun x => { x with testLast := some 0 }
     let s : State := { s.modChan 3 (fun x => { x with chw := 0x000000C80BB80002, protw := x.protw ||| 8 }) with clock := 1000000000 }
     s.testDue 3 = true ∧ (s.chan 3).testKey < (s.chan 2).testKey) ∧
    (let s := armed fun x => { x with test := .running, testEnd := some 200000, drv := true, ref := true }
     s.linked 0 = true ∧ (s.chan 2).test = .running ∧ (s.chan 2).testEnd = some 200000 ∧ s.dieNow < 200000 ∧
     200000 ≤ ({ s with clock := 200000 } : State).dieNow ∧ s.demand 2 = true ∧ s.fieldOff 2 = false) ∧
    (armed fun x => { x with test := .running, testEnd := some 200000, drv := true }).demand 2 = false ∧
    (let g : Gen := { pulw := Reset.pulw, start := 0, phase := 0, next := some (Reset.pulw, 1000000), want := none, lvl := true,
                      edged := true, hold := 0, onUntil := 0, measured := none }
     let s : State := { armed (fun x => { x with gen := some g, drv := true, senseAt := 500 }) with clock := 500000 }
     (s.chan 2).gen = some g ∧ (armed.chan 2).gen = none ∧ genStartAnchored Reset.pulw = false ∧ gridStart Reset.pulw 0 1000000 = 1000000 ∧
     (s.genNext 2 g).levelAt (s.chan 2).budw s.now = false ∧ (s.genNext 2 g).lastEdge (s.chan 2).budw s.now = 500000 ∧ genOn (g.runs (s.chan 2).budw) = 500000) := by decide +kernel

/-- Channel 2 is an armed output under a safe level of kind v, switched on by its die or not. -/
def safe2 (v : SafeVal) (gate : Bool := false) : State :=
  { armed (fun x => { x with safe := v, safeOn := true, safeGate := gate, safeStart := if gate then some 0 else none }) with safeN := true }

theorem test_SafeLevels :
    (ready.isOutput 2 = false ∧ (out2).isOutput 2 = true ∧ armed.fieldOff 2 = false) ∧
    (let s := armed.modQuad 0 fun x => { x with released := true }
     (s.quad 0).released = true ∧ s.fieldOff 2 = false) ∧
    ((armed.quad 0).fwTrig = false ∧ (armed.quad 0).released = false) ∧
    (∀ k ∈ [0, 1, 2, 3], let v := [SafeVal.off, .on, .hold, .pulse].getD k .off; ((safe2 v).chan 2).safe = v ∧ (safe2 v).safeN = true ∧ (safe2 v).fieldOff 2 = false) ∧
    ((safe2 .pulse true).chan 2).safeStart = some 0 ∧ ((safe2 .pulse true).chan 2).safeGate = true ∧ ((safe2 .pulse).chan 2).safeGate = false ∧ armed.holding 0 = false ∧ ({ armed with clock := 2000 } : State).holding 0 = true ∧ armed.staleChan 2 = false ∧
    ({ armed with safeN := true, clock := 1000000 } : State).safeNAt + 1000000 ≤ ({ armed with safeN := true, clock := 1000000 } : State).clock ∧
    (armed.safeN = false ∧ armed.encSafe = false ∧ (armed.quad 0).hwTrig = false ∧ (armed.quad 0).disTrig = false ∧ (armed.chan 2).safeOn = false ∧
      (armed.quad 0).armed = true ∧ (field.quad 0).armed = false ∧ (armed.chan 2).gen = none) ∧
    ((armed.chan 2).safeNew = none ∧ ((armed fun x => { x with safeNew := some (.on, 250, 0) }).chan 2).safeNew = some (.on, 250, 0) ∧ armed.lead 2 = 2) ∧
    (armed.powered 0 = true ∧ armed.safeWaits 0 = [] ∧ (safe2 .on).safeWaits 0 = [2] ∧ (armed.quad 0).safeFrame ≠ some 0 ∧
      ((safe2 .on).modChan 3 fun x => { x with chw := 0x000000C80BB80002, safe := .pulse }).safeWaits 0 = 2 :: 3 :: []) ∧
    ((quad0 fun x => { x with safeFrame := some 0 }).quad 0).safeFrame = some ((field.clock - field.zero) / 1000) ∧
    (let s := ready.modHost fun h => { h with wdPeriod := 1 }
     s.host.wdPeriod ≠ 0 ∧ s.host.wdFired = false ∧ s.pair.st = .single ∧ s.now < s.host.wdLast + s.host.wdNs ∧
     s.host.wdLast + s.host.wdNs ≤ ({ s with clock := 100000000000 } : State).now) := by decide +kernel

end Sys2Proof.Tests
end

/-!
The barrier frames and the field watchdog (R20–R30, R125, R132, R173, R214): where the downlink frame holds what it carries,
what each end makes of a frame, and the settlement of O55.
-/
namespace Sys2Proof.Machine
open Sys2Proof

/-! ## The bits of a 200-bit frame -/

/-- The check bits of a frame leave its other bits alone. -/
theorem bit_withCrc (n i : Nat) (hlo : 8 ≤ i) (hhi : i < 200) : bit (withCrc (n / 256)) i = n.testBit i := by
  have hn : (256 * (n / 256)).testBit i = n.testBit i := by
    rw [show 256 = 2 ^ 8 from rfl, Nat.testBit_two_pow_mul, Nat.testBit_div_two_pow, Nat.sub_add_cancel hlo]
    simp [hlo]
  rw [bit, withCrc, BitVec.getLsbD_or, BitVec.getLsbD_setWidth, BitVec.getLsbD_of_ge _ i hlo, BitVec.getLsbD_ofNat, hn]
  simp [hhi]

/-- The bits of a field. -/
theorem testBit_fld {n : Nat} (w : BitVec n) (lo len j : Nat) :
    (fld w lo len).testBit j = (decide (j < len) && bit w (lo + j)) := by
  rw [fld, BitVec.testBit_toNat, BitVec.getLsbD_extractLsb', bit]

/-- A field above the check bits of a frame. -/
theorem fld_withCrc (n lo len : Nat) (hlo : 8 ≤ lo) (hhi : lo + len ≤ 200) :
    fld (withCrc (n / 256)) lo len = n / 2 ^ lo % 2 ^ len := by
  refine Nat.eq_of_testBit_eq fun j => ?_
  rw [testBit_fld, Nat.testBit_mod_two_pow, Nat.testBit_div_two_pow]
  by_cases hj : j < len
  · rw [bit_withCrc n (lo + j) (by omega) (by omega), Nat.add_comm]
  · simp [hj]

/-- Numbers of four bits side by side spell a number in base 16. -/
theorem ofDigits_ofFn {n : Nat} (v : Fin n → Nat) : Nat.ofDigits 16 (List.ofFn v) = ∑ i, v i * 16 ^ i.val := by
  induction n with
  | zero => rfl
  | succ n ih =>
    rw [List.ofFn_succ, Nat.ofDigits_cons, ih, Fin.sum_univ_succ, Finset.mul_sum]
    simp only [Fin.val_zero, pow_zero, mul_one, Fin.val_succ, pow_succ']
    exact congrArg (v 0 + ·) (Finset.sum_congr rfl fun i _ => Nat.mul_left_comm ..)

/-- They need no more room than four bits each. -/
theorem sum_nibbles_lt {n : Nat} (v : Fin n → Nat) (hv : ∀ i, v i < 16) : ∑ i, v i * 16 ^ i.val < 16 ^ n := by
  have h := Nat.ofDigits_lt_base_pow_length (b := 16) (l := List.ofFn v) (by decide)
    ((List.forall_mem_ofFn_iff (P := (· < 16))).mpr hv)
  rwa [ofDigits_ofFn, List.length_ofFn] at h

/-- Each of them is read back from its place. -/
theorem nibble_of_sum {n : Nat} (v : Fin n → Nat) (hv : ∀ i, v i < 16) (k : Fin n) :
    (∑ i, v i * 16 ^ i.val) / 16 ^ k.val % 16 = v k := by
  rw [← ofDigits_ofFn, Nat.ofDigits_div_pow_eq_ofDigits_drop k.val (by decide) _
      ((List.forall_mem_ofFn_iff (P := (· < 16))).mpr hv),
    List.drop_eq_getElem_cons (by simp), Nat.ofDigits_cons, Nat.add_mul_mod_self_left, List.getElem_ofFn]
  exact Nat.mod_eq_of_lt (hv k)

/-- The same with more fields above. -/
theorem nibble_below {n K : Nat} (v : Fin n → Nat) (hv : ∀ i, v i < 16) (k : Fin n) :
    (∑ i, v i * 16 ^ i.val + 16 ^ n * K) / 16 ^ k.val % 16 = v k := by
  obtain ⟨d, hd⟩ : ∃ d, n = k.val + (d + 1) := ⟨n - k.val - 1, by omega⟩
  have : 16 ^ n * K = 16 ^ k.val * (16 * (16 ^ d * K)) := by
    rw [congrArg (16 ^ ·) hd]
    ring
  rw [this, Nat.add_mul_div_left _ _ (by positivity), Nat.add_mul_mod_self_left, nibble_of_sum v hv]

/-! ## The downlink frame's places (R22) -/

theorem localOf_chanAt (q : QuadId) (i : Fin 32) : localOf (chanAt q i) = i := by
  ext; simp [localOf, chanAt]

theorem chanAt_quadOf_localOf (c : ChanId) : chanAt (quadOf c) (localOf c) = c := by
  ext; simp [chanAt, quadOf, localOf]; omega

/-- The level and the eighth of a channel (R22). -/
def State.outField (s : State) (c : ChanId) : Nat := b2n (s.level c) * 8 + s.outAt c / 125 % 8

theorem State.outField_lt (s : State) (c : ChanId) : s.outField c < 16 := by
  unfold State.outField b2n; split <;> omega

theorem State.testBit_outField (s : State) (c : ChanId) : (s.outField c).testBit 3 = s.level c := by
  unfold State.outField b2n
  rw [Nat.testBit_eq_decide_div_mod_eq]
  cases s.level c <;> simp

theorem State.outField_mod (s : State) (c : ChanId) : s.outField c % 8 = s.outAt c / 125 % 8 := by
  unfold State.outField; omega

theorem convOrder_lt (o : Option (Word64 × Nat)) : convOrder o < 4096 := by
  cases o with
  | none => decide
  | some p =>
    have h1 : s1Insel p.1 < 64 := BitVec.isLt _
    have h2 : s1Range p.1 < 4 := BitVec.isLt _
    simp only [convOrder]
    omega

/-- The 32 channels' bits lie from bit 65 on, four for each. -/
theorem outs_eq_sum (s : State) (q : QuadId) :
    (quadChans q).foldl (fun a c => a + (b2n (s.level c) * 8 + s.outAt c / 125 % 8) * 2 ^ (65 + 4 * (localOf c).val)) 0 =
      2 ^ 65 * ∑ i : Fin 32, s.outField (chanAt q i) * 16 ^ i.val := by
  rw [quadChans, List.foldl_map, ← List.foldl_map (g := (· + ·)), ← List.sum_eq_foldl, ← List.ofFn_eq_map, List.sum_ofFn, Finset.mul_sum]
  refine Finset.sum_congr rfl fun i _ => ?_
  rw [localOf_chanAt, pow_add, pow_mul, State.outField]
  ring

/-- The frame with its orders and its mailbox word as one number r, which fits below the channels' bits. -/
theorem State.coreWord_eq (s : State) (q : QuadId) : ∃ r < 2 ^ 56, s.coreWord q = withCrc ((2 * 2 ^ 198 + s.frameNo % 32 * 2 ^ 193 +
    2 ^ 65 * (∑ i : Fin 32, s.outField (chanAt q i) * 16 ^ i.val) + r * 2 ^ 9 + b2n (s.quad q).armed * 2 ^ 8) / 256) := by
  simp only [State.coreWord, outs_eq_sum]
  generalize (s.meas[q].plan (s.frameNo + 1))[0]? = conv0
  generalize (s.meas[q].plan (s.frameNo + 1))[1]? = conv1
  have h0 := convOrder_lt conv0
  have h1 := convOrder_lt conv1
  have hm := (s.mailboxBits q).isLt
  refine ⟨convOrder conv0 * 2 ^ 44 + convOrder conv1 * 2 ^ 32 + (s.mailboxBits q).toNat, by omega,
    congrArg (fun n => withCrc (n / 256)) ?_⟩
  ring

/-- SYNC, COUNT, ARMED and the channels' fields stand at their places. -/
theorem fld_coreWord (s : State) (q : QuadId) :
    fld (s.coreWord q) 198 2 = 2 ∧ fld (s.coreWord q) 193 5 = s.frameNo % 32 ∧ bit (s.coreWord q) 8 = (s.quad q).armed ∧
      ∀ i, fld (s.coreWord q) (65 + 4 * i.val) 4 = s.outField (chanAt q i) := by
  obtain ⟨r, hr, hw⟩ := State.coreWord_eq s q
  have hD := sum_nibbles_lt (fun i : Fin 32 => s.outField (chanAt q i)) fun i => s.outField_lt _
  have hN := nibble_below (K := s.frameNo % 32 + 64) (fun i : Fin 32 => s.outField (chanAt q i)) fun i => s.outField_lt _
  have ha : b2n (s.quad q).armed < 2 := by unfold b2n; split <;> decide
  have ha' : decide (b2n (s.quad q).armed = 1) = (s.quad q).armed := by cases (s.quad q).armed <;> rfl
  rw [hw]
  generalize (∑ i : Fin 32, s.outField (chanAt q i) * 16 ^ i.val) = D at *
  refine ⟨?_, ?_, ?_, fun i => ?_⟩
  · rw [fld_withCrc _ _ _ (by decide) (by decide)]
    omega
  · rw [fld_withCrc _ _ _ (by decide) (by decide)]
    omega
  · rw [bit_withCrc _ _ (by decide) (by decide), Nat.testBit_eq_decide_div_mod_eq]
    refine Eq.trans (congrArg (fun k => decide (k = 1)) ?_) ha'
    omega
  · rw [fld_withCrc _ _ _ (by omega) (by omega), pow_add, ← Nat.div_div_eq_div_mul, pow_mul, ← hN i]
    refine congrArg (· / 16 ^ i.val % 16) ?_
    omega

theorem bit_add_three (w : BitVec 200) (lo : Nat) : bit w (lo + 3) = (fld w lo 4).testBit 3 := by
  rw [testBit_fld]; rfl

theorem fld_three (w : BitVec 200) (lo : Nat) : fld w lo 3 = fld w lo 4 % 8 := by
  refine Nat.eq_of_testBit_eq fun j => ?_
  rw [show 8 = 2 ^ 3 from rfl, Nat.testBit_mod_two_pow, testBit_fld, testBit_fld]
  by_cases hj : j < 3
  · simp [hj, Nat.lt_succ_of_lt hj]
  · simp [hj]

/-- The places of a downlink frame (R22). -/
theorem State.coreWord_places (s : State) (q : QuadId) :
    fld (s.coreWord q) 198 2 = 2 ∧ fld (s.coreWord q) 193 5 = s.frameNo % 32 ∧ bit (s.coreWord q) 8 = (s.quad q).armed ∧
      ∀ c, quadOf c = q → bit (s.coreWord q) (68 + 4 * (localOf c).val) = s.level c ∧
        fld (s.coreWord q) (65 + 4 * (localOf c).val) 3 = s.outAt c / 125 % 8 := by
  obtain ⟨hsync, hcount, harmed, hout⟩ := fld_coreWord s q
  refine ⟨hsync, hcount, harmed, fun c hc => ?_⟩
  subst hc
  have h := hout (localOf c)
  rw [chanAt_quadOf_localOf] at h
  constructor
  · rw [show 68 + 4 * (localOf c).val = 65 + 4 * (localOf c).val + 3 by omega, bit_add_three, h, s.testBit_outField]
  · rw [fld_three, h, s.outField_mod]

/-! ## DOWNLINK_FRAME (R20–R22, R26) -/

theorem State.when_of_true (s : State) {b : Bool} (f : State → State) (h : b = true) : s.when b f = f s := by
  rw [State.when, if_pos h]

theorem State.when_of_false (s : State) {b : Bool} (f : State → State) (h : b = false) : s.when b f = s := by
  rw [State.when, if_neg (by simp [h])]

theorem State.sendsFrames_iff (s : State) :
    s.sendsFrames = true ↔ s.up = true ∧ (s.pair.st = .single ∨ s.pair.st = .active ∨ s.pair.st = .releasing) := by
  simp [State.sendsFrames, State.holdsRole, or_assoc]

theorem frameGood_iff (w : BitVec 200) : frameGood w = true ↔ fld w 198 2 = 2 ∧ frameCrcOk w = true := by
  simp [frameGood]

theorem frameGood_eq_false_iff (w : BitVec 200) : frameGood w = false ↔ fld w 198 2 ≠ 2 ∨ frameCrcOk w = false := by
  simp [frameGood, imp_iff_not_or]

/-- What the die of q makes of a frame w: nothing before it has synchronised (R26). -/
def State.receive (s : State) (q : QuadId) (w : BitVec 200) : State :=
  if !(s.quad q).sync then s else if frameGood w then s.goodFrame q w else s.badFrame q

theorem State.receive_unsynced (s : State) (q : QuadId) (w : BitVec 200) (h : (s.quad q).sync = false) : s.receive q w = s := by
  simp [State.receive, h]

theorem State.receive_good (s : State) (q : QuadId) (w : BitVec 200) (h : (s.quad q).sync = true) (hw : frameGood w = true) :
    s.receive q w = s.goodFrame q w := by
  simp [State.receive, h, hw]

theorem State.receive_bad (s : State) (q : QuadId) (w : BitVec 200) (h : (s.quad q).sync = true) (hw : frameGood w = false) :
    s.receive q w = s.badFrame q := by
  simp [State.receive, h, hw]

/-- The three ways in which the die of q can meet a frame. -/
theorem State.eq_receive (A B : State) (q : QuadId) (w : BitVec 200) (hunsynced : (A.quad q).sync = false → B = A)
    (hgood : (A.quad q).sync = true → fld w 198 2 = 2 → frameCrcOk w = true → B = A.goodFrame q w)
    (hbad : (A.quad q).sync = true → fld w 198 2 ≠ 2 ∨ frameCrcOk w = false → B = A.badFrame q) : B = A.receive q w := by
  cases hsync : (A.quad q).sync with
  | false => rw [A.receive_unsynced q w hsync, hunsynced hsync]
  | true =>
    cases hw : frameGood w with
    | false => rw [A.receive_bad q w hsync hw, hbad hsync ((frameGood_eq_false_iff w).mp hw)]
    | true =>
      obtain ⟨h2, hcrc⟩ := (frameGood_iff w).mp hw
      rw [A.receive_good q w hsync hw, hgood hsync h2 hcrc]

/-- CORE forms a frame for q and the die receives it with the bits of err inverted (R20–R22). -/
def State.sendFrame (s : State) (q : QuadId) (err : BitVec 200) (r : Readings) : State :=
  let A := s.coreFrame q r
  let B := A.receive q (A.coreWord q ^^^ err)
  (B.frameSent q).modQuad q fun x => { x with frame := B.frameNo, frameSent := true }

theorem exec_downlinkFrame (dt : Nat) (q : QuadId) (err : BitVec 200) (r : Readings) (s : State) :
    exec (.downlinkFrame dt q err r) s = .next ((s.elapse dt).when ((s.elapse dt).sendsFrames &&
      !(((s.elapse dt).quad q).frameSent && ((s.elapse dt).quad q).frame == (s.elapse dt).frameNo)) fun t =>
        t.sendFrame q err r) := rfl

/-- One frame per microsecond (R20): a second one is turned away. -/
theorem downlinkFrame_again (dt : Nat) (q : QuadId) (err : BitVec 200) (r : Readings) (s : State)
    (hsent : ((s.elapse dt).quad q).frameSent = true) (hno : ((s.elapse dt).quad q).frame = (s.elapse dt).frameNo) :
    exec (.downlinkFrame dt q err r) s = .next (s.elapse dt) := by
  rw [exec_downlinkFrame, State.when_of_false]
  rw [hsent, hno, beq_self_eq_true, Bool.and_self, Bool.not_true, Bool.and_false]

/-- The frame of a new microsecond: CORE forms it, the die receives it, and it counts as sent. -/
theorem downlinkFrame_new (dt : Nat) (q : QuadId) (err : BitVec 200) (r : Readings) (s A B : State)
    (hs : (s.elapse dt).sendsFrames = true)
    (hnew : ((s.elapse dt).quad q).frameSent = false ∨ ((s.elapse dt).quad q).frame ≠ (s.elapse dt).frameNo)
    (hA : A = (s.elapse dt).coreFrame q r) (hB : B = A.receive q (A.coreWord q ^^^ err)) :
    exec (.downlinkFrame dt q err r) s =
      .next ((B.frameSent q).modQuad q fun x => { x with frame := B.frameNo, frameSent := true }) := by
  rw [exec_downlinkFrame, State.when_of_true]
  · simp only [State.sendFrame, ← hA, ← hB]
  · rcases hnew with h | h <;> simp [-State.elapse_quad, hs, h]

/-- What a good frame brings to the die (R22, R26, R30, R214). -/
theorem State.goodFrame_steps (S : State) (q : QuadId) (w : BitVec 200) (out : ChanId → Nat) (A B C D : State)
    (hout : ∀ c, out c = fld w (65 + 4 * (localOf c).val) 4)
    (hA : A = (quadChans q).foldl (fun t c => t.modChan c fun x => { x with cmd := (out c).testBit 3 }) S)
    (hB : B = (A.modQuad q fun x => { x with
      dieArmed := bit w 8, lastGood := some (A.zero + A.frameStart + 1000), lostRun := 0 }).mailbox q)
    (hC : C = if (B.quad q).fwTrig then B.retrigger fun t => t.modQuad q fun x => { x with fwTrig := false } else B)
    (hD : D = C.setDrvs ((quadChans q).map fun c => (c, C.dieLevel c, A.outAt c / 1000 * 1000 + 125 * (out c % 8)))) :
    S.goodFrame q w = (quadChans q).foldl (fun t c => if (t.chan c).test = .ending
      then t.modChan c fun x => { x with test := .idle, testEnd := none } else t) D := by
  obtain rfl := funext hout
  subst hA hB hC hD
  simp only [State.goodFrame, List.map_map, Function.comp_def, beq_iff_eq]

/-! ## The mailbox (R22, R124, R125, R173, R643) -/

theorem State.mailbox_empty (S : State) (q : QuadId) (h : (S.quad q).mbox = []) : S.mailbox q = S := by
  simp only [State.mailbox, h]

/-- One word crosses, and the fourth of a group brings it into force. -/
theorem State.mailbox_word (S : State) (q : QuadId) (w : MboxWord) (rest : List MboxWord) (A : State) (h : (S.quad q).mbox = w :: rest)
    (hA : A = S.modQuad q fun x => { x with mbox := rest, mboxDone := x.mboxDone + 1 }) :
    (∀ c part, w = .chanGroup c part → S.mailbox q = if part = 3 then A.takeChan c else A) ∧
    (∀ c part, w = .protGroup c part → S.mailbox q = if part = 3 then A.takeProt c else A) := by
  constructor <;> (rintro c part rfl; simp only [State.mailbox, h, hA, beq_iff_eq])

/-- The range note changes nothing of a channel but its instant. -/
theorem State.noteRange_chan (s old : State) (d c : ChanId) : ∃ t, (s.noteRange old d).chan c = { s.chan c with rangeAt := t } := by
  unfold State.noteRange
  split
  · exact ⟨_, rfl⟩
  · rw [State.modChan_chan]
    split
    · next h => subst h; exact ⟨_, rfl⟩
    · exact ⟨_, rfl⟩

/-- A channel of a die that takes the group w at frame f; enc: an encoder fault's SAFE acts (R125, R643, log entry 95). -/
def Chan.withGroup (x : Chan) (w : Word64) (f : Nat) (enc : Bool) : Chan :=
  let mode := chMode w != chMode x.chw
  let filt := chItype w != chItype x.chw || chEdgeMode w != chEdgeMode x.chw || chDebounce w != chDebounce x.chw
  let leaves := chIsOutput x.chw && !chIsOutput w
  { x with
    chw := w, chwNew := none, grpAt := 1000 * f, inTake := if mode then some f else x.inTake
    filtAt := if mode || filt then 1000 * f else x.filtAt, lockUntil := if mode || filt then none else x.lockUntil
    encOut := if chCourse w then x.encOut || (enc && !chCourse x.chw) else false
    ref := x.ref && !leaves, gen := if leaves then none else x.gen, held := x.held && !leaves
    safeStart := if leaves then none else x.safeStart, safeGate := x.safeGate && !leaves
    safeEdged := x.safeEdged && !leaves, test := if leaves then .idle else x.test }

/-- Taking a channel group, with the group's effect on the channel under one name. -/
theorem State.takeChan_eq (S : State) (c : ChanId) (w : Word64) (h : (S.chan c).chwNew = some w) :
    S.takeChan c = ((S.modChan c fun x => x.withGroup w S.frameNo S.encSafe).noteRange S (prevChan (nextChan c))).noteRange S
      (nextChan c) := by
  simp only [State.takeChan, h]
  rfl

theorem State.takeChan_chan (S : State) (c : ChanId) (w : Word64) (h : (S.chan c).chwNew = some w) :
    ∃ t, ((S.takeChan c).chan c) = { (S.chan c).withGroup w S.frameNo S.encSafe with rangeAt := t } := by
  rw [State.takeChan_eq S c w h]
  generalize hM : (S.modChan c fun x => x.withGroup w S.frameNo S.encSafe) = M
  have hc : M.chan c = (S.chan c).withGroup w S.frameNo S.encSafe := by rw [← hM, State.modChan_chan, if_pos rfl]
  obtain ⟨t, ht⟩ := State.noteRange_chan M S (prevChan (nextChan c)) c
  obtain ⟨u, hu⟩ := State.noteRange_chan (M.noteRange S (prevChan (nextChan c))) S (nextChan c) c
  exact ⟨u, by rw [hu, ht, hc]⟩

/-- Whether a group changes the mode or the filter of an input (R125), and what it changes there. -/
theorem Chan.withGroup_filter (x : Chan) (w : Word64) (f : Nat) (enc : Bool) :
    (chMode w = chMode x.chw ∧ chItype w = chItype x.chw ∧ chEdgeMode w = chEdgeMode x.chw ∧ chDebounce w = chDebounce x.chw →
      (x.withGroup w f enc).lockUntil = x.lockUntil ∧ (x.withGroup w f enc).filtAt = x.filtAt) ∧
    (chMode w ≠ chMode x.chw ∨ chItype w ≠ chItype x.chw ∨ chEdgeMode w ≠ chEdgeMode x.chw ∨ chDebounce w ≠ chDebounce x.chw →
      (x.withGroup w f enc).lockUntil = none ∧ (x.withGroup w f enc).filtAt = 1000 * f) := by
  constructor
  · rintro ⟨hm, hi, he, hd⟩
    simp [Chan.withGroup, hm, hi, he, hd]
  · rintro (h | h | h | h) <;> simp [Chan.withGroup, h]

/-- What a channel that leaves OUTPUT mode loses (R643). -/
theorem Chan.withGroup_output (x : Chan) (w : Word64) (f : Nat) (enc : Bool) :
    (chIsOutput x.chw = true → chIsOutput w = false → (x.withGroup w f enc).ref = false ∧ (x.withGroup w f enc).gen = none ∧
      (x.withGroup w f enc).held = false ∧ (x.withGroup w f enc).test = .idle) ∧
    (chIsOutput x.chw = false ∨ chIsOutput w = true → (x.withGroup w f enc).ref = x.ref ∧ (x.withGroup w f enc).gen = x.gen ∧
      (x.withGroup w f enc).held = x.held ∧ (x.withGroup w f enc).test = x.test) := by
  constructor
  · intro hx hw
    simp [Chan.withGroup, hx, hw]
  · rintro (h | h) <;> simp [Chan.withGroup, h]

theorem Chan.withGroup_inTake (x : Chan) (w : Word64) (f : Nat) (enc : Bool) :
    (x.withGroup w f enc).inTake = if chMode w = chMode x.chw then x.inTake else some f := by
  by_cases h : chMode w = chMode x.chw <;> simp [Chan.withGroup, h]

/-- A retry counter at or above a new RLIM sets the latch (R173). -/
theorem State.takeProt_latch (S : State) (c : ChanId) (w : Word64) (h : (S.chan c).protNew = some w) (A : State)
    (hA : A = (S.modChan c fun x => { x with protw := w, protNew := none, grpAt := S.frameStart }).noteRange S c) :
    S.takeProt c =
      if A.lead c = c ∧ prRlim w ≠ 0 ∧ prRlim w ≤ (S.chan c).retry ∧ (S.chan c).latch = false then A.latchUnit c else A := by
  obtain ⟨t, ht⟩ := State.noteRange_chan (S.modChan c fun x => { x with protw := w, protNew := none, grpAt := S.frameStart }) S c c
  rw [← hA, State.modChan_chan, if_pos rfl] at ht
  simp only [State.takeProt, h, ← hA, ht, Bool.and_eq_true, beq_iff_eq, bne_iff_ne, decide_eq_true_eq, Bool.not_eq_true', and_assoc]

/-! ## UPLINK_FRAME (R23–R25, R27–R29, R132) -/

/-- The die of q forms frame f from what its inputs show, and CORE receives it with the bits of err inverted. -/
def State.takeUplink (s : State) (q : QuadId) (u : UpFrame) (f : Nat) : State :=
  let A := (quadChans q).foldl (fun t c => t.firstSample c (bit u.sent.pins (localOf c).val) f)
    (s.modQuad q fun x => { x with upFrame := some f })
  let got := A.dieWord q u.sent f ^^^ u.err
  if frameGood got then A.goodUplink q got else A.lostUplink q f

theorem exec_uplinkFrame (dt : Nat) (q : QuadId) (u : UpFrame) (s : State) :
    exec (.uplinkFrame dt q u) s = .next ((s.elapse dt).when ((s.elapse dt).linked q && (s.elapse dt).sendsFrames &&
      1 ≤ (s.elapse dt).frameNo && ((s.elapse dt).quad q).upFrame != some ((s.elapse dt).frameNo - 1)) fun t =>
        t.takeUplink q u ((s.elapse dt).frameNo - 1)) := rfl

/-- A frame that the die has sent already is turned away. -/
theorem uplinkFrame_again (dt : Nat) (q : QuadId) (u : UpFrame) (s : State)
    (h : ((s.elapse dt).quad q).upFrame = some ((s.elapse dt).frameNo - 1)) :
    exec (.uplinkFrame dt q u) s = .next (s.elapse dt) := by
  rw [exec_uplinkFrame, State.when_of_false]
  rw [h, bne_self_eq_false, Bool.and_false]

/-- The die forms the frame just complete, and CORE takes it when it is good. -/
theorem uplinkFrame_new (dt : Nat) (q : QuadId) (u : UpSamples) (err : BitVec 200) (s A : State) (f : Nat) (got : BitVec 200)
    (hlink : (s.elapse dt).linked q = true) (hsend : (s.elapse dt).sendsFrames = true) (h1 : 1 ≤ (s.elapse dt).frameNo)
    (hf : f = (s.elapse dt).frameNo - 1) (hnew : ((s.elapse dt).quad q).upFrame ≠ some f)
    (hA : A = (quadChans q).foldl (fun t c => t.firstSample c (bit u.pins (localOf c).val) f)
      ((s.elapse dt).modQuad q fun x => { x with upFrame := some f }))
    (hgot : got = A.dieWord q u f ^^^ err) :
    exec (.uplinkFrame dt q ⟨u, err⟩) s = .next (if frameGood got then A.goodUplink q got else A.lostUplink q f) := by
  rw [exec_uplinkFrame, ← hf, State.when_of_true]
  · simp only [State.takeUplink, ← hA, ← hgot]
  · simp [-State.elapse_quad, hlink, hsend, h1, hnew]

/-- What a good uplink frame brings, in order (R23). -/
theorem State.goodUplink_steps (S : State) (q : QuadId) (w : BitVec 200) (f : Nat) (c : ChanId) (A B D E F : State)
    (hf : f = S.uplinkNo (fld w 193 5)) (hc : c.val = 32 * q.val + f % 32)
    (hA : A = S.modQuad q fun x => { x with lostFrom := none, statusMiss := false, mboxAcked := x.mboxDone })
    (hB : B = (List.finRange 32).foldl (fun t i => t.inputField (chanAt q i) (fld w (65 + 4 * i.val) 4) f (S.quad q).lostFrom) A)
    (hD : D = B.senseField c (w.extractLsb' 15 12) (w.extractLsb' 11 4) f)
    (hE : E = D.results q f [if bit w 28 then some (fld w 47 18) else none, if bit w 27 then some (fld w 29 18) else none])
    (hF : F = E.reportDie q (LClass.ofCode (fld w 9 2)) (bit w 8)) :
    S.goodUplink q w = (F.archField q c f).configStep 0 := by
  obtain rfl : c = sensed q f := Fin.ext hc
  simp only [State.goodUplink, hF, hE, hD, hB, hA, hf]

/-- The field of a channel in INPUT mode: a new state is stored and reported as EDGEREP asks (R132). -/
theorem State.inputField_input (S : State) (c : ChanId) (v f : Nat) (lost : Option Nat) (A : State)
    (hA : A = S.modChan c fun x => { x with inSt := v.testBit 3, inAt := 1000 * f + 125 * (v % 8) })
    (hin : chIsInput (S.chwOf c) = true) (hout : chIsOutput (S.chwOf c) = false) (htake : (S.chan c).inTake = none) :
    S.inputField c v f lost = if (S.chan c).inSt = v.testBit 3 then S
      else if (chEdgerep (S.chwOf c)).testBit (if v.testBit 3 then 0 else 1) then A.edgeRecord c (v.testBit 3) f (v % 8) lost
      else A := by
  simp only [State.inputField, hin, hout, htake, hA, Bool.or_false, Bool.not_true, Bool.false_eq_true, if_false,
    Option.isSome_none, Bool.false_and, beq_iff_eq]

/-- Before the frame of a change of mode the field is not for the new mode (R125). -/
theorem State.inputField_early (S : State) (c : ChanId) (v f f0 : Nat) (lost : Option Nat) (hin : chIsInput (S.chwOf c) = true)
    (htake : (S.chan c).inTake = some f0) (hf : f < f0) : S.inputField c v f lost = S := by
  simp [State.inputField, hin, htake, hf]

/-! ## FIELD_WATCHDOG_EXPIRY (R30, R214) -/

/-- Before the first good frame no silence is counted (log entry 107). -/
theorem fieldWatchdogExpiry_never (dt : Nat) (q : QuadId) (s : State) (h : ((s.elapse dt).quad q).lastGood = none) :
    exec (.fieldWatchdogExpiry dt q) s = .next (s.elapse dt) :=
  congrArg _ (State.when_of_false _ _ (by rw [h]; simp))

/-- Before the silence time it does not act. -/
theorem fieldWatchdogExpiry_early (dt : Nat) (q : QuadId) (s : State) (t : Nat) (h : ((s.elapse dt).quad q).lastGood = some t)
    (hc : (s.elapse dt).clock < t + ((s.elapse dt).quad q).silence * 1000) :
    exec (.fieldWatchdogExpiry dt q) s = .next (s.elapse dt) :=
  congrArg _ (State.when_of_false _ _ (by rw [h]; simp [-State.elapse_quad, -State.elapse_clock, Nat.not_le.mpr hc]))

/-- After it the watchdog sets the trigger, and in a pair it releases the quadrant. -/
theorem fieldWatchdogExpiry_acts (dt : Nat) (q : QuadId) (s : State) (t : Nat) (h : ((s.elapse dt).quad q).lastGood = some t)
    (hp : (s.elapse dt).powered q = true) (hfw : ((s.elapse dt).quad q).fwTrig = false)
    (hrel : ((s.elapse dt).quad q).released = false)
    (hc : t + ((s.elapse dt).quad q).silence * 1000 ≤ (s.elapse dt).clock) :
    exec (.fieldWatchdogExpiry dt q) s = .next (((s.elapse dt).retrigger fun s =>
      s.modQuad q fun x => { x with fwTrig := true, released := s.inPair }).driveSelf fun c => quadOf c == q) :=
  congrArg _ (State.when_of_true _ _ (by rw [h]; simp [-State.elapse_quad, -State.elapse_clock, hp, hfw, hrel, hc]))

/-! ## The obligation -/

/-- Settles O55: each clause is the law of its operation above. -/
theorem barrierFrames : Obligations.BarrierFrames := by
  unfold Obligations.BarrierFrames
  rintro dt s S q rfl hup
  refine ⟨fun err r A B hst => ⟨downlinkFrame_again dt q err r s, fun hnew hA got hgot hunsynced hgood hbad => ?_⟩,
    fun w hw => hw ▸ State.coreWord_places _ q, fun w out A B C D => State.goodFrame_steps _ q w out A B C D,
    State.mailbox_empty _ q, State.mailbox_word _ q, fun c w h x A hx hA => ?_, fun c w h A hA => ?_,
    fun hlink hsend h1 u err f hf => ?_, fun w f c A B D E F => State.goodUplink_steps _ q w f c A B D E F,
    fun c v f lost A hA hin hout htake => ?_,
    fun c v f f0 lost hin htake hf => State.inputField_early _ c v f f0 lost hin htake hf,
    fun t h hp hfw hrel => ⟨fieldWatchdogExpiry_early dt q s t h, fieldWatchdogExpiry_acts dt q s t h hp hfw hrel⟩,
    fieldWatchdogExpiry_never dt q s⟩
  · subst hgot
    exact downlinkFrame_new dt q err r s A B ((State.sendsFrames_iff _).mpr ⟨hup, hst⟩) hnew hA
      (State.eq_receive A B q _ hunsynced hgood hbad)
  · obtain ⟨t, ht⟩ := State.takeChan_chan _ c w h
    subst hx hA
    rw [ht]
    obtain ⟨hsame, hother⟩ := Chan.withGroup_filter ((s.elapse dt).chan c) w (s.elapse dt).frameNo (s.elapse dt).encSafe
    obtain ⟨hleaves, hstays⟩ := Chan.withGroup_output ((s.elapse dt).chan c) w (s.elapse dt).frameNo (s.elapse dt).encSafe
    exact ⟨rfl, rfl, rfl, Chan.withGroup_inTake _ w _ (s.elapse dt).encSafe, hsame, hother, hleaves, hstays⟩
  · rw [State.takeProt_latch _ c w h A hA]
    refine ⟨fun hl hr hle hn => if_pos ⟨hl, hr, hle, hn⟩, fun hor => if_neg ?_⟩
    rintro ⟨hl, hr, hle, hn⟩
    rcases hor with hl' | hr' | hlt | hlatch
    · exact hl' hl
    · exact hr hr'
    · exact absurd hle (Nat.not_le.mpr hlt)
    · exact Bool.false_ne_true (hn.symm.trans hlatch)
  · refine ⟨fun h => uplinkFrame_again dt q _ s (hf ▸ h), fun hnew A got hgot hA => ?_⟩
    rw [uplinkFrame_new dt q u err s A f got hlink hsend h1 hf hnew hA hgot]
    exact ⟨fun hbad => by rw [(frameGood_eq_false_iff got).mpr hbad]; rfl,
      fun h2 hcrc => by rw [(frameGood_iff got).mpr ⟨h2, hcrc⟩]; rfl⟩
  · rw [State.inputField_input _ c v f lost A hA hin hout htake]
    exact ⟨fun h => if_pos h, fun h => if_neg h⟩

end Sys2Proof.Machine

/-!
BAR0 commands of the host (R14, R109–R115, R415, R418, R419, R449–R451, R456, R497, R593): when a write reaches its register, what
the operations behind the admin queue, the host watchdog and the MSI-X table do, and the settlement of O19.
-/
namespace Sys2Proof.Machine
open Sys2Proof

/-! ## A write that reaches its register (R497, R593) -/

theorem State.permits_single (s : State) (m t p : Nat) : s.permits m [(t, p)] = s.allowed m t p :=
  Bool.and_true _

theorem State.ne_starting_of_holdsRole (s : State) (h : s.holdsRole = true) : s.pair.st ≠ .starting := by
  intro hst
  simp [State.holdsRole, hst] at h

theorem State.answers_of_holdsRole (s : State) (hup : s.hostUp = true) (hrole : s.holdsRole = true) : s.answers = true := by
  simp [State.answers, hup, s.ne_starting_of_holdsRole hrole]

/-- A permitted write at a unit with the role takes effect, and what it changes travels to the partner. -/
theorem State.barWrite_permitted (s : State) (t : Nat) (f : State → State) (hup : s.hostUp = true) (hrole : s.holdsRole = true)
    (hperm : s.permits 0 [(t, 2)] = true) : s.barWrite t f = s.carry (f s) := by
  rw [State.permits_single] at hperm
  simp [State.barWrite, State.carry, s.answers_of_holdsRole hup hrole, hrole, hperm]

/-- Nothing travels when the set-up registers and the MSI-X table stay as they are. -/
theorem State.carry_of_setupRegs_eq (s t : State) (h : t.setupRegs = s.setupRegs) : s.carry t = t :=
  if_pos (beq_iff_eq.mpr h)

/-! ## The admin queue (R415–R419, R456) -/

/-- The admin queue's registers pass the check of R419. -/
def State.adminRegsGood (s : State) : Prop :=
  4 ≤ fld s.host.aqSize 0 5 ∧ fld s.host.aqSize 0 5 ≤ 16 ∧ 4 ≤ fld s.host.aqSize 8 5 ∧ fld s.host.aqSize 8 5 ≤ 16 ∧
    s.host.dbBase ≠ 0 ∧ s.host.aqSq ≠ 0 ∧ s.host.aqCq ≠ 0

theorem State.adminEnable_present (s : State) (h : (s.queue 0).st ≠ .absent) : s.adminEnable = s :=
  if_pos (bne_iff_ne.mpr h)

theorem State.adminRegsBad_iff (s : State) :
    (fld s.host.aqSize 0 5 < 4 || 16 < fld s.host.aqSize 0 5 || fld s.host.aqSize 8 5 < 4 || 16 < fld s.host.aqSize 8 5 ||
      s.host.dbBase == 0 || s.host.aqSq == 0 || s.host.aqCq == 0) = true ↔ ¬ s.adminRegsGood := by
  simp only [State.adminRegsGood, Bool.or_eq_true, decide_eq_true_eq, beq_iff_eq, not_and_or, Nat.not_le, ne_eq, not_not,
    or_assoc]

theorem State.adminEnable_good (s : State) (h : (s.queue 0).st = .absent) (hregs : s.adminRegsGood) :
    s.adminEnable = (s.modHost fun h => { h with aqen := true }).modQueue 0 fun _ => { Reset.queue with
      st := .active, cls := 1, weight := 4, sqlog := fld s.host.aqSize 0 5, cqlog := fld s.host.aqSize 8 5, sqbase := s.host.aqSq,
      cqbase := s.host.aqCq } :=
  (if_neg (by simp [h])).trans (if_neg fun hbad => s.adminRegsBad_iff.mp hbad hregs)

theorem State.adminEnable_bad (s : State) (h : (s.queue 0).st = .absent) (hregs : ¬ s.adminRegsGood) :
    s.adminEnable = (s.noteSet 14).modHost fun h => { h with cfgerr := true } :=
  (if_neg (by simp [h])).trans (if_pos (s.adminRegsBad_iff.mpr hregs))

theorem State.adminDisable_active (s : State) (h : (s.queue 0).st = .active) :
    s.adminDisable = (s.modHost fun h => { h with aqen := false }).beginDrain 0 := by
  simp [State.adminDisable, h]

/-! ## The host watchdog (R109, R113, R114) -/

/-- What a write of HI_HOSTWD leaves in EXPIRED: cleared by a 1, unless the hardware set it in the same cycle (R14, R113). -/
theorem State.clearExpired (s : State) (v : Word32) :
    (if bit v 30 && !bit s.justSet 12 then s.modHost fun h => { h with wdExpired := false } else s) =
      s.modHost fun h => { h with wdExpired := h.wdExpired && (!bit v 30 || bit s.justSet 12) } := by
  cases hwrite : bit v 30 <;> cases hset : bit s.justSet 12 <;> simp [State.modHost]

theorem State.hostwdWrite_locked (s : State) (v : Word32) (h : s.host.wdLock = true) :
    s.hostwdWrite v = s.modHost fun h => { h with wdExpired := h.wdExpired && (!bit v 30 || bit s.justSet 12) } := by
  unfold State.hostwdWrite
  rw [State.clearExpired]
  exact if_pos h

theorem State.hostwdWrite_unlocked (s : State) (v : Word32) (h : s.host.wdLock = false) :
    s.hostwdWrite v = (s.modHost fun h => { h with
      wdExpired := h.wdExpired && (!bit v 30 || bit s.justSet 12), wdLock := bit v 31, wdAct := v.extractLsb' 20 8,
      wdPeriod := fld v 0 14 }).wdRestart := by
  unfold State.hostwdWrite
  rw [State.clearExpired]
  exact if_neg (Bool.eq_false_iff.mp h)

/-! ## The MSI-X table (R449) -/

theorem State.unmask_idle (s : State) (v : VecId) (h : s.msix[v].pend = false) :
    s.unmask v = { s with msix := s.msix.set v { s.msix[v] with mask := false } } := by
  have hpend : (if s.host.msixEn then false else s.msix[v].pend) = s.msix[v].pend := by rw [h, ite_self]
  simp only [State.unmask, setMsix, hpend]
  exact if_neg (Bool.eq_false_iff.mp h)

/-- An unmasked vector of an enabled table is signalled by its own message (R449). -/
theorem State.signal_unmasked (s : State) (v : VecId) (e : MsixEntry) (hup : s.hostUp = true) (hrole : s.holdsRole = true)
    (hen : s.host.msixEn = true) (hentry : s.msix[v] = e) (hmask : e.mask = false) :
    s.signal v = s.emit (.msix v e.addr e.data) := by
  subst hentry
  simp only [State.signal, hen, hup, hrole, hmask, Bool.not_true, Bool.or_self, Bool.false_eq_true, if_false]

theorem State.unmask_pending (s : State) (v : VecId) (hup : s.hostUp = true) (hrole : s.holdsRole = true)
    (hen : s.host.msixEn = true) (h : s.msix[v].pend = true) :
    s.unmask v = ({ s with msix := s.msix.set v { s.msix[v] with mask := false, pend := false } }).emit
      (.msix v s.msix[v].addr s.msix[v].data) := by
  have hsignal := State.signal_unmasked { s with msix := s.msix.set v { s.msix[v] with mask := false, pend := false } } v _ hup hrole
    hen (Vector.getElem_set_self _) rfl
  simpa only [State.unmask, setMsix, h, hen, if_true] using hsignal

/-! ## The obligation -/

/-- Settles O19: each write reaches its register, where the operation's law above says what it does. -/
theorem hostControlWrites : Obligations.HostControlWrites := by
  unfold Obligations.HostControlWrites
  rintro dt s S rfl hup hrole hperm
  have hwrite (i : Instr) (f : State → State) (hi : exec i s = .next ((s.elapse dt).barWrite 1 f)) :
      exec i s = .next ((s.elapse dt).carry (f (s.elapse dt))) :=
    hi.trans (congrArg _ (State.barWrite_permitted _ 1 f hup hrole hperm))
  refine ⟨?enable, fun hst => ?present, fun hst => ?disable, fun v hlock => ?locked, fun v hlock => ?unlocked,
    fun v => hwrite (.hiKeepalive dt v) State.wdRestart rfl,
    fun v => hwrite (.hiDevcauseWrite dt v) (·.clearCauses v) rfl,
    fun v => hwrite (.hiDevenWrite dt v) (fun s => s.setDev s.host.devCause (v &&& 0xFFF)) rfl,
    fun v hpend => ?idle, fun v hpend hen => ?pending⟩
  case enable =>
    rintro _ _ rfl rfl hst
    rw [hwrite (.adminQueueEnable dt) State.adminEnable rfl]
    split
    next hregs => rw [State.adminEnable_good _ hst hregs]
    next hregs =>
      rw [State.adminEnable_bad _ hst hregs, State.carry_of_setupRegs_eq]
      rfl
  case present =>
    rw [hwrite (.adminQueueEnable dt) State.adminEnable rfl, State.adminEnable_present _ hst, State.carry_of_setupRegs_eq _ _ rfl]
  case disable => rw [hwrite (.adminQueueDisable dt) State.adminDisable rfl, State.adminDisable_active _ hst]
  case locked =>
    rw [hwrite (.hiHostwdWrite dt v) (·.hostwdWrite v) rfl, State.hostwdWrite_locked _ v hlock,
      State.carry_of_setupRegs_eq]
    rfl
  case unlocked => rw [hwrite (.hiHostwdWrite dt v) (·.hostwdWrite v) rfl, State.hostwdWrite_unlocked _ v hlock]
  case idle => rw [hwrite (.msixVectorUnmask dt v) (·.unmask v) rfl, State.unmask_idle _ v hpend]
  case pending => rw [hwrite (.msixVectorUnmask dt v) (·.unmask v) rfl, State.unmask_pending _ v hup hrole hen hpend]

end Sys2Proof.Machine

/-!
Inputs (R28, R125, R128–R134, R446, R485): when an event of a field die acts, what an acceptance and a lockout's end leave, what
an edge report says, wire-break detection, and the settlement of O56.
-/
namespace Sys2Proof.Machine
open Sys2Proof

/-! ## Events -/

/-- A command's outcome o on state S: it leaves T when p holds, and is turned away otherwise (log entry 2). -/
def ActsWhen (p : Prop) (o : Host.Outcome State Fault Refusal) (S T : State) : Prop :=
  (p → o = .next T) ∧ (¬ p → o = .next S)

theorem actsWhen_of_when {o : Host.Outcome State Fault Refusal} {S : State} {b : Bool} {f : State → State} {p : Prop}
    (h : o = .next (S.when b f)) (hb : b = true ↔ p) : ActsWhen p o S (f S) :=
  ⟨fun hp => h.trans (congrArg _ (S.when_of_true f (hb.mpr hp))),
    fun hp => h.trans (congrArg _ (S.when_of_false f (Bool.eq_false_iff.mpr fun hbt => hp (hb.mp hbt))))⟩

/-! ## Conditions on channels and quadrants -/

/-- Only what a change does to the channel as it stands matters. -/
theorem State.modChan_congr (s : State) (c : ChanId) {f g : Chan → Chan} (h : f (s.chan c) = g (s.chan c)) :
    s.modChan c f = s.modChan c g :=
  congrArg (fun x => { s with chans := s.chans.set c x }) h

theorem State.supplyOff_eq_false_iff (s : State) (q : QuadId) :
    s.supplyOff q = false ↔ (s.quad q).lclass = .normal ∨ (s.quad q).lclass = .low := by
  rw [State.supplyOff]
  cases (s.quad q).lclass <;> decide

/-! ## Debounced inputs (R125–R130) -/

/-- A sample at instant t may be accepted on channel c after run ns of equal ones (R128–R130). -/
def State.acceptDue (s : State) (c : ChanId) (run t : Nat) : Prop :=
  chDebounce (s.chwOf c) * 1000 = 0 ∨
    (chEdgeMode (s.chwOf c) = true ∧ ∀ u, (s.chan c).lockUntil = some u → u ≤ t) ∨
    (chEdgeMode (s.chwOf c) = false ∧ chDebounce (s.chwOf c) * 1000 ≤ run ∧ (s.chan c).filtAt + run ≤ t)

/-- The channel that an acceptance leaves is the one with the fields of R23, R127 and R129 changed. -/
theorem Chan.accept_eq (x y : Chan) (level atLock : Bool) (t : Nat) (lock : Option Nat) (hacc : y.acc = level) (hat : y.accAt = t)
    (hlock : y.accLock = atLock) (hfilt : y.filtAt = t) (huntil : y.lockUntil = lock)
    (hlater : t / 1000 = x.accAt / 1000 → y.accWas = x.accWas ∧ y.accWasAt = x.accWasAt)
    (hfirst : t / 1000 ≠ x.accAt / 1000 → y.accWas = x.acc ∧ y.accWasAt = x.accAt)
    (hy : y = { x with
      acc := y.acc, accAt := y.accAt, accLock := y.accLock, filtAt := y.filtAt, lockUntil := y.lockUntil, accWas := y.accWas,
      accWasAt := y.accWasAt }) : x.accept level atLock t lock = y := by
  rw [hacc, hat, hlock, hfilt, huntil] at hy
  by_cases h : t / 1000 = x.accAt / 1000
  · obtain ⟨hwas, hwasAt⟩ := hlater h
    rw [hwas, hwasAt] at hy
    simp [hy, Chan.accept, h]
  · obtain ⟨hwas, hwasAt⟩ := hfirst h
    rw [hwas, hwasAt] at hy
    simp [hy, Chan.accept, h]

section
variable {dt : Nat} {s S : State} (hS : S = s.elapse dt)
include hS

theorem inputAccept_acts (c : ChanId) (level : Bool) (run t d : Nat) (ht : t = floor125 S.dieNow)
    (hd : d = chDebounce (S.chwOf c) * 1000) (hpow : S.powered (quadOf c) = true) (hin : chIsInput (S.chwOf c) = true) :
    ActsWhen (S.acceptDue c run t ∧ ((S.chan c).acc ≠ level ∨ (S.chan c).inTake ≠ none))
      (exec (.inputAccept dt c ⟨level, run⟩) s) S
      (S.modChan c fun x => x.accept level false t (if chEdgeMode (S.chwOf c) && d != 0 then some (t + d) else none)) := by
  subst hS ht hd
  refine actsWhen_of_when rfl ?_
  generalize s.elapse dt = S at *
  cases hmode : chEdgeMode (S.chwOf c) <;> cases hlock : (S.chan c).lockUntil <;>
    simp [State.acceptDue, Option.ne_none_iff_isSome, and_comm, *]

theorem edgeLockoutEnd_acts (c : ChanId) (sample : Bool) (t d u : Nat) (ht : t = floor125 S.dieNow)
    (hd : d = chDebounce (S.chwOf c) * 1000) (hpow : S.powered (quadOf c) = true) (hin : chIsInput (S.chwOf c) = true)
    (hmode : chEdgeMode (S.chwOf c) = true) (hlock : (S.chan c).lockUntil = some u) :
    ActsWhen (u ≤ t) (exec (.edgeLockoutEnd dt c sample) s) S (S.modChan c fun x =>
      if sample == x.acc then { x with lockUntil := none } else x.accept sample true t (some (t + d))) := by
  subst hS ht hd
  refine actsWhen_of_when rfl ?_
  simp only [hpow, hin, hmode, hlock, Bool.true_and, decide_eq_true_eq]

end

/-! ## Wire-break (R133, R134) -/

/-- Wire-break detection runs on an input with WBEN, neither in UNDER or OVER nor for 10 ms after them (R133, R134). -/
theorem State.wbRuns_iff (S : State) (c : ChanId) (run : Nat) (hlink : S.linked (quadOf c) = true)
    (hin : chIsInput (S.chwOf c) = true) :
    S.wbRuns c run = true ↔ chWben (S.chwOf c) = true ∧
      ((S.quad (quadOf c)).lclass = .normal ∨ (S.quad (quadOf c)).lclass = .low) ∧ (S.quad (quadOf c)).wbResume = 0 ∧
      10000000 ≤ run ∧ max (S.quad (quadOf c)).wbFrom (S.chan c).grpAt + run ≤ S.dieNow := by
  simp only [State.wbRuns, hlink, hin, ← S.supplyOff_eq_false_iff, Bool.true_and, Bool.and_eq_true, Bool.not_eq_true', beq_iff_eq,
    decide_eq_true_eq, and_assoc]

section
variable {dt : Nat} {s S : State} (hS : S = s.elapse dt)
include hS

theorem wireBreak_acts (c : ChanId) (ua run : Nat) :
    ActsWhen (S.wbRuns c run = true ∧ ua < 250 ∧ bit (S.chan c).standing 0xA = false) (exec (.wireBreak dt ⟨c, ua, run⟩) s) S
      (S.raiseDiag c 0xA) := by
  subst hS
  exact actsWhen_of_when rfl (by simp only [Bool.and_eq_true, decide_eq_true_eq, Bool.not_eq_true', and_assoc])

theorem wireBreakClear_acts (c : ChanId) (ua run : Nat) :
    ActsWhen (S.wbRuns c run = true ∧ 350 ≤ ua) (exec (.wireBreakClear dt ⟨c, ua, run⟩) s) S (S.clearDiag c 0xA) := by
  subst hS
  exact actsWhen_of_when rfl (by simp only [Bool.and_eq_true, decide_eq_true_eq])

theorem wireBreakResume_acts (q : QuadId) (hpow : S.powered q = true)
    (hclass : (S.quad q).lclass = .normal ∨ (S.quad q).lclass = .low) (hsusp : (S.quad q).wbResume ≠ 0) :
    ActsWhen ((S.quad q).wbResume ≤ S.dieNow) (exec (.wireBreakResume dt q) s) S (S.modQuad q fun x => { x with
      wbResume := 0, wbFrom := S.dieNow }) := by
  have hsup := (S.supplyOff_eq_false_iff q).mpr hclass
  subst hS
  exact actsWhen_of_when rfl (by simp only [hpow, hsup, bne_iff_ne.mpr hsusp, Bool.not_false, Bool.true_and, decide_eq_true_eq])

end

/-! ## The edge report (R28, R129, R131, R132, R446, R485) -/

/-- A record whose loss is counted: discarded, staged, or counted (R446). -/
theorem State.stageCount_discarded (s : State) (r : Record) (ok full : State → State) (h : s.route r = 0x40) :
    s.stageCount r ok full = s := if_pos (beq_iff_eq.mpr h)

theorem State.stageCount_routed (s T : State) (r : Record) (staged : Bool) (ok full : State → State) (h : s.route r ≠ 0x40)
    (hT : (T, staged) = s.stage r) : s.stageCount r ok full = if staged then ok T else full T := by
  rw [State.stageCount, if_neg (by simpa using h), ← hT]
  cases staged <;> rfl

/-- EFLAGS of an edge report (R485). -/
def edgeFlags (level coarse lock out angle : Bool) : Byte :=
  BitVec.ofNat 8 (b2n level + 2 * b2n coarse + 4 * b2n lock + 8 * b2n out + 16 * b2n (!angle))

theorem bit_edgeFlags_low : ∀ (level coarse lock out angle : Bool) (i : Fin 8),
    bit (edgeFlags level coarse lock out angle) i.val = (decide (i.val = 0) && level || decide (i.val = 1) && coarse ||
      decide (i.val = 2) && lock || decide (i.val = 3) && out || decide (i.val = 4) && !angle) := by
  decide

theorem bit_edgeFlags (level coarse lock out angle : Bool) (i : Nat) :
    bit (edgeFlags level coarse lock out angle) i = true ↔ (i = 0 ∧ level = true) ∨ (i = 1 ∧ coarse = true) ∨
      (i = 2 ∧ lock = true) ∨ (i = 3 ∧ out = true) ∨ (i = 4 ∧ angle = false) := by
  by_cases hi : i < 8
  · have h := bit_edgeFlags_low level coarse lock out angle ⟨i, hi⟩
    simp only [h, Bool.or_eq_true, Bool.and_eq_true, decide_eq_true_eq, Bool.not_eq_true', or_assoc]
  · rw [bit, BitVec.getLsbD_of_ge _ _ (Nat.le_of_not_lt hi)]
    simp only [Bool.false_eq_true, false_iff]
    omega

theorem eq_edgeFlags (fl : Byte) (level coarse lock out angle : Bool) (h : ∀ i, bit fl i = true ↔ (i = 0 ∧ level = true) ∨
    (i = 1 ∧ coarse = true) ∨ (i = 2 ∧ lock = true) ∨ (i = 3 ∧ out = true) ∨ (i = 4 ∧ angle = false)) :
    fl = edgeFlags level coarse lock out angle :=
  BitVec.eq_of_getLsbD_eq fun i _ => Bool.eq_iff_iff.mpr ((h i).trans (bit_edgeFlags level coarse lock out angle i).symm)

/-- The instant that an edge report carries (R28, R131). -/
def State.edgeStamp (s : State) (c : ChanId) (f eighth : Nat) (lost : Option Nat) : Nat :=
  lost.getD (1000 * f + 125 * eighth -
    if chIsInput (s.chwOf c) && !chEdgeMode (s.chwOf c) then chDebounce (s.chwOf c) * 1000 else 0)

/-- Whether the angle at an instant is known to the report (log entry 119). -/
def State.edgeAngle (s : State) (stamp : Nat) : Bool := s.ang.stateAt stamp != .idle && s.ang.stateAt stamp != .unreferenced

/-- The record of an edge (R485). -/
def State.edgeReport (s : State) (c : ChanId) (level : Bool) (lost : Option Nat) (stamp : Nat) (valid : Bool) : Record :=
  .inputEdge c (edgeFlags level lost.isSome (chIsInput (s.chwOf c) && chEdgeMode (s.chwOf c) && (s.chan c).accLock)
    (chIsOutput (s.chwOf c)) valid) (s.quad (quadOf c)).inDrop stamp (if valid then angleWord (s.ang.thetaHat stamp) else 0)
    (if valid then revWord (s.ang.thetaHat stamp) else 0)

theorem State.edgeRecord_eq (s : State) (c : ChanId) (level : Bool) (f eighth : Nat) (lost : Option Nat) (stamp : Nat)
    (h : stamp = s.edgeStamp c f eighth lost) :
    s.edgeRecord c level f eighth lost = s.stageCount (s.edgeReport c level lost stamp (s.edgeAngle stamp))
      (fun s => s.modQuad (quadOf c) fun x => { x with inDrop := 0 })
      fun s => s.modQuad (quadOf c) fun x => { x with inDrop := x.inDrop + 1 } := by
  subst h
  cases lost <;> rfl

theorem State.eq_edgeStamp (s : State) (c : ChanId) (f eighth stamp : Nat) (lost : Option Nat)
    (hlost : ∀ t, lost = some t → stamp = t)
    (hstable : lost = none → chIsInput (s.chwOf c) = true → chEdgeMode (s.chwOf c) = false →
      stamp = 1000 * f + 125 * eighth - 1000 * chDebounce (s.chwOf c))
    (hedge : lost = none → chIsInput (s.chwOf c) = false ∨ chEdgeMode (s.chwOf c) = true → stamp = 1000 * f + 125 * eighth) :
    stamp = s.edgeStamp c f eighth lost := by
  cases lost with
  | some t => exact hlost t rfl
  | none =>
    by_cases h : chIsInput (s.chwOf c) = true ∧ chEdgeMode (s.chwOf c) = false
    · obtain ⟨hin, hmode⟩ := h
      rw [hstable rfl hin hmode, State.edgeStamp, hin, hmode, Nat.mul_comm 1000 (chDebounce _)]
      rfl
    · rw [not_and_or, Bool.not_eq_true, Bool.not_eq_false] at h
      rw [hedge rfl h, State.edgeStamp]
      rcases h with h | h <;> simp [h]

/-! ## The obligation -/

/-- Settles O56: an acceptance, a lockout's end and wire-break detection act as their events' laws say, and a report is the record
whose stamp, angle and flags are the clause's. -/
theorem inputs : Obligations.Inputs := by
  unfold Obligations.Inputs
  refine ⟨fun dt s S c w q t d hS hw hq ht hd hpow hin =>
      ⟨fun level run x y due hx hdue hacc hat hlock hfilt huntil hlater hfirst hy => ?accept,
        fun sample u hmode hu => ?lockout, fun hlink ua run runs hruns => ?wire⟩,
    fun dt s S q hS hpow hclass hsusp => ?resume,
    fun S T c level f eighth stamp lost w q fl valid ok hw hq hlost hstable hedge hvalid hfl R hR => ?report⟩
  case accept =>
    subst hw hq hx
    obtain ⟨hacts, hidle⟩ := inputAccept_acts hS c level run t d ht hd hpow hin
    have hdue : due ↔ S.acceptDue c run t := by rw [hdue, State.acceptDue, hd]
    have hx := Chan.accept_eq (S.chan c) y level false t _ hacc hat hlock hfilt huntil hlater hfirst hy
    refine ⟨fun h hnew => (hacts ⟨hdue.mp h, hnew⟩).trans (congrArg _ (S.modChan_congr c ?_)), fun h => hidle ?_⟩
    · simpa only [Bool.and_eq_true, bne_iff_ne] using hx
    · rwa [← hdue, not_and_or, not_or, not_not, not_not]
  case lockout =>
    subst hw hq
    obtain ⟨hends, hlasts⟩ := edgeLockoutEnd_acts hS c sample t d u ht hd hpow hin hmode hu
    refine ⟨fun h => hlasts (Nat.not_le.mpr h), fun h hsame => (hends h).trans (congrArg _ (S.modChan_congr c ?_)),
      fun h hdiffers => (hends h).trans (congrArg _ (S.modChan_congr c ?_))⟩
    · exact if_pos (beq_iff_eq.mpr hsame.symm)
    · exact if_neg fun h => hdiffers (beq_iff_eq.mp h).symm
  case wire =>
    subst hw hq
    rw [← S.wbRuns_iff c run hlink hin] at hruns
    obtain ⟨hraise, hnot⟩ := wireBreak_acts hS c ua run
    obtain ⟨hclear, hkeep⟩ := wireBreakClear_acts hS c ua run
    simp only [← hruns, and_imp, not_and_or, Nat.not_lt, Nat.not_le, Bool.not_eq_false] at hraise hnot hclear hkeep
    exact ⟨hraise, hnot, hclear, hkeep⟩
  case resume =>
    obtain ⟨hends, hlasts⟩ := wireBreakResume_acts hS q hpow hclass hsusp
    exact ⟨fun h => hlasts (Nat.not_le.mpr h), hends⟩
  case report =>
    subst hw hq
    have hangle : valid = S.edgeAngle stamp := by
      rw [Bool.eq_iff_iff, hvalid, State.edgeAngle, Bool.and_eq_true, bne_iff_ne, bne_iff_ne]
    have hflags : fl = edgeFlags level lost.isSome (chIsInput (S.chwOf c) && chEdgeMode (S.chwOf c) && (S.chan c).accLock)
        (chIsOutput (S.chwOf c)) valid := by
      refine eq_edgeFlags fl _ _ _ _ _ fun i => ?_
      rw [hfl i, Option.isSome_iff_ne_none, Bool.and_eq_true, Bool.and_eq_true, and_assoc]
    have hrecord : R = S.edgeReport c level lost stamp (S.edgeAngle stamp) := by
      rw [hR, hflags, hangle]
      rfl
    rw [S.edgeRecord_eq c level f eighth lost stamp
      (S.eq_edgeStamp c f eighth stamp lost hlost hstable hedge), ← hrecord]
    refine ⟨fun h => S.stageCount_discarded R _ _ h, fun h hT => ?_⟩
    rw [S.stageCount_routed T R ok _ _ h hT]
    cases ok <;> rfl

end Sys2Proof.Machine

/-!
Readback, open loads and the L+ classes (R144–R149, R185, R187–R190, R201–R205): what the end of a settle time and a frame's
readback bring, when open-load detection runs, the transitions between the classes, and the settlement of O57.
-/
namespace Sys2Proof.Machine
open Sys2Proof

/-! ## Readback (R145–R149, R185) -/

theorem State.settled_iff (s : State) (c : ChanId) : s.settled c = true ↔ ∀ t, (s.chan c).settle = some t → t ≤ s.dieNow := by
  unfold State.settled
  cases (s.chan c).settle <;> simp

theorem Chan.windowOn_eq_false_iff (x : Chan) : x.windowOn = false ↔ x.inrush = none ∨ x.inrushCut = true := by
  simp [Chan.windowOn, or_iff_not_imp_left, Option.isSome_iff_ne_none]

theorem State.settledOn_off (s : State) (c : ChanId) (h : (s.chan c).drv = false ∨ (s.chan c).test ≠ .idle) :
    s.settledOn c = s :=
  if_pos (by simpa using h)

theorem State.settledOn_on (s : State) (c : ChanId) (hdrv : (s.chan c).drv = true) (htest : (s.chan c).test = .idle) :
    s.settledOn c = (((s.modChan c fun x => { x with fault := false }).clearDiag c 1).clearDiag c 2).clearDiag c 3 :=
  if_neg (by simp [hdrv, htest])

/-- The land has read back a level for a settle time (R146, R149). -/
theorem State.landHeld_iff (s : State) (c : ChanId) (level : Bool) (hlink : s.linked (quadOf c) = true)
    (hout : s.isOutput c = true) : s.landHeld c level = true ↔
      (s.chan c).inSt = level ∧ (s.chan c).inAt + chSettle (s.chwOf c) * 1000 ≤ s.now := by
  simp only [State.landHeld, hlink, hout, Bool.true_and, Bool.and_eq_true, beq_iff_eq, decide_eq_true_eq]

/-- A channel that REVERSE or a test pulse holds is not compared (R151, R191). -/
theorem State.readCheck_none (s : State) (c : ChanId) (land : Bool) (h : (s.chan c).reverse = true ∨ (s.chan c).test ≠ .idle) :
    s.readCheck c land = s :=
  if_pos (by simpa using h)

theorem State.readCheck_on (s : State) (c : ChanId) (land : Bool) (hrev : (s.chan c).reverse = false)
    (htest : (s.chan c).test = .idle) (hdrv : (s.chan c).drv = true) :
    s.readCheck c land = if land = false ∧ (s.chan c).inLimit = false ∧
      ((s.chan c).inrush = none ∨ (s.chan c).inrushCut = true) ∧ bit (s.chan c).standing 9 = false then s.raiseDiag c 9
      else s := by
  simp only [State.readCheck, hrev, htest, hdrv, ← Chan.windowOn_eq_false_iff, bne_self_eq_false, Bool.or_self, Bool.false_eq_true,
    if_false, if_true, Bool.and_eq_true, Bool.not_eq_true', and_assoc]

theorem State.readCheck_off (s : State) (c : ChanId) (land : Bool) (hrev : (s.chan c).reverse = false)
    (htest : (s.chan c).test = .idle) (hdrv : (s.chan c).drv = false) :
    s.readCheck c land = if land = true ∧ bit (s.chan c).standing 7 = false then s.raiseDiag c 7 else s := by
  simp only [State.readCheck, hrev, htest, hdrv, bne_self_eq_false, Bool.or_self, Bool.false_eq_true, if_false, Bool.and_eq_true,
    Bool.not_eq_true']

/-- The three ways in which a readback can be compared. -/
theorem State.eq_readCheck (s B : State) (c : ChanId) (land : Bool)
    (hnone : (s.chan c).reverse = true ∨ (s.chan c).test ≠ .idle → B = s)
    (hon : (s.chan c).reverse = false → (s.chan c).test = .idle → (s.chan c).drv = true → B = if land = false ∧
      (s.chan c).inLimit = false ∧ ((s.chan c).inrush = none ∨ (s.chan c).inrushCut = true) ∧ bit (s.chan c).standing 9 = false
      then s.raiseDiag c 9 else s)
    (hoff : (s.chan c).reverse = false → (s.chan c).test = .idle → (s.chan c).drv = false →
      B = if land = true ∧ bit (s.chan c).standing 7 = false then s.raiseDiag c 7 else s) : B = s.readCheck c land := by
  by_cases h : (s.chan c).reverse = true ∨ (s.chan c).test ≠ .idle
  · rw [hnone h, s.readCheck_none c land h]
  · rw [not_or, Bool.not_eq_true, not_ne_iff] at h
    obtain ⟨hrev, htest⟩ := h
    cases hdrv : (s.chan c).drv with
    | true => rw [hon hrev htest hdrv, s.readCheck_on c land hrev htest hdrv]
    | false => rw [hoff hrev htest hdrv, s.readCheck_off c land hrev htest hdrv]

/-- The readback of frame f is due for a comparison (R148). -/
def State.readDue (s : State) (c : ChanId) (f : Nat) : Prop :=
  (s.chan c).settle = none ∧ (s.genDrives c = none ∨ (s.chan c).checkDue = true) ∧
    ∀ g, s.genDrives c = some g → g.phaseLeft (s.budOf c) (1000 * f + 999) ≤ 1000

theorem State.checkFrame_iff (s : State) (c : ChanId) (f : Nat) :
    s.checkFrame c f = true ↔ ∀ g, s.genDrives c = some g → g.phaseLeft (s.budOf c) (1000 * f + 999) ≤ 1000 := by
  unfold State.checkFrame
  cases s.genDrives c <;> simp

theorem State.readDue_iff (s : State) (c : ChanId) (f : Nat) : s.readDue c f ↔
    ¬ ((s.chan c).settle.isSome || !s.checkFrame c f || ((s.genDrives c).isSome && !(s.chan c).checkDue)) = true := by
  rw [State.readDue, ← s.checkFrame_iff c f]
  cases (s.chan c).settle <;> cases s.genDrives c <;> simp [and_comm]

theorem State.readFrame_due (s : State) (c : ChanId) (land : Bool) (f : Nat) (h : s.readDue c f) :
    s.readFrame c land f = (s.readCheck c land).modChan c fun x => { x with checkDue := false } :=
  if_neg ((s.readDue_iff c f).mp h)

theorem State.readFrame_idle (s : State) (c : ChanId) (land : Bool) (f : Nat) (h : ¬ s.readDue c f) : s.readFrame c land f = s :=
  if_pos (not_not.mp fun hn => h ((s.readDue_iff c f).mpr hn))

section
variable {dt : Nat} {s S : State} (hS : S = s.elapse dt)
include hS

theorem settleEnd_acts (c : ChanId) (land : Bool) (t : Nat) (hlink : S.linked (quadOf c) = true) (hout : S.isOutput c = true)
    (ht : (S.chan c).settle = some t) (B : State) (hB : B = (S.settledOn c).modChan c fun x => { x with settle := none }) :
    ActsWhen (t ≤ S.dieNow) (exec (.settleEnd dt c land) s) S (B.readFrame c land B.frameNo) := by
  subst hS hB
  refine actsWhen_of_when rfl ?_
  simp only [hlink, hout, State.settled_iff, ht, Option.isSome_some, Bool.true_and, Option.some.injEq, forall_eq']

theorem readbackMismatchClear_acts (c : ChanId) :
    ActsWhen (S.landHeld c true = true) (exec (.readbackMismatchClear dt c) s) S (S.clearDiag c 9) := by
  subst hS
  exact actsWhen_of_when rfl Iff.rfl

theorem shortLplusClear_acts (c : ChanId) :
    ActsWhen (S.landHeld c false = true) (exec (.shortLplusClear dt c) s) S (S.clearDiag c 7) := by
  subst hS
  exact actsWhen_of_when rfl Iff.rfl

end

/-! ## Open load (R187–R190) -/

/-- Open-load detection is not suspended on a settled channel (R190). -/
def State.olActive (s : State) (c : ChanId) : Prop :=
  (s.quad (quadOf c)).lclass = .normal ∧ (s.quad (quadOf c)).olResume = 0 ∧ ∀ t, (s.chan c).settle = some t → t ≤ s.dieNow

theorem State.olActive_iff (s : State) (c : ChanId) :
    s.olActive c ↔ s.olRuns (quadOf c) = true ∧ s.settled c = true := by
  rw [State.olActive, s.settled_iff c, State.olRuns, Bool.and_eq_true, beq_iff_eq, beq_iff_eq, and_assoc]

/-- The driven level is off by the owner's command or a safe value (R144, R187). -/
theorem State.offByOwner_iff (s : State) (c : ChanId) : s.offByOwner c = true ↔
    (s.chan c).drv = false ∧ (s.chan c).test = .idle ∧ s.fieldOff c = false ∧ (s.quad (quadOf c)).released = false ∧
      ((s.quad (quadOf c)).fwTrig = true → s.inPair = false) ∧
      ((s.quad (quadOf c)).dieArmed = true ∨ s.trigOn c = true) := by
  simp only [State.offByOwner, State.safeUnder]
  cases (s.quad (quadOf c)).dieArmed <;> simp [and_assoc, or_iff_not_imp_left]

theorem State.offDetects_iff (s : State) (c : ChanId) (run : Nat) (hlink : s.linked (quadOf c) = true)
    (hout : s.isOutput c = true) : s.offDetects c run = true ↔
      s.powered (quadOf c) = true ∧ s.olActive c ∧ prOloff (s.protOf c) = true ∧ (s.chan c).drv = false ∧
      (s.chan c).test = .idle ∧ s.fieldOff c = false ∧ s.genDrives c = none ∧ (s.quad (quadOf c)).released = false ∧
      ((s.quad (quadOf c)).fwTrig = true → s.inPair = false) ∧ ((s.quad (quadOf c)).dieArmed = true ∨ s.trigOn c = true) ∧
      10000000 ≤ run ∧
      max (max (s.quad (quadOf c)).olFrom (s.chan c).grpAt) ((s.chan c).drvAt + chSettle (s.chwOf c) * 1000) + run ≤ s.dieNow := by
  simp only [State.offDetects, State.pull, hlink, hout, Bool.true_and, Bool.and_true, Bool.and_eq_true, decide_eq_true_eq,
    s.offByOwner_iff c, s.olActive_iff c, Option.isNone_iff_eq_none]
  tauto

theorem State.onDetects_iff (s : State) (c : ChanId) (run : Nat) (hlink : s.linked (quadOf c) = true)
    (hout : s.isOutput c = true) (from_ : Nat) (hfrom : from_ = max (max (s.quad (quadOf c)).olFrom (s.chan c).grpAt)
      (max ((s.chan c).drvAt + chSettle (s.chwOf c) * 1000) (max ((s.chan c).inrTo.getD 0) ((s.chan c).limTo.getD 0)))) :
    s.onDetects c run = true ↔
      s.olActive c ∧ prOlon (s.protOf c) = true ∧ (s.chan c).drv = true ∧ (s.chan c).test = .idle ∧
      ((s.chan c).inrush = none ∨ (s.chan c).inrushCut = true) ∧ (s.chan c).inLimit = false ∧ 10000000 ≤ run ∧
      run ≤ (s.chan c).onAcc + (s.dieNow - from_) := by
  subst hfrom
  simp only [State.onDetects, hlink, hout, Bool.true_and, Bool.and_eq_true, decide_eq_true_eq, Bool.not_eq_true', beq_iff_eq,
    Chan.windowOn_eq_false_iff, s.olActive_iff c]
  tauto

section
variable {dt : Nat} {s S : State} (hS : S = s.elapse dt)
include hS

theorem openOff_acts (c : ChanId) (mv run : Nat) :
    ActsWhen (S.offDetects c run = true ∧ 4000 < mv ∧ bit (S.chan c).standing 5 = false) (exec (.openOff dt ⟨c, mv, run⟩) s) S
      (S.raiseDiag c 5) := by
  subst hS
  exact actsWhen_of_when rfl (by simp only [Bool.and_eq_true, decide_eq_true_eq, Bool.not_eq_true', and_assoc])

theorem openOffClear_acts (c : ChanId) (mv run : Nat) :
    ActsWhen (S.offDetects c run = true ∧ mv ≤ 3000) (exec (.openOffClear dt ⟨c, mv, run⟩) s) S (S.clearDiag c 5) := by
  subst hS
  exact actsWhen_of_when rfl (by simp only [Bool.and_eq_true, decide_eq_true_eq])

theorem openOn_acts (c : ChanId) (ua run : Nat) :
    ActsWhen (S.onDetects c run = true ∧ ua < S.olThreshold c ∧ bit (S.chan c).standing 6 = false)
      (exec (.openOn dt ⟨c, ua, run⟩) s) S (S.raiseDiag c 6) := by
  subst hS
  exact actsWhen_of_when rfl (by simp only [Bool.and_eq_true, decide_eq_true_eq, Bool.not_eq_true', and_assoc])

theorem openOnClear_acts (c : ChanId) (ua run : Nat) :
    ActsWhen (S.onDetects c run = true ∧ 5 * S.olThreshold c ≤ 4 * ua) (exec (.openOnClear dt ⟨c, ua, run⟩) s) S
      (S.clearDiag c 6) := by
  subst hS
  exact actsWhen_of_when rfl (by simp only [Bool.and_eq_true, decide_eq_true_eq])

theorem openLoadResume_acts (q : QuadId) (hpow : S.powered q = true) (hclass : (S.quad q).lclass = .normal)
    (hsusp : (S.quad q).olResume ≠ 0) :
    ActsWhen ((S.quad q).olResume ≤ S.dieNow) (exec (.openLoadResume dt q) s) S (S.modQuad q fun x => { x with
      olResume := 0, olFrom := S.dieNow }) := by
  subst hS
  exact actsWhen_of_when rfl (by
    simp only [hpow, hclass, bne_iff_ne.mpr hsusp, beq_self_eq_true, Bool.true_and, decide_eq_true_eq])

end

/-! ## L+ classes (R201–R205) -/

theorem State.inClass_iff (s : State) (q : QuadId) (run : Nat) : s.inClass q run = true ↔ (s.quad q).classAt + run ≤ s.dieNow :=
  decide_eq_true_iff

theorem State.enterClass_eq (s M : State) (q : QuadId) (j : LClass)
    (hM : M = (quadChans q).foldl (fun t d => t.modChan d fun x => { x with onAcc := 0 }) (s.modQuad q fun x => { x with
      lclass := j, classAt := s.dieNow, olResume := if j = .normal then s.dieNow + 10000000 else x.olResume,
      wbResume := if (s.quad q).lclass = .under ∨ (s.quad q).lclass = .over then s.dieNow + 10000000 else x.wbResume })) :
    s.enterClass q j = if M.linked q then M.reportClass q j else M := by
  simp only [State.enterClass, Bool.or_eq_true, beq_iff_eq, ← hM]
  rfl

theorem State.reportClass_eq (s : State) (q : QuadId) :
    s.reportClass q .normal = ((s.clearQuadDiag q 0xD).clearQuadDiag q 0xE).clearQuadDiag q 0xC ∧
    s.reportClass q .low = ((s.clearQuadDiag q 0xD).clearQuadDiag q 0xE).raiseQuadDiag q 0xC ∧
    s.reportClass q .under = ((s.clearQuadDiag q 0xE).raiseQuadDiag q 0xC).raiseQuadDiag q 0xD ∧
    s.reportClass q .over = ((s.clearQuadDiag q 0xD).clearQuadDiag q 0xC).raiseQuadDiag q 0xE :=
  ⟨rfl, rfl, rfl, rfl⟩

/-- How the outputs return when UNDER or OVER has been left (R204). -/
theorem State.eq_leaveSupply (s A B : State) (q : QuadId) (full : Nat)
    (hA : A = s.enterClass q (if 10000000 ≤ full then .normal else .low)) (hcut : A.linked q = false → B = A)
    (hlink : A.linked q = true → B = if (A.quad q).supLatchPol then A.modQuad q fun x => { x with supLatch := true }
      else A.supplyReturn q) : B = s.leaveSupply q full := by
  simp only [State.leaveSupply, ← hA]
  cases h : A.linked q with
  | false => rw [hcut h, State.whenLinked, State.when_of_false _ _ h]
  | true => rw [hlink h, State.whenLinked, State.when_of_true _ _ h]

section
variable {dt : Nat} {s S : State} (hS : S = s.elapse dt) (q : QuadId) (mv run : Nat) (hpow : S.powered q = true)
include hS hpow

theorem lplusLow_acts :
    ActsWhen ((S.quad q).lclass = .normal ∧ mv < 19200 ∧ 100000 ≤ run ∧ S.inClass q run = true)
      (exec (.lplusLow dt ⟨q, mv, run⟩) s) S (S.enterClass q .low) := by
  subst hS
  exact actsWhen_of_when rfl (by simp only [hpow, Bool.true_and, Bool.and_eq_true, beq_iff_eq, decide_eq_true_eq, and_assoc])

theorem lplusNormal_acts :
    ActsWhen ((S.quad q).lclass = .low ∧ 19600 ≤ mv ∧ 10000000 ≤ run) (exec (.lplusNormal dt ⟨q, mv, run⟩) s) S
      (S.enterClass q .normal) := by
  subst hS
  exact actsWhen_of_when rfl (by simp only [hpow, Bool.true_and, Bool.and_eq_true, beq_iff_eq, decide_eq_true_eq])

theorem lplusUnder_acts :
    ActsWhen ((S.quad q).lclass ≠ .under ∧ mv < 16000 ∧ 1000000 ≤ run) (exec (.lplusUnder dt ⟨q, mv, run⟩) s) S
      ((S.quadOff q).enterClass q .under) := by
  subst hS
  exact actsWhen_of_when rfl (by simp only [hpow, Bool.true_and, Bool.and_eq_true, bne_iff_ne, decide_eq_true_eq])

theorem lplusOver_acts :
    ActsWhen ((S.quad q).lclass ≠ .over ∧ 35000 < mv ∧ 10000 ≤ run) (exec (.lplusOver dt ⟨q, mv, run⟩) s) S
      ((S.quadOff q).enterClass q .over) := by
  subst hS
  exact actsWhen_of_when rfl (by simp only [hpow, Bool.true_and, Bool.and_eq_true, bne_iff_ne, decide_eq_true_eq])

theorem lplusUnderExit_acts (full : Nat) :
    ActsWhen ((S.quad q).lclass = .under ∧ 16500 < mv ∧ 10000000 ≤ run ∧ full ≤ run ∧ S.inClass q run = true)
      (exec (.lplusUnderExit dt ⟨q, mv, run⟩ full) s) S (S.leaveSupply q full) := by
  subst hS
  exact actsWhen_of_when rfl (by simp only [hpow, Bool.true_and, Bool.and_eq_true, beq_iff_eq, decide_eq_true_eq, and_assoc])

theorem lplusOverExit_acts (full : Nat) :
    ActsWhen ((S.quad q).lclass = .over ∧ mv ≤ 34000 ∧ 10000000 ≤ run ∧ full ≤ run ∧ S.inClass q run = true)
      (exec (.lplusOverExit dt ⟨q, mv, run⟩ full) s) S (S.leaveSupply q full) := by
  subst hS
  exact actsWhen_of_when rfl (by simp only [hpow, Bool.true_and, Bool.and_eq_true, beq_iff_eq, decide_eq_true_eq, and_assoc])

end

/-! ## The obligation -/

/-- Settles O57: each clause is the law of its event above. -/
theorem diagnostics : Obligations.Diagnostics := by
  unfold Obligations.Diagnostics
  rintro dt s S c x k hS rfl rfl
  refine ⟨fun hlink hout => ?reports, fun land f due B hdue hnone hon hoff => ?frame, fun q y hy hpow => ?classes,
    fun q j M hM => S.enterClass_eq M q j hM, S.reportClass_eq, fun _ => rfl, rfl⟩
  case reports =>
    have hmatch := readbackMismatchClear_acts hS c
    have hshort := shortLplusClear_acts hS c
    rw [S.landHeld_iff c _ hlink hout] at hmatch hshort
    simp only [ActsWhen, and_imp, not_and_or, Nat.not_le, Bool.not_eq_true, Bool.not_eq_false] at hmatch hshort
    obtain ⟨hmatches, hdiffers⟩ := hmatch
    obtain ⟨hopens, hshorted⟩ := hshort
    refine ⟨fun land t A ht => ?settle, hmatches, hdiffers, hopens, hshorted, fun ol hol =>
      ⟨fun off mv run hoff => ?off, fun on ua run th from_ hfrom hon hth => ?on⟩⟩
    case settle =>
      refine ⟨fun h => (settleEnd_acts hS c land t hlink hout ht _ rfl).2 (Nat.not_le.mpr h), fun h hskip hdone B hB => ?_⟩
      have hA : A = S.settledOn c := by
        by_cases hoff : (S.chan c).drv = false ∨ (S.chan c).test ≠ .idle
        · rw [hskip hoff, S.settledOn_off c hoff]
        · rw [not_or, Bool.not_eq_false, not_ne_iff] at hoff
          obtain ⟨hdrv, htest⟩ := hoff
          rw [hdone hdrv htest, S.settledOn_on c hdrv htest]
      exact (settleEnd_acts hS c land t hlink hout ht B (hA ▸ hB)).1 h
    case off =>
      have hdetects : S.offDetects c run = true ↔ off := by rw [S.offDetects_iff c run hlink hout, hoff, hol, State.olActive]
      have hraise := openOff_acts hS c mv run
      have hclear := openOffClear_acts hS c mv run
      simp only [ActsWhen, hdetects, and_imp, not_and_or, Nat.not_lt, Nat.not_le, Bool.not_eq_false] at hraise hclear
      exact ⟨hraise.1, hraise.2, hclear.1, hclear.2⟩
    case on =>
      have hdetects : S.onDetects c run = true ↔ on := by
        rw [S.onDetects_iff c run hlink hout from_ hfrom, hon, hol, State.olActive]
      have hthreshold : S.olThreshold c = th := hth.symm
      have hraise := openOn_acts hS c ua run
      have hclear := openOnClear_acts hS c ua run
      simp only [ActsWhen, hdetects, hthreshold, and_imp, not_and_or, Nat.not_lt, Nat.not_le, Bool.not_eq_false] at hraise hclear
      exact ⟨hraise.1, hraise.2, hclear.1, hclear.2⟩
  case frame =>
    have hB := S.eq_readCheck B c land hnone hon hoff
    exact ⟨fun h => hB ▸ S.readFrame_due c land f (hdue.mp h), fun h => S.readFrame_idle c land f (mt hdue.mpr h)⟩
  case classes =>
    subst hy
    refine ⟨fun hclass hsusp => ?resume, fun mv run stays hstays => ?transitions⟩
    case resume =>
      obtain ⟨hends, hlasts⟩ := openLoadResume_acts hS q hpow hclass hsusp
      exact ⟨fun h => hlasts (Nat.not_le.mpr h), hends⟩
    case transitions =>
      have hlow := lplusLow_acts hS q mv run hpow
      have hnormal := lplusNormal_acts hS q mv run hpow
      have hunder := lplusUnder_acts hS q mv run hpow
      have hover := lplusOver_acts hS q mv run hpow
      have hstays : S.inClass q run = true ↔ stays := (S.inClass_iff q run).trans hstays.symm
      simp only [ActsWhen, hstays, not_and_or, Nat.not_lt, Nat.not_le, ne_eq, not_not] at hlow hnormal hunder hover
      refine ⟨hlow.1, hlow.2, hnormal.1, hnormal.2, hunder.1, hunder.2, hover.1, hover.2, fun full A B hA hcut hup => ?_⟩
      obtain rfl := S.eq_leaveSupply A B q full hA hcut hup
      have hunder := lplusUnderExit_acts hS q mv run hpow full
      have hover := lplusOverExit_acts hS q mv run hpow full
      simp only [ActsWhen, hstays, not_and_or, Nat.not_lt, Nat.not_le] at hunder hover
      exact ⟨hunder.1, hunder.2, hover.1, hover.2⟩

end Sys2Proof.Machine

/-!
Safe levels and their triggers (R22, R26, R106, R109, R110, R163–R170, R191, R197, R212–R216): the rows of R212 one by one, what
the first trigger does to a channel and the last one leaves, SAFE_N, the safe values that the dies switch on by themselves, the
host watchdog, and the settlement of O60.
-/
namespace Sys2Proof.Machine
open Sys2Proof

/-! ## The rows of R212 -/

/-- Rows 1 and 2: protection holds the unit off. -/
theorem State.fieldOff_iff (s : State) (c l : ChanId) (hl : l = s.lead c) : s.fieldOff c = true ↔
    s.isOutput c = false ∨ (∃ m ∈ s.members c, (s.chan m).cause ≠ .none ∨ (s.chan m).reverse = true) ∨
      ((s.chan l).latch = true ∧ (s.chan l).drv = false) ∨ (s.quad (quadOf c)).hot = true ∨
      (s.quad (quadOf c)).lclass = .under ∨ (s.quad (quadOf c)).lclass = .over ∨ (s.quad (quadOf c)).supLatch = true ∨
      s.waitsRestart l = true ∨ l ∈ s.pair.ons := by
  subst hl
  simp only [State.fieldOff, State.supplyOff, Bool.or_eq_true, Bool.and_eq_true, Bool.not_eq_true', List.any_eq_true, bne_iff_ne,
    beq_iff_eq, List.contains_iff_mem, or_assoc]

/-- Rows 3 to 7: a trigger acts on the channel. -/
theorem State.trigOn_iff (s : State) (c : ChanId) : s.trigOn c = true ↔
    s.safeN = true ∨ (s.quad (quadOf c)).hwTrig = true ∨ (s.quad (quadOf c)).disTrig = true ∨
      (s.quad (quadOf c)).fwTrig = true ∨
      (s.encSafe = true ∧ s.courseOwned c = true ∧ (s.chan (s.lead c)).encOut = false) := by
  simp only [State.trigOn, State.quadTrig]
  cases s.inPair <;> simp [or_assoc, and_assoc]

/-- The safe level by the channel's safe value (R163, R165, R168). -/
theorem State.eq_safeLevel_iff (s : State) (c l : ChanId) (hl : l = s.lead c) (lvl : Bool) : lvl = s.safeLevel c ↔
    ((s.chan l).safe = .off → lvl = false) ∧ ((s.chan l).safe = .on → lvl = (s.chan l).safeGate) ∧
      ((s.chan l).safe = .hold → lvl = ((s.chan l).held &&
        ((s.quad (quadOf c)).armed || (s.quad (quadOf c)).dieArmed || (s.chan l).drv))) ∧
      (∀ t, (s.chan l).safe = .pulse → (s.chan l).safeStart = some t → lvl = ((s.chan l).safeGate &&
        safeTrain (s.chan l).safePer (s.chan l).safeDuty (localOf l).val t s.clock)) ∧
      ((s.chan l).safe = .pulse → (s.chan l).safeStart = none → lvl = false) := by
  subst hl
  simp only [State.safeLevel]
  cases (s.chan (s.lead c)).safe with
  | off => simp
  | on => simp
  | hold => simp
  | pulse => cases (s.chan (s.lead c)).safeStart <;> simp

/-- A safe level rules on the channel (R168, R213). -/
theorem State.safeUnder_iff (s : State) (c : ChanId) (armed : Bool) :
    s.safeUnder c armed = true ↔ s.trigOn c = true ∨ (armed = true ∧ (s.chan (s.lead c)).safeOn = true) := by
  rw [State.safeUnder, Bool.or_eq_true, Bool.and_eq_true]

/-- Row 4 in a pair: a released quadrant is off. -/
theorem State.ranked_released (s : State) (c : ChanId) (armed own : Bool)
    (h : (s.quad (quadOf c)).released = true ∨ ((s.quad (quadOf c)).fwTrig = true ∧ s.inPair = true)) :
    s.ranked c armed own = false :=
  if_pos (by rwa [Bool.or_eq_true, Bool.and_eq_true])

/-- The rows below: the safe level while it rules, the owner's level on an armed quadrant otherwise. -/
theorem State.ranked_of_not_released (s : State) (c : ChanId) (armed own : Bool)
    (h : ¬ ((s.quad (quadOf c)).released = true ∨ ((s.quad (quadOf c)).fwTrig = true ∧ s.inPair = true))) :
    s.ranked c armed own = if s.safeUnder c armed then s.safeLevel c else armed && own :=
  if_neg (by rwa [Bool.or_eq_true, Bool.and_eq_true])

/-- Rows 3 to 9 with an arm state and an owner's level. -/
theorem State.eq_ranked_iff (s : State) (c : ChanId) (armed own lvl : Bool) : lvl = s.ranked c armed own ↔
    ((s.quad (quadOf c)).released = true ∨ ((s.quad (quadOf c)).fwTrig = true ∧ s.inPair = true) → lvl = false) ∧
      ((s.quad (quadOf c)).released = false → ¬ ((s.quad (quadOf c)).fwTrig = true ∧ s.inPair = true) →
        (s.trigOn c = true ∨ (armed = true ∧ (s.chan (s.lead c)).safeOn = true) → lvl = s.safeLevel c) ∧
        (¬ s.trigOn c = true → armed = false ∨ (s.chan (s.lead c)).safeOn = false → lvl = (armed && own))) := by
  by_cases hout : (s.quad (quadOf c)).released = true ∨ ((s.quad (quadOf c)).fwTrig = true ∧ s.inPair = true)
  · rw [s.ranked_released c armed own hout]
    refine ⟨fun h => ⟨fun _ => h, fun hrel hfw => ?_⟩, fun h => h.1 hout⟩
    exact absurd hout (not_or.mpr ⟨Bool.eq_false_iff.mp hrel, hfw⟩)
  · obtain ⟨hrel, hfw⟩ := not_or.mp hout
    have howner : ¬ s.trigOn c = true ∧ (armed = false ∨ (s.chan (s.lead c)).safeOn = false) ↔
        ¬ s.safeUnder c armed = true := by
      rw [s.safeUnder_iff c armed, not_or, not_and_or, Bool.not_eq_true armed, Bool.not_eq_true (Chan.safeOn _)]
    rw [s.ranked_of_not_released c armed own hout, ← s.safeUnder_iff c armed, ← and_imp (b := _ ∨ _), howner]
    by_cases hunder : s.safeUnder c armed = true <;> simp [hunder, hrel, hfw]

theorem State.holding_iff (s : State) (q : QuadId) : s.holding q = true ↔ s.safeN = false ∧ (s.quad q).fwTrig = false ∧
    (s.quad q).released = false ∧ ∃ t, (s.quad q).lastGood = some t ∧ t + 1000 < s.clock := by
  simp only [State.holding]
  cases (s.quad q).lastGood <;> simp [and_assoc]

theorem State.level_of_off (s : State) (c : ChanId) (h : s.fieldOff c = true) : s.level c = false ∧ s.dieLevel c = false := by
  simp [State.level, State.dieLevel, h]

theorem State.level_of_not_off (s : State) (c : ChanId) (h : s.fieldOff c = false) :
    s.level c = (s.demand c || decide ((s.chan c).test = .running)) := by
  simp only [State.level, h, State.testing, Bool.not_false, Bool.true_and]
  rfl

theorem State.dieLevel_holding (s : State) (c : ChanId) (h : s.fieldOff c = false) (hh : s.holding (quadOf c) = true) :
    s.dieLevel c = (s.chan c).drv := by
  simp [State.dieLevel, h, hh]

theorem State.dieLevel_ranked (s : State) (c : ChanId) (h : s.fieldOff c = false) (hh : s.holding (quadOf c) = false) :
    s.dieLevel c = s.ranked c (s.quad (quadOf c)).dieArmed (s.chan c).cmd := by
  simp [State.dieLevel, h, hh]

theorem State.demand_gen (s : State) (c : ChanId) (g : Gen) (h : (s.chan (s.lead c)).gen = some g) :
    s.demand c = s.ranked c (s.quad (quadOf c)).armed g.lvl := by
  simp only [State.demand, State.ownLevel, h]

theorem State.demand_ref (s : State) (c : ChanId) (h : (s.chan (s.lead c)).gen = none) :
    s.demand c = s.ranked c (s.quad (quadOf c)).armed (s.chan (s.lead c)).ref := by
  simp only [State.demand, State.ownLevel, h]

/-! ## The first trigger and the last (R164, R166, R168, R213, R248) -/

theorem State.modChan_modChan (s : State) (c : ChanId) (f g : Chan → Chan) :
    (s.modChan c f).modChan c g = s.modChan c fun x => g (f x) := by
  simp [State.modChan]

theorem State.modChan_id (s : State) (c : ChanId) : s.modChan c id = s := by
  simp [State.modChan]

/-- A safe value that waits for the next trigger comes into force (R480); a die that has kept its settings through a reset knows
none (R85). -/
def Chan.takeSafeNew (x : Chan) (stale : Bool) : Chan :=
  match (if stale then none else x.safeNew) with
  | some v => { x with safe := v.1, safePer := v.2.1, safeDuty := v.2.2, safeNew := none }
  | none => x

/-- A channel on which the first trigger takes effect; on: its safe ON goes on without a break (R164, R166, R213). -/
def Chan.underSafe (x : Chan) (now clock : Nat) (on : Bool) : Chan :=
  { x with
    gen := none, ref := false, chgAt := now, held := x.drv && decide (x.test = .idle), safeOn := true,
    test := if x.test == .idle then .idle else .ending, testEnd := none,
    safeStart := if on then some clock else none, safeGate := on, safeEdged := on }

/-- Its safe ON goes on: the driver is on, and not by a test pulse. -/
def Chan.staysOn (x : Chan) : Bool := x.safe == .on && x.drv && x.test == .idle

theorem Chan.staysOn_iff (x : Chan) : x.staysOn = true ↔ x.safe = .on ∧ x.drv = true ∧ x.test = .idle := by
  simp only [Chan.staysOn, Bool.and_eq_true, beq_iff_eq, and_assoc]

theorem State.eq_takeSafeNew (U V : State) (c : ChanId) (hsame : (U.chan c).safeNew = none ∨ U.staleChan c = true → V = U)
    (hnew : U.staleChan c = false → ∀ k per duty, (U.chan c).safeNew = some (k, per, duty) →
      V = U.modChan c fun x => { x with safe := k, safePer := per, safeDuty := duty, safeNew := none }) :
    V = U.modChan c fun x => x.takeSafeNew (U.staleChan c) := by
  by_cases h : (U.chan c).safeNew = none ∨ U.staleChan c = true
  · rw [hsame h]
    refine (U.modChan_id c).symm.trans (U.modChan_congr c ?_)
    rcases h with h | h <;> simp [Chan.takeSafeNew, h]
  · obtain ⟨hsome, hstale⟩ := not_or.mp h
    obtain ⟨⟨k, per, duty⟩, h⟩ := Option.ne_none_iff_exists'.mp hsome
    rw [hnew (Bool.eq_false_iff.mpr hstale) k per duty h]
    exact U.modChan_congr c (by simp [Chan.takeSafeNew, h, hstale])

theorem State.takeSafe_eq (S U V : State) (c : ChanId) (hU : U = if S.lead c = c then S.withdraw c else S)
    (hV : V = U.modChan c fun x => x.takeSafeNew (U.staleChan c)) :
    S.takeSafe c = V.modChan c fun x => x.underSafe V.now V.clock x.staysOn := by
  have hU' : U = if S.lead c == c then S.withdraw c else S := by simp only [hU, beq_iff_eq]
  rw [hV, State.modChan_modChan, State.takeSafe, ← hU']
  rfl

theorem State.leaveSafe_armed (s : State) (c : ChanId) (h : (s.quad (quadOf c)).armed = true) : s.leaveSafe c = s := if_pos h

theorem State.leaveSafe_disarmed (s : State) (c : ChanId) (h : (s.quad (quadOf c)).armed = false) :
    s.leaveSafe c = s.modChan c fun x => { x with safeOn := false, safeStart := none, safeGate := false } :=
  if_neg (Bool.eq_false_iff.mp h)


/-! ## SAFE_N and the safe values of the dies (R163, R165, R168–R170) -/

theorem State.mem_safeWaits_iff (s : State) (q : QuadId) (l : ChanId) : l ∈ s.safeWaits q ↔
    l ∈ s.leads q ∧ s.safeUnder l (s.quad q).dieArmed = true ∧ ((s.chan l).safe = .on ∨ (s.chan l).safe = .pulse) ∧
      (s.chan l).safeGate = false ∧ s.fieldOff l = false ∧ s.coolEnough l = true ∧ s.holding q = false ∧
      (s.quad q).released = false ∧ ((s.quad q).fwTrig = true → s.inPair = false) := by
  simp only [State.safeWaits, List.mem_filter, Bool.and_eq_true, Bool.or_eq_true, Bool.not_eq_true', beq_iff_eq,
    Bool.and_eq_false_imp, and_assoc]

/-- The units that a frame switches on: at most two channels, a gang counted as two (R165, log entry 59). -/
def State.safeStarts (s : State) (q : QuadId) : List ChanId :=
  match s.safeWaits q with
  | a :: b :: _ => if s.ganged a || s.ganged b then [a] else [a, b]
  | l => l

theorem State.eq_safeStarts (s : State) (q : QuadId) (go : List ChanId) (hnone : s.safeWaits q = [] → go = [])
    (hone : ∀ a, s.safeWaits q = [a] → go = [a])
    (htwo : ∀ a b r, s.safeWaits q = a :: b :: r → go = if s.ganged a = true ∨ s.ganged b = true then [a] else [a, b]) :
    go = s.safeStarts q := by
  unfold State.safeStarts
  match h : s.safeWaits q with
  | [] => exact hnone h
  | [a] => exact hone a h
  | a :: b :: r => simp only [htwo a b r h, Bool.or_eq_true]

section
variable {dt : Nat} {s S : State} (hS : S = s.elapse dt)
include hS

theorem safeNLow_acts (A : State) (hA : A = { S with safeNAt := S.clock }) :
    ActsWhen (S.safeN = false) (exec (.safeNLow dt) s) A
      ((A.retrigger fun t => { t with safeN := true }).driveSelf fun _ => true) := by
  subst hS hA
  exact actsWhen_of_when rfl (by rw [Bool.not_eq_true'])

theorem safeNClear_acts : ActsWhen (S.safeN = true ∧ S.safeNAt + 1000000 ≤ S.clock) (exec (.safeNClear dt) s) S
    ((S.retrigger fun t => { t with safeN := false }).driveSelf fun _ => true) := by
  subst hS
  exact actsWhen_of_when rfl (by simp only [Bool.and_eq_true, decide_eq_true_eq])

theorem safePulseEdge_acts (c l : ChanId) (hl : l = S.lead c) (hpow : S.powered (quadOf c) = true) :
    ActsWhen ((S.chan l).safe = .pulse ∧ (S.chan l).safeGate = true) (exec (.safePulseEdge dt c) s) S
      (S.driveSelf fun m => (S.members l).contains m) := by
  subst hS hl
  exact actsWhen_of_when rfl (by simp only [hpow, Bool.true_and, Bool.and_eq_true, beq_iff_eq])

theorem safeSwitchOn_acts (q : QuadId) (f : Nat) (go : List ChanId) (A B : State) (hpow : S.powered q = true)
    (hf : f = S.dieNow / 1000) (hgo : go = S.safeStarts q)
    (hA : A = go.foldl (fun t l => t.modChan l fun x => { x with
      safeGate := true, safeStart := some (x.safeStart.getD S.clock) }) S)
    (hB : B = if go = [] then A else A.modQuad q fun x => { x with safeFrame := some f }) :
    ActsWhen ((S.quad q).safeFrame ≠ some f) (exec (.safeSwitchOn dt q) s) S
      (B.driveSelf fun c => (go.flatMap B.members).contains c) := by
  have hB' : B = if go.isEmpty then A else A.modQuad q fun x => { x with safeFrame := some f } := by
    simp only [hB, List.isEmpty_iff]
  subst hS hB' hA hgo hf
  exact actsWhen_of_when rfl (by simp only [hpow, Bool.true_and, bne_iff_ne])

/-! ## The host watchdog (R106, R109, R110) -/

theorem hostWatchdogExpiry_acts (act : QuadId → Nat) (A B : State) (hup : S.up = true)
    (hrole : S.pair.st = .single ∨ S.pair.st = .active) (hper : S.host.wdPeriod ≠ 0) (hfired : S.host.wdFired = false)
    (hact : ∀ q, act q = fld S.host.wdAct (2 * q.val) 2)
    (hA : A = ((S.modHost fun h => { h with wdExpired := true, wdFired := true }).noteSet 12).raiseCause 0)
    (hB : B = (List.finRange 4).foldl (fun t q => if act q = 0 then t else if act q = 2 then t.disarmQuad q
      else t.retrigger fun u => u.modQuad q fun x => { x with hwTrig := true }) A) :
    ActsWhen (S.host.wdLast + S.host.wdNs ≤ S.now) (exec (.hostWatchdogExpiry dt) s) S
      (if ∃ q, act q = 2 then B.configured none else B) := by
  have hholds : S.holdsRole = true := by simpa [State.holdsRole] using hrole
  have hB' : B = (List.finRange 4).foldl (fun t q => if act q == 0 then t else if act q == 2 then t.disarmQuad q
      else t.retrigger fun u => u.modQuad q fun x => { x with hwTrig := true }) A := by simp only [hB, beq_iff_eq]
  have hany : (∃ q, act q = 2) ↔ ((List.finRange 4).any fun q => act q == 2) = true := by simp
  rw [if_congr hany rfl rfl]
  obtain rfl := funext hact
  subst hS hB' hA
  exact actsWhen_of_when rfl (by
    simp only [hup, hholds, hfired, bne_iff_ne.mpr hper, Bool.true_and, Bool.not_false, decide_eq_true_eq])

end

/-! ## The obligation -/

/-- Settles O60: the levels are the rows of R212, and each trigger and event is the law of its operation above. -/
theorem safeLevels : Obligations.SafeLevels := by
  unfold Obligations.SafeLevels
  intro dt s S hS
  refine ⟨fun c l q x k off trig safe ranked hl hq hx hk hoff htrig hranked hsafe => ?levels,
    fun c U V hU hsame hnew on hon => ?first, fun c => ⟨S.leaveSafe_armed c, S.leaveSafe_disarmed c⟩,
    fun A hA => ?low, ?clears, ?stays,
    fun c l hl hpow => ?train, S.mem_safeWaits_iff, fun q f go A hpow hf => ?switch, fun hup hrole hper hfired => ?watchdog⟩
  case levels =>
    subst hl hq hx hk
    replace hoff := hoff.trans (S.fieldOff_iff c _ rfl).symm
    replace htrig := htrig.trans (S.trigOn_iff c).symm
    replace hsafe (lvl : Bool) := (hsafe lvl).trans (S.eq_safeLevel_iff c _ rfl lvl).symm
    replace hranked (armed own lvl : Bool) : ranked armed own lvl ↔ lvl = S.ranked c armed own := by
      rw [hranked, htrig, hsafe, S.eq_ranked_iff c armed own lvl]
    simp only [hoff, hranked, Bool.not_eq_true]
    refine ⟨S.level_of_off c, fun h => ⟨S.demand c, S.level_of_not_off c h, S.demand_gen c, S.demand_ref c⟩,
      S.dieLevel_holding c, S.dieLevel_ranked c, S.holding_iff (quadOf c)⟩
  case first =>
    have hV := U.eq_takeSafeNew V c hsame hnew
    have hon : on = (V.chan c).staysOn := Bool.eq_iff_iff.mpr (hon.trans (Chan.staysOn_iff _).symm)
    rw [S.takeSafe_eq U V c hU hV, hon]
    refine V.modChan_congr c ?_
    simp only [Chan.underSafe, beq_iff_eq]
  case low =>
    obtain ⟨hacts, hheld⟩ := safeNLow_acts hS A hA
    exact ⟨hacts, fun hlow => hheld (by rwa [Bool.not_eq_false])⟩
  case clears => exact fun hlow htime => (safeNClear_acts hS).1 ⟨hlow, htime⟩
  case stays => exact fun h => (safeNClear_acts hS).2 (by rwa [not_and_or, Bool.not_eq_true, Nat.not_le])
  case train =>
    obtain ⟨hedge, hidle⟩ := safePulseEdge_acts hS c l hl hpow
    exact ⟨fun hsafe hgate => hedge ⟨hsafe, hgate⟩, fun h => hidle (by rwa [not_and_or, Bool.not_eq_true])⟩
  case switch =>
    refine ⟨fun h => ?_, fun h hnone hone htwo hA B hB => ?_⟩
    · exact (safeSwitchOn_acts hS q f _ _ _ hpow hf rfl rfl rfl).2 (not_not.mpr h)
    · exact (safeSwitchOn_acts hS q f go A B hpow hf (S.eq_safeStarts q go hnone hone htwo) hA hB).1 h
  case watchdog =>
    refine ⟨fun h => ?_, fun h act A B hact hA hB => ?_⟩
    · exact (hostWatchdogExpiry_acts hS _ _ _ hup hrole hper hfired (fun _ => rfl) rfl rfl).2 (Nat.not_le.mpr h)
    · exact (hostWatchdogExpiry_acts hS act A B hup hrole hper hfired hact hA hB).1 h

end Sys2Proof.Machine

/-!
Protection (R151–R153, R157, R158, R174–R177, R179–R181, R185, R192, R193, R195–R197, R199, R206, R226): when a unit is in limit
or shorted, what a protective switch-off does to its unit and what it reports, when each event of a die acts, and the settlement
of O58.
-/
namespace Sys2Proof.Machine
open Sys2Proof

/-! ## Current limit and inrush windows (R174, R175, R179–R181) -/

theorem State.unitLimit_iff (s : State) (l : ChanId) : s.unitLimit l = true ↔ ∃ m ∈ s.members l, (s.chan m).inLimit = true :=
  List.any_eq_true

theorem State.noWindow_iff (s : State) (l : ChanId) : s.noWindow l = true ↔ ¬ ∃ m ∈ s.members l, (s.chan m).inrush ≠ none := by
  simp only [State.noWindow, List.all_eq_true, Option.isNone_iff_eq_none, not_exists, not_and, not_ne_iff]

theorem State.shorted_iff (s : State) (l : ChanId) : s.shorted l = true ↔ (∃ m ∈ s.members l, (s.chan m).inLimit = true) ∧
    (¬ ∃ m ∈ s.members l, (s.chan m).inrush ≠ none) ∧ (s.chan l).limitSince + 100000 ≤ s.dieNow := by
  rw [State.shorted, Bool.and_eq_true, Bool.and_eq_true, s.unitLimit_iff l, s.noWindow_iff l, decide_eq_true_eq, and_assoc]

/-- The band around the inrush limit, while a window runs, or around the normal one. -/
theorem State.atLimit_iff (s : State) (c : ChanId) (ma n : Nat) (hn : n = (s.members c).length) : s.atLimit c ma = true ↔
    ((∃ m ∈ s.members c, (s.chan m).windowOn = true) ∧ 2080 * n ≤ ma ∧ ma ≤ 3120 * n) ∨
      ((¬ ∃ m ∈ s.members c, (s.chan m).windowOn = true) ∧ 960 * n ≤ ma ∧ ma ≤ 1440 * n) := by
  subst hn
  simp only [State.atLimit, ← List.any_eq_true]
  cases (s.members c).any fun m => (s.chan m).windowOn <;> simp

/-- The slice sensor's finding leaves the current limit's timing as it was. -/
theorem State.shorted_sliceHot (s : State) (c l : ChanId) :
    (s.modChan c fun x => { x with sliceHot := true }).shorted l = s.shorted l := by
  have hchan (d : ChanId) : (s.modChan c fun x => { x with sliceHot := true }).chan d =
      { s.chan d with sliceHot := decide (c = d) || (s.chan d).sliceHot } := by
    by_cases h : c = d <;> simp [h]
  simp only [State.shorted, State.unitLimit, State.noWindow, State.members, State.lead, State.isOdd, State.gangAt, hchan]
  rfl

/-! ## A protective switch-off (R158, R177, R185, R191, R195, R196) -/

/-- A driver of the unit is on. -/
def State.unitDriven (s : State) (c : ChanId) : Bool := (s.members c).any fun m => (s.chan m).drv

/-- The unit's reference is on: a test pulse is none (R191). -/
def State.refOn (s : State) (c : ChanId) : Bool := (s.chan (s.lead c)).drv && (s.chan (s.lead c)).test == .idle

/-- A cause that comes after another one's switch-off in the same eighth (R177, log entry 57). -/
def State.secondCause (s : State) (c : ChanId) (cause : OffCause) : Bool :=
  !s.unitDriven c && (s.chan (s.lead c)).cause.order != 0 && cause.order != 0 && (s.chan (s.lead c)).causeAt == s.dieNow / 125

theorem State.unitDriven_iff (s : State) (c : ChanId) : s.unitDriven c = true ↔ ∃ m ∈ s.members c, (s.chan m).drv = true :=
  List.any_eq_true

theorem State.refOn_iff (s : State) (c : ChanId) :
    s.refOn c = true ↔ (s.chan (s.lead c)).drv = true ∧ (s.chan (s.lead c)).test = .idle := by
  rw [State.refOn, Bool.and_eq_true, beq_iff_eq]

theorem State.secondCause_iff (s : State) (c : ChanId) (cause : OffCause) : s.secondCause c cause = true ↔
    s.unitDriven c = false ∧ (s.chan (s.lead c)).cause.order ≠ 0 ∧ cause.order ≠ 0 ∧
      (s.chan (s.lead c)).causeAt = s.dieNow / 125 := by
  simp only [State.secondCause, Bool.and_eq_true, Bool.not_eq_true', bne_iff_ne, beq_iff_eq, and_assoc]

/-- The unit is off, the cause marked where there is one to mark, and a second cause takes the first one's report back. -/
def State.offBy (s : State) (c : ChanId) (cause : OffCause) (cool : Bool) : State :=
  let t := s.offUnit c cause cool (s.refOn c || s.secondCause c cause)
  if s.secondCause c cause then t.unreport (s.lead c) (s.chan (s.lead c)).cause.code else t

theorem State.protectOff_eq (s : State) (c : ChanId) (cause : OffCause) (cool : Bool) (diag : Option (ChanId × Nat)) :
    s.protectOff c cause cool diag =
      if s.secondCause c cause && cause.order ≤ (s.chan (s.lead c)).cause.order then s
      else (s.offBy c cause cool).offReport (s.lead c) (s.refOn c) diag := rfl

theorem State.protectOff_gives_way (s : State) (c : ChanId) (cause : OffCause) (cool : Bool) (diag : Option (ChanId × Nat))
    (h : s.secondCause c cause = true) (horder : cause.order ≤ (s.chan (s.lead c)).cause.order) :
    s.protectOff c cause cool diag = s := by
  rw [s.protectOff_eq, h, decide_eq_true horder, Bool.and_self, if_pos rfl]

theorem State.protectOff_acts (s : State) (c : ChanId) (cause : OffCause) (cool : Bool) (diag : Option (ChanId × Nat))
    (h : s.secondCause c cause = false ∨ (s.chan (s.lead c)).cause.order < cause.order) :
    s.protectOff c cause cool diag = (s.offBy c cause cool).offReport (s.lead c) (s.refOn c) diag := by
  rw [s.protectOff_eq, if_neg]
  rwa [Bool.and_eq_true, decide_eq_true_eq, not_and_or, Bool.not_eq_true, Nat.not_le]

/-! ## The report of a switch-off (R195, R196) -/

/-- A switch-off of a reference that was off is no thermal event. -/
theorem State.offReport_refOff (s : State) (l : ChanId) (d : ChanId × Nat) : s.offReport l false none = s ∧
    s.offReport l false (some d) = if s.linked (quadOf l) then s.raiseDiag d.1 d.2 else s :=
  ⟨rfl, rfl⟩

theorem State.thermalEvent_latches_iff (s : State) (l : ChanId) : (s.thermalEvent l).2 = true ↔
    (prLatch (s.protOf l) = true ∨ (prRlim (s.protOf l) ≠ 0 ∧ prRlim (s.protOf l) ≤ (s.chan l).retry + 1)) ∧
      (s.chan l).latch = false := by
  simp only [State.thermalEvent, Bool.and_eq_true, Bool.or_eq_true, bne_iff_ne, decide_eq_true_eq, Bool.not_eq_true']

/-- A thermal event is counted before its diagnostic, and latches the unit after it. -/
theorem State.offReport_refOn (s A B : State) (l : ChanId) (diag : Option (ChanId × Nat))
    (hA : A = s.modChan l fun x => { x with retry := x.retry + 1, lastThermal := s.dieNow }) (hnone : diag = none → B = A)
    (hsome : ∀ d, diag = some d → B = if A.linked (quadOf l) then A.raiseDiag d.1 d.2 else A) :
    s.offReport l true diag = if (s.thermalEvent l).2 then B.latchUnit l else B := by
  cases diag with
  | none =>
    rw [hnone rfl, hA]
    rfl
  | some d =>
    rw [hsome d rfl, hA]
    rfl

/-! ## The events of a die -/

theorem State.supplyOff_iff (s : State) (q : QuadId) :
    s.supplyOff q = true ↔ (s.quad q).lclass = .under ∨ (s.quad q).lclass = .over := by
  rw [State.supplyOff, Bool.or_eq_true, beq_iff_eq, beq_iff_eq]

section
variable {dt : Nat} {s S : State} (hS : S = s.elapse dt)
include hS

theorem currentLimit_acts (c : ChanId) (ma : Nat) (hpow : S.powered (quadOf c) = true) :
    ActsWhen ((S.chan c).drv = true ∧ (S.chan c).inLimit = false ∧ S.atLimit c ma = true) (exec (.currentLimit dt ⟨c, ma⟩) s) S
      ((S.members c).foldl (fun t m => t.modChan m fun x => { x with
        inLimit := true, limFrom := S.dieNow, limitSince := S.dieNow }) S) := by
  subst hS
  exact actsWhen_of_when rfl (by simp only [hpow, Bool.true_and, Bool.and_eq_true, Bool.not_eq_true', and_assoc])

theorem currentLimitExit_acts (c : ChanId) (hpow : S.powered (quadOf c) = true) :
    ActsWhen ((S.chan c).inLimit = true) (exec (.currentLimitExit dt c) s) S
      ((S.members c).foldl (fun t m => t.modChan m fun x => { x with
        inLimit := false, limTo := some S.dieNow, ovFrom := S.dieNow }) S) := by
  subst hS
  exact actsWhen_of_when rfl (by rw [hpow, Bool.true_and])

theorem shortLimit_acts (c : ChanId) (hpow : S.powered (quadOf c) = true) :
    ActsWhen (S.shorted (S.lead c) = true) (exec (.shortLimit dt c) s) S
      (S.protectOff (S.lead c) .short true (some (S.lead c, 2))) := by
  subst hS
  exact actsWhen_of_when rfl (by rw [hpow, Bool.true_and])

theorem overload_acts (c l : ChanId) (ma run : Nat) (hl : l = S.lead c) (hpow : S.powered (quadOf c) = true) :
    ActsWhen ((S.chan l).drv = true ∧ (¬ ∃ m ∈ S.members l, (S.chan m).inLimit = true) ∧
        (¬ ∃ m ∈ S.members l, (S.chan m).inrush ≠ none) ∧ 750 * (S.members l).length ≤ ma ∧
        prOvtime (S.protOf l) * 10000000 ≤ run ∧ (S.chan l).ovFrom + run ≤ S.dieNow)
      (exec (.overload dt ⟨c, ma, run⟩) s) S (S.protectOff l .overload true (some (l, 1))) := by
  subst hS hl
  exact actsWhen_of_when rfl (by
    simp only [hpow, Bool.true_and, Bool.and_eq_true, Bool.not_eq_true', decide_eq_true_eq, ← State.unitLimit_iff,
      ← State.noWindow_iff, Bool.not_eq_true, and_assoc])

/-- The switch-off of a slice at 170 °C, on an output only (R177, R192). -/
theorem thermOff_acts (c : ChanId) (temp : Int) (A : State) (hpow : S.powered (quadOf c) = true)
    (hA : A = S.modChan c fun x => { x with sliceHot := true }) :
    ActsWhen (170 ≤ temp) (exec (.thermOff dt ⟨c, temp⟩) s) S
      (if A.isOutput c = false then A
        else if S.shorted (S.lead c) = true then A.protectOff (S.lead c) .short true (some (S.lead c, 2))
        else A.protectOff c .therm false (some (c, 3))) := by
  have hshort : S.shorted (S.lead c) = A.shorted (S.lead c) := hA ▸ (S.shorted_sliceHot c (S.lead c)).symm
  simp only [hshort, ← Bool.not_eq_true']
  subst hS hA
  exact actsWhen_of_when rfl (by rw [hpow, Bool.true_and, decide_eq_true_eq])

theorem dieHot_acts (q : QuadId) (temp : Int) (A : State) (hpow : S.powered q = true)
    (hA : A = ((S.leads q).foldl (fun t l => if (t.chan l).drv then t.protectOff l .dieHot false none else t) S).modQuad q
      fun x => { x with hot := true }) :
    ActsWhen ((S.quad q).hot = false ∧ 150 ≤ temp) (exec (.dieHot dt ⟨q, temp⟩) s) S
      (if A.linked q then A.raiseQuadDiag q 0xF else A) := by
  subst hS hA
  exact actsWhen_of_when rfl (by
    simp only [hpow, Bool.true_and, Bool.and_eq_true, Bool.not_eq_true', decide_eq_true_eq])

/-- The generators that DIE_HOT met in an off-phase come back with it (R226). -/
theorem dieHotClear_acts (q : QuadId) (temp : Int) (A B : State) (hpow : S.powered q = true)
    (hA : A = S.modQuad q fun x => { x with hot := false }) (hB : B = A.clearQuadDiag q 0xF) :
    ActsWhen ((S.quad q).hot = true ∧ temp ≤ 135) (exec (.dieHotClear dt ⟨q, temp⟩) s) S
      (if A.linked q then
        (B.leads q).foldl (fun t l => if (t.chan l).gen = none ∨ t.heldOff l = true then t else t.comeBack l false) B
        else A) := by
  have hreturn : (B.leads q).foldl (fun t l => if (t.chan l).gen = none ∨ t.heldOff l = true then t
      else t.comeBack l false) B = B.hotReturn q := by
    simp only [State.hotReturn, Bool.or_eq_true, Option.isNone_iff_eq_none]
  rw [hreturn]
  subst hS hB hA
  exact actsWhen_of_when rfl (by simp only [hpow, Bool.true_and, Bool.and_eq_true, decide_eq_true_eq])

theorem inrushWindowEnd_acts (c : ChanId) (t : Nat) (hpow : S.powered (quadOf c) = true) (ht : (S.chan c).inrush = some t) :
    ActsWhen (t ≤ S.dieNow) (exec (.inrushWindowEnd dt c) s) S
      ((S.members c).foldl (fun u m => u.modChan m fun x => { x with
        inrush := none, inrushCut := false, inrTo := if x.windowOn then some S.dieNow else x.inrTo,
        limitSince := S.dieNow, ovFrom := S.dieNow }) S) := by
  subst hS
  exact actsWhen_of_when rfl (by simp only [hpow, ht, Bool.true_and, decide_eq_true_eq])

theorem reverse_acts (c : ChanId) (above : Int) (run : Nat) (A : State) (hpow : S.powered (quadOf c) = true)
    (hA : A = (S.dropUnit c).modChan c fun x => { x with reverse := true, revAt := S.dieNow }) :
    ActsWhen ((S.chan c).reverse = false ∧ S.supplyOff (quadOf c) = false ∧ 1000 < above ∧ 10000 ≤ run)
      (exec (.reverse dt ⟨c, above, run⟩) s) S (if A.linked (quadOf c) then A.raiseDiag c 8 else A) := by
  subst hS hA
  exact actsWhen_of_when rfl (by
    simp only [hpow, Bool.true_and, Bool.and_eq_true, Bool.not_eq_true', decide_eq_true_eq, and_assoc, and_left_comm])

theorem reverseClear_acts (c : ChanId) (above : Int) (run : Nat) (A B : State) (hpow : S.powered (quadOf c) = true)
    (hA : A = S.modChan c fun x => { x with reverse := false }) (hB : B = A.clearDiag c 8) :
    ActsWhen ((S.chan c).reverse = true ∧ S.supplyOff (quadOf c) = false ∧
        above ≤ 500 ∧ chSettle (S.chwOf c) * 1000 ≤ run ∧ (S.chan c).revAt + run ≤ S.dieNow)
      (exec (.reverseClear dt ⟨c, above, run⟩) s) S (if A.linked (quadOf c) then
        (if B.heldOff (B.lead c) then B else B.comeBack (B.lead c) false) else A) := by
  subst hS hB hA
  exact actsWhen_of_when rfl (by
    simp only [hpow, Bool.true_and, Bool.and_eq_true, Bool.not_eq_true', decide_eq_true_eq, and_assoc])

theorem retryWindowExpiry_acts (c l : ChanId) (hl : l = S.lead c) (hup : S.up = true) :
    ActsWhen ((S.chan l).retry ≠ 0 ∧ (S.chan l).lastThermal + prRwin (S.protOf c) * 1000000000 ≤ S.dieNow)
      (exec (.retryWindowExpiry dt c) s) S (S.modChan l fun x => { x with retry := 0 }) := by
  subst hS hl
  exact actsWhen_of_when rfl (by simp only [hup, Bool.true_and, Bool.and_eq_true, bne_iff_ne, decide_eq_true_eq])

end

/-! ## The obligation -/

/-- Settles O58: each event's clause is its law above; which of two causes of one eighth is reported is what decides whether
`protectOff` acts, and its thermal event whether the latch is set. -/
theorem protection : Obligations.Protection := by
  unfold Obligations.Protection
  rintro dt s S c l q hS hl rfl hpow
  refine ⟨fun ma n window band hn hwindow hband => ?limit, ?exit, ?stays,
    fun limited window short hlimited hwindow hshort => ?short, fun temp A hA => ?hot, fun temp A B hA hB => ?cooled,
    fun t ht => ?inrush, fun above run A hA => ?reverse, fun above run held A B hA hB hheld => ?forward, fun hup => ?retry,
    fun cause cool diag refOn driven second x E F hx hrefOn hdriven hsecond hE hF => ?protectOff,
    fun diag A B hit hhit hA hnone hsome => ?thermal, fun d => S.offReport_refOff l d⟩
  case limit =>
    have hband : band ↔ S.atLimit c ma = true := by rw [S.atLimit_iff c ma n hn, hband, hwindow]
    have hacts := currentLimit_acts hS c ma hpow
    simp only [ActsWhen, ← hband, and_imp, not_and_or, Bool.not_eq_true, Bool.not_eq_false] at hacts
    exact hacts
  case exit => exact (currentLimitExit_acts hS c hpow).1
  case stays => exact fun h => (currentLimitExit_acts hS c hpow).2 (Bool.eq_false_iff.mp h)
  case short =>
    have hshort : S.shorted l = true ↔ short := by rw [S.shorted_iff l, hshort, hlimited, hwindow]
    have hacts := shortLimit_acts hS c hpow
    rw [← hl, hshort] at hacts
    refine ⟨hacts.1, hacts.2, fun ma run over_ hover => ?overload, fun temp A hA => ?therm⟩
    case overload =>
      rw [hlimited, hwindow] at hover
      have hacts := overload_acts hS c l ma run hl hpow
      rwa [← hover] at hacts
    case therm =>
      obtain ⟨hacts, hcool⟩ := thermOff_acts hS c temp A hpow hA
      rw [← hl] at hacts
      refine ⟨fun h => hcool (Int.not_le.mpr h), fun h hin => ?_, fun h hout hs => ?_, fun h hout hs => ?_⟩
      · rw [hacts h, if_pos hin]
      · rw [hacts h, if_neg (Bool.ne_false_iff.mpr hout), if_pos (hshort.mpr hs)]
      · rw [hacts h, if_neg (Bool.ne_false_iff.mpr hout), if_neg (mt hshort.mp hs)]
  case hot =>
    have hacts := dieHot_acts hS (quadOf c) temp A hpow hA
    simp only [ActsWhen, and_imp, not_and_or, Int.not_le, Bool.not_eq_false] at hacts
    exact hacts
  case cooled =>
    have hacts := dieHotClear_acts hS (quadOf c) temp A B hpow hA hB
    simp only [ActsWhen, and_imp, not_and_or, Int.not_le, Bool.not_eq_true] at hacts
    exact hacts
  case inrush =>
    obtain ⟨hends, hruns⟩ := inrushWindowEnd_acts hS c t hpow ht
    exact ⟨fun h => hruns (Nat.not_le.mpr h), hends⟩
  case reverse =>
    obtain ⟨hacts, hidle⟩ := reverse_acts hS c above run A hpow hA
    refine ⟨fun hrev hclass habove hrun => hacts ⟨hrev, (S.supplyOff_eq_false_iff _).mpr hclass, habove, hrun⟩,
      fun h => hidle ?_⟩
    rwa [not_and_or, not_and_or, not_and_or, Bool.not_eq_false, Bool.not_eq_false, S.supplyOff_iff (quadOf c), or_assoc,
      Int.not_lt, Nat.not_le]
  case forward =>
    obtain ⟨hacts, hidle⟩ := reverseClear_acts hS c above run A B hpow hA hB
    rw [← hheld] at hacts hidle
    refine ⟨fun hrev hclass hheld => hacts ⟨hrev, (S.supplyOff_eq_false_iff _).mpr hclass, hheld⟩, fun h => hidle ?_⟩
    rwa [not_and_or, not_and_or, Bool.not_eq_true, Bool.not_eq_false, S.supplyOff_iff (quadOf c), or_assoc]
  case retry =>
    have hacts := retryWindowExpiry_acts hS c l hl hup
    simp only [ActsWhen, and_imp, not_and_or, Nat.not_le, ne_eq, not_not] at hacts
    exact hacts
  case protectOff =>
    subst hx hl
    obtain rfl : refOn = S.refOn c := Bool.eq_iff_iff.mpr (hrefOn.trans (S.refOn_iff c).symm)
    obtain rfl : driven = S.unitDriven c := Bool.eq_iff_iff.mpr (hdriven.trans (S.unitDriven_iff c).symm)
    obtain rfl : second = S.secondCause c cause := Bool.eq_iff_iff.mpr (hsecond.trans (S.secondCause_iff c cause).symm)
    obtain rfl : F = S.offBy c cause cool := by rw [hF, hE]; rfl
    exact ⟨S.protectOff_gives_way c cause cool diag, S.protectOff_acts c cause cool diag⟩
  case thermal =>
    rw [S.offReport_refOn A B l diag hA hnone hsome]
    simp only [S.thermalEvent_latches_iff l, hhit]

end Sys2Proof.Machine

/-!
Encoder faults (R269–R274): when a fault is checked, what it leaves on record, what each policy of the active bank makes of it, and
the settlement of O39.
-/
namespace Sys2Proof.Machine
open Sys2Proof

/-- A fault counted in the course statistics by its kind (R272, R299). -/
def EncFault.count (k : EncFault) (c : Course) : Course := { c with
  nIllegal := if k = .illegal then c.nIllegal + 1 else c.nIllegal,
  nIndex := if k = .index then c.nIndex + 1 else c.nIndex,
  nStall := if k = .stall then c.nStall + 1 else c.nStall }

/-- The policy that a fault meets: without an angle to coast on, COAST is SAFE (R272). -/
def State.faultPolicy (s : State) : Nat :=
  if (s.cbank s.course.active).fpol = 2 ∧ s.ang.st = .unreferenced then 1 else (s.cbank s.course.active).fpol.toNat

/-- A fault counted and latched, with its device cause and its record (R269–R274). -/
def State.faultNoted (s : State) (k : EncFault) : State :=
  (((s.modCourse k.count).modAng fun a => { a with fault := some k }).raiseCause 5).mark 4 0 (BitVec.ofNat 32 k.code)
    (BitVec.ofNat 32 s.faultPolicy) 0

/-- COASTING goes on from the last counted edge until `until_`; what its fronts have passed meanwhile does not fire (R271). -/
def State.coastFromEdge (s : State) (until_ : Nat) : State :=
  let t := (s.gotoState .coasting).modAng fun a => { a with coast := some {
    theta := s.ang.edgeSeg.th, omega := s.ang.edgeSeg.om, t := s.ang.edgeSeg.t, until_ := until_ } }
  (t.modCourse fun c => { c with
    notApplied := c.notApplied + (t.course.fronts.map fun f => (t.passed f (t.lam f.lead)).length).foldl (· + ·) 0 }).restartFronts t.lam

theorem State.encFault_unchecked (s : State) (k : EncFault) (hrun : s.ang.st ≠ .running) (hunref : s.ang.st ≠ .unreferenced) :
    s.encFault k = s :=
  if_pos (by simp [hrun, hunref])

/-- A checked fault is noted, and the policy says what follows (R269–R272). -/
theorem State.encFault_checked (s : State) (k : EncFault) (h : s.ang.st = .running ∨ s.ang.st = .unreferenced) :
    s.encFault k =
      if s.faultPolicy = 2 then
        (s.faultNoted k).coastFromEdge ((s.faultNoted k).now + (s.cbank s.course.active).tcoast * 1000000)
      else if s.faultPolicy = 1 then (s.faultNoted k).enterSafe
      else ((s.faultNoted k).stopFiring .frozen).withdrawSoft := by
  have hpol : (if (s.cbank s.course.active).fpol == 2 && s.ang.st == .unreferenced then 1
      else (s.cbank s.course.active).fpol.toNat) = s.faultPolicy := by
    simp only [State.faultPolicy, Bool.and_eq_true, beq_iff_eq]
  refine (if_neg (by rcases h with h | h <;> simp [h])).trans ?_
  simp only [hpol, beq_iff_eq]
  cases k <;> rfl

/-- Settles O39: the policy's three values select the branches of a checked fault. -/
theorem encoderFaults : Obligations.EncoderFaults := by
  unfold Obligations.EncoderFaults
  refine fun s S k pol => ⟨s.encFault_unchecked k, fun hchecked hpol hS => ?_⟩
  obtain rfl : pol = s.faultPolicy := hpol
  obtain rfl : S = s.faultNoted k := by rw [hS]; cases k <;> rfl
  rw [s.encFault_checked k hchecked]
  refine ⟨fun hfreeze => ?_, fun hsafe => ?_, fun hcoast U hU => ?_⟩
  · rw [hfreeze]; rfl
  · rw [hsafe]; rfl
  · rw [hcoast, hU]; rfl

end Sys2Proof.Machine

/-!
The actions of the course (R39, R107, R119, R222, R223, R277, R285–R298, R374, R387, R391, R395, R554, R592): when an entry fires,
what an action on one channel comes to, the levels and generators that it asks for, the other actions one by one, and the settlement
of O42.
-/
namespace Sys2Proof.Machine
open Sys2Proof

/-! ## The firing of an entry (R285, R290, R387, R406, R554) -/

/-- Entry i of bank b is e, and it fires in the present ANGLE tick, as the first of those that are due. -/
structure State.Fires (S : State) (b : CBankId) (i : Nat) (e : Entry) (x : Due) : Prop where
  up : S.up = true
  role : S.holdsRole = true
  next : S.angleTick.nextDue = some x
  bank : x.bank = b
  idx : x.idx = i
  entry : (S.angleTick.cbank b).entries[i]? = some e

/-- The entry is no longer due, and its class has one entry less prefetched (R285, R290, R406). -/
def State.spendEntry (T : State) (b : CBankId) (e : Entry) (x : Due) : State :=
  T.modCourse fun c => { c with
    lastFire := some (T.now / 8), firing := c.firing + 1, due := c.due.erase x,
    fronts := c.fronts.map fun (g : Front) => if g.bank == b && g.lead == enLead e then { g with pre := g.pre - 1 } else g }

/-- The entry counts as fired (R299). -/
def State.countFired (s : State) : State := s.modCourse fun c => { c with fired := c.fired + 1 }

theorem State.fireEntry_idle (S : State) (b : CBankId) (i a : Nat) (f : State → Entry → State) (hup : S.up = true)
    (hrole : S.holdsRole = true)
    (h : ∀ y, S.angleTick.nextDue = some y → y.bank = b → y.idx = i →
      ∀ k, (S.angleTick.cbank b).entries[i]? = some k → k.action.toNat ≠ a) :
    S.fireEntry b i a f = S.angleTick := by
  simp only [State.fireEntry, hup, hrole, Bool.and_self, Bool.not_true, Bool.false_eq_true, if_false]
  split
  · next y k hy hk =>
    refine if_pos ?_
    simp only [Bool.or_eq_true, bne_iff_ne]
    by_contra hfires
    simp only [not_or, not_not] at hfires
    obtain ⟨⟨hbank, hidx⟩, haction⟩ := hfires
    exact h y hy hbank hidx k hk haction
  · rfl

/-- A firing entry acts unless its bank is SUSPECT or its read found it damaged. -/
theorem State.Fires.fireEntry {S : State} {b : CBankId} {i : Nat} {e : Entry} {x : Due} (h : S.Fires b i e x)
    (f : State → Entry → State) :
    S.fireEntry b i e.action.toNat f =
      if ((S.angleTick.cbank b).suspect || S.angleTick.course.bad.contains (b, i)) = true
      then (S.angleTick.spendEntry b e x).notApplied else f (S.angleTick.spendEntry b e x).countFired e := by
  obtain ⟨hup, hrole, hnext, rfl, rfl, hentry⟩ := h
  simp only [State.fireEntry, hup, hrole, hnext, hentry, bne_self_eq_false, Bool.or_self, Bool.and_self, Bool.not_true,
    Bool.false_eq_true, if_false]
  rfl

/-- An entry that is not counted yet counts as not applied once (R299). -/
theorem State.notApplied_uncounted (s : State) (h : s.course.counted.contains s.course.firing = false) :
    s.notApplied = s.modCourse fun c => { c with
      notApplied := c.notApplied + 1, counted := c.firing :: c.counted.filter fun k => s.reqs.any fun r => r.firing == k } :=
  if_neg (Bool.eq_false_iff.mp h)

/-- Entry e, of action a, acts: the firing hands U to whatever effect the action has. -/
def State.ActsOn (S : State) (b : CBankId) (i a : Nat) (e : Entry) (U : State) : Prop :=
  ∀ f, S.fireEntry b i a f = f U e

theorem State.ActsOn.next {S U : State} {b : CBankId} {i a : Nat} {e : Entry} (h : S.ActsOn b i a e U)
    {o : Host.Outcome State Fault Refusal} {f : State → Entry → State} (ho : o = .next (S.fireEntry b i a f)) : o = .next (f U e) :=
  ho.trans (congrArg _ (h f))

/-! ## The commands of the ten actions (R277) -/

/-- The action codes (R277). -/
def courseCodes : List Nat := [1, 2, 3, 4, 5, 6, 0x10, 0x11, 0x12, 0x13]

theorem mem_channelCodes : ∀ a ∈ courseCodes, a ≤ 5 → a ∈ [1, 2, 3, 4, 5] := by decide

theorem mem_levelCodes : ∀ a ∈ courseCodes, a ≤ 3 → a ∈ [1, 2, 3] := by decide

/-- The command that fires entry i of bank b when its action is a. -/
def fireInstr (dt : Nat) (b : CBankId) (i a : Nat) : Instr :=
  match a with
  | 1 => .outOn dt b i
  | 2 => .outOff dt b i
  | 3 => .outToggle dt b i
  | 4 => .pulseStart dt b i
  | 5 => .pulseStop dt b i
  | 6 => .bankWrite dt b i
  | 0x10 => .adcTrigger dt b i
  | 0x11 => .snapshot dt b i
  | 0x12 => .mark dt b i
  | _ => .syncFire dt b i

/-- The level that OUT_ON, OUT_OFF and OUT_TOGGLE ask of a unit (R286, R287). -/
def State.askedLevel (s : State) (a : Nat) (l : ChanId) : Bool :=
  if a = 1 then true else if a = 2 then false else !s.refLevel l

theorem exec_fireInstr (dt : Nat) (b : CBankId) (i : Nat) (s : State) : ∀ a ∈ courseCodes,
    ∃ f, exec (fireInstr dt b i a) s = .next ((s.elapse dt).fireEntry b i a f) := by
  simp only [courseCodes, List.forall_mem_cons, List.not_mem_nil, false_imp_iff, implies_true, and_true]
  exact ⟨⟨_, rfl⟩, ⟨_, rfl⟩, ⟨_, rfl⟩, ⟨_, rfl⟩, ⟨_, rfl⟩, ⟨_, rfl⟩, ⟨_, rfl⟩, ⟨_, rfl⟩, ⟨_, rfl⟩, ⟨_, rfl⟩⟩

/-- Actions 1 to 5 act on one channel (R277). -/
theorem exec_fireInstr_channel (dt : Nat) (b : CBankId) (i : Nat) (s : State) : ∀ a ∈ [1, 2, 3, 4, 5],
    ∃ f : Entry → State → ChanId → State × Verdict, exec (fireInstr dt b i a) s =
      .next ((s.elapse dt).fireEntry b i a fun s e => s.courseChan e (f e)) := by
  simp only [List.forall_mem_cons, List.not_mem_nil, false_imp_iff, implies_true, and_true]
  exact ⟨⟨_, rfl⟩, ⟨_, rfl⟩, ⟨_, rfl⟩, ⟨_, rfl⟩, ⟨_, rfl⟩⟩

/-- Actions 1 to 3 ask a level of it (R286, R287). -/
theorem exec_fireInstr_level (dt : Nat) (b : CBankId) (i : Nat) (s : State) : ∀ a ∈ [1, 2, 3],
    exec (fireInstr dt b i a) s = .next ((s.elapse dt).fireEntry b i a fun s e =>
      s.courseChan e fun s l => s.setLevel l (s.askedLevel a l) (srcOf e i)) := by
  simp only [List.forall_mem_cons, List.not_mem_nil, false_imp_iff, implies_true, and_true]
  exact ⟨rfl, rfl, rfl⟩

/-! ## An action on one channel (R39, R107, R198, R592) -/

theorem State.courseMay_allowed (s : State) (q : QuadId) (f : State → State) (h : s.allowed 9 (0x30 + q.val) 4 = true) :
    s.courseMay q f = f s := if_pos h

theorem State.courseMay_denied (s : State) (q : QuadId) (f : State → State) (h : s.allowed 9 (0x30 + q.val) 4 = false) :
    s.courseMay q f = s.deny 9 (0x30 + q.val) 4 := if_neg (Bool.eq_false_iff.mp h)

/-- What a verdict leaves: an action that was not applied is counted (R299). -/
def countVerdict (r : State × Verdict) : State :=
  match r with
  | (t, .notApplied) => t.notApplied
  | (t, _) => t

theorem countVerdict_notApplied (r : State × Verdict) (h : r.2 = .notApplied) : countVerdict r = r.1.notApplied := by
  obtain ⟨t, v⟩ := r
  subst h
  rfl

theorem countVerdict_of_ne (r : State × Verdict) (h : r.2 ≠ .notApplied) : countVerdict r = r.1 := by
  obtain ⟨t, v⟩ := r
  cases v
  case notApplied => exact absurd rfl h
  all_goals rfl

section
variable (U : State) (e : Entry) (f : State → ChanId → State × Verdict) {l : ChanId} (hl : l = U.lead (enChan e))
include hl

theorem State.courseChan_denied (h : U.allowed 9 (0x30 + (quadOf l).val) 4 = false) :
    U.courseChan e f = U.deny 9 (0x30 + (quadOf l).val) 4 := by
  subst hl
  rw [State.courseChan, U.courseMay_denied _ _ h]

theorem State.courseChan_unaccepted (h : U.allowed 9 (0x30 + (quadOf l).val) 4 = true) (hacc : U.accepts true l = false) :
    U.courseChan e f = U.notApplied := by
  subst hl
  rw [State.courseChan, U.courseMay_allowed _ _ h, hacc]
  rfl

theorem State.courseChan_accepted (h : U.allowed 9 (0x30 + (quadOf l).val) 4 = true) (hacc : U.accepts true l = true) :
    U.courseChan e f = countVerdict (f U l) := by
  subst hl
  rw [State.courseChan, U.courseMay_allowed _ _ h, hacc]
  rfl

end

/-! ## Levels and generators of a unit without waiting requests (R198, R222, R223, R241, R247) -/

/-- A unit that has no request waiting at Buttress. -/
def State.NoRequest (s : State) (l : ChanId) : Prop := ∀ r ∈ s.reqs, r.chan ≠ l

theorem Req.clashes_other (r : Req) (l : ChanId) (auto : Bool) (k : ReqKind) (h : r.chan ≠ l) : r.clashes l auto k = false := by
  simp [Req.clashes, h]

theorem State.NoRequest.clashing {s : State} {l : ChanId} (h : s.NoRequest l) (auto : Bool) (k : ReqKind) :
    s.reqs.filter (fun r => r.clashes l auto k) = [] :=
  List.filter_eq_nil_iff.mpr fun r hr => by simp [r.clashes_other l auto k (h r hr)]

theorem State.NoRequest.kept {s : State} {l : ChanId} (h : s.NoRequest l) (auto : Bool) (k : ReqKind) :
    s.reqs.filter (fun r => !r.clashes l auto k) = s.reqs :=
  List.filter_eq_self.mpr fun r hr => by simp [r.clashes_other l auto k (h r hr)]

theorem State.NoRequest.supersede {s : State} {l : ChanId} (h : s.NoRequest l) (k : ReqKind) : s.supersede l k = s := by
  simp only [State.supersede, h.clashing, h.kept]
  rfl

/-- A level given at once to such a unit changes its channel alone. -/
theorem State.NoRequest.giveRef {s : State} {l : ChanId} (h : s.NoRequest l) (on : Bool) :
    s.giveRef l on = s.modChan l fun c => { c.owned with gen := none, ref := on, chgAt := s.now } :=
  State.NoRequest.supersede (s := s.modChan l fun c => { c.owned with gen := none, ref := on, chgAt := s.now }) h .level

theorem State.NoRequest.request {s : State} {l : ChanId} (h : s.NoRequest l) (src : ReqSrc) (k : ReqKind) :
    s.request l src k = { s with
      reqs := s.reqs ++ [{ chan := l, src := src, kind := k, frame := s.frameNo, key := s.reqKey src, seq := s.reqSeq,
                           firing := s.course.firing, tested := none, failed := 0, olds := [] }],
      reqSeq := s.reqSeq + 1 } := by
  simp only [State.request, h.clashing, h.kept]
  rfl

theorem State.setLevel_off (s : State) (l : ChanId) (src : ReqSrc) : s.setLevel l false src = (s.giveRef l false, .applied) := rfl

theorem State.setLevel_on_driven (s : State) (l : ChanId) (src : ReqSrc) (hdrv : (s.chan l).drv = true)
    (hgen : (s.chan l).gen = none) (htest : (s.chan l).test = .idle) :
    s.setLevel l true src = (s.giveRef l true, .applied) := by
  simp only [State.setLevel, State.setOn, hdrv, hgen, htest]
  rfl

theorem State.setLevel_on_latched (s : State) (l : ChanId) (src : ReqSrc) (hdrv : (s.chan l).drv = false)
    (hlatch : (s.chan l).latch = true) : s.setLevel l true src = (s, .notApplied) := by
  simp only [State.setLevel, State.setOn, hdrv, hlatch, Bool.false_and, Bool.false_eq_true, if_true, if_false]

/-- A start that neither a generator, the latch nor the supply decides asks Buttress (R222). -/
theorem State.startGen_asks (s : State) (l : ChanId) (w old : Word64) (src : ReqSrc) (hgen : (s.chan l).gen = none)
    (hlatch : (s.chan l).latch = false) (hsup : s.supplyHolds l = false) : s.startGen l w old src = s.ask l src (.start w) := by
  simp only [State.startGen, hgen, hlatch, hsup, Option.isSome_none, Bool.false_eq_true, if_false]

/-- PULSE_STOP without a waiting start: off when a generator runs, else nothing (R223). -/
theorem State.NoRequest.stopGen {s : State} {l : ChanId} (h : s.NoRequest l) :
    s.stopGen l = (if (s.chan l).gen = none then s
      else s.modChan l fun c => { c.owned with gen := none, ref := false, chgAt := s.now }, .applied) := by
  cases hgen : (s.chan l).gen with
  | none =>
    have hstarts (p : Req → Bool) : (s.reqs.any fun r => r.chan == l && p r) = false :=
      List.any_eq_false.mpr fun r hr => by simp [h r hr]
    simp only [State.stopGen, hgen, hstarts fun r => _, Option.isSome_none, Bool.or_false, Bool.false_eq_true, if_true, if_false]
  | some g =>
    simp only [State.stopGen, State.setOff, hgen, h.giveRef, Option.isSome_some, Bool.true_or, if_true, reduceCtorEq, if_false]

theorem srcOf_soft (e : Entry) (i : Nat) (h : bit e.flags 2 = false) : srcOf e i = .courseSoft i :=
  if_neg (Bool.eq_false_iff.mp h)

/-! ## BANK_WRITE (R119, R155) -/

/-- BANK_WRITE over channels cs: one that does not take its level makes the entry count as not applied, once (R299). -/
def State.writeBank (s : State) (e : Entry) (i : Nat) (cs : List ChanId) : State :=
  let r := cs.foldl (fun (r : State × Bool) c =>
    if !r.1.accepts true c then (r.1, true) else
    match r.1.setLevel c (bit e.param (c.val % 8)) (srcOf e i) with
    | (s, .notApplied) => (s, true)
    | (s, _) => (s, r.2)) (s, false)
  if r.2 then r.1.notApplied else r.1

theorem State.writeBank_single (s : State) (e : Entry) (i : Nat) (c : ChanId) (h : s.accepts true c = true) :
    s.writeBank e i [c] = countVerdict (s.setLevel c (bit e.param (c.val % 8)) (srcOf e i)) := by
  simp only [State.writeBank, List.foldl_cons, List.foldl_nil, h, Bool.not_true, Bool.false_eq_true, if_false]
  obtain ⟨t, v⟩ := s.setLevel c (bit e.param (c.val % 8)) (srcOf e i)
  cases v <;> rfl

/-! ## The effect of each action -/

section
variable {dt : Nat} {b : CBankId} {i : Nat} {s U : State} {e : Entry} (hacts : (s.elapse dt).ActsOn b i e.action.toNat e U)
include hacts

theorem fireInstr_channel_acts (hmem : e.action.toNat ∈ [1, 2, 3, 4, 5]) :
    ∃ f, exec (fireInstr dt b i e.action.toNat) s = .next (U.courseChan e f) := by
  obtain ⟨f, hf⟩ := exec_fireInstr_channel dt b i s _ hmem
  exact ⟨f e, hacts.next hf⟩

section
variable {l : ChanId} (hl : l = U.lead (enChan e)) (hok : U.allowed 9 (0x30 + (quadOf l).val) 4 = true)
  (hacc : U.accepts true l = true)
include hl hok hacc

theorem fireInstr_level_acts (hmem : e.action.toNat ∈ [1, 2, 3]) :
    exec (fireInstr dt b i e.action.toNat) s =
      .next (countVerdict (U.setLevel l (U.askedLevel e.action.toNat l) (srcOf e i))) :=
  (hacts.next (exec_fireInstr_level dt b i s _ hmem)).trans (congrArg _ (U.courseChan_accepted e _ hl hok hacc))

/-- PULSE_START of a soft entry on a unit at rest asks Buttress for the stored group with the entry's duty (R222, R277). -/
theorem pulseStart_acts (ha : e.action.toNat = 4) (hgen : (U.chan l).gen = none) (hlatch : (U.chan l).latch = false)
    (hsup : U.supplyHolds l = false) (hsoft : bit e.flags 2 = false) (hno : U.NoRequest l) :
    exec (.pulseStart dt b i) s = .next { U with
      reqs := U.reqs ++ [{ chan := l, src := .courseSoft i, kind := .start (if bit e.param 31 then putFld (U.chan l).pulw 20 11
                             (fld e.param 0 11) else (U.chan l).pulw),
                           frame := U.frameNo, key := i, seq := U.reqSeq, firing := U.course.firing, tested := none, failed := 0,
                           olds := [] }],
      reqSeq := U.reqSeq + 1 } := by
  refine ((ha ▸ hacts).next rfl).trans (congrArg _ ?_)
  rw [U.courseChan_accepted e _ hl hok hacc, U.startGen_asks l _ _ _ hgen hlatch hsup, srcOf_soft e i hsoft]
  exact hno.request (.courseSoft i) _

theorem pulseStop_acts (ha : e.action.toNat = 5) (hno : U.NoRequest l) :
    exec (.pulseStop dt b i) s = .next (if (U.chan l).gen = none then U
      else U.modChan l fun c => { c.owned with gen := none, ref := false, chgAt := U.now }) := by
  refine ((ha ▸ hacts).next rfl).trans (congrArg _ ?_)
  rw [U.courseChan_accepted e _ hl hok hacc, hno.stopGen]
  rfl

end

section
variable (ha : e.action.toNat = 6) {q : QuadId} {cs : List ChanId} (hbank : e.target.toNat < 16) (hq : q.val = e.target.toNat / 4)
  (hcs : cs = allChans.filter fun c => decide (c.val / 8 = e.target.toNat) && U.isOutput c && !U.isOdd c)
include ha hbank hq hcs

theorem bankWrite_acts : exec (.bankWrite dt b i) s = .next (U.courseMay q fun s => s.writeBank e i cs) := by
  have hmod : e.target.toNat % 16 = e.target.toNat := Nat.mod_eq_of_lt hbank
  have hqd : (⟨e.target.toNat % 16 / 4, by omega⟩ : QuadId) = q := Fin.ext ((congrArg (· / 4) hmod).trans hq.symm)
  have heffect := (ha ▸ hacts).next (o := exec (.bankWrite dt b i) s) rfl
  simp only [hqd] at heffect
  rw [← hmod] at hcs
  rw [hcs]
  exact heffect

end

/-- ADC_TRIGGER triggers a slot that waits for the course, and is counted at any other (R287, R299, R312). -/
theorem adcTrigger_acts (ha : e.action.toNat = 0x10) (q : QuadId) (k : SlotId) (hq : q.val = e.target.toNat / 64)
    (hk : k.val = e.target.toNat % 64) :
    exec (.adcTrigger dt b i) s = .next (if slTrig (U.slot q k).w0 = 1 then U.trigSlot q k (U.now + 1600 + delayNs (U.slot q k).w0)
      else U.modCourse fun c => { c with adcIgnored := c.adcIgnored + 1 }) := by
  have hqd : (⟨e.target.toNat / 64 % 4, by omega⟩ : QuadId) = q := Fin.ext (by have := q.isLt; simp only; omega)
  have hkd : (⟨e.target.toNat % 64, by omega⟩ : SlotId) = k := Fin.ext hk.symm
  have heffect := (ha ▸ hacts).next (o := exec (.adcTrigger dt b i) s) rfl
  simpa only [hqd, hkd, beq_iff_eq] using heffect

section
variable (ha : e.action.toNat = 0x11)
include ha

/-- No snapshot is taken while FROZEN or without an archive (R391, R395). -/
theorem snapshot_without_archive (h : U.arch.st = .frozen ∨ U.archCap = 0) :
    exec (.snapshot dt b i) s = .next ((U.modArch fun a => { a with dropped := a.dropped + 1 }).modCourse
      fun c => { c with snapDrop := c.snapDrop + 1 }) :=
  ((ha ▸ hacts).next rfl).trans (congrArg _ (if_pos (by simpa using h)))

/-- A second one of a frame is dropped (R297). -/
theorem snapshot_again (hst : U.arch.st ≠ .frozen) (hcap : U.archCap ≠ 0) (hlast : U.course.lastSnap = some U.frameNo) :
    exec (.snapshot dt b i) s = .next (U.modCourse fun c => { c with snapDrop := c.snapDrop + 1 }) :=
  ((ha ▸ hacts).next rfl).trans (congrArg _ ((if_neg (by simp [hst, hcap])).trans (if_pos (by simp [hlast]))))

/-- The first one of a frame goes into the archive (R296, R391). -/
theorem snapshot_taken (hst : U.arch.st ≠ .frozen) (hcap : U.archCap ≠ 0) (hlast : U.course.lastSnap ≠ some U.frameNo) :
    exec (.snapshot dt b i) s = .next ((U.modArch fun a => { a with
      slots := {
        seq := a.nextSeq, time := U.now, angle := e.angle, rev := revWord U.thetaNow, speed := speedOf U.omegaNow, entry := i,
        coasting := decide (U.ang.st = .coasting), lclass := U.lclassByte,
        qstate := BitVec.ofNat 8 (U.armedByte.toNat + 16 * U.safeActByte.toNat), chans := Vector.ofFn U.snapChan } ::
        a.slots.filter (fun y => (a.nextSeq - y.seq).toNat < U.archCap),
      nextSeq := a.nextSeq + 1 }).modCourse fun c => { c with lastSnap := some U.frameNo }) :=
  ((ha ▸ hacts).next rfl).trans (congrArg _ ((if_neg (by simp [hst, hcap])).trans (if_neg (by simp [hlast]))))

end

theorem mark_acts (ha : e.action.toNat = 0x12) : exec (.mark dt b i) s = .next (U.mark 1 0 e.param e.angle i) :=
  (ha ▸ hacts).next (f := fun s e => s.mark 1 0 e.param e.angle i) rfl

theorem syncFire_acts (ha : e.action.toNat = 0x13) :
    exec (.syncFire dt b i) s = .next (U.syncAll (U.dspTick (U.now + 16)) false) :=
  (ha ▸ hacts).next (f := fun s _ => s.syncAll (s.dspTick (s.now + 16)) false) rfl

end

/-! ## The obligation -/

/-- Settles O42: the firing hands U to the action, whose law above says the rest. -/
theorem courseActions : Obligations.CourseActions := by
  unfold Obligations.CourseActions
  rintro dt b i s S T U V e x run l src quadOk rfl hup hrole rfl h1 h2 h3 h4 h5 h6 h10 h11 h12 h13
  have hrun : ∀ a ∈ courseCodes, run a = exec (fireInstr dt b i a) := by
    simp only [courseCodes, List.forall_mem_cons, List.not_mem_nil, false_imp_iff, implies_true, and_true]
    exact ⟨h1, h2, h3, h4, h5, h6, h10, h11, h12, h13⟩
  refine ⟨fun a ha hidle => ?idle, fun Y hY => Y.notApplied_uncounted hY,
    fun hcode hnext hbank hidx hentry hV hU hl hsrc hok => ?fires⟩
  case idle =>
    obtain ⟨f, hf⟩ := exec_fireInstr dt b i s a ha
    rw [hrun a ha, hf, State.fireEntry_idle _ b i a f hup hrole hidle]
  case fires =>
    obtain rfl : V = (s.elapse dt).angleTick.spendEntry b e x := hV
    obtain rfl : src = srcOf e i := hsrc
    have hfires : (s.elapse dt).Fires b i e x := ⟨hup, hrole, hnext, hbank, hidx, hentry⟩
    refine ⟨fun hspoiled => ?spoiled, fun hsound hread => ?acts⟩
    case spoiled =>
      obtain ⟨f, hf⟩ := exec_fireInstr dt b i s _ hcode
      rw [hrun _ hcode, hf, hfires.fireEntry f, if_pos ((Bool.or_eq_true _ _).mpr hspoiled)]
    case acts =>
      have hacts : (s.elapse dt).ActsOn b i e.action.toNat e U := fun f => by
        rw [hfires.fireEntry f, if_neg (by rw [hsound, hread]; decide), hU]
        rfl
      have hchannel (h : e.action.toNat ≤ 5) : ∃ f, run e.action.toNat s = .next (U.courseChan e f) := by
        rw [hrun _ hcode]
        exact fireInstr_channel_acts hacts (mem_channelCodes _ hcode h)
      refine ⟨fun hle hdenied => ?denied, fun hle hmay hacc => ?unaccepted, fun hmay hacc on hle hon => ?level,
        fun hmay hacc ha hgen hlatch hsup hsoft hno => ?start, fun hmay hacc ha hno => ?stop,
        fun q cs ha hbank hq hcs => ?bank, fun q k ha hq hk => h10 ▸ adcTrigger_acts hacts ha q k hq hk,
        fun ha => h11 ▸ ⟨snapshot_without_archive hacts ha, snapshot_again hacts ha, snapshot_taken hacts ha⟩,
        fun ha => h12 ▸ mark_acts hacts ha, fun ha => h13 ▸ syncFire_acts hacts ha⟩
      case denied =>
        obtain ⟨f, hf⟩ := hchannel hle
        rw [hf, U.courseChan_denied e f hl (hok ▸ hdenied)]
      case unaccepted =>
        obtain ⟨f, hf⟩ := hchannel hle
        rw [hf, U.courseChan_unaccepted e f hl (hok ▸ hmay) hacc]
      case level =>
        obtain rfl : on = U.askedLevel e.action.toNat l := hon
        have hlevel : run e.action.toNat s =
            .next (countVerdict (U.setLevel l (U.askedLevel e.action.toNat l) (srcOf e i))) := by
          rw [hrun _ hcode]
          exact fireInstr_level_acts hacts hl (hok ▸ hmay) hacc (mem_levelCodes _ hcode hle)
        rw [hlevel]
        refine ⟨fun h => by rw [countVerdict_notApplied _ h], fun h => by rw [countVerdict_of_ne _ h], fun hoff hno => ?_,
          fun hon hno hdrv hgen htest => ?_, fun hon hdrv hlatch => ?_⟩
        · rw [hoff, U.setLevel_off, State.NoRequest.giveRef hno]
          rfl
        · rw [hon, U.setLevel_on_driven l _ hdrv hgen htest, State.NoRequest.giveRef hno]
          rfl
        · rw [hon, U.setLevel_on_latched l _ hdrv hlatch]
          rfl
      case start =>
        rw [h4, pulseStart_acts hacts hl (hok ▸ hmay) hacc ha hgen hlatch hsup hsoft hno, srcOf_soft e i hsoft]
      case stop => rw [h5, pulseStop_acts hacts hl (hok ▸ hmay) hacc ha hno]
      case bank =>
        rw [h6, bankWrite_acts hacts ha hbank hq hcs]
        refine ⟨fun hdenied => ?_, fun hmay hnil => ?_, fun c hmay hone hacc => ?_⟩
        · rw [U.courseMay_denied q _ hdenied]
        · rw [U.courseMay_allowed q _ hmay, hnil]
          rfl
        · rw [U.courseMay_allowed q _ hmay, hone, U.writeBank_single e i c hacc]
          rfl

end Sys2Proof.Machine

/-!
Triggers and conversions (R27, R94, R252, R305, R312–R317, R327): when a trigger waits and when it is missed, the three ends of a
conversion that takes its turn, what a free converter does, and the settlement of O45.
-/
namespace Sys2Proof.Machine
open Sys2Proof

/-! ## Triggers (R252, R312, R314, R327) -/

/-- A miss without a further flag sets MISSED alone (R335). -/
theorem State.countMiss_plain (s : State) (q : QuadId) (i : SlotId) : s.countMiss q i = s.modSlot q i fun x =>
    { x with acc := { x.acc with miss := min 0xFFFF (x.acc.miss + 1), flags := x.acc.flags ||| 8 } } := by
  simp only [State.countMiss, State.modAcc, BitVec.ofNat_eq_ofNat, BitVec.or_zero]

theorem State.trigSlot_waits (s : State) (q : QuadId) (i : SlotId) (req : Nat) (tag : Option Nat) (hfree : (s.slot q i).trig = none)
    (hidle : s.slotBusy q i = false) (hruns : (s1Defer (s.slot q i).w1 && s.deferPaused q) = false) :
    s.trigSlot q i req tag = s.modSlot q i fun x => { x with trig := some req, tag := tag } :=
  if_neg (by rw [hfree, hidle, hruns]; decide)

theorem State.trigSlot_missed (s : State) (q : QuadId) (i : SlotId) (req : Nat) (tag : Option Nat)
    (h : (s.slot q i).trig ≠ none ∨ s.slotBusy q i = true ∨ (s1Defer (s.slot q i).w1 && s.deferPaused q) = true) :
    s.trigSlot q i req tag = s.slotMiss q i req :=
  if_pos (by rw [Bool.or_eq_true, Bool.or_eq_true, ← Option.ne_none_iff_isSome, or_assoc]; exact h)

/-- A timer slot is triggered at the multiples of its period (R312). -/
theorem timerTrigger_acts {dt : Nat} {s S : State} (hS : S = s.elapse dt) (hup : S.up = true) (q : QuadId) (i : Fin 64)
    (htimer : slTrig (S.slot q (regSlot i)).w0 = 3) (hper : slTper (S.slot q (regSlot i)).w0 ≠ 0) :
    ActsWhen (S.now % (slTper (S.slot q (regSlot i)).w0 * 1000) = 0) (exec (.timerTrigger dt q i) s) S
      (S.trigSlot q (regSlot i) (S.now + delayNs (S.slot q (regSlot i)).w0)) := by
  subst hS
  refine actsWhen_of_when rfl ?_
  rw [hup, htimer, bne_iff_ne.mpr hper, beq_self_eq_true, Bool.true_and, Bool.true_and, Bool.true_and, beq_iff_eq]

/-! ## A conversion takes its turn (R27, R305, R315, R317) -/

/-- The order of a conversion in the eighth at t stood in the downlink frame of the microsecond before, and that frame was lost
(R315). -/
def State.orderLost (s : State) (q : QuadId) (t : Nat) : Bool := (s.quad q).lostFrame == some (t / 1000 - 1) && 1000 ≤ t

theorem State.orderLost_iff (s : State) (q : QuadId) (t : Nat) :
    s.orderLost q t = true ↔ (s.quad q).lostFrame = some (t / 1000 - 1) ∧ 1000 ≤ t := by
  rw [State.orderLost, Bool.and_eq_true, beq_iff_eq, decide_eq_true_eq]

theorem State.convertNow_converts (s : State) (q : QuadId) (b : Burst) (a : Analog) (t : Nat) (hmode : s.modeBad q b.w1 = false)
    (horder : s.orderLost q t = false) : s.convertNow q b a t = s.modMeas q fun m => m.convert b a t := by
  rw [State.convertNow, if_neg (by rw [hmode]; decide)]
  exact if_neg (Bool.eq_false_iff.mp horder)

theorem State.convertNow_orderLost (s : State) (q : QuadId) (b : Burst) (a : Analog) (t : Nat) (hmode : s.modeBad q b.w1 = false)
    (horder : s.orderLost q t = true) : s.convertNow q b a t =
      ((s.loseBurst q b).modMeas q fun m => m.advance { b with lost := true } (b.turn t).2).reap q := by
  rw [State.convertNow, if_neg (by rw [hmode]; decide)]
  exact if_pos horder

/-- A burst of a channel that has left ANALOGUE mode ends at once (R305). -/
theorem State.convertNow_modeBad (s : State) (q : QuadId) (b : Burst) (a : Analog) (t : Nat) (hmode : s.modeBad q b.w1 = true) :
    s.convertNow q b a t = ((s.loseBurst q b 0x80).modMeas q fun m => { m with
      inj := if b.slot = injSlot then none else m.inj, burst := if b.slot = injSlot then m.burst else none,
      wait := m.wait ++ [{ b with lost := true, left := 0 }] }).reap q := by
  rw [State.convertNow, if_pos hmode]
  by_cases hinj : b.slot = injSlot <;> simp [hinj]

/-! ## A free converter (R94, R252, R305, R316) -/

@[simp] theorem State.modSlot_quad (s : State) (q p : QuadId) (i : SlotId) (f : Slot → Slot) : (s.modSlot q i f).quad p = s.quad p := rfl
@[simp] theorem State.modSlot_deferPaused (s : State) (q p : QuadId) (i : SlotId) (f : Slot → Slot) :
    (s.modSlot q i f).deferPaused p = s.deferPaused p := rfl
@[simp] theorem State.modSlot_modeBad (s : State) (q p : QuadId) (i : SlotId) (f : Slot → Slot) (w1 : Word64) :
    (s.modSlot q i f).modeBad p w1 = s.modeBad p w1 := rfl

/-- The pending trigger of a slot, requested at r, comes to its turn at t. -/
def State.beginBurst (s : State) (q : QuadId) (i : SlotId) (r : Nat) (a : Analog) (t : Nat) : State :=
  let T := s.modSlot q i fun x => { x with trig := none, held := false, tag := none }
  if !(T.quad q).sync || (s1Defer (s.slot q i).w1 && T.deferPaused q) then (T.slotMiss q i r).injectDone q i (s.slot q i).tag
  else if T.modeBad q (s.slot q i).w1 then (T.slotMiss q i r 0x80).injectDone q i (s.slot q i).tag
  else (T.modMeas q fun m => { m with nextId := m.nextId + 1 }).convertNow q (s.meas[q].newBurst i r) a t

/-- What a free converter does at t with the conversion that is next. -/
def State.takeTurn (s : State) (q : QuadId) (a : Analog) (t : Nat) : Option (Burst ⊕ (SlotId × Nat)) → State
  | none => s
  | some (.inl b) => s.convertNow q b a t
  | some (.inr (i, r)) => s.beginBurst q i r a t

/-- Neither a calibration nor a conversion has the converter. -/
theorem conversionStart_free {dt : Nat} {s S : State} (hS : S = s.elapse dt) (hup : S.up = true) (q : QuadId) (a : Analog) (t : Nat)
    (ht : t = S.now / 125 * 125) (hcal : S.meas[q].cal = false) (hfree : S.meas[q].busyUntil ≤ t) :
    exec (.conversionStart dt ⟨q, a⟩) s = .next (S.takeTurn q a t (S.meas[q].nextDue t)) := by
  subst hS ht
  refine (congrArg Host.Outcome.next (State.when_of_true _ _ ?_)).trans (congrArg _ ?_)
  · rw [hup, hcal, decide_eq_true hfree]
    rfl
  · dsimp only
    rcases (s.elapse dt).meas[q].nextDue ((s.elapse dt).now / 125 * 125) with _ | b | ⟨i, r⟩ <;> rfl

section
variable {S : State} {q : QuadId} {i : SlotId} {r : Nat} {a : Analog} {t : Nat}

theorem State.beginBurst_unready (h : (S.quad q).sync = false ∨ (s1Defer (S.slot q i).w1 && S.deferPaused q) = true) :
    S.beginBurst q i r a t = ((S.modSlot q i fun x => { x with trig := none, held := false, tag := none }).slotMiss q i r).injectDone
      q i (S.slot q i).tag :=
  if_pos (by rwa [State.modSlot_quad, State.modSlot_deferPaused, Bool.or_eq_true, Bool.not_eq_true'])

theorem State.beginBurst_modeBad (hsync : (S.quad q).sync = true) (hruns : (s1Defer (S.slot q i).w1 && S.deferPaused q) = false)
    (hmode : S.modeBad q (S.slot q i).w1 = true) :
    S.beginBurst q i r a t = ((S.modSlot q i fun x => { x with trig := none, held := false, tag := none }).slotMiss q i r
      0x80).injectDone q i (S.slot q i).tag := by
  simp [State.beginBurst, hsync, hruns, hmode]

theorem State.beginBurst_begins (hsync : (S.quad q).sync = true) (hruns : (s1Defer (S.slot q i).w1 && S.deferPaused q) = false)
    (hmode : S.modeBad q (S.slot q i).w1 = false) :
    S.beginBurst q i r a t = ((S.modSlot q i fun x => { x with trig := none, held := false, tag := none }).modMeas q fun m =>
      { m with nextId := m.nextId + 1 }).convertNow q (S.meas[q].newBurst i r) a t := by
  simp [State.beginBurst, hsync, hruns, hmode]

end

/-! ## The obligation -/

/-- Settles O45: a trigger waits or is missed, a turn of the converter has the ends above, and a free converter takes the turn
that is next. -/
theorem triggersAndConversions : Obligations.TriggersAndConversions := by
  unfold Obligations.TriggersAndConversions
  intro dt s S q hS hup
  refine ⟨fun i htimer hper => ?timer, fun i r tag => ⟨S.trigSlot_waits q i r tag, fun h => ?missed⟩,
    fun T b a t => ⟨fun hmode h => ?converts, fun hmode hlost hle => ?orderLost, T.convertNow_modeBad q b a t⟩,
    fun a t ht hcal hfree => ?free⟩
  case timer =>
    obtain ⟨hat, hoff⟩ := timerTrigger_acts hS hup q i htimer hper
    rw [delayNs, Nat.mul_comm (slDelay _)] at hat
    exact ⟨hat, hoff⟩
  case missed => rw [S.trigSlot_missed q i r tag h, State.slotMiss, S.countMiss_plain]
  case converts =>
    refine T.convertNow_converts q b a t hmode (Bool.eq_false_iff.mpr fun horder => ?_)
    obtain ⟨hlost, hle⟩ := (T.orderLost_iff q t).mp horder
    exact h.elim (· hlost) (Nat.not_lt.mpr hle)
  case orderLost => exact T.convertNow_orderLost q b a t hmode ((T.orderLost_iff q t).mpr ⟨hlost, hle⟩)
  case free =>
    rw [conversionStart_free hS hup q a t ht hcal hfree]
    refine ⟨fun hdue => by rw [hdue]; rfl, fun b hdue => by rw [hdue]; rfl, fun i r T hdue hT => ?_⟩
    subst hT
    rw [hdue, State.takeTurn]
    exact ⟨fun h => congrArg _ (State.beginBurst_unready h),
      fun hsync hruns hmode => congrArg _ (State.beginBurst_modeBad hsync hruns hmode),
      fun hsync hruns hmode => congrArg _ (State.beginBurst_begins hsync hruns hmode)⟩

end Sys2Proof.Machine

/-!
MSI-X signals, device causes and denials (R14, R411, R414, R449–R451, R459, R614): what a signal does at a masked, a disabled and an
unmasked vector, which device vectors new contents of HI_DEVCAUSE and HI_DEVEN signal, what SEC_DENY keeps, and the settlement of
O26.
-/
namespace Sys2Proof.Machine
open Sys2Proof

/-! ## Signals (R449, R459) -/

theorem State.emit_issues (s : State) (o : HostOut) (hup : s.hostUp = true) (hrole : s.holdsRole = true)
    (hbme : s.host.bme = true) (hd3 : s.host.d3hot = false) : s.emit o = { s with out := s.out ++ [o] } := by
  simp [State.emit, hup, hrole, hbme, hd3]

theorem State.emit_waits (s : State) (o : HostOut) (hup : s.hostUp = true) (hrole : s.holdsRole = true)
    (hbme : s.host.bme = false) : s.emit o = { s with outWait := s.outWait ++ [o] } := by
  simp [State.emit, hup, hrole, hbme]

theorem State.signal_disabled (s : State) (v : VecId) (hen : s.host.msixEn = false) : s.signal v = s :=
  if_pos (by simp [hen])

theorem State.signal_masked (s : State) (v : VecId) (hup : s.hostUp = true) (hrole : s.holdsRole = true)
    (hen : s.host.msixEn = true) (hmask : s.msix[v].mask = true) :
    s.signal v = { s with msix := s.msix.set v { s.msix[v] with pend := true } } :=
  (if_neg (by simp [hen, hup, hrole])).trans (if_pos hmask)

/-! ## Device causes (R414, R450, R451) -/

/-- New contents of HI_DEVCAUSE and HI_DEVEN make the OR of vector 64 + i's set and enabled causes rise (R451). -/
def State.devRises (s : State) (cause en : Word32) (i : Fin 4) : Bool :=
  s.host.devCause &&& s.host.devEn &&& vecBits i == 0 && cause &&& en &&& vecBits i != 0

/-- The new contents stand in the registers, and WAKE_N is driven low in L1.2 and L2 (R414); no vector is signalled yet. -/
def State.storeDev (s : State) (cause en : Word32) : State :=
  s.modHost fun h => { h with
    devCause := cause, devEn := en,
    wakeLow := h.wakeLow || (decide (2 ≤ h.link.val) && ((cause &&& en) &&& ~~~(s.host.devCause &&& s.host.devEn)) != 0) }

theorem State.setDev_eq_foldl (s : State) (cause en : Word32) :
    s.setDev cause en = (List.finRange 4).foldl (fun t i => if s.devRises cause en i then t.signal (devVec i) else t)
      (s.storeDev cause en) :=
  rfl

/-- The vectors that rise are signalled, in ascending order. -/
theorem State.setDev_signals_rising (s : State) (cause en : Word32) :
    s.setDev cause en = ((List.finRange 4).filter (s.devRises cause en)).foldl (fun t i => t.signal (devVec i))
      (s.storeDev cause en) := by
  rw [List.foldl_filter, State.setDev_eq_foldl]

theorem State.setDev_none_rises (s : State) (cause en : Word32) (h : ∀ i, s.devRises cause en i = false) :
    s.setDev cause en = s.storeDev cause en := by
  have hnone : (List.finRange 4).filter (s.devRises cause en) = [] :=
    List.filter_eq_nil_iff.mpr fun i _ => Bool.eq_false_iff.mp (h i)
  rw [State.setDev_signals_rising, hnone, List.foldl_nil]

theorem State.setDev_one_rises (s : State) (cause en : Word32) (i : Fin 4) (hi : s.devRises cause en i = true)
    (hother : ∀ j, j ≠ i → s.devRises cause en j = false) :
    s.setDev cause en = (s.storeDev cause en).signal (devVec i) := by
  have hrises : s.devRises cause en = (· == i) := by
    funext j
    by_cases hj : j = i
    · rw [hj, hi, beq_self_eq_true]
    · rw [hother j hj, beq_false_of_ne hj]
  have hone : (List.finRange 4).filter (s.devRises cause en) = [i] := by
    rw [hrises, List.filter_beq, List.count_finRange, List.replicate_one]
  rw [State.setDev_signals_rising, hone, List.foldl_cons, List.foldl_nil]

/-! ## Denials (R14, R614) -/

/-- Two updates of the host interface agree when they make the same of its present registers. -/
theorem State.modHost_congr (s : State) {f g : HostRegs → HostRegs} (h : f s.host = g s.host) : s.modHost f = s.modHost g :=
  congrArg (fun host => { s with host := host }) h

/-- The set of VALID is noted for its cycle, with the cycle's first denial beside it (R14). -/
def State.noteDenial (s : State) (m t perm : Nat) : State :=
  s.modHost fun h => { h with
    denyNow := if bit s.justSet 15 then h.denyNow else (BitVec.ofNat 8 t, BitVec.ofNat 4 m, denyKindOf perm),
    setBits := s.justSet ||| 0x8000, setAt := s.clock }

/-- A denial is noted; under VALID it counts, else it is the one recorded. -/
theorem State.deny_eq (s : State) (m t perm : Nat) :
    s.deny m t perm = (s.noteDenial m t perm).modHost fun h =>
      if h.denyValid then { h with denyCount := min 255 (h.denyCount + 1) }
      else { h with
        denyValid := true, denyTarget := BitVec.ofNat 8 t, denyMaster := BitVec.ofNat 4 m, denyKind := denyKindOf perm,
        denyCount := 1 } := by
  unfold State.deny State.noteDenial
  cases bit s.justSet 15 <;> rfl

theorem State.deny_first (s : State) (m t perm : Nat) (hvalid : s.host.denyValid = false) :
    s.deny m t perm = (s.noteDenial m t perm).modHost fun h => { h with
      denyValid := true, denyTarget := BitVec.ofNat 8 t, denyMaster := BitVec.ofNat 4 m, denyKind := denyKindOf perm,
      denyCount := 1 } := by
  have hnoted : (s.noteDenial m t perm).host.denyValid = false := hvalid
  rw [State.deny_eq]
  exact State.modHost_congr _ (if_neg (Bool.eq_false_iff.mp hnoted))

/-- COUNT saturates at 255. -/
theorem min_succ_of_le_255 {n : Nat} (h : n ≤ 255) : min 255 (n + 1) = if n = 255 then 255 else n + 1 := by
  split <;> omega

theorem State.deny_again (s : State) (m t perm : Nat) (hvalid : s.host.denyValid = true) (hcount : s.host.denyCount ≤ 255) :
    s.deny m t perm = (s.noteDenial m t perm).modHost fun h => { h with
      denyCount := if h.denyCount = 255 then 255 else h.denyCount + 1 } := by
  have hnoted : (s.noteDenial m t perm).host.denyValid = true := hvalid
  have hcounted : (s.noteDenial m t perm).host.denyCount ≤ 255 := hcount
  rw [State.deny_eq]
  refine State.modHost_congr _ ((if_pos hnoted).trans ?_)
  rw [min_succ_of_le_255 hcounted]

theorem State.clearDeny_same_cycle (s : State) (hset : bit s.justSet 15 = true) :
    s.clearDeny = s.modHost fun h => { h with
      denyTarget := h.denyNow.1, denyMaster := h.denyNow.2.1, denyKind := h.denyNow.2.2, denyCount := 1 } := by
  simp only [State.clearDeny, hset, if_true]

/-! ## The obligation -/

/-- Settles O26: signals, device causes and denials are the laws of their operations above. -/
theorem signalsAndCauses : Obligations.SignalsAndCauses := by
  unfold Obligations.SignalsAndCauses
  refine ⟨rfl, fun s hup hrole => ⟨fun v => ⟨s.signal_disabled v, s.signal_masked v hup hrole, ?issued, ?waits⟩, ?causes, ?denials⟩⟩
  case issued =>
    intro hen hmask hbme hd3
    rw [s.signal_unmasked v _ hup hrole hen rfl hmask, s.emit_issues _ hup hrole hbme hd3]
  case waits =>
    intro hen hmask hbme
    rw [s.signal_unmasked v _ hup hrole hen rfl hmask, s.emit_waits _ hup hrole hbme]
  case causes =>
    intro cause en A rises hA hrises
    obtain rfl : A = s.storeDev cause en := hA
    obtain rfl : rises = s.devRises cause en := funext hrises
    exact ⟨s.setDev_none_rises cause en, s.setDev_one_rises cause en, s.setDev_eq_foldl cause en⟩
  case denials =>
    intro m t perm A hA
    obtain rfl : A = s.noteDenial m t perm := hA
    exact ⟨s.deny_first m t perm, s.deny_again m t perm, s.clearDeny_same_cycle⟩

end Sys2Proof.Machine

/-!
PAIR_CONTROL and its ends (R455, R470, R530, R533, R535–R537): when Mason refuses or starts a HANDOVER and a RESYNC, what the copy
of a RESYNC sends, how a drained HANDOVER reaches its final checkpoint and its DONE, how a RESYNC ends, and the settlement of O49.
-/
namespace Sys2Proof.Machine
open Sys2Proof

/-! ## PAIR_CONTROL at Mason (R535, R536) -/

theorem State.pairActive_iff (s : State) : s.pairActive = true ↔ s.pair.st = .active :=
  beq_iff_eq

theorem State.pairActive_eq_false_iff (s : State) : s.pairActive = false ↔ s.pair.st ≠ .active :=
  Bool.eq_false_iff.trans (not_congr s.pairActive_iff)

theorem State.pairControlRuns_iff (s : State) :
    s.pairControlRuns = true ↔ ∃ o ∈ s.ops, o.kind = .handover ∨ o.kind = .resync := by
  unfold State.pairControlRuns
  rw [List.any_eq_true]
  refine exists_congr fun o => and_congr_right fun _ => ?_
  cases o.kind <;> simp

/-- What stands in the way of a HANDOVER (R536). -/
def State.barsHandover (s : State) : Bool :=
  !s.pairActive || s.pair.degraded || s.pair.lone || !s.pair.partnerReady || s.pairControlRuns

/-- What stands in the way of a RESYNC (R535). -/
def State.barsResync (s : State) : Bool := !s.pairActive || !s.pair.zaf.present || s.pair.lone

theorem State.barsHandover_iff (s : State) :
    s.barsHandover = true ↔ s.pair.st ≠ .active ∨ s.pair.degraded = true ∨ s.pair.lone = true ∨ s.pair.partnerReady = false ∨
      ∃ o ∈ s.ops, o.kind = .handover ∨ o.kind = .resync := by
  simp only [State.barsHandover, Bool.or_eq_true, Bool.not_eq_true', s.pairActive_eq_false_iff, s.pairControlRuns_iff, or_assoc]

theorem State.barsResync_iff (s : State) :
    s.barsResync = true ↔ s.pair.st ≠ .active ∨ s.pair.zaf.present = false ∨ s.pair.lone = true := by
  simp only [State.barsResync, Bool.or_eq_true, Bool.not_eq_true', s.pairActive_eq_false_iff, or_assoc]

/-- Nothing of a PAIR_CONTROL fails but its ACTION. -/
theorem pairControl_shaped {d : Desc} (h : shaped d 0xD false false [(4, 1)] = true) :
    isOp 0xD d = true ∧ actionBad d = none := by
  obtain ⟨hop, hreserved⟩ := (shaped_iff ..).mp h
  exact ⟨beq_iff_eq.mpr hop, (firstBad_none ..).mpr ⟨hreserved, by simp⟩⟩

section
variable {dt : Nat} {n : Word32} {d : Desc} {s S : State} (hS : S = s.elapse dt) (hruns : S.admRuns n d = true)
  (hshaped : shaped d 0xD false false [(4, 1)] = true) (hpermits : S.permits 0 [(0x20, 4)] = true)
include hS hruns hshaped hpermits

theorem pairControlHandover_runs (haction : dNum d 4 1 = 1) :
    exec (.pairControlHandover dt n) s = .next (if S.barsHandover then S.finish 0 n .rejState 0
      else ((S.addOp 0 n .handover).freeMason).modPair fun p => { p with handover := some n, handoverAt := S.now }) := by
  subst hS
  obtain ⟨hop, hgood⟩ := pairControl_shaped hshaped
  exact congrArg Host.Outcome.next (State.adm_runs _ n d _ pairNeeds actionBad _ hruns (by simp [hop, haction]) hpermits hgood)

theorem pairControlResync_runs (haction : dNum d 4 1 = 2) :
    exec (.pairControlResync dt n) s = .next (if S.barsResync then S.finish 0 n .rejState 0
      else ((S.addOp 0 n .resync).freeMason).startResync (some n)) := by
  subst hS
  obtain ⟨hop, hgood⟩ := pairControl_shaped hshaped
  exact congrArg Host.Outcome.next (State.adm_runs _ n d _ pairNeeds actionBad _ hruns (by simp [hop, haction]) hpermits hgood)

end

/-! ## The copy of a RESYNC (R533, log entry 6) -/

/-- The EPOCH under which a copy starts. -/
def State.nextEpoch (s : State) : Word32 := s.pair.epoch + 1 + BitVec.ofNat 32 (s.fresh % (2 ^ 32 - 1))

/-- The copy's DELTA frame number i: 256 bytes of the static area from 0x1000 on, its first page last. -/
def State.copyFrame (s : State) (i : Nat) : ZFrame :=
  .delta (BitVec.ofNat 32 ((256 * i + 0x1000) % 0x80000))
    ((List.range 256).map fun j => (Config.freeBytes (s.freeCtr + 1 + i)).getD j 0)

/-- The 2,048 DELTA frames of a copy. -/
def State.copyFrames (s : State) : List ZFrame := (List.range 2048).map s.copyFrame

theorem State.startResync_eq (s : State) (who : Option Word32) :
    s.startResync who = ({ s with freeCtr := s.freeCtr + 1 + 2048 } : State).modPair fun p =>
      { p with epoch := s.nextEpoch, resyncing := some who, resyncBytes := 0, resyncCp := false, needResync := false,
               tx := p.tx ++ s.copyFrames } :=
  rfl

/-- The step to the next EPOCH lies in 1 to 2³² − 1, so it never comes back to the old one. -/
theorem State.nextEpoch_ne (s : State) : s.nextEpoch ≠ s.pair.epoch := by
  have hstep : s.fresh % (2 ^ 32 - 1) < 2 ^ 32 - 1 := Nat.mod_lt _ (by decide)
  unfold State.nextEpoch
  generalize s.fresh % (2 ^ 32 - 1) = m at hstep
  bv_omega

theorem State.length_copyFrames (s : State) : s.copyFrames.length = 2048 := by
  rw [State.copyFrames, List.length_map, List.length_range]

theorem State.copyFrames_getElem? (s : State) {i : Nat} (hi : i < 2048) :
    ∃ bs : List Byte, bs.length = 256 ∧
      s.copyFrames[i]? = some (.delta (BitVec.ofNat 32 ((256 * i + 0x1000) % 0x80000)) bs) := by
  refine ⟨_, ?_, (List.getElem?_map ..).trans (congrArg _ (List.getElem?_range hi))⟩
  rw [List.length_map, List.length_range]

/-! ## The end of a HANDOVER (R455, R530, R536) -/

/-- An entry of queue q that the HANDOVER n does not wait for: itself, or a record buffer. -/
def State.sparedBy (s : State) (n : Word32) (q : QueueId) (e : Inflight) : Bool :=
  (q == 0 && e.num == n) || (s.queue q).bufs.any fun b => b.num == e.num

theorem State.sparedBy_iff (s : State) (n : Word32) (q : QueueId) (e : Inflight) :
    s.sparedBy n q e = true ↔ (q = 0 ∧ e.num = n) ∨ ∃ b ∈ (s.queue q).bufs, b.num = e.num := by
  simp [State.sparedBy]

/-- Nothing is in flight but what the HANDOVER n spares. -/
def State.idleBut (s : State) (n : Word32) : Bool :=
  (List.finRange 64).all fun q => (s.queue q).flight.all (s.sparedBy n q)

theorem State.idleBut_iff (s : State) (n : Word32) :
    s.idleBut n = true ↔ ∀ q, ∀ e ∈ (s.queue q).flight, s.sparedBy n q e = true := by
  simp [State.idleBut]

/-- The checkpoint that is being committed is a final one. -/
def State.finalUnderWay (s : State) : Bool := match s.pair.cap with | some c => c.final | none => false

theorem State.finalUnderWay_iff (s : State) : s.finalUnderWay = true ↔ ∃ c, s.pair.cap = some c ∧ c.final = true := by
  unfold State.finalUnderWay
  cases s.pair.cap <;> simp

/-- The HANDOVER n has asked for its final checkpoint already, or still waits for other commands. -/
def State.handoverHolds (s : State) (n : Word32) : Bool :=
  s.pair.finalDue || s.finalUnderWay || !(s.idleBut n || decide (s.pair.handoverAt + 10000000 ≤ s.now))

theorem State.handoverHolds_iff (s : State) (n : Word32) :
    s.handoverHolds n = true ↔ s.pair.finalDue = true ∨ (∃ c, s.pair.cap = some c ∧ c.final = true) ∨
      (∃ q, ∃ e ∈ (s.queue q).flight, ¬ s.sparedBy n q e = true) ∧ s.now < s.pair.handoverAt + 10000000 := by
  simp only [State.handoverHolds, Bool.or_eq_true, Bool.not_eq_true', Bool.eq_false_iff, ne_eq, decide_eq_true_eq, not_or,
    not_le, s.finalUnderWay_iff, s.idleBut_iff, not_forall, exists_prop, or_assoc]

/-- Every record buffer of every queue retires (R455). -/
def State.retireAll (s : State) : State :=
  (List.finRange 64).foldl (fun s q =>
    (s.queue q).bufs.foldl (fun s b => s.retire q b (if b.used == 0 then .abortedQuiesce else .done)) s) s

/-- PAIR_EVENT 0x04 and the final checkpoint of a HANDOVER (R536, R537). -/
def State.askFinal (s : State) : State :=
  ((s.pairEvent 4 ((s.pair.seq + 1).setWidth 64)).modPair fun p => { p with finalDue := true }).finalCapture

theorem handoverDrained_running {dt : Nat} {n : Word32} {s S : State} (hS : S = s.elapse dt) (hup : S.up = true)
    (hst : S.pair.st = .active) (hkept : S.pair.handedOver = false) (hn : S.pair.handover = some n) :
    exec (.handoverDrained dt) s = .next (if S.handoverHolds n then S else S.retireAll.askFinal) := by
  subst hS
  refine congrArg Host.Outcome.next ((State.when_of_true _ _ ?_).trans ?_)
  · rw [hup, (State.pairActive_iff _).mpr hst, hkept]
    rfl
  · unfold State.askFinal State.retireAll
    dsimp only
    rw [hn]
    -- The retired state stays a name, or the closing `rfl` would run the fold through all 64 queues.
    generalize List.foldl _ (s.elapse dt) (List.finRange 64) = U
    rfl

theorem State.finalCapture_due (s : State) (hdue : s.pair.finalDue = true) (hcap : s.pair.cap = none) :
    s.finalCapture = s.capture true :=
  if_pos (by rw [hdue, hcap]; rfl)

theorem State.finalCapture_waits (s : State) (h : s.pair.finalDue = false ∨ s.pair.cap ≠ none) : s.finalCapture = s :=
  if_neg (by rw [Bool.and_eq_true, Option.isNone_iff_eq_none, not_and_or, Bool.not_eq_true]; exact h)

/-- The HANDOVER that runs completes DONE. -/
def State.handoverDone (s : State) : State :=
  match s.ops.find? fun o => o.kind == .handover with
  | some o => s.completeOp o .done 0 s.now 0
  | none => s

theorem State.finalDone_active (s : State) (hst : s.pair.st = .active) :
    s.finalDone = if s.handoverDone.redmode == 1 then (s.handoverDone.zsend (.yield 1)).roleLoss s.handoverDone.now
      else s.handoverDone.modPair fun p => { p with handedOver := true, handover := none } :=
  if_neg (by rw [hst]; decide)

/-! ## The end of a RESYNC (R533, R535, R537) -/

/-- The copy has ended, with its PAIR_EVENT 0x06. -/
def State.copyEnds (s : State) : State :=
  (s.modPair fun p => { p with resyncing := none, resyncCp := false, needResync := false }).pairEvent 6 (s.pair.epoch.setWidth 64)

/-- Every RESYNC that waits completes DONE. -/
def State.resyncsDone (s : State) : State :=
  (s.ops.filter fun o => o.kind == .resync).foldl (fun s o => s.completeOp o .done 0 s.now 0) s

section
variable {dt : Nat} {s S : State} (hS : S = s.elapse dt)
include hS

theorem resyncComplete_committed (hup : S.up = true) (hst : S.pair.st = .active) (hcp : S.pair.resyncCp = true)
    (hcopy : S.pair.resyncing ≠ none) : exec (.resyncComplete dt) s = .next S.copyEnds.resyncsDone := by
  subst hS
  obtain ⟨who, hwho⟩ := Option.ne_none_iff_exists'.mp hcopy
  refine congrArg Host.Outcome.next ((State.when_of_true _ _ ?_).trans ?_)
  · rw [hup, (State.pairActive_iff _).mpr hst, hcp]
    rfl
  · dsimp only
    rw [hwho]
    rfl

theorem resyncComplete_waits (h : S.pair.st ≠ .active ∨ S.pair.resyncCp = false ∨ S.pair.resyncing = none) :
    exec (.resyncComplete dt) s = .next S := by
  subst hS
  refine congrArg Host.Outcome.next ?_
  by_cases hcopy : (s.elapse dt).pair.resyncing = none
  · unfold State.when
    dsimp only
    rw [hcopy, ite_self]
  · refine State.when_of_false _ _ ?_
    rw [Bool.and_eq_false_iff, Bool.and_eq_false_iff, State.pairActive_eq_false_iff]
    tauto

end

/-! ## The obligation -/

/-- Settles O49: each command is refused or started as its bars say, and each end is the law of its event above. -/
theorem pairControl : Obligations.PairControl := by
  unfold Obligations.PairControl
  intro dt n d s S hS
  refine ⟨fun hruns hshaped hpermits => ⟨fun haction => ?handover, fun haction => ?resync⟩, ?drained,
    ⟨S.finalCapture_due, S.finalCapture_waits⟩, ?done, fun hup => ⟨?ends, resyncComplete_waits hS⟩⟩
  case handover =>
    rw [pairControlHandover_runs hS hruns hshaped hpermits haction]
    refine ⟨fun hbar => congrArg _ (if_pos (S.barsHandover_iff.mpr hbar)), fun hst hdegraded hlone hready hops => ?_⟩
    have hfree : ¬ S.barsHandover = true := by
      rw [S.barsHandover_iff]
      simpa [hst, hdegraded, hlone, hready] using hops
    exact congrArg _ (if_neg hfree)
  case resync =>
    rw [pairControlResync_runs hS hruns hshaped hpermits haction]
    refine ⟨fun hbar => congrArg _ (if_pos (S.barsResync_iff.mpr hbar)), fun hst hzaf hlone => ?_⟩
    have hfree : ¬ S.barsResync = true := by
      rw [S.barsResync_iff]
      simp [hst, hzaf, hlone]
    exact ⟨S.nextEpoch, _, S.copyFrames, S.nextEpoch_ne, S.length_copyFrames, fun i hi => S.copyFrames_getElem? hi,
      congrArg _ (if_neg hfree)⟩
  case drained =>
    intro n mine hup hst hkept hn hmine
    obtain rfl : mine = fun q e => S.sparedBy n q e = true := by
      funext q e
      exact propext ((hmine q e).trans (S.sparedBy_iff n q e).symm)
    rw [handoverDrained_running hS hup hst hkept hn]
    refine ⟨fun h => congrArg _ (if_pos ((S.handoverHolds_iff n).mpr h)), fun hdue hcap hdrained U hU => ?_⟩
    rw [show S.retireAll = U from hU.symm]
    refine congrArg _ (if_neg fun hholds => ?_)
    rcases (S.handoverHolds_iff n).mp hholds with hfinal | ⟨c, hc, hfinal⟩ | ⟨⟨q, e, he, hwaits⟩, hearly⟩
    · exact absurd hfinal (Bool.eq_false_iff.mp hdue)
    · exact absurd hfinal (Bool.eq_false_iff.mp (hcap c hc))
    · exact hdrained.elim (fun hidle => hwaits (hidle q e he)) (Nat.not_le.mpr hearly)
  case done =>
    intro hst A hA
    obtain rfl : A = S.handoverDone := hA
    rw [S.finalDone_active hst]
    exact ⟨fun h => if_pos (beq_iff_eq.mpr h), fun h => if_neg (mt beq_iff_eq.mp h)⟩
  case ends =>
    intro hst hcp hcopy A hA
    obtain rfl : A = S.copyEnds := hA
    exact resyncComplete_committed hS hup hst hcp hcopy

end Sys2Proof.Machine

/-!
Every command's frame (R1–R6, R11, R57, R76, R512, R596): what the laws of the commands' own meanings say together about the queue,
the time, the Plinth and the access tables, and the settlement of O1 to O6.
-/
namespace Sys2Proof

/-- The journal's frames, which a standby unit writes into its Plinth (R503, R512). -/
def Instr.journals : Instr → Bool
  | .body .. | .delta .. | .log .. | .commit .. => true
  | _ => false

/-- Commands that change none of resets, rails, straps and access tables, and no Plinth byte. -/
def Instr.keeps : Instr → Bool
  | .accessLock .. | .powerOnResetAssert .. | .clk25Loss .. | .enterDormant .. | .commandDataReadComplete .. => false
  | i => !(i.journals || i.starts || i.rescues)

namespace Machine

/-! ## What a command keeps -/

theorem exec_keep {c : Instr} {s t : State} (hc : c.keeps = true) (h : exec c s = .next t) : t.keep = (s.elapse c.dt).keep := by
  cases c with
  | identify => exact execIdentify_keep _ _ _ h
  | queueCreate => exact execQueueCreate_keep _ _ _ h
  | queueDelete => exact execQueueDelete_keep _ _ _ h
  | queueQuiesce => exact execQueueQuiesce_keep _ _ _ h
  | queueResume => exact execQueueResume_keep _ _ _ h
  | setPowerTarget => exact execSetPowerTarget_keep _ _ _ h
  | setQuadrantReset => exact execSetQuadrantReset_keep _ _ _ h
  | setSupplyPolicy => exact execSetSupplyPolicy_keep _ _ _ h
  | setFaultNClassMask => exact execSetFaultNClassMask_keep _ _ _ h
  | setFieldWatchdog => exact execSetFieldWatchdog_keep _ _ _ h
  | setSync => exact execSetSync_keep _ _ _ h
  | setRecordFlush => exact execSetRecordFlush_keep _ _ _ h
  | setRecordRoute => exact execSetRecordRoute_keep _ _ _ h
  | setVaultLayout => exact execSetVaultLayout_keep _ _ _ h
  | setArchive => exact execSetArchive_keep _ _ _ h
  | setPairTiming => exact execSetPairTiming_keep _ _ _ h
  | setPlumbSchedule => exact execSetPlumbSchedule_keep _ _ _ h
  | setSerialPort => exact execSetSerialPort_keep _ _ _ h
  | featureGet => exact execFeatureGet_keep _ _ _ h
  | logRead => exact execLogRead_keep _ _ _ h
  | fwLoad => exact execFwLoad_keep _ _ _ h
  | fwCommitStart => exact execFwCommitStart_keep _ _ _ h
  | fwCommitVerify => exact execFwCommitVerify_keep _ _ _ h
  | fwCommitInstall => exact execFwCommitInstall_keep _ _ _ h
  | fwCommitActivate => exact execFwCommitActivate_keep _ _ _ h
  | fwCommitAdvance => exact execFwCommitAdvance_keep _ _ _ h
  | attest => exact execAttest_keep _ _ _ _ h
  | accessLoad => exact execAccessLoad_keep _ _ _ h
  | pairControlHandover => exact execPairControlHandover_keep _ _ _ h
  | pairControlResync => exact execPairControlResync_keep _ _ _ h
  | checkpointNow => exact execCheckpointNow_keep _ _ _ h
  | chConfig => exact execChConfig_keep _ _ _ _ h
  | outWrite => exact execOutWrite_keep _ _ _ _ h
  | outPulseStart => exact execOutPulseStart_keep _ _ _ _ h
  | outPulseStop => exact execOutPulseStop_keep _ _ _ _ h
  | outPulseUpdate => exact execOutPulseUpdate_keep _ _ _ _ h
  | safeDefine => exact execSafeDefine_keep _ _ _ _ h
  | arm => exact execArm_keep _ _ _ _ h
  | disarm => exact execDisarm_keep _ _ _ _ h
  | faultClear => exact execFaultClear_keep _ _ _ _ h
  | budgetSet => exact execBudgetSet_keep _ _ _ _ h
  | courseLoad => exact execCourseLoad_keep _ _ _ _ h
  | courseSwap => exact execCourseSwap_keep _ _ _ _ h
  | courseSwapImmediate => exact execCourseSwapImmediate_keep _ _ _ _ h
  | angleConfig => exact execAngleConfig_keep _ _ _ _ h
  | seqLoad => exact execSeqLoad_keep _ _ _ _ h
  | inject => exact execInject_keep _ _ _ _ h
  | calibrate => exact execCalibrate_keep _ _ _ _ h
  | accSnapshot => exact execAccSnapshot_keep _ _ _ _ h
  | filterConfig => exact execFilterConfig_keep _ _ _ _ h
  | coefLoad => exact execCoefLoad_keep _ _ _ _ h
  | coefSwap => exact execCoefSwap_keep _ _ _ _ h
  | sync => exact execSync_keep _ _ _ _ h
  | recordBuffer => exact execRecordBuffer_keep _ _ _ _ h
  | archiveFreeze => exact execArchiveFreeze_keep _ _ _ _ h
  | archiveRelease => exact execArchiveRelease_keep _ _ _ _ h
  | archiveRead => exact execArchiveRead_keep _ _ _ _ h
  | plumbScan => exact execPlumbScan_keep _ _ _ _ h
  | sidebandSend => exact execSidebandSend_keep _ _ _ _ h
  | unknownOpcode => exact execUnknownOpcode_keep _ _ _ _ h
  | outOn => exact execOutOn_keep _ _ _ _ h
  | outOff => exact execOutOff_keep _ _ _ _ h
  | outToggle => exact execOutToggle_keep _ _ _ _ h
  | pulseStart => exact execPulseStart_keep _ _ _ _ h
  | pulseStop => exact execPulseStop_keep _ _ _ _ h
  | bankWrite => exact execBankWrite_keep _ _ _ _ h
  | adcTrigger => exact execAdcTrigger_keep _ _ _ _ h
  | snapshot => exact execSnapshot_keep _ _ _ _ h
  | mark => exact execMark_keep _ _ _ _ h
  | syncFire => exact execSyncFire_keep _ _ _ _ h
  | adminQueueEnable => exact execAdminQueueEnable_keep _ _ h
  | adminQueueDisable => exact execAdminQueueDisable_keep _ _ h
  | hiHostwdWrite => exact execHiHostwdWrite_keep _ _ _ h
  | hiKeepalive => exact execHiKeepalive_keep _ 0 _ h
  | hiDevcauseWrite => exact execHiDevcauseWrite_keep _ _ _ h
  | hiDevenWrite => exact execHiDevenWrite_keep _ _ _ h
  | glTimeRead => exact execGlTimeRead_keep _ _ h
  | secRowRead => exact execSecRowRead_keep _ _ _ h
  | dbgDataRead => exact execDbgDataRead_keep _ _ _ h
  | registerWrite => exact execRegisterWrite_keep _ _ _ _ _ h
  | msixVectorUnmask => exact execMsixVectorUnmask_keep _ _ _ h
  | functionLevelReset => exact execFunctionLevelReset_keep _ _ h
  | busMasterEnable => exact execBusMasterEnable_keep _ _ _ _ _ h
  | d3hotToD0 => exact execD3hotToD0_keep _ _ h
  | perstAssert => exact execPerstAssert_keep _ _ h
  | perstRelease => exact execPerstRelease_keep _ _ h
  | strapChange => exact execStrapChange_keep _ _ _ h
  | visoLost => exact execVisoLost_keep _ _ h
  | visoRestored => exact execVisoRestored_keep _ _ h
  | transformerStart => exact execTransformerStart_keep _ _ _ h
  | fieldDieSync => exact execFieldDieSync_keep _ _ _ h
  | imageReadComplete => exact execImageReadComplete_keep _ _ _ h
  | firmwareReady => exact execFirmwareReady_keep _ _ h
  | adminCommandStart => exact execAdminCommandStart_keep _ _ _ h
  | masonWatchdogExpiry => exact execMasonWatchdogExpiry_keep _ _ h
  | masonRestartComplete => exact execMasonRestartComplete_keep _ _ _ h
  | masonLoadWindow => exact execMasonLoadWindow_keep _ _ _ h
  | masonStatusPeriodic => exact execMasonStatusPeriodic_keep _ _ h
  | throttleEnter => exact execThrottleEnter_keep _ _ h
  | throttleExit => exact execThrottleExit_keep _ _ h
  | hostWatchdogExpiry => exact execHostWatchdogExpiry_keep _ _ h
  | doorbellPoll => exact execDoorbellPoll_keep _ _ h
  | pollComplete => exact execPollComplete_keep _ _ _ h
  | indexReadComplete => exact execIndexReadComplete_keep _ _ _ _ h
  | descriptorFetch => exact execDescriptorFetch_keep _ _ _ _ h
  | descriptorStaged => exact execDescriptorStaged_keep _ _ _ _ _ _ h
  | hostReadFailure => exact execHostReadFailure_keep _ _ _ h
  | coalesceTimeout => exact execCoalesceTimeout_keep _ _ _ h
  | recordFlushTimeout => exact execRecordFlushTimeout_keep _ _ _ h
  | recordWrite => exact execRecordWrite_keep _ _ _ h
  | downlinkFrame => exact execDownlinkFrame_keep _ _ _ _ _ h
  | uplinkFrame => exact execUplinkFrame_keep _ _ _ _ h
  | fieldWatchdogExpiry => exact execFieldWatchdogExpiry_keep _ _ _ h
  | inputAccept => exact execInputAccept_keep _ _ _ _ h
  | edgeLockoutEnd => exact execEdgeLockoutEnd_keep _ _ _ _ h
  | currentLimit => exact execCurrentLimit_keep _ _ _ h
  | shortLimit => exact execShortLimit_keep _ _ _ h
  | overload => exact execOverload_keep _ _ _ h
  | thermOff => exact execThermOff_keep _ _ _ h
  | dieHot => exact execDieHot_keep _ _ _ h
  | dieHotClear => exact execDieHotClear_keep _ _ _ h
  | inrushWindowEnd => exact execInrushWindowEnd_keep _ _ _ h
  | reverse => exact execReverse_keep _ _ _ h
  | reverseClear => exact execReverseClear_keep _ _ _ h
  | retryWindowExpiry => exact execRetryWindowExpiry_keep _ _ _ h
  | settleEnd => exact execSettleEnd_keep _ _ _ _ h
  | readbackMismatchClear => exact execReadbackMismatchClear_keep _ _ _ h
  | shortLplusClear => exact execShortLplusClear_keep _ _ _ h
  | openOff => exact execOpenOff_keep _ _ _ h
  | openOffClear => exact execOpenOffClear_keep _ _ _ h
  | openOn => exact execOpenOn_keep _ _ _ h
  | openOnClear => exact execOpenOnClear_keep _ _ _ h
  | openLoadResume => exact execOpenLoadResume_keep _ _ _ h
  | wireBreak => exact execWireBreak_keep _ _ _ h
  | wireBreakClear => exact execWireBreakClear_keep _ _ _ h
  | wireBreakResume => exact execWireBreakResume_keep _ _ _ h
  | lplusLow => exact execLplusLow_keep _ _ _ h
  | lplusNormal => exact execLplusNormal_keep _ _ _ h
  | lplusUnder => exact execLplusUnder_keep _ _ _ h
  | lplusUnderExit => exact execLplusUnderExit_keep _ _ _ _ h
  | lplusOver => exact execLplusOver_keep _ _ _ h
  | lplusOverExit => exact execLplusOverExit_keep _ _ _ _ h
  | testPulseStart => exact execTestPulseStart_keep _ _ _ h
  | testPulseEnd => exact execTestPulseEnd_keep _ _ _ _ h
  | switchOnAdmit => exact execSwitchOnAdmit_keep _ _ _ h
  | deferralLimit => exact execDeferralLimit_keep _ _ _ h
  | pulseEdge => exact execPulseEdge_keep _ _ _ h
  | safePulseEdge => exact execSafePulseEdge_keep _ _ _ h
  | safeSwitchOn => exact execSafeSwitchOn_keep _ _ _ h
  | safeNLow => exact execSafeNLow_keep _ _ h
  | safeNClear => exact execSafeNClear_keep _ _ h
  | encoderEdge => exact execEncoderEdge_keep _ _ _ _ h
  | referenceMark => exact execReferenceMark_keep _ _ h
  | encStall => exact execEncStall_keep _ _ h
  | coastTimeout => exact execCoastTimeout_keep _ _ h
  | swapDone => exact execSwapDone_keep _ _ h
  | courseRefill => exact execCourseRefill_keep _ _ _ _ _ h
  | timerTrigger => exact execTimerTrigger_keep _ _ _ _ h
  | conversionStart => exact execConversionStart_keep _ _ _ h
  | conversionResult => exact execConversionResult_keep _ _ _ _ h
  | calibrationStart => exact execCalibrationStart_keep _ _ _ h
  | calibrationEnd => exact execCalibrationEnd_keep _ _ _ _ h
  | filterBatchTimeout => exact execFilterBatchTimeout_keep _ _ _ h
  | syncInEdge => exact execSyncInEdge_keep _ _ _ h
  | scrubRequest => exact execScrubRequest_keep _ _ _ _ h
  | plumbPassDue => exact execPlumbPassDue_keep _ _ _ h
  | plumbPassEnd => exact execPlumbPassEnd_keep _ _ _ _ _ h
  | heartbeatSend => exact execHeartbeatSend_keep _ _ h
  | hbOutToggle => exact execHbOutToggle_keep _ _ h
  | hbInEdge => exact execHbInEdge_keep _ _ h
  | takeoverDrive => exact execTakeoverDrive_keep _ _ _ h
  | hostResume => exact execHostResume_keep _ _ _ _ h
  | livenessGateFail => exact execLivenessGateFail_keep _ _ h
  | actGntHigh => exact execActGntHigh_keep _ _ h
  | checkpointCapture => exact execCheckpointCapture_keep _ _ h
  | ack => exact execAck_keep _ _ _ h
  | resyncComplete => exact execResyncComplete_keep _ _ h
  | handoverDrained => exact execHandoverDrained_keep _ _ h
  | spCollide => exact execSpCollide_keep _ _ _ h
  | serialRetry => exact execSerialRetry_keep _ _ h
  | xipRead => exact execXipRead_keep _ _ _ _ _ h
  | slaveSelectFall => exact execSlaveSelectFall_keep _ _ h
  | slaveWord => exact execSlaveWord_keep _ _ _ h
  | slaveSelectRise => exact execSlaveSelectRise_keep _ _ _ h
  | sidebandRecordTimeout => exact execSidebandRecordTimeout_keep _ _ h
  | d0ToD3hot => exact execD0ToD3hot_keep _ _ h
  | linkReturnToL0 => exact execLinkReturnToL0_keep _ _ h
  | functionLevelResetComplete => exact execFunctionLevelResetComplete_keep _ _ h
  | flashProgramEraseComplete => exact execFlashProgramEraseComplete_keep _ _ _ h
  | plumbScanComplete => exact execPlumbScanComplete_keep _ _ _ _ _ h
  | rngHealthTestFail => exact execRngHealthTestFail_keep _ _ h
  | rngHealthTestPass => exact execRngHealthTestPass_keep _ _ h
  | livenessGatePass => exact execLivenessGatePass_keep _ _ h
  | currentLimitExit => exact execCurrentLimitExit_keep _ _ _ h
  | observerCap => exact execObserverCap_keep _ _ h
  | _ => exact nomatch hc

/-- The queue, device time and the Plinth under every command but a start and a journal frame. -/
theorem exec_base {c : Instr} {s t : State} (hs : c.starts = false) (hj : c.journals = false) (h : exec c s = .next t) :
    t.base = (s.elapse c.dt).base := by
  by_cases hc : c.keeps = true
  · exact base_of_keep (exec_keep hc h)
  cases c with
  | accessLock => exact execAccessLock_base _ _ _ h
  | powerOnResetAssert => exact execPowerOnResetAssert_base _ _ _ h
  | clk25Loss => exact execClk25Loss_base _ _ h
  | enterDormant => exact execEnterDormant_base _ _ h
  | commandDataReadComplete => exact execCommandDataReadComplete_base _ _ _ _ _ h
  | pairRoleDecision => exact execPairRoleDecision_base _ _ h
  | heartbeat => exact execHeartbeat_base _ _ _ h
  | pathLoss => exact execPathLoss_base _ _ _ h
  | actGntLow => exact execActGntLow_base _ _ h
  | releaseExpiry => exact execReleaseExpiry_base _ _ h
  | yield => exact execYield_base _ _ _ h
  | powerOnResetRelease => exact nomatch hs
  | wake => exact nomatch hs
  | clk25Return => exact nomatch hs
  | body => exact nomatch hj
  | delta => exact nomatch hj
  | log => exact nomatch hj
  | commit => exact nomatch hj
  | _ => exact absurd rfl hc

theorem exec_time {c : Instr} {s t : State} (hs : c.starts = false) (h : exec c s = .next t) : t.time = (s.elapse c.dt).time := by
  by_cases hj : c.journals = false
  · have hbase := exec_base hs hj h
    simp only [State.base, State.time, Prod.mk.injEq] at hbase ⊢
    exact ⟨hbase.1, hbase.2.1, hbase.2.2.1⟩
  cases c with
  | body => exact execBody_time _ _ _ _ h
  | delta => exact execDelta_time _ _ _ _ h
  | log => exact execLog_time _ _ _ h
  | commit => exact execCommit_time _ _ _ h
  | _ => exact absurd rfl hj

theorem exec_start {c : Instr} {s t : State} (hs : c.starts = true) (h : exec c s = .next t) : t.start = (s.elapse c.dt).start := by
  cases c with
  | powerOnResetRelease => exact execPowerOnResetRelease_start _ _ _ h
  | wake => exact execWake_start _ _ _ h
  | clk25Return => exact execClk25Return_start _ _ _ h
  | _ => exact nomatch hs

/-! ## Device time's origin (R11, R57) -/

theorem State.visoReport_zero (s : State) : s.visoReport.zero = s.zero := congrArg (·.2.2.1) s.visoReport_keep

theorem State.romStart_zero (s : State) : s.romStart.zero = s.zero := congrArg (·.2.2.1) s.romStart_base

/-- A power-on reset puts the origin at the present. -/
theorem State.boot_zero (s : State) (pins : StartPins) : (s.boot pins).zero = s.clock := by
  unfold State.boot
  dsimp only
  split
  · exact State.romStart_zero _
  · exact (State.visoReport_zero _).trans (State.romStart_zero _)

theorem exec_starts_zero {c : Instr} {s t : State} (hs : c.starts = true) (h : exec c s = .next t) :
    t.zero = s.zero ∨ t.zero = (s.elapse c.dt).clock := by
  cases c with
  | powerOnResetRelease =>
    injection h with h
    subst h
    unfold State.when
    split
    · dsimp only
      split
      · exact .inr (State.boot_zero _ _)
      · exact .inl rfl
    · exact .inl rfl
  | wake =>
    injection h with h
    subst h
    unfold State.when
    split
    · dsimp only
      split
      · exact .inr (State.boot_zero _ _)
      · exact .inl rfl
    · exact .inl rfl
  | clk25Return =>
    injection h with h
    subst h
    unfold State.when
    split
    · dsimp only
      split
      · exact .inr (State.boot_zero _ _)
      · exact .inl rfl
    · exact .inl rfl
  | _ => exact nomatch hs

/-- Queue, clock and origin of device time after a command. -/
theorem exec_queue_time {c : Instr} {s t : State} (h : exec c s = .next t) :
    t.pending = s.pending ∧ t.clock = s.clock + 8 * c.dt ∧ (t.zero = s.zero ∨ c.starts = true ∧ t.zero = t.clock) := by
  cases hs : c.starts
  · have htime := exec_time hs h
    simp only [State.time, Prod.mk.injEq] at htime
    obtain ⟨hpending, hclock, hzero⟩ := htime
    exact ⟨hpending, hclock, .inl hzero⟩
  · have hstart := exec_start hs h
    simp only [State.start, Prod.mk.injEq] at hstart
    obtain ⟨hpending, hclock, -⟩ := hstart
    exact ⟨hpending, hclock, (exec_starts_zero hs h).imp_right fun hzero => ⟨rfl, hzero.trans hclock.symm⟩⟩

/-! ## The Plinth (R512) -/

/-- A frame's bytes go into the Plinth or the frame leaves the state alone or faults. -/
theorem State.plinthPut_wf {s t : State} {addr : Nat} {data : List Byte} {f : State → State} (hwf : Memory.wf s.plinth = true)
    (h : s.plinthPut addr data f = .next t)
    (hf : ∀ u, data.length ≤ 256 → Memory.wf u.plinth = true → Memory.wf (f u).plinth = true) : Memory.wf t.plinth = true := by
  unfold State.plinthPut at h
  split at h
  · injection h with h
    exact h ▸ hwf
  next hgood =>
    have hlen : data.length ≤ 256 := by
      simp only [Bool.or_eq_true, decide_eq_true_eq, not_or, Nat.not_lt] at hgood
      exact hgood.2
    split at h
    · exact nomatch h
    next hin =>
      injection h with h
      exact h ▸ hf _ hlen (Memory.wf_writeAll hwf (Nat.not_lt.mp hin))

theorem State.retime_plinth (s : State) : s.retime.plinth = s.plinth := by
  unfold State.retime
  dsimp only
  split <;> rfl

theorem exec_journals_wf {c : Instr} {s t : State} (hj : c.journals = true) (hwf : Memory.wf s.plinth = true)
    (h : exec c s = .next t) : Memory.wf t.plinth = true := by
  cases c with
  | body dt addr data => exact State.plinthPut_wf (s := s.elapse dt) hwf h fun _ _ hu => hu
  | delta dt addr data =>
    simp only [exec, execDelta] at h
    refine State.plinthPut_wf (s := s.elapse dt) hwf h fun u hlen hu => ?_
    have hbuffer : Memory.wf (memWriteAll u.plinth 0x58000 data) = true :=
      Memory.wf_writeAll hu (by simp only [plinthSize]; omega)
    split
    · exact (State.retime_plinth _).symm ▸ hbuffer
    · exact hbuffer
  | log dt e =>
    simp only [exec, execLog] at h
    generalize (if (s.elapse dt).pair.logTag == _ then _ else 0) = i at h
    split at h
    · injection h with h
      exact h ▸ hwf
    · exact State.plinthPut_wf (s := s.elapse dt) hwf h fun _ _ hu => hu
  | commit dt header =>
    simp only [exec, execCommit] at h
    split at h
    · injection h with h
      exact h ▸ hwf
    · exact State.plinthPut_wf (s := s.elapse dt) hwf h fun _ _ hu => hu
  | _ => exact nomatch hj

theorem exec_wf {c : Instr} {s t : State} (hwf : Memory.wf s.plinth = true) (h : exec c s = .next t) :
    Memory.wf t.plinth = true := by
  cases hj : c.journals
  · have hplinth : t.plinth = s.plinth := by
      cases hs : c.starts
      · exact congrArg (·.2.2.2) (exec_base hs hj h)
      · exact congrArg (·.2.2) (exec_start hs h)
    rw [hplinth]
    exact hwf
  · exact exec_journals_wf hj hwf h

/-! ## The access tables' lock (R596) -/

theorem State.adm_keep_of_body (s : State) (n : Word32) (form : Desc → Bool) (needs : Desc → List (Nat × Nat))
    (bad : Desc → Option Nat) (body : Desc → State → State) (hbody : ∀ d, (body d s).keep = s.keep) :
    (s.adm n form needs bad body).keep = s.keep := by
  unfold State.adm
  split
  · rfl
  split
  · rfl
  dsimp only
  split
  · rfl
  split
  · exact (State.finish_keep _ _ _ _ _).trans (State.deny_keep _ _ _ _)
  split
  · exact State.finish_keep _ _ _ _ _
  · exact hbody _

theorem State.accessData_locked (s : State) (n : Word32) (d : Desc) (data : List Byte) (h : s.locked = true) :
    s.accessData n d data = s.finish 0 n .rejState 0 := if_pos h

theorem State.coursePass1_keep (s : State) (q : QueueId) (n : Word32) (d : Desc) (bs : List Byte) :
    (s.coursePass1 q n d bs).keep = s.keep :=
  State.courseChecks_keep _ _ _ _ _ _ fun _ =>
    ((State.emit_keep _ _).trans (State.overtake_keep _ _ _)).trans (State.addOp_keep _ _ _ _)

theorem State.coursePass2_keep (s : State) (q : QueueId) (n : Word32) (d : Desc) (crc : Word32) (bs : List Byte) :
    (s.coursePass2 q n d crc bs).keep = s.keep := by
  unfold State.coursePass2
  split
  · exact State.courseDone_keep _ _ _ _ _ _
  · exact ((State.finish_keep _ _ _ _ _).trans (State.configured_keep _ _ _)).trans (State.putBank_keep _ _ _ _)

theorem State.seqData_keep (s : State) (q : QueueId) (n : Word32) (d : Desc) (data : List Byte) :
    (s.seqData q n d data).keep = s.keep := by
  unfold State.seqData
  dsimp only
  split
  · exact State.finish_keep _ _ _ _ _
  split
  · exact State.finish_keep _ _ _ _ _
  split
  · exact State.finish_keep _ _ _ _ _
  · exact State.seqAccept_keep _ _ _ _ _ _

theorem State.coefData_keep (s : State) (q : QueueId) (n : Word32) (d : Desc) (data : List Byte) :
    (s.coefData q n d data).keep = s.keep := by
  unfold State.coefData
  dsimp only
  split
  · exact State.finish_keep _ _ _ _ _
  split
  · exact State.finish_keep _ _ _ _ _
  · simp only [State.finish_keep, State.copyDelta_keep, keep_mk, State.modChain_keep, State.overtake_keep]

theorem State.fwData_keep (s : State) (n : Word32) (d : Desc) (data : List Byte) : (s.fwData n d data).keep = s.keep := by
  unfold State.fwData
  dsimp only
  split
  · exact (State.finish_keep _ _ _ _ _).trans (State.modMason_keep _ _)
  · exact (State.modMason_keep _ _).trans (State.modSerial_keep _ _)

/-- Command data that arrives changes no row of locked tables. -/
theorem commandDataReadComplete_keep {dt : Nat} {q : QueueId} {n : Word32} {data : List Byte} {s t : State}
    (hlocked : s.locked = true) (h : execCommandDataReadComplete dt q n data s = .next t) : t.keep = (s.elapse dt).keep := by
  injection h with h
  subst h
  refine State.when_keep _ _ _ ?_
  split
  · rfl
  split
  · rfl
  split
  · exact State.coursePass2_keep _ _ _ _ _ _
  · exact State.coursePass1_keep _ _ _ _ _
  · exact State.seqData_keep _ _ _ _ _
  · exact State.coefData_keep _ _ _ _ _
  · exact State.fwData_keep _ _ _ _
  · rw [State.accessData_locked (s.elapse dt) _ _ _ hlocked]
    exact State.finish_keep _ _ _ _ _
  · rfl

/-- A second ACCESS_LOCK is refused. -/
theorem accessLock_keep {dt : Nat} {n : Word32} {s t : State} (hlocked : s.locked = true)
    (h : execAccessLock dt n s = .next t) : t.keep = (s.elapse dt).keep := by
  injection h with h
  subst h
  refine State.adm_keep_of_body _ _ _ _ _ _ fun d => ?_
  exact (congrArg State.keep (if_pos hlocked)).trans (State.finish_keep _ _ _ _ _)

/-- In a unit outside a pair no event of the pair comes about. -/
theorem exec_rescues_alone {c : Instr} {s : State} (hr : c.rescues = true) (hst : s.pair.st = .single) (hpair : s.inPair = false) :
    exec c s = .next (s.elapse c.dt) := by
  have hmode : (s.redmode == 2) = false := (Bool.or_eq_false_iff.mp hpair).2
  cases c with
  | pairRoleDecision dt =>
    refine congrArg _ (State.when_of_false (s.elapse dt) _ ?_)
    simp [State.elapse, hst]
  | heartbeat dt =>
    refine congrArg _ (State.when_of_false (s.elapse dt) _ ?_)
    rw [show (s.elapse dt).inPair = false from hpair, Bool.and_false, Bool.false_and]
  | pathLoss dt =>
    refine congrArg _ (State.when_of_false (s.elapse dt) _ ?_)
    rw [show (s.elapse dt).inPair = false from hpair, Bool.and_false, Bool.false_and, Bool.false_and]
  | actGntLow dt =>
    refine congrArg _ (State.when_of_false (s.elapse dt) _ ?_)
    rw [show ((s.elapse dt).redmode == 2) = false from hmode, Bool.and_false]
  | releaseExpiry dt =>
    refine congrArg _ (State.when_of_false (s.elapse dt) _ ?_)
    simp [State.elapse, hst]
  | yield dt =>
    refine congrArg _ (State.when_of_false (s.elapse dt) _ ?_)
    simp [State.elapse, hst]
  | _ => exact nomatch hr

theorem lock_of_keep {s t : State} (h : s.keep = t.keep) : s.lock = t.lock := by
  simp only [State.keep, Prod.mk.injEq] at h
  obtain ⟨-, -, -, -, -, -, -, -, -, hrows, hlocked, -⟩ := h
  exact Prod.ext hrows hlocked

theorem enterDormant_keeps_lock {dt : Nat} {s t : State} (h : execEnterDormant dt s = .next t) :
    t.lock = (s.elapse dt).lock := by
  injection h with h
  subst h
  refine State.when_lock _ _ _ (Eq.trans ?_ (lock_of_keep (State.diesLost_keep _)))
  simp only [lock_mk]

/-- Locked tables stay as they are and locked under every command but a start and an event of the pair. -/
theorem exec_lock {c : Instr} {s t : State} (hs : c.starts = false) (hr : c.rescues = false) (hlocked : s.locked = true)
    (h : exec c s = .next t) : t.lock = (s.elapse c.dt).lock := by
  by_cases hc : c.keeps = true
  · exact lock_of_keep (exec_keep hc h)
  cases c with
  | accessLock => exact lock_of_keep (accessLock_keep hlocked h)
  | commandDataReadComplete => exact lock_of_keep (commandDataReadComplete_keep hlocked h)
  | enterDormant => exact enterDormant_keeps_lock h
  | powerOnResetAssert => exact execPowerOnResetAssert_lock _ _ _ h
  | clk25Loss => exact execClk25Loss_lock _ _ h
  | body => exact execBody_lock _ _ _ _ h
  | delta => exact execDelta_lock _ _ _ _ h
  | log => exact execLog_lock _ _ _ h
  | commit => exact execCommit_lock _ _ _ h
  | powerOnResetRelease => exact nomatch hs
  | wake => exact nomatch hs
  | clk25Return => exact nomatch hs
  | pairRoleDecision => exact nomatch hr
  | heartbeat => exact nomatch hr
  | pathLoss => exact nomatch hr
  | actGntLow => exact nomatch hr
  | releaseExpiry => exact nomatch hr
  | yield => exact nomatch hr
  | _ => exact absurd rfl hc

/-! ## The families of commands (R1–R6) -/

theorem exec_field {c : Instr} {s t : State} (hc : c.hostSide = true) (h : exec c s = .next t) : t.field = (s.elapse c.dt).field := by
  cases c with
  | identify => exact execIdentify_field _ _ _ h
  | queueCreate => exact execQueueCreate_field _ _ _ h
  | queueDelete => exact execQueueDelete_field _ _ _ h
  | queueQuiesce => exact execQueueQuiesce_field _ _ _ h
  | queueResume => exact execQueueResume_field _ _ _ h
  | setPowerTarget => exact execSetPowerTarget_field _ _ _ h
  | setFaultNClassMask => exact execSetFaultNClassMask_field _ _ _ h
  | setSync => exact execSetSync_field _ _ _ h
  | setRecordFlush => exact execSetRecordFlush_field _ _ _ h
  | setRecordRoute => exact execSetRecordRoute_field _ _ _ h
  | logRead => exact execLogRead_field _ _ _ h
  | fwLoad => exact execFwLoad_field _ _ _ h
  | fwCommitStart => exact execFwCommitStart_field _ _ _ h
  | fwCommitVerify => exact execFwCommitVerify_field _ _ _ h
  | fwCommitAdvance => exact execFwCommitAdvance_field _ _ _ h
  | attest => exact execAttest_field _ _ _ _ h
  | accessLoad => exact execAccessLoad_field _ _ _ h
  | accessLock => exact execAccessLock_field _ _ _ h
  | pairControlHandover => exact execPairControlHandover_field _ _ _ h
  | pairControlResync => exact execPairControlResync_field _ _ _ h
  | checkpointNow => exact execCheckpointNow_field _ _ _ h
  | calibrate => exact execCalibrate_field _ _ _ _ h
  | coefLoad => exact execCoefLoad_field _ _ _ _ h
  | recordBuffer => exact execRecordBuffer_field _ _ _ _ h
  | archiveRead => exact execArchiveRead_field _ _ _ _ h
  | unknownOpcode => exact execUnknownOpcode_field _ _ _ _ h
  | adminQueueEnable => exact execAdminQueueEnable_field _ _ h
  | adminQueueDisable => exact execAdminQueueDisable_field _ _ h
  | hiDevcauseWrite => exact execHiDevcauseWrite_field _ _ _ h
  | hiDevenWrite => exact execHiDevenWrite_field _ _ _ h
  | glTimeRead => exact execGlTimeRead_field _ _ h
  | secRowRead => exact execSecRowRead_field _ _ _ h
  | dbgDataRead => exact execDbgDataRead_field _ _ _ h
  | msixVectorUnmask => exact execMsixVectorUnmask_field _ _ _ h
  | busMasterEnable => exact execBusMasterEnable_field _ _ _ _ _ h
  | perstRelease => exact execPerstRelease_field _ _ h
  | powerOnResetAssert => exact execPowerOnResetAssert_field _ _ _ h
  | strapChange => exact execStrapChange_field _ _ _ h
  | visoRestored => exact execVisoRestored_field _ _ h
  | clk25Loss => exact execClk25Loss_field _ _ h
  | adminCommandStart => exact execAdminCommandStart_field _ _ _ h
  | masonRestartComplete => exact execMasonRestartComplete_field _ _ _ h
  | masonLoadWindow => exact execMasonLoadWindow_field _ _ _ h
  | masonStatusPeriodic => exact execMasonStatusPeriodic_field _ _ h
  | doorbellPoll => exact execDoorbellPoll_field _ _ h
  | indexReadComplete => exact execIndexReadComplete_field _ _ _ _ h
  | descriptorFetch => exact execDescriptorFetch_field _ _ _ _ h
  | descriptorStaged => exact execDescriptorStaged_field _ _ _ _ _ _ h
  | coalesceTimeout => exact execCoalesceTimeout_field _ _ _ h
  | recordFlushTimeout => exact execRecordFlushTimeout_field _ _ _ h
  | heartbeatSend => exact execHeartbeatSend_field _ _ h
  | hbOutToggle => exact execHbOutToggle_field _ _ h
  | hbInEdge => exact execHbInEdge_field _ _ h
  | hostResume => exact execHostResume_field _ _ _ _ h
  | livenessGateFail => exact execLivenessGateFail_field _ _ h
  | checkpointCapture => exact execCheckpointCapture_field _ _ h
  | body => exact execBody_field _ _ _ _ h
  | log => exact execLog_field _ _ _ h
  | commit => exact execCommit_field _ _ _ h
  | resyncComplete => exact execResyncComplete_field _ _ h
  | handoverDrained => exact execHandoverDrained_field _ _ h
  | d0ToD3hot => exact execD0ToD3hot_field _ _ h
  | linkReturnToL0 => exact execLinkReturnToL0_field _ _ h
  | functionLevelResetComplete => exact execFunctionLevelResetComplete_field _ _ h
  | rngHealthTestFail => exact execRngHealthTestFail_field _ _ h
  | rngHealthTestPass => exact execRngHealthTestPass_field _ _ h
  | livenessGatePass => exact execLivenessGatePass_field _ _ h
  | _ => exact nomatch hc

theorem exec_event {c : Instr} {s t : State} (hc : c.fieldEvent = true) (h : exec c s = .next t) :
    t.event = (s.elapse c.dt).event := by
  cases c with
  | inputAccept => exact execInputAccept_event _ _ _ _ h
  | edgeLockoutEnd => exact execEdgeLockoutEnd_event _ _ _ _ h
  | currentLimit => exact execCurrentLimit_event _ _ _ h
  | shortLimit => exact execShortLimit_event _ _ _ h
  | overload => exact execOverload_event _ _ _ h
  | thermOff => exact execThermOff_event _ _ _ h
  | dieHot => exact execDieHot_event _ _ _ h
  | dieHotClear => exact execDieHotClear_event _ _ _ h
  | inrushWindowEnd => exact execInrushWindowEnd_event _ _ _ h
  | reverse => exact execReverse_event _ _ _ h
  | reverseClear => exact execReverseClear_event _ _ _ h
  | retryWindowExpiry => exact execRetryWindowExpiry_event _ _ _ h
  | settleEnd => exact execSettleEnd_event _ _ _ _ h
  | readbackMismatchClear => exact execReadbackMismatchClear_event _ _ _ h
  | shortLplusClear => exact execShortLplusClear_event _ _ _ h
  | openOff => exact execOpenOff_event _ _ _ h
  | openOffClear => exact execOpenOffClear_event _ _ _ h
  | openOn => exact execOpenOn_event _ _ _ h
  | openOnClear => exact execOpenOnClear_event _ _ _ h
  | openLoadResume => exact execOpenLoadResume_event _ _ _ h
  | wireBreak => exact execWireBreak_event _ _ _ h
  | wireBreakClear => exact execWireBreakClear_event _ _ _ h
  | wireBreakResume => exact execWireBreakResume_event _ _ _ h
  | lplusLow => exact execLplusLow_event _ _ _ h
  | lplusNormal => exact execLplusNormal_event _ _ _ h
  | lplusUnder => exact execLplusUnder_event _ _ _ h
  | lplusUnderExit => exact execLplusUnderExit_event _ _ _ _ h
  | lplusOver => exact execLplusOver_event _ _ _ h
  | lplusOverExit => exact execLplusOverExit_event _ _ _ _ h
  | currentLimitExit => exact execCurrentLimitExit_event _ _ _ h
  | _ => exact nomatch hc

theorem exec_port {c : Instr} {s t : State} (hc : c.portEvent = true) (h : exec c s = .next t) : t.port = (s.elapse c.dt).port := by
  cases c with
  | spCollide => exact execSpCollide_port _ _ _ h
  | serialRetry => exact execSerialRetry_port _ _ h
  | xipRead => exact execXipRead_port _ _ _ _ _ h
  | slaveSelectFall => exact execSlaveSelectFall_port _ _ h
  | slaveWord => exact execSlaveWord_port _ _ _ h
  | slaveSelectRise => exact execSlaveSelectRise_port _ _ _ h
  | sidebandRecordTimeout => exact execSidebandRecordTimeout_port _ _ h
  | _ => exact nomatch hc

/-- What is left of a state once the fields that EventT lists are given. -/
theorem eq_of_event {s t : State} (h : t.event = s.event) : t = { s with
    host := t.host, msix := t.msix, queues := t.queues, out := t.out, outWait := t.outWait, staging := t.staging, ops := t.ops,
    chans := t.chans, quads := t.quads, reqs := t.reqs, reqSeq := t.reqSeq, course := t.course, arch := t.arch, mason := t.mason } := by
  cases t
  simp only [State.event, Prod.mk.injEq] at h
  simp only [h]

/-- What is left of a state once the fields that PortT lists are given. -/
theorem eq_of_port {s t : State} (h : t.port = s.port) : t = { s with
    host := t.host, msix := t.msix, out := t.out, outWait := t.outWait, staging := t.staging, serial := t.serial } := by
  cases t
  simp only [State.port, Prod.mk.injEq] at h
  simp only [h]

/-! ## A step -/

theorem step_idle {s : State} (h : s.pending = []) : step s = .next { s with clock := s.clock + 8 } := by
  unfold step
  rw [h]

theorem step_front {s : State} {c : Instr} {rest : List Instr} (h : s.pending = c :: rest) :
    step s = exec c { s with pending := rest } := by
  unfold step
  rw [h]

/-- A step is an idle tick or the command at the front. -/
theorem step_cases {s t : State} (h : step s = .next t) : t = { s with clock := s.clock + 8 } ∨
    ∃ c rest, s.pending = c :: rest ∧ exec c { s with pending := rest } = .next t := by
  rcases hp : s.pending with _ | ⟨c, rest⟩
  · rw [step_idle hp] at h
    injection h with h
    exact .inl (hp ▸ h.symm)
  · exact .inr ⟨c, rest, rfl, (step_front hp).symm.trans h⟩

/-! ## The obligations -/

/-- Settles O1: step's own equation for a queue that is not empty. -/
theorem stepRunsFront : Obligations.StepRunsFront := fun _ _ _ => rfl

/-- Settles O2: an idle tick is step's equation, and every command keeps queue and time but a start, which may begin device time
anew. -/
theorem queueAndTime : Obligations.QueueAndTime := by
  refine ⟨fun s => step_idle, fun c rest s t hp h => ?_⟩
  rw [step_front hp] at h
  exact exec_queue_time h

/-- Settles O3: no command but a journal frame writes the Plinth, a frame's bytes keep its form, and the origin of device time
moves to the present at most. -/
theorem stepKeepsInv : Obligations.StepKeepsInv := by
  rintro s t ⟨hwf, hzero⟩ h
  obtain rfl | ⟨c, rest, -, h⟩ := step_cases h
  · exact ⟨hwf, Nat.le_add_right_of_le hzero⟩
  · refine ⟨exec_wf (s := { s with pending := rest }) hwf h, ?_⟩
    obtain ⟨-, hclock, hkept | ⟨-, hpresent⟩⟩ := exec_queue_time h
    · rw [hkept, hclock]
      exact Nat.le_add_right_of_le hzero
    · exact hpresent.le

/-- Settles O4: the Plinth is empty at reset. -/
theorem resetInv : Obligations.ResetInv := ⟨⟨rfl, Nat.le_refl _⟩, rfl, fun _ => rfl⟩

/-- Settles O5: every other command keeps locked tables, and outside a pair its events do not come about. -/
theorem tablesLocked : Obligations.TablesLocked := by
  intro c rest s t hp hs hr hlocked h
  rw [step_front hp] at h
  have hlock : t.lock = s.lock := by
    cases hc : c.rescues
    · exact exec_lock (s := { s with pending := rest }) hs hc hlocked h
    · obtain ⟨hst, hpair⟩ := hr hc
      rw [exec_rescues_alone (s := { s with pending := rest }) hc hst hpair] at h
      injection h with h
      exact h ▸ rfl
  exact ⟨congrArg Prod.fst hlock, (congrArg Prod.snd hlock).trans hlocked⟩

/-- Settles O6: each family's frame is the frame of every command in it. -/
theorem familyFrames : Obligations.FamilyFrames := by
  rintro c s S t rfl h
  refine ⟨fun hc => ?_, fun hc => eq_of_event (exec_event hc h), fun hc => eq_of_port (exec_port hc h)⟩
  have hfield := exec_field hc h
  simp only [State.field, Prod.mk.injEq] at hfield
  simp only [hfield, and_self]

end Machine
end Sys2Proof

/-!
The reset values (R120, R171, R214, R217, R237, R238, R253, R254, R347–R349, R389, R392, R415–R417, R509, R540, R557, R591): the
settlement of O7.
-/
namespace Sys2Proof.Machine
open Sys2Proof

theorem State.reset_chan (c : ChanId) : State.reset.chan c = Reset.chan := Vector.getElem_replicate ..
theorem State.reset_quad (q : QuadId) : State.reset.quad q = Reset.quad 1000 := Vector.getElem_replicate ..
theorem State.reset_chain (k : ChainId) : State.reset.chains[k] = Reset.chain := Vector.getElem_replicate ..
theorem State.reset_plumb (x : CtxId) : State.reset.plumb[x] = Reset.plumb x := Vector.getElem_ofFn ..
theorem State.reset_row (i : Fin 22) : State.reset.rows[i] = Reset.row := Vector.getElem_replicate ..

/-- The device word holds TAMB alone (R238). -/
theorem Reset.devw_fields : fld Reset.devw 8 56 = 0 ∧ fld Reset.devw 0 8 = if Config.codeAE then 105 else 85 := by
  unfold Reset.devw
  cases Config.codeAE <;> decide

/-- Settles O7: each word's fields are read off the word. -/
theorem resetValues : Obligations.ResetValues := by
  unfold Obligations.ResetValues
  dsimp only
  refine ⟨fun c => ?chan, fun q => ?quad, ?dev, by decide, by decide, fun k => ?chain, by decide, by decide, by decide,
    fun x => ?plumb, by decide, State.reset_row, rfl, rfl, rfl, rfl, rfl, rfl, rfl, rfl, rfl, rfl⟩
  case chan =>
    rw [State.reset_chan]
    decide
  case quad =>
    rw [State.reset_quad]
    exact ⟨by decide, rfl⟩
  case dev =>
    obtain ⟨hrest, htamb⟩ := Reset.devw_fields
    simp only [List.forall_mem_cons]
    exact ⟨hrest, htamb, nofun⟩
  case chain =>
    rw [State.reset_chain]
    decide
  case plumb =>
    rw [State.reset_plumb]
    revert x
    decide

end Sys2Proof.Machine

/-!
Rejections with REJ_FIELD (R422, R435, R465, R476, R580): a command whose fields fail their checks, an opcode, feature or action that
no row takes, and the settlement of O14.
-/
namespace Sys2Proof.Machine
open Sys2Proof

/-! ## A command whose fields fail -/

/-- The field check of a permitted command of queue q, with its effect where no field fails. -/
def judged (q : QueueId) (n : Word32) (bad : Desc → Option Nat) (body : Desc → State → State) (d : Desc) (s : State) : State :=
  match bad d with
  | some off => s.finish q n .rejField off
  | none => body d s

theorem judged_bad {q : QueueId} {n : Word32} {bad : Desc → Option Nat} {body : Desc → State → State} {d : Desc} {s : State}
    {off : Nat} (h : bad d = some off) : judged q n bad body d s = s.finish q n .rejField off := by
  unfold judged
  rw [h]

theorem State.adm_eq_judged (s : State) (n : Word32) (form : Desc → Bool) (needs : Desc → List (Nat × Nat))
    (bad : Desc → Option Nat) (body : Desc → State → State) :
    s.adm n form needs bad body = s.adm n form needs (fun _ => none) (judged 0 n bad body) := rfl

/-- An admin command that Mason carries out and whose field at off fails (R465). -/
theorem State.adm_rejected (s : State) (n : Word32) (d : Desc) (form : Desc → Bool) (needs : Desc → List (Nat × Nat))
    (bad : Desc → Option Nat) (body : Desc → State → State) {off : Nat} (hr : s.admRuns n d = true) (hf : form d = true)
    (hp : s.permits 0 (needs d) = true) (hb : bad d = some off) :
    s.adm n form needs bad body = s.finish 0 n .rejField off := by
  rw [State.adm_eq_judged, s.adm_runs n d form needs _ _ hr hf hp rfl, judged_bad hb]

/-- An I/O command that starts and whose field at off fails (R465). -/
theorem State.io_rejected (s : State) (q : QueueId) (n : Word32) (d : Desc) (form : Desc → Bool) (needs : Desc → List (Nat × Nat))
    (bad : Desc → Bool → Option Nat) (body : Desc → State → State) {off : Nat} (hr : s.ioRuns q n d = true) (hf : form d = true)
    (hp : s.permits (s.queue q).hctx.val (needs d) = true) (hb : bad d (s.queue q).profile.isSome = some off) :
    s.io q n form needs bad body = (s.started q n).finish q n .rejField off := by
  have hjudged : s.io q n form needs bad body = s.io q n form needs (fun _ _ => none)
      fun d u => judged q n (fun d => bad d (u.queue q).profile.isSome) body d u := rfl
  rw [hjudged, s.io_runs q n d form needs _ _ hr hf hp rfl, judged_bad]
  rwa [State.started_profile]

/-! ## Descriptors that no row takes -/

theorem unknownAdmin_opcode {d : Desc} (h : dOp d = 0 ∨ 0x0E < dOp d) : unknownAdmin d = some 0 := by
  have hop : isAdminOp (dOp d) = false := by
    simp only [isAdminOp, Bool.and_eq_false_iff, decide_eq_false_iff_not]
    omega
  simp [unknownAdmin, hop]

theorem unknownAdmin_feature {d : Desc} (hop : dOp d = 5) (h : settable (dNum d 4 2) = false) : unknownAdmin d = some 4 := by
  simp [unknownAdmin, isAdminOp, hop, h]

theorem unknownAdmin_action {d : Desc} (hop : dOp d = 9) (h : dNum d 4 1 = 0 ∨ 5 < dNum d 4 1) : unknownAdmin d = some 4 := by
  have hact : (decide (1 ≤ dNum d 4 1) && decide (dNum d 4 1 ≤ 5)) = false := by
    simp only [Bool.and_eq_false_iff, decide_eq_false_iff_not]
    omega
  simp [unknownAdmin, isAdminOp, hop, hact]

theorem unknownIo_opcode {d : Desc} (h : isIoOp (dOp d) = false) : unknownIo d = some 0 := by simp [unknownIo, h]

theorem State.ne_zero_of_ioRuns {s : State} {q : QueueId} {n : Word32} {d : Desc} (h : s.ioRuns q n d = true) : q ≠ 0 :=
  bne_iff_ne.mp (Bool.and_eq_true_iff.mp h).1

theorem unknownOpcode_admin {dt : Nat} {n : Word32} {d : Desc} {s S : State} {off : Nat} (hS : S = s.elapse dt)
    (hr : S.admRuns n d = true) (h : unknownAdmin d = some off) :
    exec (.unknownOpcode dt 0 n) s = .next (S.finish 0 n .rejField off) := by
  subst hS
  exact congrArg _ ((if_pos rfl).trans ((s.elapse dt).adm_rejected n d _ _ _ _ hr (Option.isSome_of_eq_some h) rfl h))

theorem unknownOpcode_io {dt : Nat} {q : QueueId} {n : Word32} {d : Desc} {s S : State} {off : Nat} (hS : S = s.elapse dt)
    (hr : S.ioRuns q n d = true) (h : unknownIo d = some off) :
    exec (.unknownOpcode dt q n) s = .next ((S.started q n).finish q n .rejField off) := by
  subst hS
  refine congrArg _ ((if_neg ?_).trans ((s.elapse dt).io_rejected q n d _ _ _ _ hr (Option.isSome_of_eq_some h) rfl h))
  exact fun hq => State.ne_zero_of_ioRuns hr (beq_iff_eq.mp hq)

/-- Settles O14: each such descriptor has the offset at which unknownAdmin or unknownIo rejects it. -/
theorem unknownOpcodes : Obligations.UnknownOpcodes := by
  intro dt n d s S off hS
  exact ⟨fun hr h => unknownOpcode_admin hS hr (unknownAdmin_opcode h),
    fun hr hop h => unknownOpcode_admin hS hr (unknownAdmin_feature hop h),
    fun hr hop h => unknownOpcode_admin hS hr (unknownAdmin_action hop h),
    fun q hr h => unknownOpcode_io hS hr (unknownIo_opcode h)⟩

end Sys2Proof.Machine

/-!
Good descriptors of admin and I/O commands (R433–R435, R465, R469), the queues' commands (R420, R452–R457, R473, R542, R545), and the
settlement of O8.
-/
namespace Sys2Proof.Machine
open Sys2Proof

/-! ## Good fields -/

section
variable {d : Desc} {op : Nat} {p c : Bool} {used : List (Nat × Nat)} {checks : List (Bool × Nat)}

theorem isOp_of_shaped (h : shaped d op p c used = true) : isOp op d = true := beq_iff_eq.mpr ((shaped_iff ..).mp h).1

theorem firstBad_of_shaped (h : shaped d op p c used = true) (hc : ∀ x ∈ checks, x.1 = false) :
    firstBad d p c used checks = none := (firstBad_none ..).mpr ⟨((shaped_iff ..).mp h).2, hc⟩

theorem dCspec_of_shaped (h : shaped d op p false used = true) : dCspec d = false :=
  dCspec_of_reserved d p used ((shaped_iff ..).mp h).2

/-- One field alone is checked, and fails. -/
theorem firstBad_single {off : Nat} (h : shaped d op p c used = true) : firstBad d p c used [(true, off)] = some off := by
  unfold firstBad
  rw [Option.isNone_iff_eq_none.mp ((shaped_iff ..).mp h).2]
  rfl

end

/-! ## QID (R420) -/

theorem badQid_iff (d : Desc) : badQid d = true ↔ dNum d 4 1 = 0 ∨ 63 < dNum d 4 1 := by simp [badQid]

theorem badQid_eq_false (d : Desc) (h1 : 1 ≤ dNum d 4 1) (h63 : dNum d 4 1 ≤ 63) : badQid d = false := by
  rw [← Bool.not_eq_true, badQid_iff]
  omega

theorem dQueue_ne_zero (d : Desc) (h1 : 1 ≤ dNum d 4 1) (h63 : dNum d 4 1 ≤ 63) : dQueue d ≠ 0 := by
  refine Fin.ne_of_val_ne ?_
  simp only [dQueue, Fin.val_zero]
  omega

theorem qidBad_bad {d : Desc} {op : Nat} {c : Bool} (h : shaped d op false c [(4, 1)] = true)
    (hq : dNum d 4 1 = 0 ∨ 63 < dNum d 4 1) : qidBad c d = some 4 := by
  unfold qidBad
  rw [(badQid_iff d).mpr hq, firstBad_single h]

theorem qidBad_good {d : Desc} {op : Nat} {c : Bool} (h : shaped d op false c [(4, 1)] = true) (h1 : 1 ≤ dNum d 4 1)
    (h63 : dNum d 4 1 ≤ 63) : qidBad c d = none :=
  firstBad_of_shaped h (by simp [badQid_eq_false d h1 h63])

/-! ## Queues that drain (R452, R457) -/

theorem State.modQueue_modQueue (s : State) (q : QueueId) (f g : Queue → Queue) :
    (s.modQueue q f).modQueue q g = s.modQueue q (g ∘ f) := by
  simp [State.modQueue, Vector.set_set]

/-- What finishDrains does for one of the started commands. -/
def State.drainStep (s : State) (o : Op) : State :=
  match o.kind with
  | .drain t del =>
    if (s.queue t).st != .draining && (s.queue t).flight.isEmpty then
      let s := if del then s.modQueue t fun _ => Reset.queue else s
      let s := { s with ops := s.ops.filter fun x => !(x.q == o.q && x.n == o.n && x.live == o.live) }
      if o.live then (s.completeRaw o.q o.n .done 0 s.now 0).drained o.q else s
    else s
  | _ => s

theorem State.finishDrains_eq (s : State) : s.finishDrains = s.ops.foldl State.drainStep s := rfl

/-- The started command is no QUEUE_QUIESCE or QUEUE_DELETE that drains its queue. -/
def Op.NoDrain (o : Op) : Prop := ∀ t del, o.kind ≠ .drain t del

theorem State.drainStep_noDrain (s : State) {o : Op} (h : o.NoDrain) : s.drainStep o = s := by
  unfold State.drainStep
  split
  · next t del hk => exact absurd hk (h t del)
  · rfl

/-- Behind commands that do not drain, the last one alone counts. -/
theorem State.finishDrains_last (s : State) (l : List Op) (o : Op) (hops : s.ops = l ++ [o]) (h : ∀ x ∈ l, x.NoDrain) :
    s.finishDrains = s.drainStep o := by
  rw [State.finishDrains_eq, hops, List.foldl_append,
    List.foldl_ext State.drainStep (fun u _ => u) s fun u x hx => u.drainStep_noDrain (h x hx), List.foldl_fixed]
  rfl

theorem State.drained_busy (s : State) (q : QueueId) (h : (s.queue q).flight ≠ []) : s.drained q = s :=
  if_pos (by simp [h])

theorem State.drained_idle (s : State) (q : QueueId) (hq : q ≠ 0) (hflight : (s.queue q).flight = [])
    (hst : (s.queue q).st = .draining) : s.drained q = s.modQueue q fun u => { u with st := .quiesced } := by
  simp [State.drained, hflight, hq, hst]

/-- A queue without buffers and waiting descriptors begins to drain. -/
theorem State.beginDrain_plain (s : State) (q : QueueId) (hbufs : (s.queue q).bufs = [])
    (hstaged : ∀ e ∈ (s.queue q).flight, e.stage ≠ .staged) :
    s.beginDrain q = ((s.modQueue q fun u => { u with st := .draining }).drained q).finishDrains := by
  have hnone : (s.queue q).flight.filter (fun e => e.stage == .staged) = [] := by
    simpa [List.filter_eq_nil_iff] using hstaged
  simp [State.beginDrain, hbufs, hnone]

@[simp] theorem State.addOp_queue (s : State) (q p : QueueId) (n : Word32) (k : OpKind) : (s.addOp q n k).queue p = s.queue p := rfl
@[simp] theorem State.freeMason_queue (s : State) (p : QueueId) : s.freeMason.queue p = s.queue p := rfl

/-- No command that has started is the admin command n. -/
def State.unstarted (s : State) (n : Word32) : Prop := ∀ o ∈ s.ops, (o.live && o.q == 0 && o.n == n) = false

theorem State.unstarted_of_admRuns {s : State} {n : Word32} {d : Desc} (h : s.admRuns n d = true) : s.unstarted n := by
  intro o ho
  unfold State.admRuns at h
  simpa only [Bool.not_eq_true'] using List.all_eq_true.mp (Bool.and_eq_true_iff.mp h).2 o ho

theorem State.filter_addOp (s : State) (n : Word32) (k : OpKind) (h : s.unstarted n) :
    (s.addOp 0 n k).ops.filter (fun x => !(x.q == 0 && x.n == n && x.live == true)) = s.ops := by
  simp only [State.addOp, List.filter_append]
  rw [List.filter_eq_self.mpr fun o ho => ?_]
  · simp
  · have := h o ho
    grind

/-- The drain of admin command n ends where its queue holds nothing any more. -/
theorem State.finishDrains_ends (s : State) (n : Word32) (k : QueueId) (del : Bool) (hops : ∀ o ∈ s.ops, o.NoDrain)
    (hn : s.unstarted n) (hst : (s.queue k).st ≠ .draining) (hflight : (s.queue k).flight = []) :
    (s.addOp 0 n (.drain k del)).finishDrains =
      (((if del then s.modQueue k fun _ => Reset.queue else s).completeRaw 0 n .done 0 s.now 0).drained 0) := by
  have hfilter := s.filter_addOp n (.drain k del) hn
  rw [State.finishDrains_last _ s.ops _ rfl hops]
  have hends : (((s.addOp 0 n (.drain k del)).queue k).st != .draining && ((s.addOp 0 n (.drain k del)).queue k).flight.isEmpty) =
      true := by
    rw [State.addOp_queue, hflight]
    simpa using hst
  refine (if_pos hends).trans ?_
  cases del
  · exact congrArg (fun l => (({ s with ops := l } : State).completeRaw 0 n .done 0 s.now 0).drained 0) hfilter
  · exact congrArg (fun l => (({ s.modQueue k fun _ => Reset.queue with ops := l } : State).completeRaw 0 n .done 0 s.now 0).drained 0)
      hfilter

/-- The drain of admin command n goes on while its queue drains. -/
theorem State.finishDrains_waits (s : State) (n : Word32) (k : QueueId) (del : Bool) (hops : ∀ o ∈ s.ops, o.NoDrain)
    (hst : (s.queue k).st = .draining) : (s.addOp 0 n (.drain k del)).finishDrains = s.addOp 0 n (.drain k del) := by
  rw [State.finishDrains_last _ s.ops _ rfl hops]
  refine if_neg ?_
  rw [State.addOp_queue, hst]
  exact Bool.false_ne_true

section
variable (s : State) (n : Word32) (k : QueueId) (del : Bool) (hops : ∀ o ∈ s.ops, o.NoDrain) (hbufs : (s.queue k).bufs = [])
include hops hbufs

/-- A queue with nothing in flight drains at once. -/
theorem State.drain_empty (hk : k ≠ 0) (hn : s.unstarted n) (hflight : (s.queue k).flight = []) :
    ((s.addOp 0 n (.drain k del)).freeMason).beginDrain k =
      (((if del then s.freeMason.modQueue k fun _ => Reset.queue else s.freeMason.modQueue k fun u => { u with st := .quiesced })
        ).completeRaw 0 n .done 0 s.now 0).drained 0 := by
  let T := (s.freeMason.modQueue k fun u => { u with st := .draining }).modQueue k fun u => { u with st := .quiesced }
  have hT : T = s.freeMason.modQueue k fun u => { u with st := .quiesced } := State.modQueue_modQueue ..
  rw [State.beginDrain_plain (s.addOp 0 n (.drain k del)).freeMason k hbufs (by simp [hflight]),
    State.drained_idle _ _ hk (by simpa using hflight) (by simp)]
  refine (T.finishDrains_ends n k del hops hn (by simp [T]) (by simpa [T] using hflight)).trans ?_
  rw [hT, State.modQueue_modQueue]
  rfl

/-- A queue with started commands alone in flight drains while they run. -/
theorem State.drain_busy (hflight : (s.queue k).flight ≠ []) (hstarted : ∀ e ∈ (s.queue k).flight, e.stage ≠ .staged) :
    ((s.addOp 0 n (.drain k del)).freeMason).beginDrain k =
      ((s.addOp 0 n (.drain k del)).freeMason).modQueue k fun u => { u with st := .draining } := by
  rw [State.beginDrain_plain (s.addOp 0 n (.drain k del)).freeMason k hbufs hstarted,
    State.drained_busy _ _ (by simpa using hflight)]
  exact State.finishDrains_waits (s.freeMason.modQueue k fun u => { u with st := .draining }) n k del hops (by simp)

end

/-- A deletion of a queue that does not run leaves it ABSENT at once where it holds nothing. -/
theorem State.delete_empty (s : State) (n : Word32) (k : QueueId) (hops : ∀ o ∈ s.ops, o.NoDrain) (hn : s.unstarted n)
    (hst : (s.queue k).st ≠ .draining) (hflight : (s.queue k).flight = []) :
    ((s.addOp 0 n (.drain k true)).freeMason).finishDrains =
      ((s.freeMason.modQueue k fun _ => Reset.queue).completeRaw 0 n .done 0 s.now 0).drained 0 :=
  s.freeMason.finishDrains_ends n k true hops hn hst hflight

/-! ## The commands -/

section
variable {dt : Nat} {n : Word32} {d : Desc} {s S : State} (hS : S = s.elapse dt) (hruns : S.admRuns n d = true)
  (hperm : S.permits 0 [(1, 4)] = true)
include hS hruns hperm

theorem queueQuiesce_badQid (hs : shaped d 4 false false [(4, 1)] = true) (hq : dNum d 4 1 = 0 ∨ 63 < dNum d 4 1) :
    exec (.queueQuiesce dt n) s = .next (S.finish 0 n .rejField 4) := by
  subst hS
  exact congrArg Host.Outcome.next (State.adm_rejected _ n d _ queueNeeds _ _ hruns
    (by rw [isOp_of_shaped hs, dCspec_of_shaped hs]; rfl) hperm (qidBad_bad hs hq))

theorem queueDelete_badQid (hs : shaped d 3 false false [(4, 1)] = true) (hq : dNum d 4 1 = 0 ∨ 63 < dNum d 4 1) :
    exec (.queueDelete dt n) s = .next (S.finish 0 n .rejField 4) := by
  subst hS
  exact congrArg Host.Outcome.next (State.adm_rejected _ n d _ queueNeeds _ _ hruns (isOp_of_shaped hs) hperm (qidBad_bad hs hq))

variable (h1 : 1 ≤ dNum d 4 1) (h63 : dNum d 4 1 ≤ 63)
include h1 h63

theorem queueQuiesce_runs (hs : shaped d 4 false false [(4, 1)] = true) :
    exec (.queueQuiesce dt n) s = .next (if (S.queue (dQueue d)).st != .active then S.finish 0 n .rejState 0
      else ((S.addOp 0 n (.drain (dQueue d) false)).freeMason).beginDrain (dQueue d)) := by
  subst hS
  exact congrArg Host.Outcome.next (State.adm_runs _ n d _ queueNeeds _ _ hruns
    (by rw [isOp_of_shaped hs, dCspec_of_shaped hs]; rfl) hperm (qidBad_good hs h1 h63))

theorem queueResume_runs (hs : shaped d 4 false true [(4, 1)] = true) (hc : dCspec d = true) :
    exec (.queueResume dt n) s = .next (if (S.queue (dQueue d)).st != .quiesced then S.finish 0 n .rejState 0
      else (S.modQueue (dQueue d) fun u => { u with st := .active }).finish 0 n .done 0) := by
  subst hS
  exact congrArg Host.Outcome.next (State.adm_runs _ n d _ queueNeeds _ _ hruns
    (by rw [isOp_of_shaped hs, hc]; rfl) hperm (qidBad_good hs h1 h63))

theorem queueDelete_runs (hs : shaped d 3 false false [(4, 1)] = true) :
    exec (.queueDelete dt n) s = .next (
      let T := (S.addOp 0 n (.drain (dQueue d) true)).freeMason
      if (S.queue (dQueue d)).st == .absent then S.finish 0 n .rejState 0 else
      match (S.queue (dQueue d)).st with
      | .active => T.beginDrain (dQueue d)
      | .error => ((S.queue (dQueue d)).bufs.foldl
          (fun s b => s.retire (dQueue d) b (if b.used == 0 then .abortedQuiesce else .done)) T).finishDrains
      | _ => T.finishDrains) := by
  subst hS
  exact congrArg Host.Outcome.next (State.adm_runs _ n d _ queueNeeds _ _ hruns (isOp_of_shaped hs) hperm (qidBad_good hs h1 h63))

theorem queueCreate_runs (hs : shaped d 2 false false [(4, 9), (14, 2), (16, 16)] = true) (h5 : dNum d 5 1 ≤ 3)
    (h6 : 1 ≤ dNum d 6 1) (h7 : dNum d 7 1 ≤ 63) (h8 : 4 ≤ dNum d 8 1) (h8' : dNum d 8 1 ≤ 16) (h9 : 4 ≤ dNum d 9 1)
    (h9' : dNum d 9 1 ≤ 16) (h11 : dNum d 11 1 = 0 ∨ 0x80 ≤ dNum d 11 1 ∧ dNum d 11 1 ≤ 0x87) (h12 : dNum d 12 1 ≤ 7)
    (h16 : dNum d 16 1 % 64 = 0) (h24 : dNum d 24 1 % 64 = 0) :
    exec (.queueCreate dt n) s = .next (
      if (S.queue (dQueue d)).st ≠ .absent ∨ ∃ x, createProfile d = some x ∧ plPoly S.plumb[x].word ≠ 3 then
        S.finish 0 n .rejState 0
      else (S.modQueue (dQueue d) fun _ => createdQueue d).finish 0 n .done 0) := by
  subst hS
  have hgood : createBad d = none := by
    refine firstBad_of_shaped hs ?_
    simp [badQid_eq_false d h1 h63, h16, h24]
    omega
  refine congrArg Host.Outcome.next ((State.adm_runs _ n d _ queueNeeds _ _ hruns (isOp_of_shaped hs) hperm hgood).trans ?_)
  refine if_congr ?_ rfl rfl
  cases createProfile d <;> simp

end

/-- Settles O8: each command's outcome is the law of its operation above. -/
theorem queueCommands : Obligations.QueueCommands := by
  unfold Obligations.QueueCommands
  rintro dt n d s S k hS rfl hruns hperm
  refine ⟨queueQuiesce_badQid hS hruns hperm, queueDelete_badQid hS hruns hperm, fun h1 h63 => ?_⟩
  have hk := dQueue_ne_zero d h1 h63
  have hn := State.unstarted_of_admRuns hruns
  refine ⟨?create, fun hs => ?quiesce, fun hs hc => ?resume, fun hs => ?delete, fun hops hbufs => ⟨fun hflight => ⟨fun hs hst => ?quiesced,
    fun hs hst => ?deleted⟩, fun hflight hstarted hst => ⟨fun hs => ?draining, fun hs => ?deleting⟩⟩⟩
  case create =>
    intro hs h5 h6 h7 h8 h8' h9 h9' h11 h12 h16 h24
    rw [queueCreate_runs hS hruns hperm h1 h63 hs h5 h6 h7 h8 h8' h9 h9' h11 h12 h16 h24]
    refine ⟨fun hprofile hst => ⟨createdQueue d, congrArg _ (if_neg ?_), ?_⟩, fun h => congrArg _ (if_pos h)⟩
    · rintro (h | ⟨x, hx, hpoly⟩)
      · exact h hst
      · exact hpoly (hprofile x hx)
    · refine ⟨rfl, Nat.mod_eq_of_lt (by omega), rfl, Nat.mod_eq_of_lt (by omega), rfl, rfl, rfl, rfl, rfl,
        Nat.mod_eq_of_lt (by omega), rfl, rfl, rfl, rfl, rfl, rfl, rfl, rfl, rfl⟩
  case quiesce =>
    rw [queueQuiesce_runs hS hruns hperm h1 h63 hs]
    exact ⟨fun h => congrArg _ (if_pos (bne_iff_ne.mpr h)), fun h => congrArg _ (if_neg (by simp [h]))⟩
  case resume =>
    rw [queueResume_runs hS hruns hperm h1 h63 hs hc]
    exact ⟨fun h => congrArg _ (if_neg (by simp [h])), fun h => congrArg _ (if_pos (bne_iff_ne.mpr h))⟩
  case delete =>
    rw [queueDelete_runs hS hruns hperm h1 h63 hs]
    exact ⟨fun h => congrArg _ (if_pos (beq_iff_eq.mpr h)), fun h => by simp [h]⟩
  case quiesced =>
    rw [queueQuiesce_runs hS hruns hperm h1 h63 hs, if_neg (by simp [hst])]
    exact congrArg _ (S.drain_empty n _ false hops hbufs hk hn hflight)
  case deleted =>
    rw [queueDelete_runs hS hruns hperm h1 h63 hs]
    rcases hst with hst | hst | hst
    · simp only [hst]
      exact congrArg _ (S.drain_empty n _ true hops hbufs hk hn hflight)
    · simp only [hst]
      exact congrArg _ (S.delete_empty n _ hops hn (by simp [hst]) hflight)
    · simp only [hst, hbufs]
      exact congrArg _ (S.delete_empty n _ hops hn (by simp [hst]) hflight)
  case draining =>
    rw [queueQuiesce_runs hS hruns hperm h1 h63 hs, if_neg (by simp [hst])]
    exact congrArg _ (S.drain_busy n _ false hops hbufs hflight hstarted)
  case deleting =>
    rw [queueDelete_runs hS hruns hperm h1 h63 hs]
    simp only [hst]
    exact congrArg _ (S.drain_busy n _ true hops hbufs hflight hstarted)

end Sys2Proof.Machine

/-!
FEATURE_SET (R476, R477): when a good word takes effect, SET_QUADRANT_RESET and SET_VAULT_LAYOUT (R98, R389–R391, R551, R641), and
the settlement of O12.
-/
namespace Sys2Proof.Machine
open Sys2Proof

/-! ## A FEATURE_SET that Mason carries out -/

theorem State.fset_runs (s : State) (n : Word32) (d : Desc) (fid : Nat) (selBad valBad : Desc → Bool) (body : Desc → State → State)
    (hr : s.admRuns n d = true) (hp : s.permits 0 [(0, 2)] = true) (hs : setsFeature d fid = true) (hsel : selBad d = false)
    (hval : valBad d = false) : s.fset n fid selBad valBad body = body d s := by
  obtain ⟨hshaped, hfid⟩ := Bool.and_eq_true_iff.mp hs
  refine s.adm_runs n d _ fsetNeeds _ _ hr ?_ hp (firstBad_of_shaped hshaped (by simp [hsel, hval]))
  rw [isOp_of_shaped hshaped, hfid]
  rfl

/-- The quadrants that SEL names, in ascending order. -/
theorem selQuads_eq (d : Desc) : selQuads d = (List.finRange 4).filter (selNames d) := by
  unfold selQuads
  split
  · next h => exact (List.filter_eq_self.mpr fun q _ => Bool.or_eq_true_iff.mpr (.inl h)).symm
  · next h =>
    refine List.filter_congr fun q _ => ?_
    have hall : (selOf d == 0xFFFF) = false := Bool.eq_false_iff.mpr h
    rw [selNames, hall, Bool.false_or]
    exact Bool.beq_comm

/-! ## SET_QUADRANT_RESET (R98) -/

theorem setQuadrantReset_runs {dt : Nat} {n : Word32} {d : Desc} {s S : State} {q : QuadId} {qs : List QuadId} (hS : S = s.elapse dt)
    (hr : S.admRuns n d = true) (hp : S.permits 0 [(0, 2)] = true) (hs : setsFeature d 2 = true) (hval : d64 d 8 = 1)
    (hq : selQuads d = q :: qs) :
    exec (.setQuadrantReset dt n) s = .next (
      if (q :: qs).any fun q => (S.quad q).armed || S.visoLost || S.resetRuns q then S.finish 0 n .rejState 0
      else ((S.addOp 0 n (.quadReset (q :: qs))).freeMason).quadResetStart q) := by
  subst hS
  refine congrArg Host.Outcome.next ((State.fset_runs _ n d 2 _ _ _ hr hp hs ?_ ?_).trans ?_)
  · rw [selQuadBad, hq]
    rfl
  · simp [dVal, hval]
  · dsimp only
    rw [hq]

/-! ## SET_VAULT_LAYOUT (R389–R391, R551) -/

theorem State.anyIoQueue_eq_false (s : State) (h : ∀ q : QueueId, q ≠ 0 → (s.queue q).st = .absent) : s.anyIoQueue = false := by
  refine List.any_eq_false.mpr fun u hu => ?_
  obtain ⟨i, hi, rfl⟩ := List.mem_iff_getElem.mp hu
  simp only [List.length_drop, Vector.length_toList] at hi
  have hst := h ⟨i + 1, by omega⟩ (Fin.ne_of_val_ne (by simp))
  simp only [State.queue, Fin.getElem_fin] at hst
  simp [hst]

theorem State.drainRx_vault (s : State) : s.drainRx.vault = s.vault := by
  have h := s.drainRx_port
  simp only [State.port, Prod.mk.injEq] at h
  simp only [h]

/-- What SET_VAULT_LAYOUT has left before the configuration change is counted. -/
def State.withLayout (s : State) (w : Word64) : State :=
  let s := s.staging.foldl (fun s r => s.discardRecord r.1) s
  let openRecs := if s.serial.openRec.isEmpty then 0 else 1
  let s := (s.modMason fun m => { m with resetDiscards := m.resetDiscards + openRecs }).modSerial fun p => { p with openRec := [] }
  let s := { s with vault := { s.vault with layout := w }, staging := [] }.drainRx
  (s.modArch fun a => { a with st := .recording, left := 0, slots := [], nextSeq := 0, waiter := none }).recheck

theorem State.withLayout_layout (s : State) (w : Word64) : (s.withLayout w).vault.layout = w :=
  congrArg Vault.layout (State.drainRx_vault _)

theorem setVaultLayout_runs {dt : Nat} {n : Word32} {d : Desc} {s S : State} (hS : S = s.elapse dt)
    (hr : S.admRuns n d = true) (hp : S.permits 0 [(0, 2)] = true) (hs : setsFeature d 9 = true) (hsel : selOf d = 0)
    (hval : laBad (d64 d 8) = false) (hq : ∀ q : QueueId, q ≠ 0 → (S.queue q).st = .absent) :
    exec (.setVaultLayout dt n) s = .next ((S.withLayout (d64 d 8)).configuredDone n) := by
  subst hS
  refine congrArg Host.Outcome.next ((State.fset_runs _ n d 9 _ _ _ hr hp hs ?_ hval).trans ?_)
  · simp only [selZero, show dSel d = 0 from hsel, bne_self_eq_false]
  · exact if_neg (Bool.eq_false_iff.mp (State.anyIoQueue_eq_false _ hq))

/-- Settles O12: the reset begins where no named quadrant bars it, and the layout is the word with every check value afresh. -/
theorem quadrantResetAndLayout : Obligations.QuadrantResetAndLayout := by
  intro dt n d s S hS hr hp
  refine ⟨fun hs hval q qs hq => ?_, fun hs hsel hval hq => ⟨S.withLayout (d64 d 8), setVaultLayout_runs hS hr hp hs hsel hval hq,
    S.withLayout_layout _, rfl, rfl, rfl, rfl, rfl, rfl⟩⟩
  rw [setQuadrantReset_runs hS hr hp hs hval ((selQuads_eq d).trans hq)]
  refine congrArg _ (if_congr ?_ rfl rfl)
  simp only [List.any_eq_true, Bool.or_eq_true, or_assoc]

end Sys2Proof.Machine

/-!
IDENTIFY, LOG_READ, ACCESS_LOAD, ACCESS_LOCK and CHECKPOINT_NOW (R3, R472, R475, R516, R595, R596), the firmware store and ATTEST
(R475, R576, R579, R580, R583, R585, R588), and the settlements of O9 and O13.
-/
namespace Sys2Proof.Machine
open Sys2Proof

theorem now_of_keep {s t : State} (h : s.keep = t.keep) : s.now = t.now := by
  simp only [State.keep, Prod.mk.injEq] at h
  obtain ⟨-, hclock, hzero, hpor, -⟩ := h
  simp only [State.now, hclock, hzero, hpor]

@[simp] theorem State.emit_now (s : State) (o : HostOut) : (s.emit o).now = s.now := now_of_keep (State.emit_keep s o)

/-- The effect of a good admin command: its descriptor is shaped, permitted, and no field check holds. -/
theorem State.adm_shaped (s : State) (n : Word32) (d : Desc) (op : Nat) (c : Bool) (used : List (Nat × Nat))
    (checks : Desc → List (Bool × Nat)) (needs : Desc → List (Nat × Nat)) (body : Desc → State → State)
    (hr : s.admRuns n d = true) (hs : shaped d op false c used = true) (hp : s.permits 0 (needs d) = true)
    (hc : ∀ x ∈ checks d, x.1 = false) :
    s.adm n (isOp op) needs (fun d => firstBad d false c used (checks d)) body = body d s :=
  s.adm_runs n d _ needs _ _ hr (isOp_of_shaped hs) hp (firstBad_of_shaped hs hc)

/-! ## Queries and locks -/

section
variable {dt : Nat} {n : Word32} {d : Desc} {s S : State} (hS : S = s.elapse dt) (hr : S.admRuns n d = true)
include hS hr

theorem identify_runs (hs : shaped d 1 false false [] = true) :
    exec (.identify dt n) s = .next (S.complete 0 n .done 0 S.now S.identifyResult) := by
  subst hS
  exact congrArg Host.Outcome.next (State.adm_shaped _ n d 1 false [] (fun _ => []) _ _ hr hs rfl (by simp))

/-- The event log is not read past its end, and one entry at least is copied. -/
theorem logRead_runs (hs : shaped d 7 false false [(4, 1), (8, 4), (16, 8), (24, 4)] = true) (hp : S.permits 0 [(0x14, 1)] = true)
    (h4 : dNum d 4 1 = 0) (h24 : dNum d 24 4 % 32 = 0) (hne : S.logEntries d ≠ []) :
    exec (.logRead dt n) s = .next ((S.emit (.data (d64 d 16) (S.logEntries d).flatten)).complete 0 n .done 0 S.now
      (resultOf (leBytes 4 (S.logEntries d).length ++ leBytes 4 (dNum d 8 4 + (S.logEntries d).length)))) := by
  subst hS
  refine congrArg Host.Outcome.next ((State.adm_shaped _ n d 7 false _
    (fun d => [(1 < dNum d 4 1, 4), (dNum d 24 4 % 32 != 0, 24)]) (fun _ => [(0x14, 1)]) _ hr hs hp (by simp [h4, h24])).trans ?_)
  dsimp only
  rw [if_neg (by simpa using hne), State.emit_now]

theorem accessLoad_runs (hs : shaped d 0xB false false [(4, 1), (8, 8), (16, 4)] = true) (hp : S.permits 0 [(2, 4)] = true)
    (hlen : dNum d 4 1 ∈ targets ∧ dNum d 16 4 = 8 ∨ dNum d 4 1 = 0xFF ∧ dNum d 16 4 = 176) :
    exec (.accessLoad dt n) s = .next (if S.locked then S.finish 0 n .rejState 0
      else (S.addOp 0 n .data).emit (.dataRead (d64 d 8) (dNum d 16 4))) := by
  subst hS
  refine congrArg Host.Outcome.next (State.adm_shaped _ n d 0xB false _
    (fun d => [(!(targets.contains (dNum d 4 1) || dNum d 4 1 == 0xFF), 4), (dNum d 16 4 != (if dNum d 4 1 == 0xFF then 176 else 8), 16)])
    (fun _ => [(2, 4)]) _ hr hs hp ?_)
  have hall : 0xFF ∉ targets := by decide
  rcases hlen with ⟨ht, hl⟩ | ⟨ht, hl⟩
  · have hne : dNum d 4 1 ≠ 0xFF := fun h => hall (h ▸ ht)
    simp [ht, hl, hne]
  · simp [ht, hl]

theorem accessLock_runs (hs : shaped d 0xC false false [] = true) (hp : S.permits 0 [(2, 4)] = true) :
    exec (.accessLock dt n) s = .next (if S.locked then S.finish 0 n .rejState 0
      else ({ S with locked := true }.configured none).finish 0 n .done 0) := by
  subst hS
  exact congrArg Host.Outcome.next (State.adm_shaped _ n d 0xC false [] (fun _ => []) (fun _ => [(2, 4)]) _ hr hs hp (by simp))

theorem checkpointNow_runs (hs : shaped d 0xE false false [] = true) (hp : S.permits 0 [(0x20, 4)] = true)
    (hj : S.journals = true) :
    exec (.checkpointNow dt n) s = .next (((S.addOp 0 n .checkpoint).freeMason).modPair fun p =>
        { p with capNow := true, cpWaiters := p.cpWaiters ++ [n] }) := by
  subst hS
  refine congrArg Host.Outcome.next ((State.adm_shaped _ n d 0xE false [] (fun _ => []) pairNeeds _ hr hs hp (by simp)).trans ?_)
  exact if_neg (by simp [hj])

end

theorem State.identifyResult_eq (s : State) : s.identifyResult = resultOf ([0xB1,
    BitVec.ofNat 8 (if s.mason.stage = 6 then s.mason.image.vmaj.toNat else 0)] ++
    leBytes 2 (if s.mason.stage = 6 then s.mason.image.vmin.toNat else 0) ++
    [s.straps.setWidth 8, Config.romVer, if Config.codeAE then 1 else 0, 0] ++ leBytes 8 Config.serial.toNat) := by
  have hcode : BitVec.ofNat 8 codeByte = if Config.codeAE then 1 else 0 := by
    unfold codeByte
    cases Config.codeAE <;> rfl
  simp only [State.identifyResult, State.fwReady, beq_iff_eq, hcode]

theorem State.logEntries_eventLog (s : State) (d : Desc) (h : dNum d 4 1 = 0) :
    s.logEntries d = ((s.mason.log.drop (dNum d 8 4)).take (dNum d 24 4 / 32)).map logBytes := by
  simp [State.logEntries, h, List.map_drop, List.map_take]

theorem State.journals_iff (s : State) : s.journals = true ↔ s.pair.st = .active ∧ s.pair.zaf.present = true := by
  simp [State.journals, State.pairActive_iff]

/-- Settles O9: each command is the law of its operation above. -/
theorem adminQueriesAndLocks : Obligations.AdminQueriesAndLocks := by
  intro dt n d s S hS hr
  refine ⟨fun hs => ?_, fun hs hp h4 h24 hstart hlen => ?_, accessLoad_runs hS hr, accessLock_runs hS hr,
    fun hs hp hst hzaf => checkpointNow_runs hS hr hs hp (S.journals_iff.mpr ⟨hst, hzaf⟩)⟩
  · rw [identify_runs hS hr hs, S.identifyResult_eq]
  · have hentries := S.logEntries_eventLog d h4
    refine hentries ▸ logRead_runs hS hr hs hp h4 h24 ?_
    rw [hentries]
    refine List.ne_nil_of_length_pos ?_
    simp only [List.length_map, List.length_take, List.length_drop]
    omega

/-! ## The firmware store (R475, R576, R579, R580, R583) -/

theorem State.romHere_iff (s : State) : s.romHere = true ↔ s.mason.stage = 4 := beq_iff_eq

theorem State.romHere_eq_false_iff (s : State) : s.romHere = false ↔ s.mason.stage ≠ 4 := beq_eq_false_iff_ne

/-- An image that passes the checks of R576. -/
theorem State.verified_ok (s : State) (n : Word32) (ok : State → State) (h : imFault s.commitImage s.mason.arcc = 0) :
    s.verified n ok = ok s := if_neg (by simp [h])

/-- An image that fails one of them. -/
theorem State.verified_fault (s : State) (n : Word32) (ok : State → State) {f : Nat} (hf : f ≠ 0)
    (h : imFault s.commitImage s.mason.arcc = f) : s.verified n ok = s.finish 0 n .rejCheck (0xF000 + f) := by
  subst h
  exact if_pos (bne_iff_ne.mpr hf)

theorem State.commitImage_rom (s : State) (h : s.mason.stage = 4) : s.commitImage = s.mason.sram :=
  if_pos (s.romHere_iff.mpr h)

theorem State.commitImage_staged (s : State) (h : s.mason.stage ≠ 4) :
    s.commitImage = if s.mason.stagedOk then s.mason.staged else [] :=
  if_neg (Bool.eq_false_iff.mp (s.romHere_eq_false_iff.mpr h))

/-- An FW_COMMIT whose action the one that serves carries out. -/
theorem State.fwCommit_served (s : State) (n : Word32) (d : Desc) (action : Nat) (served : Bool) (body : State → State)
    (hr : s.admRuns n d = true) (hs : shaped d 9 false false [(4, 1)] = true) (hp : s.permits 0 [(0x40, 4)] = true)
    (ha : dNum d 4 1 = action) (h : served = true) : s.fwCommit n action served body = body s :=
  s.adm_runs n d _ commitNeeds _ _ hr (by rw [isOp_of_shaped hs, ha, beq_self_eq_true]; rfl) hp
    (firstBad_of_shaped hs (by simp [h]))

theorem fwLoad_runs {dt : Nat} {n : Word32} {d : Desc} {s S : State} (hS : S = s.elapse dt) (hr : S.admRuns n d = true)
    (hs : shaped d 8 false false [(4, 4), (8, 8), (16, 4)] = true) (hp : S.permits 0 [(0x40, 2)] = true)
    (hend : dNum d 4 4 + dNum d 16 4 ≤ 448 * 1024) (hlen : 1 ≤ dNum d 16 4) :
    exec (.fwLoad dt n) s = .next (
      if dNum d 4 4 = 0 ∨ dNum d 4 4 = (if S.mason.stage = 4 then S.mason.sram else S.mason.staged).length
        then (S.addOp 0 n .data).emit (.dataRead (d64 d 8) (dNum d 16 4)) else S.finish 0 n .rejState 0) := by
  subst hS
  refine congrArg Host.Outcome.next ((State.adm_shaped _ n d 8 false _ (fun d => [(448 * 1024 < dNum d 4 4 + dNum d 16 4, 4),
    (dNum d 16 4 < 1 || 1048576 < dNum d 16 4, 16)]) (fun _ => [(0x40, 2)]) _ hr hs hp ?_).trans ?_)
  · simp
    omega
  have hloadEnd : (s.elapse dt).loadEnd =
      (if (s.elapse dt).mason.stage = 4 then (s.elapse dt).mason.sram else (s.elapse dt).mason.staged).length := by
    unfold State.loadEnd State.romHere
    simp only [beq_iff_eq]
    split <;> rfl
  rw [← hloadEnd, ← ite_not]
  refine if_congr ?_ rfl rfl
  simp [or_iff_not_imp_left]

/-! ## ATTEST (R475, R585–R588) -/

theorem attest_runs {dt : Nat} {n : Word32} {d : Desc} {s S : State} {overtaken : Nat} (hS : S = s.elapse dt)
    (hr : S.admRuns n d = true) (hs : shaped d 0xA false false [(4, 32), (40, 12)] = true) (hp : S.permits 0 [(2, 1)] = true)
    (hrng : S.mason.rngOk = true) (hlen : 304 + certTail.length ≤ dNum d 48 4) (hover : overtaken ≤ 7) :
    let report := S.reportHead d ++ S.reportSig (S.reportHead d) ++ certTail
    exec (.attest dt n overtaken) s = .next ((S.useFresh.emit (.data (d64 d 40) report)).complete 0 n .done 0 S.now
      (resultOf (leBytes 4 report.length))) := by
  subst hS
  refine congrArg Host.Outcome.next ((State.adm_shaped _ n d 0xA false _ (fun _ => []) (fun _ => [(2, 1)]) _ hr hs hp
    (by simp)).trans ?_)
  dsimp only
  rw [if_neg (by omega), if_neg (by simpa using hrng), if_neg (by omega)]

/-- Settles O13: each command is the law of its operation above, and an image's fault decides what a verification leaves. -/
theorem firmwareCommands : Obligations.FirmwareCommands := by
  intro dt n d s S hS hr
  refine ⟨fun hs hp hend hlen => fwLoad_runs hS hr hs hp hend hlen, fun hs hp => ?_,
    fun overtaken hs hp hrng hlen hover => attest_runs hS hr hs hp hrng hlen hover⟩
  have hcommit (i : Instr) (action : Nat) (served : Bool) (body : State → State)
      (hi : exec i s = .next (S.fwCommit n action served body)) (ha : dNum d 4 1 = action) (h : served = true) :
      exec i s = .next (body S) :=
    hi.trans (congrArg _ (S.fwCommit_served n d action served body hr hs hp ha h))
  subst hS
  refine ⟨fun hst himage => ⟨fun ha => ?start, fun ha => ?installRom⟩, fun hst ha => ?advance, fun hst himage => ⟨fun ha => ?verify,
    fun ha => ?install, fun ha => ?activate⟩, fun f hf hst hfault ha => ?faulty⟩
  case start =>
    rw [← State.commitImage_rom _ hst] at himage
    exact (hcommit (.fwCommitStart dt n) 1 _ _ rfl ha ((State.romHere_iff _).mpr hst)).trans
      (congrArg _ (State.verified_ok _ n _ himage))
  case installRom =>
    rw [← State.commitImage_rom _ hst] at himage
    exact (hcommit (.fwCommitInstall dt n) 3 _ _ rfl ha rfl).trans (congrArg _ (State.verified_ok _ n _ himage))
  case advance =>
    exact hcommit (.fwCommitAdvance dt n) 5 _ _ rfl ha (by rw [(State.romHere_eq_false_iff _).mpr hst]; rfl)
  case verify =>
    rw [← State.commitImage_staged _ hst] at himage
    exact (hcommit (.fwCommitVerify dt n) 2 _ _ rfl ha (by rw [(State.romHere_eq_false_iff _).mpr hst]; rfl)).trans
      (congrArg _ (State.verified_ok _ n _ himage))
  case install =>
    rw [← State.commitImage_staged _ hst] at himage
    exact (hcommit (.fwCommitInstall dt n) 3 _ _ rfl ha rfl).trans (congrArg _ (State.verified_ok _ n _ himage))
  case activate =>
    rw [← State.commitImage_staged _ hst] at himage
    exact (hcommit (.fwCommitActivate dt n) 4 _ _ rfl ha (by rw [(State.romHere_eq_false_iff _).mpr hst]; rfl)).trans
      (congrArg _ (State.verified_ok _ n _ himage))
  case faulty =>
    rw [← State.commitImage_staged _ hst] at hfault
    exact (hcommit (.fwCommitVerify dt n) 2 _ _ rfl ha (by rw [(State.romHere_eq_false_iff _).mpr hst]; rfl)).trans
      (congrArg _ (State.verified_fault _ n _ hf hfault))

end Sys2Proof.Machine

/-!
How Mason's firmware comes to run and restarts (R99–R101, R103, R233, R576, R601–R604, R641, R644): the loading of a flash image
step by step, the restart and the commands' start, and the settlement of O15.
-/
namespace Sys2Proof.Machine
open Sys2Proof

/-- An event that comes about. -/
theorem next_of_when {o : Host.Outcome State Fault Refusal} {S T : State} {b : Bool} {f : State → State}
    (ho : o = .next (S.when b f)) (hb : b = true) (hf : f S = T) : o = .next T :=
  ho.trans (congrArg _ ((State.when_of_true S f hb).trans hf))

/-! ## The loading of a flash image (R99, R100, R560, R576, R577, R644) -/

section
variable {dt : Nat} {s S : State} (hS : S = s.elapse dt)
include hS

section
variable (hloads : S.romLoads = true)
include hloads

theorem imageReadComplete_tables (t : Option FlashTable) (hst : S.mason.stage.toNat ≤ 1) :
    exec (.imageReadComplete dt (.tables t)) s = .next (S.loadTables t) := by
  subst hS
  exact next_of_when rfl hloads (if_pos hst)

theorem imageReadComplete_header (h : List Byte) (hst : S.mason.stage = 2) (hread : S.mason.reading = []) (hlen : h.length = 256) :
    exec (.imageReadComplete dt (.header h)) s = .next (S.loadHeader h) := by
  subst hS
  exact next_of_when rfl hloads (if_pos (by simp only [hst, hread, hlen]; rfl))

theorem imageReadComplete_cert (c : List Byte) (hst : S.mason.stage = 2) (hread : S.mason.reading.length = 256)
    (hlen : c.length = imCert S.mason.reading) :
    exec (.imageReadComplete dt (.cert c)) s = .next ((S.modSerial fun p => p.flashRead 256 c.length).modMason fun m =>
      if Config.certOk c then { m with reading := m.reading ++ c } else { m with stage := 4, fault := 4 }) := by
  subst hS
  refine next_of_when rfl hloads ((if_pos (by rw [hst, hread, hlen]; simp)).trans ?_)
  cases hok : Config.certOk c
  case false => simp [imCertFault, hok, hlen, State.romWait]
  case true => simp [imCertFault, hok, hlen, State.romWait]; rfl

theorem imageReadComplete_body (b : List Byte) (hst : S.mason.stage = 2)
    (hread : S.mason.reading.length = 256 + imCert S.mason.reading) (hpast : 256 < S.mason.reading.length)
    (hlen : b.length = imBody S.mason.reading) :
    exec (.imageReadComplete dt (.body b)) s = .next
      ((S.modSerial fun p => p.flashRead (256 + imCert S.mason.reading) b.length).modMason fun m =>
        { m with stage := 3, reading := m.reading ++ b }) := by
  subst hS
  refine next_of_when rfl hloads ((if_pos ?_).trans ?_)
  · rw [hst, decide_eq_true hpast, hread, hlen]
    simp
  · rw [hlen]
    rfl

theorem imageReadComplete_checked (hst : S.mason.stage = 3) :
    exec (.imageReadComplete dt .checked) s = .next S.loadChecked := by
  subst hS
  exact next_of_when rfl hloads (if_pos (beq_iff_eq.mpr hst))

end

end

/-- The header's read, at the clock that has been reached. -/
def State.headerRead (s : State) : State := s.modSerial fun p => (p.clocked 0 s.mason.loadClk).flashRead 0 256

section
variable (s : State) (h : List Byte)

theorem State.loadHeader_good (hf : imHeadFault h s.mason.arcc = 0) :
    s.loadHeader h = s.headerRead.modMason fun m => { m with reading := h } := by
  simp [State.loadHeader, hf, State.headerRead]

theorem State.loadHeader_again (hf : imHeadFault h s.mason.arcc = 2) (hclk : 25 < s.mason.loadClk) :
    s.loadHeader h = s.headerRead.modMason fun m => { m with loadClk := m.loadClk / 2 } := by
  simp only [State.loadHeader, hf, hclk]
  rfl

theorem State.loadHeader_fails (hf : imHeadFault h s.mason.arcc ≠ 0) (hlast : imHeadFault h s.mason.arcc ≠ 2 ∨ s.mason.loadClk ≤ 25) :
    s.loadHeader h = s.headerRead.modMason fun m => { m with stage := 4, fault := BitVec.ofNat 4 (imHeadFault h s.mason.arcc) } := by
  unfold State.loadHeader
  dsimp only
  rw [if_neg (by simpa [imp_iff_not_or] using hlast), if_pos (bne_iff_ne.mpr hf)]
  rfl

theorem State.loadChecked_eq : s.loadChecked = s.modMason fun m =>
    if imBodyFault m.reading = 0 then { m with stage := 5, image := imageOf m.reading, hostLoaded := false,
                                               sram := if s.bootsrc = 2 then m.reading else m.sram }
    else { m with stage := 4, fault := BitVec.ofNat 4 (imBodyFault m.reading) } := by
  by_cases hf : imBodyFault s.mason.reading = 0 <;> simp [State.loadChecked, hf, State.modMason, State.romWait]

end

/-! ## Readiness and restart (R103, R233, R601–R603) -/

section
variable {dt : Nat} {s S : State} (hS : S = s.elapse dt) (hup : S.up = true)
include hS hup

theorem firmwareReady_acts (hst : S.mason.stage = 5) (hrun : S.mason.restarting = false) :
    exec (.firmwareReady dt) s = .next (S.mason.strapWait.foldl State.recordStraps
      ((List.finRange 4).foldl (fun s q => s.newThermal q) (S.modMason fun m =>
        { m with stage := 6, recovery := false, strapWait := [] }))) := by
  subst hS
  exact next_of_when rfl (by rw [hup, hst, hrun]; rfl) rfl

theorem masonWatchdogExpiry_acts (hst : S.mason.stage = 5 ∨ S.mason.stage = 6) :
    let recent := S.mason.expiries.filter fun x => decide (S.now ≤ x + 10000000000)
    let A := S.masonRestart.modMason fun m => { m with restarts := m.restarts + 1, expiries := S.now :: recent }
    exec (.masonWatchdogExpiry dt) s = .next (if recent.length < 2 then A else A.recover) := by
  subst hS
  refine next_of_when rfl (by simpa [hup] using hst) ?_
  dsimp only
  rw [← ite_not]
  refine if_congr ?_ rfl rfl
  rw [List.length_cons]
  omega

theorem masonRestartComplete_acts (ok : Bool) (hst : S.mason.stage = 5) (hrun : S.mason.restarting = true) :
    exec (.masonRestartComplete dt ok) s = .next (if ok then S.modMason fun m => { m with restarting := false } else S.recover) := by
  subst hS
  exact next_of_when rfl (by rw [hup, hst, hrun]; rfl) rfl

end

/-! ## The start of an admin command (R101, R602, R641) -/

theorem State.unserved_iff (s : State) (op : Nat) : (isAdminOp op && !s.masonServes op) = true ↔
    1 ≤ op ∧ op ≤ 0x0E ∧ s.mason.stage ≠ 6 ∧ op ≠ 1 ∧ ¬(s.mason.stage = 4 ∧ (op = 8 ∨ op = 9)) := by
  simp only [isAdminOp, State.masonServes, State.romServes, State.fwReady, Bool.and_eq_true, decide_eq_true_eq, Bool.not_eq_true',
    Bool.or_eq_false_iff, beq_eq_false_iff_ne, Bool.and_eq_false_iff, ne_eq]
  tauto

theorem adminCommandStart_takes {dt : Nat} {n : Word32} {d : Desc} {s S : State} (hS : S = s.elapse dt) (hbusy : S.mason.busy = none)
    (hd : S.startable 0 n = some d) :
    exec (.adminCommandStart dt n) s = .next (
      if 1 ≤ dOp d ∧ dOp d ≤ 0x0E ∧ S.mason.stage ≠ 6 ∧ dOp d ≠ 1 ∧ ¬(S.mason.stage = 4 ∧ (dOp d = 8 ∨ dOp d = 9))
      then (S.started 0 n).finish 0 n .rejState 0
      else (S.started 0 n).modMason fun m => { m with busy := some n }) := by
  subst hS
  refine next_of_when rfl (by rw [hbusy]; rfl) ?_
  dsimp only
  rw [hd]
  exact if_congr ((s.elapse dt).started 0 n |>.unserved_iff (dOp d)) rfl rfl

/-- Settles O15: each step of the loading, each restart and each start is the law of its operation above. -/
theorem masonStarts : Obligations.MasonStarts := by
  intro dt s S hS hup
  refine ⟨fun hboot hst hidle => ?loading, firmwareReady_acts hS hup, masonWatchdogExpiry_acts hS hup,
    fun hst hrun => ⟨masonRestartComplete_acts hS hup true hst hrun, masonRestartComplete_acts hS hup false hst hrun⟩,
    fun n d => adminCommandStart_takes hS, ?fail, ?pass⟩
  case loading =>
    have hloads : S.romLoads = true := by simpa [State.romLoads, hup, hidle, hst] using hboot
    refine ⟨fun hstage => ⟨imageReadComplete_tables hS hloads none hstage, fun t => imageReadComplete_tables hS hloads (some t) hstage⟩,
      ?header, imageReadComplete_cert hS hloads, imageReadComplete_body hS hloads, fun hstage => ?checked⟩
    case header =>
      rintro h f U hstage hread hlen rfl rfl
      rw [imageReadComplete_header hS hloads h hstage hread hlen]
      exact ⟨fun hf => congrArg _ (S.loadHeader_good h hf), fun hf hclk => congrArg _ (S.loadHeader_again h hf hclk),
        fun hf hlast => congrArg _ (S.loadHeader_fails h hf hlast)⟩
    case checked => rw [imageReadComplete_checked hS hloads hstage, S.loadChecked_eq]
  case fail =>
    subst hS
    exact next_of_when rfl hup rfl
  case pass =>
    subst hS
    exact next_of_when rfl hup rfl

end Sys2Proof.Machine

/-!
Mason's watch over load, straps, temperature and the flash (R59, R194, R362, R579–R582, R597, R599), and the settlement of O16.
-/
namespace Sys2Proof.Machine
open Sys2Proof

section
variable {dt : Nat} {s S : State} (hS : S = s.elapse dt) (hup : S.up = true)

/-! ## Load shedding (R597, R599) -/

/-- The state after a load window has been counted. -/
def State.windowed (s : State) (load : Nat) : State :=
  s.modMason fun m => { m with load := load, highRun := if 90 < load then m.highRun + 1 else 0,
                               lowRun := if load < 70 then m.lowRun + 1 else 0 }

/-- No window counts towards shedding and restoring at once. -/
theorem State.windowed_runs (s : State) (load : Nat) (h : 0 < (s.windowed load).mason.lowRun) :
    (s.windowed load).mason.highRun = 0 := by
  simp only [State.windowed, State.modMason_mason] at h ⊢
  split at h
  · exact if_neg (by omega)
  · exact absurd h (Nat.lt_irrefl 0)

include hS hup

section
variable (load : Nat) (hst : S.mason.stage = 6) (hload : load ≤ 100)
include hst hload

theorem masonLoadWindow_acts : exec (.masonLoadWindow dt load) s = .next (
    let A := S.windowed load
    if h : 10 ≤ A.mason.highRun ∧ A.mason.shed.val < 4 ∧ A.mason.shedAt + 10000000 ≤ S.now then
      (A.modMason fun m => { m with shedAt := S.now }).setShed ⟨A.mason.shed.val + 1, by omega⟩
    else if h : 100 ≤ A.mason.lowRun ∧ 0 < A.mason.shed.val ∧ A.mason.restoreAt + 100000000 ≤ S.now then
      (A.modMason fun m => { m with restoreAt := S.now }).setShed ⟨A.mason.shed.val - 1, by omega⟩
    else A) := by
  subst hS
  refine next_of_when rfl ?_ rfl
  rw [hup, State.fwReady, hst, decide_eq_true hload]
  rfl

theorem masonLoadWindow_counts (hhigh : (S.windowed load).mason.highRun < 10) (hlow : (S.windowed load).mason.lowRun < 100) :
    exec (.masonLoadWindow dt load) s = .next (S.windowed load) := by
  rw [masonLoadWindow_acts hS hup load hst hload]
  dsimp only
  rw [dif_neg (by omega), dif_neg (by omega)]

theorem masonLoadWindow_sheds (k : Fin 4) (hhigh : 10 ≤ (S.windowed load).mason.highRun)
    (hk : (S.windowed load).mason.shed = k.castSucc) (hage : (S.windowed load).mason.shedAt + 10000000 ≤ S.now) :
    exec (.masonLoadWindow dt load) s = .next (((S.windowed load).modMason fun m => { m with shedAt := S.now }).setShed k.succ) := by
  rw [masonLoadWindow_acts hS hup load hst hload]
  dsimp only
  have hval : (S.windowed load).mason.shed.val = k.val := congrArg Fin.val hk
  rw [dif_pos ⟨hhigh, by omega, hage⟩]
  congr 2
  exact Fin.ext (congrArg (· + 1) hval)

theorem masonLoadWindow_restores (k : Fin 4) (hlow : 100 ≤ (S.windowed load).mason.lowRun)
    (hk : (S.windowed load).mason.shed = k.succ) (hage : (S.windowed load).mason.restoreAt + 100000000 ≤ S.now) :
    exec (.masonLoadWindow dt load) s =
      .next (((S.windowed load).modMason fun m => { m with restoreAt := S.now }).setShed k.castSucc) := by
  rw [masonLoadWindow_acts hS hup load hst hload]
  dsimp only
  have hval : (S.windowed load).mason.shed.val = k.val + 1 := congrArg Fin.val hk
  have hhigh := S.windowed_runs load (by omega)
  rw [dif_neg (by omega), dif_pos ⟨hlow, by omega, hage⟩]
  congr 2
  exact Fin.ext (Nat.sub_eq_of_eq_add hval)

end

theorem masonStatusPeriodic_acts (hshed : S.mason.shed ≠ 0) (hage : S.mason.statusAt + 1000000000 ≤ S.now) :
    exec (.masonStatusPeriodic dt) s = .next (S.modMason fun m => { m with statusAt := S.now }).masonRecord := by
  subst hS
  exact next_of_when rfl (by rw [hup, bne_iff_ne.mpr hshed, decide_eq_true hage]; rfl) rfl

/-! ## Straps (R59) -/

theorem strapChange_recorded (straps : BitVec 5) (hst : S.mason.stage = 6) (hshed : S.mason.shed.val < 2)
    (h : straps ≠ S.strapsNow) :
    exec (.strapChange dt straps) s = .next (({ S with strapsNow := straps }).recordStraps straps) := by
  subst hS
  refine next_of_when (S := { s.elapse dt with strapsNow := straps }) rfl
    (Bool.and_eq_true_iff.mpr ⟨hup, bne_iff_ne.mpr h⟩) ((if_neg ?_).trans (if_pos hshed))
  simpa [State.fwReady] using hst

theorem strapChange_waits (straps : BitVec 5) (hst : S.mason.stage ≠ 6) (h : straps ≠ S.strapsNow) :
    exec (.strapChange dt straps) s =
      .next (({ S with strapsNow := straps }).modMason fun m => { m with strapWait := m.strapWait ++ [straps] }) := by
  subst hS
  refine next_of_when (S := { s.elapse dt with strapsNow := straps }) rfl
    (Bool.and_eq_true_iff.mpr ⟨hup, bne_iff_ne.mpr h⟩) (if_pos ?_)
  simpa [State.fwReady] using hst

omit hup in
theorem strapChange_same : exec (.strapChange dt S.strapsNow) s = .next S := by
  subst hS
  refine congrArg Host.Outcome.next (State.when_of_false _ _ ?_)
  rw [bne_self_eq_false, Bool.and_false]

/-! ## Throttling (R194, R362) -/

theorem throttleEnter_acts (h : S.throttled = false) :
    exec (.throttleEnter dt) s = .next ((({ S with throttled := true }).raiseCause 9).logEvent 5 1 true).refit := by
  subst hS
  exact next_of_when rfl (by rw [hup, h]; rfl) rfl

theorem throttleExit_acts (h : S.throttled = true) :
    exec (.throttleExit dt) s = .next ((List.finRange 16).foldl
      (fun s k => if s.chains[k].st = .suspended then s.chainStart k (s.dspTick s.now) 0x08 else s)
      ((({ S with throttled := false }).raiseCause 9).logEvent 5 0 true)) := by
  subst hS
  refine next_of_when rfl (by rw [hup, h]; rfl) ?_
  simp only [beq_iff_eq]

/-! ## The end of a flash operation (R579–R582) -/

/-- The flash operation has ended: the prefetch buffer is invalid (R563). -/
def State.flashEnded (s : State) : State :=
  { s with serial := { s.serial with lines := [] }, mason := { s.mason with flashOp := none } }

section
variable {n : Word32} (hidle : S.serial.aborted = false)
include hidle

theorem flashProgramEraseComplete_load (hop : S.mason.flashOp = some (.load, n)) :
    exec (.flashProgramEraseComplete dt true) s =
      .next ((S.flashEnded.modMason fun m => { m with stagedOk := true }).finish 0 n .done 0) := by
  subst hS
  refine next_of_when rfl (by rw [hup, hidle]; rfl) ?_
  dsimp only
  rw [hop]
  rfl

theorem flashProgramEraseComplete_install (hop : S.mason.flashOp = some (.install, n)) (hboot : S.bootsrc ≠ 1) :
    exec (.flashProgramEraseComplete dt true) s = .next (S.flashEnded.finish 0 n .done 0) := by
  subst hS
  refine next_of_when rfl (by rw [hup, hidle]; rfl) ?_
  dsimp only
  rw [hop]
  refine if_neg ?_
  rw [show (((s.elapse dt).modSerial _).modMason _).bootsrc = (s.elapse dt).bootsrc from rfl, beq_eq_false_iff_ne.mpr hboot]
  exact Bool.false_ne_true

theorem flashProgramEraseComplete_activate (hop : S.mason.flashOp = some (.activate, n)) :
    exec (.flashProgramEraseComplete dt true) s =
      .next ((S.flashEnded.finish 0 n .done 0).intoImage S.flashEnded.commitImage) := by
  subst hS
  refine next_of_when rfl (by rw [hup, hidle]; rfl) ?_
  dsimp only
  rw [hop]
  rfl

end
end

/-- Settles O16: each event is its law above. -/
theorem masonWatches : Obligations.MasonWatches := by
  intro dt s S hS hup
  refine ⟨fun load hst hload => ⟨fun hruns => masonLoadWindow_counts hS hup load hst hload hruns.1 hruns.2,
      masonLoadWindow_sheds hS hup load hst hload, masonLoadWindow_restores hS hup load hst hload⟩,
    masonStatusPeriodic_acts hS hup, strapChange_recorded hS hup, strapChange_waits hS hup, strapChange_same hS,
    throttleEnter_acts hS hup, throttleExit_acts hS hup, fun n hidle => ⟨flashProgramEraseComplete_load hS hup hidle,
      flashProgramEraseComplete_install hS hup hidle, flashProgramEraseComplete_activate hS hup hidle⟩⟩

end Sys2Proof.Machine

/-!
Power-on reset, wake and the loss and start of the field dies (R57, R76, R80–R94, R98, R99, R108, R498, R512, R529, R530, R633,
R644), with the rule that a pass over distinct channels changes each of them once, and the settlement of O17 and O18.
-/
namespace Sys2Proof.Machine
open Sys2Proof

/-! ## A pass over distinct channels -/

theorem State.onChans_none (s : State) (f : ChanId → Chan → Chan) : s.onChans (fun _ => false) f = s := by
  have h : Vector.ofFn (fun c : ChanId => s.chan c) = s.chans := by
    ext i hi : 1
    simp [State.chan]
  simp only [State.onChans, Bool.false_eq_true, if_false, h]

theorem State.onChans_chan (s : State) (p : ChanId → Bool) (f : ChanId → Chan → Chan) (c : ChanId) :
    (s.onChans p f).chan c = if p c then f c (s.chan c) else s.chan c := by
  simp [State.onChans, State.chan]

/-- Each channel of the list is changed once, by what it was before the pass. -/
theorem State.foldl_modChan (s : State) (f : ChanId → Chan → Chan) (l : List ChanId) (hl : l.Nodup) :
    l.foldl (fun t c => t.modChan c (f c)) s = s.onChans (fun c => decide (c ∈ l)) f := by
  induction l generalizing s with
  | nil => exact (s.onChans_none f).symm
  | cons a l ih =>
    obtain ⟨ha, hl⟩ := List.nodup_cons.mp hl
    rw [List.foldl_cons, ih _ hl]
    simp only [State.onChans, State.modChan_chan]
    refine congrArg (fun v => { s with chans := Vector.ofFn v }) (funext fun c => ?_)
    by_cases hc : a = c
    · subst hc; simp [ha]
    · simp [hc, Ne.symm hc]

theorem quadChans_nodup (q : QuadId) : (quadChans q).Nodup := by
  refine (List.nodup_finRange 32).map fun i j h => Fin.ext ?_
  have hval : 32 * q.val + i.val = 32 * q.val + j.val := congrArg Fin.val h
  omega

theorem mem_quadChans (q : QuadId) (c : ChanId) : c ∈ quadChans q ↔ quadOf c = q := by
  simp only [quadChans, List.mem_map, List.mem_finRange, true_and]
  constructor
  · rintro ⟨i, rfl⟩
    exact Fin.ext (by simp only [quadOf, chanAt]; omega)
  · rintro rfl
    exact ⟨localOf c, chanAt_quadOf_localOf c⟩

theorem State.foldl_quadChans (s : State) (q : QuadId) (f : ChanId → Chan → Chan) :
    (quadChans q).foldl (fun t c => t.modChan c (f c)) s = s.onChans (fun c => quadOf c == q) f := by
  rw [s.foldl_modChan f _ (quadChans_nodup q)]
  congr 1
  funext c
  exact decide_eq_decide.mpr (mem_quadChans q c)

/-! ## The release of the power-on reset (R57, R94, R99, R498, R512, R591, R644) -/

/-- What the release of the power-on reset sets up before the ROM loader starts. -/
def State.bootCore (s : State) (pins : StartPins) : State :=
  let keeps (q : QuadId) : Bool := s.powered q && pins.viso
  let pairMode := fld pins.straps 1 2 == 1 || fld pins.straps 1 2 == 2
  let t := { s with por := false, dormant := false, straps := pins.straps, strapsNow := pins.straps, viso := pins.viso
                    zero := s.clock }.cold (if pairMode then 20000 else 1000)
  { t with
    quads := t.quads.mapFinIdx fun i x h => if keeps ⟨i, h⟩ then keepQuad s.dieNow s.quads[i] x else x
    chans := t.chans.mapFinIdx fun i x h => if keeps (quadOf ⟨i, h⟩) then keepChan s.dieNow s.chans[i] else x
    pair := { Reset.pair with
      st := if pairMode then .starting else .single, peerAbsent := pins.peerPresN, epoch := s.pair.epoch
      cfggen := s.pair.cfggen, staticOk := s.pair.staticOk, gntN := s.pair.gntN }
    host := { t.host with link := if t.host.perst then 0 else 1 } }

theorem State.boot_eq (s : State) (pins : StartPins) :
    s.boot pins = if pins.viso then (s.bootCore pins).romStart else (s.bootCore pins).romStart.visoReport := rfl

/-- STAGE as BOOTSRC of the straps sets it (R99). -/
def bootStage (straps : BitVec 5) : BitVec 4 := if fld straps 3 2 = 0 then 4 else if fld straps 3 2 = 3 then 15 else 1

theorem State.romStart_stage (s : State) : s.romStart.mason.stage = bootStage s.straps := by
  unfold State.romStart bootStage
  change _ = if s.bootsrc = 0 then _ else if s.bootsrc = 3 then _ else _
  split
  case h_1 h => rw [h]; rfl
  case h_2 h => rw [h]; rfl
  case h_3 h0 h3 => rw [if_neg h0, if_neg h3]; rfl

theorem State.romStart_eq (s : State) : ∃ f, s.romStart = s.modMason fun _ => { s.mason with stage := bootStage s.straps, fault := f } := by
  have hstage := s.romStart_stage
  unfold State.romStart at hstage ⊢
  split at hstage
  all_goals exact ⟨_, by rw [← hstage]; rfl⟩

/-- A report of the lost VISO changes the host side alone. -/
theorem State.visoReport_port (s : State) : ∃ due, s.visoReport.port = ({ s with visoLost := true, fieldDue := due }).port := by
  have h : (({ s with visoLost := true }).raiseCause 1).port = ({ s with visoLost := true }).port := State.raiseCause_port _ 1
  unfold State.visoReport
  dsimp only
  split
  case h_1 t heq => exact ⟨s.fieldDue, by rw [show t = _ from (congrArg Prod.fst heq).symm, State.stage_port, h]⟩
  case h_2 t heq =>
    have ht : t.port = ({ s with visoLost := true }).port := by
      rw [show t = _ from (congrArg Prod.fst heq).symm, State.stage_port, h]
    refine ⟨some 3, ?_⟩
    simp only [State.port, Prod.mk.injEq] at ht ⊢
    simp only [ht, and_self]

theorem State.boot_port (s : State) (pins : StartPins) : ∃ fault due, (s.boot pins).port =
    ({ s.bootCore pins with
        visoLost := !pins.viso, fieldDue := due
        mason := { (s.bootCore pins).mason with stage := bootStage pins.straps, fault := fault } }).port := by
  obtain ⟨f, hrom⟩ := (s.bootCore pins).romStart_eq
  rw [State.boot_eq, hrom]
  cases hv : pins.viso
  case true => exact ⟨f, none, by rw [if_pos rfl]; simp [State.port, State.bootCore, State.cold, hv]; rfl⟩
  case false =>
    obtain ⟨due, h⟩ := ((s.bootCore pins).modMason fun _ =>
      { (s.bootCore pins).mason with stage := bootStage (s.bootCore pins).straps, fault := f }).visoReport_port
    exact ⟨f, due, h⟩

theorem State.bootCore_off (s : State) (pins : StartPins) (q : QuadId) :
    ((s.bootCore pins).quad q).armed = false ∧ ((s.bootCore pins).quad q).sync = false := by
  simp only [State.quad, State.bootCore, State.cold]
  simp
  split <;> exact ⟨rfl, rfl⟩

/-- What a start of the logic die leaves, with the cause of the wake-up as given. -/
def Booted (S : State) (pins : StartPins) (woke : Bool) (t : State) : Prop :=
  t.por = false ∧ t.dormant = false ∧ t.rails = 0xF ∧ t.clk25 = true ∧ t.straps = pins.straps ∧
    t.now = 0 ∧ (∀ r ∈ t.rows, r = 0x0077777777777777) ∧ t.locked = false ∧ t.plinth = S.plinth ∧ t.visoLost = !pins.viso ∧
    t.wokeDormant = woke ∧
    t.pair.st = (if fld pins.straps 1 2 = 1 ∨ fld pins.straps 1 2 = 2 then .starting else .single) ∧
    t.mason.stage = bootStage pins.straps ∧ t.mason.arcc = S.mason.arcc ∧
    (∀ q : QueueId, (t.queue q).st = .absent) ∧ ∀ q : QuadId, (t.quad q).armed = false ∧ (t.quad q).sync = false

theorem State.boot_booted (s : State) (pins : StartPins) (hrails : s.rails = 0xF) (hclk : s.clk25 = true) :
    Booted s pins s.wokeDormant (s.boot pins) := by
  obtain ⟨f, due, h⟩ := s.boot_port pins
  simp only [State.port, Prod.mk.injEq] at h
  have hoff := s.bootCore_off pins
  simp only [Booted, State.now, State.queue, State.quad, h]
  refine ⟨rfl, rfl, hrails, hclk, rfl, Nat.sub_self _, ?rows, rfl, rfl, trivial, rfl, ?role, trivial, rfl, ?queues, hoff⟩
  case rows => exact fun r hr => (Vector.mem_replicate.mp hr).2
  case role => exact if_congr (by simp only [Bool.or_eq_true, beq_iff_eq]) rfl rfl
  case queues => exact fun q => congrArg Queue.st (Vector.getElem_replicate q.isLt)

section
variable {dt : Nat} {s S : State} (hS : S = s.elapse dt)
include hS

/-! ## Falling rails, the clock and DORMANT (R76, R90, R92, R93, R633) -/

theorem powerOnResetAssert_eq (rail : Rail) : exec (.powerOnResetAssert dt rail) s = .next (if S.dormant = true ∧ rail ≠ .vaon
    then { S with rails := S.rails &&& ~~~BitVec.ofNat 4 (2 ^ railBit rail) }
    else { S with rails := S.rails &&& ~~~BitVec.ofNat 4 (2 ^ railBit rail), por := true, dormant := false, wokeDormant := false }) := by
  subst hS
  exact congrArg Host.Outcome.next (if_congr (by rw [Bool.and_eq_true, bne_iff_ne]) rfl rfl)

theorem clk25Loss_acts (hclk : S.clk25 = true) (hd : S.dormant = false) (hpor : S.por = false) :
    exec (.clk25Loss dt) s = .next { S with clk25 := false, por := true, wokeDormant := false } := by
  subst hS
  exact next_of_when rfl hclk (if_neg (by rw [hd, hpor]; exact Bool.false_ne_true))

theorem enterDormant_acts (hup : S.up = true) (hreq : S.dormantReq = true) :
    exec (.enterDormant dt) s = .next { S.diesLost with dormant := true, dormantReq := false } := by
  subst hS
  exact next_of_when rfl (by rw [hup, hreq]; rfl) rfl

theorem powerOnResetRelease_boots (pins : StartPins) (hpor : S.por = true) (hclk : S.clk25 = true) :
    exec (.powerOnResetRelease dt pins) s = .next (({ S with rails := 0xF } : State).boot pins) := by
  subst hS
  exact next_of_when rfl hpor (if_pos hclk)

theorem wake_boots (pins : StartPins) (hd : S.dormant = true) (hclk : S.clk25 = true) :
    exec (.wake dt pins) s = .next (({ S with rails := 0xF, wokeDormant := true } : State).boot pins) := by
  subst hS
  exact next_of_when rfl hd (if_pos hclk)

theorem clk25Return_boots (pins : StartPins) (hclk : S.clk25 = false) (hpor : S.por = true) (hrails : S.rails = 0xF) :
    exec (.clk25Return dt pins) s = .next (({ S with clk25 := true } : State).boot pins) := by
  subst hS
  exact next_of_when rfl (by rw [hclk]; rfl) (if_pos (by simp only [hpor, hrails]; rfl))

/-! ## Loss and return of VISO, and the dies' start (R80–R84, R98, R108, R529, R530) -/

section
variable (hup : S.up = true)
include hup

theorem visoLost_reports (hv : S.viso = true) (hrole : S.pair.st ≠ .active) :
    exec (.visoLost dt) s = .next ({ S with viso := false } : State).diesLost.visoReport := by
  subst hS
  refine next_of_when rfl hv ?_
  unfold State.visoGone
  rw [if_neg (by simp only [Bool.not_eq_true', Bool.not_eq_false]; exact hup), if_neg (by rw [State.pairActive_iff]; exact hrole)]

theorem visoLost_handsOver (hv : S.viso = true) (hrole : S.pair.st = .active) :
    let A : State := { (({ S with viso := false }).roleLoss S.now).diesLost with visoLost := true }
    exec (.visoLost dt) s = .next (if S.pair.zaf.present then (A.modPair fun p => { p with finalDue := true }).finalCapture
      else A.modPair fun p => { p with mute := true, cap := none }) := by
  subst hS
  refine next_of_when rfl hv ?_
  unfold State.visoGone
  rw [if_neg (by simp only [Bool.not_eq_true', Bool.not_eq_false]; exact hup), if_pos (by rw [State.pairActive_iff]; exact hrole)]
  rfl

theorem transformerStart_acts (q : QuadId) (hv : S.viso = true) (hrole : S.pair.st = .single ∨ S.pair.st = .active)
    (hnew : (S.quad q).started = none)
    (hbefore : ∀ p : QuadId, p.val + 1 = q.val → (S.quad p).sync = true ∨ ∃ t, (S.quad p).started = some t ∧ t + 1000000 ≤ S.now) :
    exec (.transformerStart dt q) s = .next (S.modQuad q fun x => { x with started := some S.now }) := by
  subst hS
  refine next_of_when rfl ?_ rfl
  have hholds : (s.elapse dt).holdsRole = true := by simpa [State.holdsRole] using hrole
  rw [hup, hv, hholds, hnew]
  simp only [Option.isNone_none, Bool.true_and, Bool.and_true]
  split
  case isFalse => rfl
  case isTrue hq =>
    obtain hsync | ⟨t, ht, hage⟩ := hbefore ⟨q.val - 1, by omega⟩ (by simp only; omega)
    · rw [hsync, Bool.true_or]
    · rw [ht, Bool.or_eq_true]
      exact Or.inr (decide_eq_true hage)

theorem fieldDieSync_acts (q : QuadId) (hv : S.viso = true) (hsend : S.sendsFrames = true) (hstart : (S.quad q).started.isSome = true)
    (hsync : (S.quad q).sync = false) :
    let A := (S.onChans (fun c => quadOf c == q) fun _ (x : Chan) => { (if (S.quad q).stale then syncChan S.now x else x) with
      cmd := false, filtAt := S.now }).retrigger fun s => s.modQuad q fun x =>
        { x with sync := true, stale := false, released := false, fwTrig := false, dieArmed := false, lastGood := none, lostRun := 0,
                 lostFrom := none, silence := if s.inPair then 1000 * ptTrel s.pair.timing else x.silenceSet }
    exec (.fieldDieSync dt q) s = .next (((if (A.quad q).disWait then A.disarmQuad q else A).driveSelf fun c =>
      quadOf c == q).resetDone q) := by
  subst hS
  refine next_of_when rfl (by rw [hup, hv, hsend, hstart, hsync]; rfl) ?_
  dsimp only
  rw [State.foldl_quadChans]

end
end

/-- Settles O17: the three starts of the logic die lead to what `State.boot` leaves. -/
theorem powerOnResetAndWake : Obligations.PowerOnResetAndWake := by
  intro dt s S hS
  refine ⟨powerOnResetAssert_eq hS, clk25Loss_acts hS, enterDormant_acts hS, ?starts⟩
  rintro pins i (⟨rfl, hpor, hclk⟩ | ⟨rfl, hd, hclk⟩ | ⟨rfl, hclk, hpor, hrails⟩)
  · exact ⟨_, powerOnResetRelease_boots hS pins hpor hclk, State.boot_booted _ pins rfl hclk⟩
  · exact ⟨_, wake_boots hS pins hd hclk, State.boot_booted _ pins rfl hclk⟩
  · exact ⟨_, clk25Return_boots hS pins hclk hpor hrails, State.boot_booted _ pins hrails rfl⟩

/-- Settles O18: each event is its law above. -/
theorem supplyAndDieStart : Obligations.SupplyAndDieStart := by
  intro dt s S hS hup
  refine ⟨fun hv hrole => (visoLost_reports hS hup hv hrole).trans ?report, visoLost_handsOver hS hup, fun hv => ?back,
    transformerStart_acts hS hup, fieldDieSync_acts hS hup⟩
  case report =>
    unfold State.visoReport
    dsimp only
    split
    case h_1 t heq => rw [heq]; rfl
    case h_2 t heq => rw [heq]; rfl
  case back =>
    subst hS
    exact next_of_when rfl (by rw [hv]; rfl) rfl

end Sys2Proof.Machine

/-!
BAR0 reads with a snapshot register and writes of registers (R13, R14, R410, R415–R419, R449, R593, R605–R607, R612–R618): when a
read or write reaches its register, what the writes of single registers do, and the settlement of O20.
-/
namespace Sys2Proof.Machine
open Sys2Proof

/-! ## Accesses that do not reach their register (R14, R498, R593) -/

theorem State.answers_of_up (s : State) (hup : s.hostUp = true) (hst : s.pair.st ≠ .starting) : s.answers = true := by
  simp [State.answers, hup, hst]

theorem State.answers_of_starting (s : State) (hst : s.pair.st = .starting) : s.answers = false := by
  simp [State.answers, hst]

theorem State.barRead_permitted (s : State) (t : Nat) (f : State → State) (ha : s.answers = true)
    (hp : s.permits 0 [(t, 1)] = true) : s.barRead t f = f s := by
  rw [State.permits_single] at hp
  simp [State.barRead, ha, hp]

theorem State.barRead_denied (s : State) (t : Nat) (f : State → State) (ha : s.answers = true)
    (hp : s.permits 0 [(t, 1)] = false) : s.barRead t f = (s.deny 0 t 1).answer 0 := by
  rw [State.permits_single] at hp
  simp [State.barRead, ha, hp]

theorem State.barWrite_denied (s : State) (t : Nat) (f : State → State) (hup : s.hostUp = true) (hrole : s.holdsRole = true)
    (hp : s.permits 0 [(t, 2)] = false) : s.barWrite t f = (s.deny 0 t 2).setWign := by
  rw [State.permits_single] at hp
  simp [State.barWrite, s.answers_of_holdsRole hup hrole, hrole, hp]

theorem State.barWrite_unroled (s : State) (t : Nat) (f : State → State) (ha : s.answers = true) (hrole : s.holdsRole = false) :
    s.barWrite t f = s.setWign := by
  simp [State.barWrite, ha, hrole]

theorem State.barWrite_unanswered (s : State) (t : Nat) (f : State → State) (ha : s.answers = false) : s.barWrite t f = s := by
  simp [State.barWrite, ha]

theorem State.barRead_unanswered (s : State) (t : Nat) (f : State → State) (ha : s.answers = false) : s.barRead t f = s := by
  simp [State.barRead, ha]

/-- WIGN is no set-up register. -/
theorem State.carry_setWign (s : State) : s.carry s.setWign = s.setWign := s.carry_of_setupRegs_eq _ rfl

/-! ## The debug window (R616–R618) -/

theorem State.dbgRead_closed (s : State) (ue : Bool) (h : s.host.dbgWen = false) : s.dbgRead ue = s.answer 0 := by
  simp [State.dbgRead, h]

/-- The state after AINC has stepped the window's address. -/
def State.dbgStep (s : State) : State :=
  if s.host.dbgAinc then s.modHost fun h => { h with dbgAddr := h.dbgAddr + 8 } else s

theorem State.dbgStep_eq (s : State) : s.dbgStep =
    s.modHost fun h => { h with dbgAddr := if h.dbgAinc then h.dbgAddr + 8 else h.dbgAddr } := by
  unfold State.dbgStep
  split
  case isTrue h => simp [State.modHost, h]
  case isFalse h => simp only [State.modHost, if_neg h]

theorem State.dbgRead_word (s : State) (w : Word64) (hwen : s.host.dbgWen = true)
    (hp : s.allowed 13 (s.vaultTarget s.host.dbgAddr.toNat) 1 = true) (hw : s.vaultWord s.host.dbgAddr.toNat = some w) :
    s.dbgRead false = (s.dbgStep.useFresh.modHost fun h => { h with dbgShadow := (w >>> 32).setWidth 32 }).answer (w.setWidth 32) := by
  have hp' : s.dbgStep.allowed 13 (s.vaultTarget s.host.dbgAddr.toNat) 1 = true := by rw [State.dbgStep_eq]; exact hp
  have hw' : s.dbgStep.vaultWord s.host.dbgAddr.toNat = some w := by rw [State.dbgStep_eq]; exact hw
  unfold State.dbgRead
  change (if _ then _ else if (!s.dbgStep.allowed 13 _ 1) = true then _ else _) = _
  rw [if_neg (by simp [hwen]), if_neg (by simp [hp'])]
  change (s.dbgStep.useFresh.modHost fun h => { h with
    dbgShadow := (((s.dbgStep.vaultWord s.host.dbgAddr.toNat).getD _ : Word64) >>> 32).setWidth 32 }).answer
      (((s.dbgStep.vaultWord s.host.dbgAddr.toNat).getD _ : Word64).setWidth 32) = _
  rw [hw']
  rfl

/-! ## Writes of single registers (R13, R415–R419, R449, R606–R619) -/

/-- An aligned word write is a BAR0 write to the target of its offset. -/
theorem registerWrite_word {dt off t : Nat} {v : Word64} {s S : State} (hS : S = s.elapse dt) (hoff : off < 0x100000)
    (hal : off % 4 = 0) (ht : barTarget off = some t) :
    exec (.registerWrite dt off 4 v) s = .next (S.barWrite t fun s => s.writeWord off (v.setWidth 32)) := by
  subst hS
  refine (if_neg (by omega)).trans (congrArg Host.Outcome.next ((if_neg (by simp [hal])).trans ?_))
  rw [ht]
  rfl

theorem State.writeWord_admin (s : State) (off : Nat) (w : Word32) (f : HostRegs → HostRegs)
    (h : off = 0x1008 ∧ f = (fun h => { h with aqSq := setLow h.aqSq (w &&& 0xFFFFFFC0) }) ∨
      off = 0x100C ∧ f = (fun h => { h with aqSq := setHigh h.aqSq w }) ∨
      off = 0x1010 ∧ f = (fun h => { h with aqCq := setLow h.aqCq (w &&& 0xFFFFFFC0) }) ∨
      off = 0x1014 ∧ f = (fun h => { h with aqCq := setHigh h.aqCq w }) ∨
      off = 0x1018 ∧ f = (fun h => { h with aqSize := w &&& 0x1F1F })) :
    s.writeWord off w = if (s.queue 0).st = .absent then s.modHost f else s.setWign := by
  have hst : (if (s.queue 0).st == .absent then s.modHost f else s.setWign) = if (s.queue 0).st = .absent then s.modHost f else s.setWign :=
    if_congr beq_iff_eq rfl rfl
  rw [← hst]
  rcases h with ⟨rfl, rfl⟩ | ⟨rfl, rfl⟩ | ⟨rfl, rfl⟩ | ⟨rfl, rfl⟩ | ⟨rfl, rfl⟩ <;> rfl

theorem State.writeWord_status (s : State) (w : Word32) : s.writeWord 0x1004 w = s.modHost fun h =>
    { h with wign := h.wign && (!bit w 3 || bit s.justSet 13), cfgerr := h.cfgerr && (!bit w 2 || bit s.justSet 14) } := by
  change (s.modHost fun h => _) = _
  simp only [Bool.not_and, Bool.not_not]
  rfl

theorem State.writeWord_dbBase (s : State) (w : Word32) : s.writeWord 0x1020 w = if s.anyQueue = false
    then s.modHost fun h => { h with dbBase := setLow h.dbBase (w &&& 0xFFFFFC00) } else s.setWign := by
  change (if s.anyQueue then _ else _) = _
  cases s.anyQueue <;> rfl

theorem State.writeWord_msix (s : State) (off : Nat) (w : Word32) (h : 0x4000 ≤ off ∧ off < 0x4440) :
    s.writeWord off w = s.msixWrite ⟨(off - 0x4000) / 16, by omega⟩ ((off - 0x4000) % 16 / 4) w := by
  unfold State.writeWord
  dsimp only
  split
  case h_18 => exact dif_pos h
  all_goals omega

theorem State.writeWord_msixData (s : State) (k : VecId) (w : Word32) :
    s.writeWord (0x4000 + 16 * k.val + 8) w = { s with msix := s.msix.set k { s.msix[k] with data := w } } := by
  have hk : (⟨(0x4000 + 16 * k.val + 8 - 0x4000) / 16, by omega⟩ : VecId) = k := Fin.ext (by simp only; omega)
  have hi : (0x4000 + 16 * k.val + 8 - 0x4000) % 16 / 4 = 2 := by omega
  rw [s.writeWord_msix _ w (by omega), hk, hi]
  rfl

theorem barTarget_msix (k : VecId) : barTarget (0x4000 + 16 * k.val + 8) = some 1 := by
  have hk := k.isLt
  unfold barTarget
  rw [if_neg (by omega), if_neg (by omega), if_neg (by omega), if_neg (by omega), if_pos (by omega)]

theorem barTarget_host (off : Nat) (hlow : 0x1000 ≤ off) (hhigh : off < 0x2000) : barTarget off = some 1 := by
  unfold barTarget
  rw [if_neg (by omega), if_pos hhigh]

theorem State.clearDeny_settled (s : State) (h : bit s.justSet 15 = false) :
    s.clearDeny = s.modHost fun h => { h with denyValid := false } := by
  simp only [State.clearDeny, h, Bool.false_eq_true, if_false]

section
variable {dt : Nat} {v : Word64} {s S : State} (hS : S = s.elapse dt)
include hS

theorem registerWrite_permitted {off t : Nat} (hoff : off < 0x100000) (hal : off % 4 = 0) (ht : barTarget off = some t)
    (hup : S.hostUp = true) (hrole : S.holdsRole = true) (hp : S.permits 0 [(t, 2)] = true) :
    exec (.registerWrite dt off 4 v) s = .next (S.carry (S.writeWord off (v.setWidth 32))) := by
  rw [registerWrite_word hS hoff hal ht, State.barWrite_permitted S t _ hup hrole hp]

theorem registerWrite_short {off size : Nat} (hlow : 0x1000 ≤ off) (hhigh : off < 0x2000) (hsize : size = 1 ∨ size = 2)
    (hal : off % size = 0) (hup : S.hostUp = true) (hrole : S.holdsRole = true) (hp : S.permits 0 [(1, 2)] = true) :
    exec (.registerWrite dt off size v) s = .next S.setWign := by
  subst hS
  refine (if_neg (by omega)).trans (congrArg Host.Outcome.next ((if_neg ?_).trans ?_))
  · rw [hal]
    rcases hsize with rfl | rfl <;> exact Bool.false_ne_true
  · rw [barTarget_host off hlow hhigh]
    dsimp only
    rw [State.barWrite_permitted _ 1 _ hup hrole hp, if_pos (by omega), State.carry_setWign]

theorem registerWrite_starting {off size : Nat} (hoff : off < 0x100000) (hst : S.pair.st = .starting) :
    exec (.registerWrite dt off size v) s = .next S := by
  subst hS
  refine (if_neg (by omega)).trans (congrArg Host.Outcome.next ?_)
  split
  · rfl
  · split
    · rfl
    · exact State.barWrite_unanswered _ _ _ (State.answers_of_starting _ hst)

end

/-- Settles O20: a read or write reaches its register by the rules of the first part, and does there what the second says. -/
theorem registerReadsAndWrites : Obligations.RegisterReadsAndWrites := by
  refine ⟨fun dt s S hS hup hst => ?reads, fun dt v w s S hS hw hup => ?writes⟩
  case reads =>
    have ha := S.answers_of_up hup hst
    subst hS
    refine ⟨fun hp => ?time, fun row hp => ?row, fun hp hwen => ?closed, fun w hp hwen hv hw => ?window, fun hp => ?denied⟩
    case time => exact congrArg _ (State.barRead_permitted _ 0 _ ha hp)
    case row => exact congrArg _ (State.barRead_permitted _ 2 _ ha hp)
    case closed => exact congrArg _ ((State.barRead_permitted _ 3 _ ha hp).trans (State.dbgRead_closed _ _ hwen))
    case window =>
      rw [State.permits_single] at hv
      refine ⟨_, congrArg Host.Outcome.next ((State.barRead_permitted _ 3 _ ha hp).trans (State.dbgRead_word _ w hwen hv hw)), ?_, ?_⟩
      · rw [State.dbgStep_eq]; rfl
      · rw [State.dbgStep_eq]; rfl
    case denied => exact congrArg _ (State.barRead_denied _ 0 _ ha hp)
  case writes =>
    subst hw
    refine ⟨fun hrole hp => ⟨fun f off hf => ?admin, ?poll, ?status, ?dbBase, fun k => ?msix, fun off size hlow hhigh hsize hal =>
        registerWrite_short hS hlow hhigh hsize hal hup hrole hp⟩,
      fun hrole hp => ?dbgAddr, fun hrole hp hclr hset => ?deny, fun hrole hp => ?denied, fun hrole hst => ?unroled, fun hst =>
        ⟨?startingRead, fun off size hoff => registerWrite_starting hS hoff hst⟩, fun off size hoff => if_pos hoff⟩
    case admin =>
      have hoff : off < 0x100000 ∧ off % 4 = 0 ∧ 0x1000 ≤ off ∧ off < 0x2000 := by
        rcases hf with ⟨rfl, -⟩ | ⟨rfl, -⟩ | ⟨rfl, -⟩ | ⟨rfl, -⟩ | ⟨rfl, -⟩ <;> decide
      obtain ⟨hbar, hal, hlow, hhigh⟩ := hoff
      rw [registerWrite_permitted hS hbar hal (barTarget_host off hlow hhigh) hup hrole hp, State.writeWord_admin S off _ f hf]
      split
      · rfl
      · rw [State.carry_setWign]
    case poll => exact registerWrite_permitted hS (by decide) (by decide) rfl hup hrole hp
    case status =>
      rw [registerWrite_permitted hS (by decide) (by decide) rfl hup hrole hp, State.writeWord_status, State.carry_of_setupRegs_eq]
      rfl
    case dbBase =>
      rw [registerWrite_permitted hS (by decide) (by decide) rfl hup hrole hp, State.writeWord_dbBase]
      split
      · rfl
      · rw [State.carry_setWign]
    case msix =>
      have hk := k.isLt
      rw [registerWrite_permitted hS (by omega) (by omega) (barTarget_msix k) hup hrole hp, State.writeWord_msixData]
    case dbgAddr =>
      rw [registerWrite_permitted hS (by decide) (by decide) rfl hup hrole hp,
        State.carry_of_setupRegs_eq S (S.writeWord 0x3004 _) rfl]
      rfl
    case deny =>
      rw [registerWrite_permitted hS (by decide) (by decide) rfl hup hrole hp,
        show S.writeWord 0x2004 _ = S.clearDeny from if_pos hclr, State.clearDeny_settled S hset, State.carry_of_setupRegs_eq S (S.modHost _) rfl]
    case denied => rw [registerWrite_word hS (by decide) (by decide) rfl, State.barWrite_denied S 1 _ hup hrole hp]
    case unroled => rw [registerWrite_word hS (by decide) (by decide) rfl, State.barWrite_unroled S 1 _ (S.answers_of_up hup hst) hrole]
    case startingRead =>
      subst hS
      exact congrArg _ (State.barRead_unanswered _ 0 _ (State.answers_of_starting _ hst))

end Sys2Proof.Machine

/-!
Resets and power states of the host interface, polling, fetching and staging (R94–R96, R109, R387, R412–R414, R421–R432, R449, R452,
R458–R460, R527, R543–R547, R598), with the rule that a pass over all queues changes each of them once, and the settlement of O21,
O22 and O23.
-/
namespace Sys2Proof.Machine
open Sys2Proof

/-! ## A pass over all queues -/

theorem State.foldl_queues_list (s : State) (step : State → QueueId → State) (f : QueueId → Queue → Queue)
    (hstep : ∀ t q, t.queue q = s.queue q → step t q = t.modQueue q (f q)) (l : List QueueId) (hl : l.Nodup) (t : State)
    (ht : ∀ q ∈ l, t.queue q = s.queue q) :
    l.foldl step t = { t with queues := Vector.ofFn fun q => if q ∈ l then f q (t.queue q) else t.queue q } := by
  induction l generalizing t with
  | nil =>
    have h : Vector.ofFn (fun q : QueueId => t.queue q) = t.queues := by
      ext i hi : 1
      simp [State.queue]
    simp only [List.foldl_nil, List.not_mem_nil, if_false, h]
  | cons a l ih =>
    obtain ⟨ha, hl⟩ := List.nodup_cons.mp hl
    rw [List.foldl_cons, hstep t a (ht a List.mem_cons_self), ih hl]
    case ht =>
      intro q hq
      have hne : a ≠ q := fun h => ha (h ▸ hq)
      rw [State.modQueue_queue, if_neg hne, ht q (List.mem_cons_of_mem a hq)]
    refine congrArg (fun v => { t with queues := Vector.ofFn v }) (funext fun q => ?_)
    rw [State.modQueue_queue]
    by_cases hq : a = q
    · subst hq; simp [ha]
    · simp [hq, Ne.symm hq]

/-- A pass whose step at a queue that it has not yet reached changes that queue alone. -/
theorem State.foldl_queues (s : State) (step : State → QueueId → State) (f : QueueId → Queue → Queue)
    (hstep : ∀ t q, t.queue q = s.queue q → step t q = t.modQueue q (f q)) :
    (List.finRange 64).foldl step s = { s with queues := Vector.ofFn fun q => f q (s.queue q) } := by
  rw [s.foldl_queues_list step f hstep _ (List.nodup_finRange 64) s fun _ _ => rfl]
  simp only [List.mem_finRange, if_true]

theorem State.modQueue_self (s : State) (q : QueueId) (f : Queue → Queue) (h : f (s.queue q) = s.queue q) : s.modQueue q f = s := by
  have hset : s.queues.set q (f s.queues[q]) = s.queues := by
    rw [show f s.queues[q] = s.queues[q] from h]
    exact Vector.set_getElem_self q.isLt
  simp only [State.modQueue, hset]

theorem State.modQueue_congr (s : State) (q : QueueId) (f g : Queue → Queue) (h : f (s.queue q) = g (s.queue q)) :
    s.modQueue q f = s.modQueue q g := congrArg (fun u => { s with queues := s.queues.set q u }) h

/-! ## Resets, power states and bus mastering (R94–R96, R412–R414, R449, R459, R460) -/

/-- What a reset of the host interface leaves. -/
def HostReset (S : State) (perst flr : Bool) (link : Fin 4) (t : State) : Prop :=
  t.queues = .replicate 64 Reset.queue ∧ t.routes = .replicate 10 0 ∧ t.staging = [] ∧
    t.outWait = [] ∧ t.flush = 1000 ∧ t.msix = .replicate 68 Reset.msixEntry ∧ t.serial = { S.serial with tx := [] } ∧
    t.chans = S.chans ∧ t.quads = S.quads ∧ t.mason.resetDiscards = S.mason.resetDiscards + S.staging.length ∧
    t.fieldDue = some 1 ∧ (∀ o ∈ t.ops, o.live = false) ∧
    t.host = { Reset.host with
      wdLock := S.host.wdLock, wdExpired := S.host.wdExpired, wdAct := S.host.wdAct, wdPeriod := S.host.wdPeriod,
      wdLast := S.host.wdLast, wdFired := S.host.wdFired, jtag := S.host.jtag,
      devCause := if S.host.wdExpired then S.host.devCause &&& 1 else 0,
      link := link, perst := perst, flr := flr }

theorem orphan_ops_live (s : State) : ∀ o ∈ (orphan s).ops, o.live = false := by
  intro o ho
  obtain ⟨x, -, rfl⟩ := List.mem_map.mp ho
  rfl

theorem State.hostReset_leaves (s : State) (perst flr : Bool) :
    HostReset s perst flr (if perst then 0 else s.host.link) (s.hostReset perst flr) :=
  ⟨rfl, rfl, rfl, rfl, rfl, rfl, rfl, rfl, rfl, rfl, rfl, orphan_ops_live s, rfl⟩

/-- Settles O21: the three resets lead to what `State.hostReset` leaves; the other events are their definitions. -/
theorem linkAndResets : Obligations.LinkAndResets := by
  intro dt s S hS hup
  refine ⟨?resets, fun hflr => ?flrDone, fun hp => ?perst, fun hh hd => ?d3hot, fun hl => ?link, fun m x hh hd => ?enable,
    fun m x hh => ?disable⟩
  case resets =>
    rintro i perst flr link (⟨rfl, hh, rfl, rfl, rfl⟩ | ⟨rfl, hp, rfl, rfl, rfl⟩ | ⟨rfl, hh, hd, rfl, rfl, rfl⟩)
    · exact ⟨_, by subst hS; exact next_of_when rfl hh rfl, S.hostReset_leaves false true⟩
    · refine ⟨_, ?_, S.hostReset_leaves true false⟩
      subst hS
      exact congrArg Host.Outcome.next (if_pos (by rw [hup, hp]; rfl))
    · refine ⟨(S.hostReset false false).modHost fun h => { h with link := 1, wakeLow := false }, ?_,
        rfl, rfl, rfl, rfl, rfl, rfl, rfl, rfl, rfl, rfl, rfl, orphan_ops_live S, rfl⟩
      subst hS
      exact next_of_when rfl (by rw [hh, hd]; rfl) rfl
  case flrDone => subst hS; exact next_of_when rfl (by rw [hup, hflr]; rfl) rfl
  case perst =>
    subst hS
    refine next_of_when rfl hp ?_
    rw [hup]
    exact congrArg _ (funext fun h => congrArg (fun l => { h with perst := false, link := l }) (if_congr beq_iff_eq rfl rfl))
  case d3hot => subst hS; exact next_of_when rfl (by rw [hh, hd]; rfl) rfl
  case link => subst hS; exact next_of_when rfl (by rw [hup, decide_eq_true hl]; rfl) rfl
  case enable =>
    subst hS
    exact next_of_when rfl hh (if_pos (by simp only [State.modHost_host, hd]; rfl))
  case disable => subst hS; exact next_of_when rfl hh rfl

/-! ## Polling and fetching (R109, R421, R424, R426–R432, R527) -/

theorem State.emit_journals (s : State) (o : HostOut) : (s.emit o).journals = s.journals := by
  unfold State.emit
  split_ifs <;> rfl

section
variable {dt : Nat} {s S : State} (hS : S = s.elapse dt) (hh : S.hostUp = true)
include hS

theorem doorbellPoll_polls (hpoll : S.pollRuns = true) (hout : S.host.pollOut = false)
    (hdue : S.host.polledOnce = false ∨ S.host.pollAt ≤ S.now) : exec (.doorbellPoll dt) s =
      .next ((S.modHost fun h => { h with pollOut := true, pollAt := S.now + S.host.pollNs, polledOnce := true }).emit
        (.pollRead S.host.dbBase)) := by
  subst hS
  refine next_of_when rfl ?_ rfl
  rw [hpoll, hout]
  simpa only [Bool.true_and, Bool.not_false, Bool.or_eq_true, Bool.not_eq_true', decide_eq_true_eq] using hdue

include hh

theorem pollComplete_unchanged (gen : Word64) (hout : S.host.pollOut = true) (hgen : gen = S.host.gen) (hfirst : S.pair.firstPoll = false) :
    exec (.pollComplete dt gen) s = .next (S.modHost fun h => { h with pollOut := false }) := by
  subst hS
  refine next_of_when rfl (by rw [hh, hout]; rfl) (if_neg ?_)
  rw [hgen, State.modHost_pair, hfirst]
  simp

omit hS hh in
theorem State.indexRead_issued (B : State) (gen : Word64) :
    (if B.host.indexOut then B else
      ((B.modPair fun p => { p with firstPoll := false }).modHost fun h => { h with genSeen := some gen, indexOut := true }).emit
        (.indexRead (B.host.dbBase + 0x40))) =
    if B.host.indexOut then B
      else ({ B with pair := { B.pair with firstPoll := false },
                     host := { B.host with genSeen := some gen, indexOut := true } }).emit (.indexRead (B.host.dbBase + 0x40)) := rfl

omit hS hh in
theorem State.wdRestart_if (A : State) : (if A.host.wdPeriod != 0 then A.wdRestart else A) =
    if A.host.wdPeriod = 0 then A else A.wdRestart := by
  rw [← ite_not]
  exact if_congr (by rw [bne_iff_ne, ne_eq, not_not]) rfl rfl

theorem pollComplete_changed (gen : Word64) (hout : S.host.pollOut = true) (hnew : gen ≠ S.host.gen ∨ S.pair.firstPoll = true) :
    let A : State := S.modHost fun h => { h with pollOut := false }
    let B : State := if S.host.wdPeriod = 0 then A else A.wdRestart
    exec (.pollComplete dt gen) s = .next (if B.host.indexOut then B
      else ({ B with pair := { B.pair with firstPoll := false },
                     host := { B.host with genSeen := some gen, indexOut := true } }).emit
        (.indexRead (B.host.dbBase + 0x40))) := by
  subst hS
  refine next_of_when rfl (by rw [hh, hout]; rfl) ((if_pos ?_).trans ?_)
  · simpa using hnew
  · dsimp only
    rw [State.wdRestart_if]
    exact State.indexRead_issued _ gen

theorem indexReadComplete_good (sqp cqc : Vector Word32 64) (hout : S.host.indexOut = true)
    (hgood : ∀ q : QueueId, (S.queue q).st ≠ .absent → (sqp[q] - (S.queue q).f).toNat ≤ 2 ^ (S.queue q).sqlog ∧
      ((S.queue q).w - cqc[q]).toNat ≤ 2 ^ (S.queue q).cqlog) :
    exec (.indexReadComplete dt sqp cqc) s = .next { S with
      host := { S.host with gen := S.host.genSeen.getD S.host.gen, genSeen := none, indexOut := false },
      queues := Vector.ofFn fun q => if (S.queue q).st = .absent then S.queue q
        else { S.queue q with sqp := sqp[q], cqc := cqc[q] } } := by
  subst hS
  refine next_of_when rfl (by rw [hh, hout]; rfl) ?_
  refine State.foldl_queues _ _ (fun q u => if u.st = .absent then u else { u with sqp := sqp[q], cqc := cqc[q] }) ?_
  intro t q hq
  by_cases hst : (t.queue q).st = .absent
  case pos =>
    exact (if_pos (beq_iff_eq.mpr hst)).trans
      (t.modQueue_self q (fun u => if u.st = .absent then u else { u with sqp := sqp[q], cqc := cqc[q] }) (if_pos hst)).symm
  case neg =>
    have hq' : t.queue q = (s.elapse dt).queue q := hq
    obtain ⟨hs, hc⟩ := hgood q (hq' ▸ hst)
    have hbad : ({ t.queue q with sqp := sqp[q], cqc := cqc[q] } : Queue).badIndex = none := by
      rw [hq']
      exact (if_neg (Nat.not_lt.mpr hs)).trans (if_neg (Nat.not_lt.mpr hc))
    rw [t.modQueue_congr q (fun u => if u.st = .absent then u else { u with sqp := sqp[q], cqc := cqc[q] })
      (fun u => { u with sqp := sqp[q], cqc := cqc[q] }) (if_neg hst)]
    refine (if_neg (fun h => hst (beq_iff_eq.mp h))).trans ?_
    dsimp only
    rw [State.modQueue_queue, if_pos rfl, hbad]

omit hh

/-- The new entries of the descriptors that one fetch read takes. -/
def State.newFlights (s : State) (q : QueueId) (count : Nat) : List Inflight :=
  (List.range count).map fun i =>
    { num := (s.queue q).f + BitVec.ofNat 32 i, desc := 0, stage := .fetching, logged := true, aresync := false, rdrop := false,
      ford := s.fetchSeq + i }

/-- The state after one fetch read, which ends the turns of its class's other queues. -/
def State.fetched (s : State) (q : QueueId) (count : Nat) : State :=
  ({ s with queues := s.queues.map fun (x : Queue) => if x.cls == (s.queue q).cls then { x with turn := 0 } else x
            fetchSeq := s.fetchSeq + count } : State).modQueue q fun u =>
    { u with f := (s.queue q).f + BitVec.ofNat 32 count, flight := u.flight ++ s.newFlights q count
             turn := if (s.queue q).turn < (s.queue q).weight then (s.queue q).turn + count else count }

theorem descriptorFetch_fetches (q : QueueId) (count : Nat) (hpoll : S.pollRuns = true) (hj : S.journals = false)
    (hhand : S.pair.handover = none) (hover : S.pair.handedOver = false) (hone : 1 ≤ count) (hmax : count ≤ 8)
    (hmay : S.mayFetch q count = true) (hcls : ∀ p : QueueId, (S.queue p).cls.val < (S.queue q).cls.val → S.mayFetch p 1 = false)
    (hturn : S.turnOf (S.queue q).cls = some q) (hleft : count ≤ (S.queue q).turnLeft)
    (hring : (S.queue q).f.toNat % 2 ^ (S.queue q).sqlog + count ≤ 2 ^ (S.queue q).sqlog) :
    exec (.descriptorFetch dt q count) s = .next ((S.fetched q count).emit (.fetchRead q ((S.queue q).sqbase +
      BitVec.ofNat 64 (64 * ((S.queue q).f.toNat % 2 ^ (S.queue q).sqlog))) (S.queue q).f count)) := by
  subst hS
  refine next_of_when rfl ?cond ((if_neg (by simp [hj])).trans ?_)
  case cond =>
    have hall : ((List.finRange 64).all fun p =>
        !(decide (((s.elapse dt).queue p).cls.val < ((s.elapse dt).queue q).cls.val) && (s.elapse dt).mayFetch p 1)) = true := by
      refine List.all_eq_true.mpr fun p _ => ?_
      rw [Bool.not_eq_true', Bool.and_eq_false_iff]
      by_cases hp : ((s.elapse dt).queue p).cls.val < ((s.elapse dt).queue q).cls.val
      · exact Or.inr (hcls p hp)
      · exact Or.inl (decide_eq_false hp)
    rw [hpoll, hhand, hover, hmay, hall, hturn, decide_eq_true hone, decide_eq_true hmax, decide_eq_true hleft, decide_eq_true hring]
    simp
  · dsimp only
    rw [hj]
    rw [State.emit_journals]
    exact if_neg (fun h => Bool.eq_false_iff.mp hj h)

omit hS in
theorem State.fetched_queue_self (q : QueueId) (count : Nat) : (S.fetched q count).queue q = { S.queue q with
    f := (S.queue q).f + BitVec.ofNat 32 count, flight := (S.queue q).flight ++ S.newFlights q count
    turn := ((S.fetched q count).queue q).turn } := by
  simp only [State.fetched, State.modQueue_queue, if_true]
  simp [State.queue]

omit hS in
theorem State.fetched_queue_other (q p : QueueId) (count : Nat) (h : p ≠ q) :
    (S.fetched q count).queue p = { S.queue p with turn := ((S.fetched q count).queue p).turn } := by
  simp only [State.fetched, State.modQueue_queue, if_neg h.symm]
  simp only [State.queue, Fin.getElem_fin, Vector.getElem_map]
  by_cases hc : S.queues[p.val].cls = S.queues[q.val].cls <;> simp [hc]

end

/-- Settles O22: each event is its law above. -/
theorem pollingAndFetching : Obligations.PollingAndFetching := by
  intro dt s S hS hh
  refine ⟨doorbellPoll_polls hS, fun gen hout => ⟨pollComplete_unchanged hS hh gen hout, pollComplete_changed hS hh gen hout⟩,
    indexReadComplete_good hS hh, fun q count hpoll hj hhand hover hone hmax hmay hcls hturn hleft hring =>
      ⟨S.fetched q count, descriptorFetch_fetches hS q count hpoll hj hhand hover hone hmax hmay hcls hturn hleft hring,
        rfl, ?_, ?_, fun p hp => State.fetched_queue_other q p count hp⟩⟩
  · rw [State.fetched_queue_self]
  · rw [State.fetched_queue_self]; rfl

/-! ## Staging (R387, R452, R458, R543–R547, R598) -/

section
variable (u : Queue) (w : Word64) (d : Desc)

theorem profileCheck_check (h : dCheck d ≠ crc32c (dBytes60 d)) : profileCheck u w d = .error (.rejCheck, 0xCD00) :=
  if_pos (bne_iff_ne.mpr h)

section
variable (hcheck : dCheck d = crc32c (dBytes60 d))
include hcheck

theorem profileCheck_range (h : 2 ^ plWidth w ≤ (dAlive d).toNat) : profileCheck u w d = .error (.rejField, 56) :=
  (if_neg (by rw [hcheck, bne_self_eq_false]; exact Bool.false_ne_true)).trans (if_pos h)

section
variable (hrange : (dAlive d).toNat < 2 ^ plWidth w) (hk : plWidth w ≠ 0)
include hrange hk

/-- The step of the alive value decides. -/
theorem profileCheck_step : profileCheck u w d =
    (let step := ((dAlive d).toNat + 2 ^ plWidth w - u.alive.toNat % 2 ^ plWidth w) % 2 ^ plWidth w
    if step == 0 || (!u.resync && plStep w < step) then .error (.rejAlive, (u.alive.toNat + 1) % 2 ^ plWidth w)
    else .ok (dAlive d, u.resync)) :=
  (if_neg (by rw [hcheck, bne_self_eq_false]; exact Bool.false_ne_true)).trans ((if_neg (Nat.not_le.mpr hrange)).trans
    (if_neg (by simpa using hk)))

theorem profileCheck_alive (step : Nat) (hs : step = ((dAlive d).toNat + 2 ^ plWidth w - u.alive.toNat % 2 ^ plWidth w) % 2 ^ plWidth w)
    (hne : step ≠ 0) (hle : u.resync = true ∨ step ≤ plStep w) : profileCheck u w d = .ok (dAlive d, u.resync) := by
  rw [profileCheck_step u w d hcheck hrange hk, ← hs]
  refine if_neg ?_
  rw [Bool.or_eq_true, beq_iff_eq, Bool.and_eq_true, Bool.not_eq_true', decide_eq_true_eq]
  rintro (h0 | ⟨hre, hlt⟩)
  · exact hne h0
  · exact hle.elim (fun h => by simp [h] at hre) (Nat.not_le.mpr hlt)

theorem profileCheck_dead (step : Nat) (hs : step = ((dAlive d).toNat + 2 ^ plWidth w - u.alive.toNat % 2 ^ plWidth w) % 2 ^ plWidth w)
    (hbad : step = 0 ∨ u.resync = false ∧ plStep w < step) :
    profileCheck u w d = .error (.rejAlive, (u.alive.toNat + 1) % 2 ^ plWidth w) := by
  rw [profileCheck_step u w d hcheck hrange hk, ← hs]
  refine if_pos ?_
  rwa [Bool.or_eq_true, beq_iff_eq, Bool.and_eq_true, Bool.not_eq_true', decide_eq_true_eq]

end
end
end

/-- The state in which descriptor n of queue q has been staged. -/
def State.stagedDesc (s : State) (q : QueueId) (n : Word32) (d : Desc) : State :=
  s.modQueue q fun u => { u with flight := u.flight.map fun e => if e.num == n then { e with desc := d, stage := .staged } else e }

theorem State.stagedDesc_queue (s : State) (q : QueueId) (n : Word32) (d : Desc) : (s.stagedDesc q n d).queue q =
    { s.queue q with flight := (s.queue q).flight.map fun e => if e.num == n then { e with desc := d, stage := .staged } else e } := by
  rw [State.stagedDesc, State.modQueue_queue, if_pos rfl]

section
variable {dt : Nat} {q : QueueId} {n : Word32} {d : Desc} {e : Inflight} {s S : State} (hS : S = s.elapse dt) (hh : S.hostUp = true)
  (hfind : (S.queue q).flight.find? (fun x => x.num == n) = some e) (hstage : e.stage = .fetching)
  (hahead : ∀ x ∈ (S.queue q).ahead n, x.stage ≠ .fetching)
include hS hh hfind hstage hahead

/-- The last line of a descriptor comes in fetch order. -/
theorem descriptorStaged_acts (ue : Bool) : exec (.descriptorStaged dt q n d ue) s = .next (
    let waiting := ((S.queue q).flight.filter fun e => e.stage == .staged).length
    let A := S.stagedDesc q n d
    if ue then (A.vaultUe 0x120000).finish q n .rejCheck 0xECC0 else
    match A.checkStaged q n d with
    | .error (st, detail) => A.finish q n st detail
    | .ok T =>
      if (T.queue q).st == .draining then T.finish q n .abortedQuiesce 0
      else if q == 0 && T.mason.shed == 4 && 16 < waiting then T.finish q n .rejBusy 0
      else T) := by
  subst hS
  refine next_of_when rfl ?_ rfl
  rw [hh, hfind]
  simpa [hstage] using hahead

theorem descriptorStaged_faulty : exec (.descriptorStaged dt q n d true) s =
    .next (((S.stagedDesc q n d).vaultUe 0x120000).finish q n .rejCheck 0xECC0) :=
  descriptorStaged_acts hS hh hfind hstage hahead true

theorem descriptorStaged_rejected (st : Status) (detail : Nat) (h : (S.stagedDesc q n d).checkStaged q n d = .error (st, detail)) :
    exec (.descriptorStaged dt q n d false) s = .next ((S.stagedDesc q n d).finish q n st detail) := by
  rw [descriptorStaged_acts hS hh hfind hstage hahead false]
  simp only [Bool.false_eq_true, if_false, h]

theorem descriptorStaged_draining (T : State) (h : (S.stagedDesc q n d).checkStaged q n d = .ok T) (hst : (T.queue q).st = .draining) :
    exec (.descriptorStaged dt q n d false) s = .next (T.finish q n .abortedQuiesce 0) := by
  rw [descriptorStaged_acts hS hh hfind hstage hahead false]
  simp only [Bool.false_eq_true, if_false, h]
  rw [if_pos (beq_iff_eq.mpr hst)]

theorem descriptorStaged_waits (T : State) (h : (S.stagedDesc q n d).checkStaged q n d = .ok T) (hst : (T.queue q).st ≠ .draining)
    (hshed : q ≠ 0 ∨ T.mason.shed ≠ 4) : exec (.descriptorStaged dt q n d false) s = .next T := by
  rw [descriptorStaged_acts hS hh hfind hstage hahead false]
  simp only [Bool.false_eq_true, if_false, h]
  rw [if_neg (by simpa using hst), if_neg]
  rw [Bool.and_eq_true, Bool.and_eq_true, beq_iff_eq, beq_iff_eq]
  rintro ⟨⟨hq, h4⟩, -⟩
  exact hshed.elim (· hq) (· h4)

end

section
variable (s : State) (q : QueueId) (n : Word32) (d : Desc)

theorem State.checkStaged_plain (h : (s.queue q).profile = none) : s.checkStaged q n d = .ok s := by
  unfold State.checkStaged
  rw [h]

theorem State.checkStaged_error (x : CtxId) (h : (s.queue q).profile = some x) (r : Status × Nat)
    (hr : profileCheck (s.queue q) s.plumb[x].word d = .error r) : s.checkStaged q n d = .error r := by
  unfold State.checkStaged
  rw [h]
  dsimp only
  rw [hr]

theorem State.checkStaged_ok (x : CtxId) (h : (s.queue q).profile = some x) (v : Word16) (re : Bool)
    (hr : profileCheck (s.queue q) s.plumb[x].word d = .ok (v, re)) : s.checkStaged q n d = .ok (s.modQueue q fun u =>
      { u with alive := v, resync := false, flight := u.flight.map fun e => if e.num == n then { e with aresync := re } else e }) := by
  unfold State.checkStaged
  rw [h]
  dsimp only
  rw [hr]

end

/-- Settles O23: the outcome of the profile's check decides. -/
theorem stagingDescriptors : Obligations.StagingDescriptors := by
  intro dt q n d e s S A hS hh hfind hstage hahead hA
  have hA' : A = S.stagedDesc q n d := by simp only [hA, State.stagedDesc, beq_iff_eq]
  have hq := S.stagedDesc_queue q n d
  rw [← hA'] at hq
  refine ⟨hA' ▸ descriptorStaged_faulty hS hh hfind hstage hahead, fun hprof => ⟨fun hst hshed => ?waits, fun hst => ?drains⟩,
    fun x hprof hst hshed k a V step hk ha hV hstep => ⟨fun hcheck => ?badCheck, fun hcheck => ⟨fun hrange => ?badRange,
      fun hrange hk0 hne hle => ?alive, fun hrange hk0 hbad => ?dead⟩⟩⟩
  case waits =>
    have hok : A.checkStaged q n d = .ok A := A.checkStaged_plain q n d (by rw [hq]; exact hprof)
    rw [hA'] at hok hq ⊢
    exact descriptorStaged_waits hS hh hfind hstage hahead _ hok (by rw [hq]; exact hst) hshed
  case drains =>
    have hok : A.checkStaged q n d = .ok A := A.checkStaged_plain q n d (by rw [hq]; exact hprof)
    rw [hA'] at hok hq ⊢
    exact descriptorStaged_draining hS hh hfind hstage hahead _ hok (by rw [hq]; exact hst)
  all_goals
    subst hA' hk ha hV
    have hprofA : ((S.stagedDesc q n d).queue q).profile = some x := by rw [hq]; exact hprof
    have hplumb : (S.stagedDesc q n d).plumb[x] = S.plumb[x] := rfl
  case badCheck =>
    exact descriptorStaged_rejected hS hh hfind hstage hahead _ _
      (State.checkStaged_error _ q n d x hprofA _ (profileCheck_check _ _ d hcheck))
  case badRange =>
    exact descriptorStaged_rejected hS hh hfind hstage hahead _ _
      (State.checkStaged_error _ q n d x hprofA _ (profileCheck_range _ _ d hcheck hrange))
  case alive =>
    have hok := State.checkStaged_ok _ q n d x hprofA _ _ (profileCheck_alive _ _ d hcheck hrange hk0 step
      (by rw [hq]; exact hstep) hne (by rw [hq]; exact hle))
    rw [descriptorStaged_waits hS hh hfind hstage hahead _ hok (by rw [State.modQueue_queue, if_pos rfl, hq]; exact hst) hshed, hq]
    simp only [beq_iff_eq]
  case dead =>
    have herr := State.checkStaged_error _ q n d x hprofA _ (profileCheck_dead _ _ d hcheck hrange hk0 step
      (by rw [hq]; exact hstep) (by rw [hq]; exact hbad))
    rw [descriptorStaged_rejected hS hh hfind hstage hahead _ _ herr, hq]
    rfl

end Sys2Proof.Machine

/-!
Record staging, record buffers, coalescing and the completion entry (R387, R389, R424, R435–R448), and the settlement of O24 and O25.
-/
namespace Sys2Proof.Machine
open Sys2Proof

/-! ## Staging a record (R389, R445, R446) -/

section
variable (s : State) (r : Record) (who : Option (QueueId × Word32))

theorem State.stage_discarded (h : s.route r = 0x40) : s.stage r who = (s, true) :=
  if_pos (beq_iff_eq.mpr h)

theorem State.stage_fits (h : s.route r ≠ 0x40) (hroom : s.stageRoom r.len = true) :
    s.stage r who = ({ s with staging := s.staging ++ [(r, who)] }, true) :=
  (if_neg fun heq => h (beq_iff_eq.mp heq)).trans (if_pos hroom)

theorem State.stage_full (h : s.route r ≠ 0x40) (hroom : s.stageRoom r.len = false) : s.stage r who = (s, false) :=
  (if_neg fun heq => h (beq_iff_eq.mp heq)).trans (if_neg (Bool.eq_false_iff.mp hroom))

end

theorem State.stagedBytes_eq (s : State) : s.stagedBytes = (s.staging.map fun x => x.1.len).sum +
    (if s.serial.openRec = [] then 0 else (16 + 4 * s.serial.openRec.length + 7) / 8 * 8) := by
  rw [State.stagedBytes, State.recordBytes, ← List.sum_eq_foldl, openLen]
  refine congrArg _ (if_congr ?_ rfl rfl)
  rw [beq_iff_eq, List.length_eq_zero_iff]

/-! ## The first of the queues, and the next record -/

theorem find?_finRange {n : Nat} (p : Fin n → Bool) (q : Fin n) (hq : p q = true) (hbelow : ∀ r < q, p r = false) :
    (List.finRange n).find? p = some q := by
  refine List.find?_eq_some_iff_getElem.mpr ⟨hq, q.val, by simp, by simp, fun j hj => ?_⟩
  rw [List.getElem_finRange, Bool.not_eq_true']
  exact hbelow _ hj

/-- The record dealt with next is the oldest of its route that has a destination or is discarded. -/
theorem State.nextRecord_eq (s : State) (older newer : List (Record × Option (QueueId × Word32))) (r : Record)
    (who : Option (QueueId × Word32)) (hst : s.staging = older ++ (r, who) :: newer)
    (hblocked : ∀ (a b : List (Record × Option (QueueId × Word32))) (x : Record × Option (QueueId × Word32)), older = a ++ x :: b →
      (∀ y ∈ a, s.route y.1 ≠ s.route x.1) → s.destOf x.1 = none ∧ s.route x.1 ≠ 0x40)
    (hfirst : ∀ x ∈ older, s.route x.1 ≠ s.route r) (hmay : s.route r = 0x40 ∨ (s.destOf r).isSome = true) :
    s.nextRecord = some older.length := by
  unfold State.nextRecord
  rw [hst]
  refine List.find?_eq_some_iff_getElem.mpr ⟨?here, older.length, by simp, by simp, fun j hj => ?before⟩
  case here =>
    rw [List.getElem?_append_right (Nat.le_refl _), Nat.sub_self, List.take_left]
    exact Bool.and_eq_true_iff.mpr ⟨by rw [Bool.or_eq_true, beq_iff_eq]; exact hmay,
      List.all_eq_true.mpr fun x hx => bne_iff_ne.mpr (hfirst x hx)⟩
  case before =>
    have htake : (older ++ (r, who) :: newer).take j = older.take j := List.take_append_of_le_length (Nat.le_of_lt hj)
    have hsplit : older = older.take j ++ older[j] :: older.drop (j + 1) := by
      rw [List.getElem_cons_drop, List.take_append_drop]
    rw [List.getElem_range, List.getElem?_append_left hj, List.getElem?_eq_getElem hj, htake]
    dsimp only
    rw [Bool.not_eq_true', Bool.and_eq_false_iff]
    by_cases hall : ∀ y ∈ older.take j, s.route y.1 ≠ s.route older[j].1
    · obtain ⟨hdest, hroute⟩ := hblocked _ _ _ hsplit hall
      exact Or.inl (by simp [hdest, hroute])
    · refine Or.inr (Bool.eq_false_iff.mpr fun h => hall fun y hy => ?_)
      exact bne_iff_ne.mp (List.all_eq_true.mp h y hy)

/-- What becomes of the record that is next, with P the state before it left staging and A the state after (R387, R444–R447). -/
def State.dealRecord (P A : State) (ue : Bool) (r : Record) (who : Option (QueueId × Word32)) : State :=
  if P.route r == 0x40 then A.recordDone r who
  else if ue then
    let B := (A.vaultUe (0x120000 + laDstg P.vault.layout * 65536)).countDrop r
    (match who with
      | some (q, n) => B.modQueue q fun (u : Queue) =>
        { u with flight := u.flight.map fun (e : Inflight) => if e.num == n then { e with rdrop := true } else e }
      | none => B).recordDone r who
  else match P.destOf r with
    | some q => A.writeRecord q r who
    | none => P

section
variable (P A : State) (r : Record)

theorem State.dealRecord_discards (ue : Bool) (who : Option (QueueId × Word32)) (h : P.route r = 0x40) :
    P.dealRecord A ue r who = A.recordDone r who := if_pos (beq_iff_eq.mpr h)

theorem State.dealRecord_writes (who : Option (QueueId × Word32)) (q : QueueId) (h : P.route r ≠ 0x40) (hdest : P.destOf r = some q) :
    P.dealRecord A false r who = A.writeRecord q r who := by
  refine (if_neg fun heq => h (beq_iff_eq.mp heq)).trans ((if_neg Bool.false_ne_true).trans ?_)
  simp only [hdest]

theorem State.dealRecord_loses (h : P.route r ≠ 0x40) :
    P.dealRecord A true r none = (A.vaultUe (0x120000 + laDstg P.vault.layout * 65536)).countDrop r :=
  (if_neg fun heq => h (beq_iff_eq.mp heq)).trans (if_pos rfl)

end

/-! ## Coalescing, flushing and retirement (R444, R448) -/

section
variable {dt : Nat} {s S : State} (hS : S = s.elapse dt) (hh : S.hostUp = true)
include hS hh

theorem coalesceTimeout_signals (q : QueueId) (t : Nat) (hon : (S.queue q).ctime ≠ 0) (hold : (S.queue q).oldest = some t)
    (hdue : t + (S.queue q).ctime * 1000 ≤ S.now) : exec (.coalesceTimeout dt q) s = .next (S.signalQueue q) := by
  subst hS
  refine next_of_when rfl ?_ rfl
  rw [hh, hold, bne_iff_ne.mpr hon]
  exact decide_eq_true hdue

theorem recordFlushTimeout_retires (q : QueueId) (b : RecBuf) (rest : List RecBuf) (t : Nat) (hbufs : (S.queue q).bufs = b :: rest)
    (hfirst : b.firstAt = some t) (hdue : t + S.flush * 1000 ≤ S.now) :
    exec (.recordFlushTimeout dt q) s = .next (S.retire q b .done) := by
  subst hS
  refine next_of_when rfl hh ?_
  rw [hbufs]
  dsimp only
  rw [hfirst]
  exact if_pos hdue

section
variable (hrole : S.holdsRole = true) (hbme : S.host.bme = true) (hd3 : S.host.d3hot = false)
include hrole hbme hd3

/-- The record that is next leaves staging. -/
theorem recordWrite_acts (ue : Bool) (older newer : List (Record × Option (QueueId × Word32))) (r : Record)
    (who : Option (QueueId × Word32)) (hst : S.retireFull.staging = older ++ (r, who) :: newer)
    (hnext : S.retireFull.nextRecord = some older.length) :
    exec (.recordWrite dt ue) s =
      .next (S.retireFull.dealRecord ({ S.retireFull with staging := older ++ newer } : State).drainRx ue r who) := by
  subst hS
  refine next_of_when rfl (by rw [hh, hrole, hbme, hd3]; rfl) ?_
  dsimp only
  rw [hnext]
  dsimp only
  have hat : (s.elapse dt).retireFull.staging[older.length]? = some (r, who) := by
    rw [hst, List.getElem?_append_right (Nat.le_refl _), Nat.sub_self]
    rfl
  have herase : (s.elapse dt).retireFull.staging.eraseIdx older.length = older ++ newer := by
    rw [hst, List.eraseIdx_append_of_length_le (Nat.le_refl _), Nat.sub_self]
    rfl
  rw [hat, herase]
  rfl

end
end

theorem State.retireFull_none (s : State) (h : ∀ q, s.overfull q = false) : s.retireFull = s := by
  unfold State.retireFull
  rw [List.find?_eq_none.mpr fun q _ => Bool.eq_false_iff.mp (h q)]

theorem State.overfull_of (s : State) (q : QueueId) (b : RecBuf) (rest : List RecBuf)
    (older newer : List (Record × Option (QueueId × Word32))) (r : Record) (who : Option (QueueId × Word32)) (hq : q ≠ 0)
    (hst : (s.queue q).st = .active) (hbufs : (s.queue q).bufs = b :: rest) (hstg : s.staging = older ++ (r, who) :: newer)
    (hfirst : ∀ x ∈ older, s.route x.1 ≠ q.val) (hroute : s.route r = q.val) (hused : b.used ≠ 0) (hfull : b.len < b.used + r.len) :
    s.overfull q = true := by
  have hfind : s.staging.find? (fun e => s.route e.1 == q.val) = some (r, who) := by
    rw [hstg, List.find?_append, List.find?_eq_none.mpr fun x hx => by simpa using hfirst x hx, List.find?_cons_of_pos (by simpa using hroute)]
    rfl
  unfold State.overfull
  rw [hfind, hbufs, hst, bne_iff_ne.mpr hq]
  simp [hused, hfull]

theorem State.retireFull_first (s : State) (q : QueueId) (b : RecBuf) (rest : List RecBuf) (hbufs : (s.queue q).bufs = b :: rest)
    (hq : s.overfull q = true) (hbelow : ∀ p < q, s.overfull p = false) : s.retireFull = s.retire q b .done := by
  unfold State.retireFull
  rw [find?_finRange _ q hq hbelow]
  dsimp only
  rw [hbufs]

theorem State.writeRecord_fits (s : State) (q : QueueId) (r : Record) (b : RecBuf) (rest : List RecBuf)
    (hbufs : (s.queue q).bufs = b :: rest) (hfits : b.used + r.len ≤ b.len) : s.writeRecord q r none =
      (s.modQueue q fun u => { u with bufs := { b with used := b.used + r.len, firstAt := some (b.firstAt.getD s.now) } :: rest }).emit
        (.record q b.addr b.used r) := by
  unfold State.writeRecord
  rw [hbufs, List.takeWhile_cons_of_neg (by simpa using hfits)]
  dsimp only [List.foldl_nil]
  rw [hbufs]
  rfl

/-- Settles O24: staging, the order of the records and the life of a buffer are the laws above. -/
theorem recordsAndBuffers : Obligations.RecordsAndBuffers := by
  refine ⟨fun s r who used hused => ?stage, fun dt s S hS hh => ⟨fun q t hon hold hdue => ?coalesce,
      fun q b rest t hbufs hfirst hdue => recordFlushTimeout_retires hS hh q b rest t hbufs hfirst hdue, ?write⟩,
    fun s => ⟨s.retireFull_none, fun q b rest older newer r who hq hst hbufs hstg hfirst hroute hused hfull hbelow =>
      s.retireFull_first q b rest hbufs (s.overfull_of q b rest older newer r who hq hst hbufs hstg hfirst hroute hused hfull) hbelow⟩,
    fun s q r b rest hbufs hfits => s.writeRecord_fits q r b rest hbufs hfits⟩
  case stage =>
    rw [← s.stagedBytes_eq] at hused
    subst hused
    exact ⟨s.stage_discarded r who, fun hr hroom => s.stage_fits r who hr (decide_eq_true (by omega)),
      fun hr hroom => s.stage_full r who hr (decide_eq_false (by omega))⟩
  case coalesce => exact coalesceTimeout_signals hS hh q t hon hold hdue
  case write =>
    rintro older newer r who P hrole hbme hd3 rfl hst hblocked hfirst
    refine ⟨fun hr ue => ?discard, fun q hr hdest => ⟨?written, fun hwho => ?faulty⟩⟩
    case discard =>
      rw [recordWrite_acts hS hh hrole hbme hd3 ue older newer r who hst
        (State.nextRecord_eq _ older newer r who hst hblocked hfirst (Or.inl hr)), State.dealRecord_discards _ _ r ue who hr]
    all_goals
      have hnext := State.nextRecord_eq _ older newer r who hst hblocked hfirst (Or.inr (by rw [hdest]; rfl))
      rw [recordWrite_acts hS hh hrole hbme hd3 _ older newer r who hst hnext]
    case written => rw [State.dealRecord_writes _ _ r who q hr hdest]
    case faulty =>
      subst hwho
      rw [State.dealRecord_loses _ _ r hr]

/-! ## A completion (R424, R435–R440, R448) -/

/-- The phase bit is 1 in the ring's first pass and is inverted at each wrap. -/
theorem phase_eq (w : Word32) (log : Nat) : (!w.getLsbD log) = decide (w.toNat / 2 ^ log % 2 = 0) := by
  rw [BitVec.getLsbD, Nat.testBit_eq_decide_div_mod_eq, ← decide_not]
  exact decide_eq_decide.mpr (by omega)

/-- Settles O25: nothing of the completion but its entry is signalled while it coalesces. -/
theorem completionEntry : Obligations.CompletionEntry := by
  intro s q n st detail time result e hup hrole hbme hd3 hq hfind hcoal hurgent hunsig
  have hio : (q == 0 && s.mason.busy == some n) = false := by rw [beq_eq_false_iff_ne.mpr hq, Bool.false_and]
  have hquiet : (dNocoal e.desc || st.urgent || decide (max 1 (s.queue q).ccnt ≤ (s.queue q).unsig + 1)) = false := by
    rw [hcoal, hurgent]
    exact decide_eq_false (by omega)
  unfold State.completeRaw
  rw [hfind]
  dsimp only
  rw [hio, hquiet, phase_eq]
  exact State.emit_issues _ _ hup hrole hbme hd3

end Sys2Proof.Machine

/-!
PLUMB_SCAN's reserved bytes (R469, R548, R550) and the refutation of O27.
-/
namespace Sys2Proof.Machine
open Sys2Proof

/-- A PLUMB_SCAN of one byte of host memory with context 0, whose byte 20, which R548 reserves, is 1. -/
def reservedScan : Desc := BitVec.ofNat 512 (0x50 + 2 ^ (8 * 5) + 2 ^ (8 * 16) + 2 ^ (8 * 20))

/-- Queue 1 holds it, and it may start. -/
def reservedScanState : State := State.reset.modQueue 1 fun _ => { Reset.queue with
  st := .active
  flight := [{ num := 0, desc := reservedScan, stage := .staged, logged := true, aresync := false, rdrop := false, ford := 0 }] }

theorem reservedScan_runs : (reservedScanState.elapse 0).ioRuns 1 0 reservedScan = true := by decide +kernel

theorem reservedScan_shaped : shaped reservedScan 0x50 false false [(4, 3), (8, 24)] = true := by decide +kernel

theorem reservedScan_bad : (reservedScanState.elapse 0).scanBad reservedScan false = some 20 := by decide +kernel

/-- The command is rejected, and its context holds no scan. -/
theorem reservedScan_rejected : exec (.plumbScan 0 1 0) reservedScanState =
    .next (((reservedScanState.elapse 0).started 1 0).finish 1 0 .rejField 20) :=
  congrArg Host.Outcome.next (State.io_rejected _ 1 0 reservedScan (isOp 0x50) (reservedScanState.elapse 0).scanNeeds
    (reservedScanState.elapse 0).scanBad _ reservedScan_runs (by decide +kernel) (by decide +kernel)
    (by rw [show ((reservedScanState.elapse 0).queue 1).profile.isSome = false by decide +kernel]; exact reservedScan_bad))

theorem State.finish_plumb (s : State) (q : QueueId) (n : Word32) (st : Status) (detail : Nat) :
    (s.finish q n st detail).plumb = s.plumb := by
  have h := s.complete_field q n st detail s.now 0
  simp only [State.field, Prod.mk.injEq] at h
  obtain ⟨-, -, -, -, -, -, -, -, -, hplumb, -⟩ := h
  exact hplumb

/-- Refutes O27: its PLUMB_SCAN clause lets bytes 20 to 23 be anything, which the command's row leaves reserved: there a byte that
is not 0 gives REJ_FIELD, and the scan does not start. -/
theorem not_dataCommands : ¬ Obligations.DataCommands := by
  intro h
  obtain ⟨-, -, -, -, hscan, -⟩ := h 0 1 0 reservedScan reservedScanState (reservedScanState.elapse 0) false 0 rfl reservedScan_runs rfl rfl
  have hstarts := hscan 0 reservedScan_shaped (by decide +kernel) (by decide +kernel) (by decide +kernel) (by decide +kernel)
    (by decide +kernel) (by decide +kernel) (by decide +kernel) (by decide +kernel)
  rw [reservedScan_rejected] at hstarts
  have hplumb := congrArg (fun t : State => t.plumb[(0 : CtxId)].scan) (Host.Outcome.next.inj hstarts)
  rw [State.finish_plumb] at hplumb
  exact absurd hplumb (by decide +kernel)

end Sys2Proof.Machine

/-!
Plumb's scans and passes and the scrubber (R385–R388, R548–R555), and the settlement of O28.
-/
namespace Sys2Proof.Machine
open Sys2Proof

section
variable {dt : Nat} {x : CtxId} {s S : State} {p : Plumb} (hS : S = s.elapse dt) (hp : p = S.plumb[x])
include hS hp

/-- A scan of a host range ends with its check value (R548–R550). -/
theorem plumbScanComplete_host (data : List Byte) (q : QueueId) (n : Word32) (e : Inflight) (v : Nat) (hh : S.hostUp = true)
    (hscan : p.scan = some (q, n)) (hfind : (S.queue q).flight.find? (fun y => y.num == n) = some e) (hhost : dNum e.desc 5 1 = 1)
    (hlen : data.length = dNum e.desc 16 4) (hv : v = crc (S.ctxParams x) data) :
    exec (.plumbScanComplete dt x data false) s = .next
      (((S.modPlumb x fun c => { c with scan := none }).complete q n
        (if dNum e.desc 6 1 = 1 ∧ v ≠ dNum e.desc 24 8 then .rejCheck else .done)
        (if dNum e.desc 6 1 = 1 ∧ v ≠ dNum e.desc 24 8 then 0xCE00 else 0) S.now (BitVec.ofNat 128 v)).nextScan x) := by
  subst hp hS hv
  refine next_of_when rfl hh ?_
  dsimp only
  rw [hscan]
  dsimp only
  rw [hfind]
  dsimp only
  rw [if_neg (by rw [hlen]; simp [scanLen]), hhost]
  refine congrArg (State.nextScan · x) ((if_neg (by decide)).trans ?_)
  by_cases hcmp : dNum e.desc 6 1 = 1 ∧ crc ((s.elapse dt).ctxParams x) data ≠ dNum e.desc 24 8
  · rw [if_pos hcmp, if_pos hcmp]
    exact if_pos (by rw [Bool.and_eq_true, beq_iff_eq, bne_iff_ne]; exact hcmp)
  · rw [if_neg hcmp, if_neg hcmp]
    exact if_neg (by rw [Bool.and_eq_true, beq_iff_eq, bne_iff_ne]; exact hcmp)

theorem plumbPassDue_acts (hup : S.up = true) (htarget : plTarget p.word ≠ 0) (hpass : p.pass = false) (hdue : p.passDue = false)
    (hage : p.passAt + plSper p.word * 1000000 ≤ S.now) :
    exec (.plumbPassDue dt x) s = .next (S.modPlumb x fun c => if p.scan.isSome then { c with passDue := true }
      else { c with pass := true, passAt := S.now, passDue := false, skip := [],
                    obj := if plTarget c.word = 1 then S.course.active.val else 0 }) := by
  subst hp hS
  refine next_of_when rfl ?_ ?_
  · rw [hup, bne_iff_ne.mpr htarget, hpass, hdue, decide_eq_true hage]
    rfl
  · split
    case isTrue => rfl
    case isFalse =>
      simp only [State.passStarts, beq_iff_eq]
      rfl

/-- The pass goes on after the object, or ends with it (R552). -/
theorem plumbPassEnd_acts (value : Word32) (hup : S.up = true) (hpass : p.pass = true) :
    exec (.plumbPassEnd dt x value false) s = .next (
      if plTarget p.word == 2 && p.obj < 31 then (S.objectEnd x value false).modPlumb x fun c => { c with obj := c.obj + 1 }
      else ((S.objectEnd x value false).modPlumb x fun c => { c with pass := false, passCnt := min 255 (c.passCnt + 1) }).nextScan x) := by
  subst hp hS
  exact next_of_when rfl (by rw [hup, hpass]; rfl) rfl

omit hS

theorem State.objectEnd_good (value : Word32) (h : p.obj ∈ p.skip ∨ S.stored (plTarget p.word) p.obj = value) :
    S.objectEnd x value false = S := by
  subst hp
  unfold State.objectEnd
  dsimp only
  by_cases hskip : S.plumb[x].obj ∈ S.plumb[x].skip
  · exact if_pos (List.contains_iff_mem.mpr hskip)
  · rw [if_neg (fun hc => hskip (List.contains_iff_mem.mp hc)), if_neg Bool.false_ne_true]
    exact if_neg (by rw [h.resolve_left hskip]; simp)

theorem State.objectEnd_mismatch (value : Word32) (hskip : p.obj ∉ p.skip) (h : S.stored (plTarget p.word) p.obj ≠ value) :
    S.objectEnd x value false = ((S.vaultUe (objAddr (plTarget p.word) p.obj)).suspect (plTarget p.word) p.obj).modPlumb x
      fun c => { c with misCnt := min 255 (c.misCnt + 1) } := by
  subst hp
  unfold State.objectEnd
  dsimp only
  rw [if_neg (fun hc => hskip (List.contains_iff_mem.mp hc)), if_neg Bool.false_ne_true, if_pos (bne_iff_ne.mpr h)]
  rfl

end

/-- Settles O28: an object's end leaves the state of `State.objectEnd`, and the pass goes on or ends. -/
theorem plumbAndScrub : Obligations.PlumbAndScrub := by
  intro dt x s S p hS hp
  refine ⟨fun data q n e v hh hscan hfind hhost hlen hv => plumbScanComplete_host hS hp data q n e v hh hscan hfind hhost hlen hv,
    plumbPassDue_acts hS hp, fun value hup hpass hgood => ?good, fun value hup hpass hskip hbad htarget => ?bad, fun bank hup => ?scrub⟩
  case good =>
    rw [plumbPassEnd_acts hS hp value hup hpass, S.objectEnd_good hp value hgood]
    exact ⟨fun htarget hobj => congrArg _ (if_pos (by rw [htarget, decide_eq_true hobj]; rfl)),
      fun htarget => congrArg _ (if_neg (by rw [htarget]; exact Bool.false_ne_true))⟩
  case bad =>
    rw [plumbPassEnd_acts hS hp value hup hpass, S.objectEnd_mismatch hp value hskip hbad, htarget]
    rfl
  case scrub =>
    subst hS
    exact ⟨next_of_when rfl hup rfl, next_of_when rfl hup rfl, fun q => next_of_when rfl hup rfl⟩

end Sys2Proof.Machine

/-!
Reads of command data and failed reads of the host's memory (R281, R458, R475, R550, R579, R594, R595), and the settlement of O29.
-/
namespace Sys2Proof.Machine
open Sys2Proof

/-- What a command does with the data that it has read. -/
def State.takeData (s : State) (q : QueueId) (n : Word32) (d : Desc) (pass2 : Option Word32) (data : List Byte) : State :=
  match pass2, dOp d with
  | some crc, _ => s.coursePass2 q n d crc data
  | none, 0x30 => s.coursePass1 q n d data
  | none, 0x38 => s.seqData q n d data
  | none, 0x41 => s.coefData q n d data
  | none, 0x08 => s.fwData n d data
  | none, 0x0B => s.accessData n d data
  | none, _ => s

section
variable {dt : Nat} {q : QueueId} {n : Word32} {d : Desc} {s S : State} (hS : S = s.elapse dt) (hh : S.hostUp = true)
include hS hh

/-- Data of the length that the command asks for let it go on. -/
theorem commandDataReadComplete_acts (data : List Byte) (pass2 : Option Word32) (hlen : data.length = dataLen d)
    (hop : S.dataOp q n = some (d, pass2)) :
    exec (.commandDataReadComplete dt q n data) s = .next (S.takeData q n d pass2 data) := by
  subst hS
  refine next_of_when rfl hh ?_
  rw [hop]
  exact if_neg (by rw [hlen, bne_self_eq_false]; exact Bool.false_ne_true)

theorem hostReadFailure_command (hop : S.dataOp q n = some (d, none)) :
    exec (.hostReadFailure dt (.command q n)) s = .next ((S.raiseCause 4).finish q n .rejCheck 0xDA00) := by
  subst hS
  refine next_of_when rfl hh ?_
  dsimp only
  rw [hop]
  rfl

theorem hostReadFailure_poll (hout : S.host.pollOut = true) : exec (.hostReadFailure dt .poll) s =
    .next ((S.modHost fun h => { h with pollOut := false }).raiseCause 4) := by
  subst hS
  exact next_of_when rfl hh (if_pos hout)

theorem hostReadFailure_index (hout : S.host.indexOut = true) : exec (.hostReadFailure dt .index) s =
    .next ((S.modHost fun h => { h with indexOut := false, genSeen := none }).raiseCause 4) := by
  subst hS
  exact next_of_when rfl hh (if_pos hout)

theorem hostReadFailure_descriptor (first : Word32) (count : Nat) (e : Inflight) (he : e ∈ (S.queue q).flight)
    (hstage : e.stage = .fetching) (hnum : (e.num - first).toNat < count) (hst : (S.queue q).st ≠ .error) :
    exec (.hostReadFailure dt (.descriptor q first count)) s = .next (((((S.modQueue q fun u => { u with
      flight := u.flight.filter (fun y => !(y.stage == .fetching && decide ((y.num - first).toNat < count))),
      st := .error, err := some .fetch }).raiseCause 4).raiseCause 3).drained q).finishDrains) := by
  subst hS
  refine next_of_when rfl hh ?_
  have hmine : ((s.elapse dt).queue q).flight.any (fun y => y.stage == .fetching && decide ((y.num - first).toNat < count)) = true :=
    List.any_eq_true.mpr ⟨e, he, by rw [hstage, decide_eq_true hnum]; rfl⟩
  refine (if_neg (by rw [hmine]; exact Bool.false_ne_true)).trans ?_
  rw [State.modQueue_congr _ q _ (fun u => { u with
    flight := u.flight.filter (fun y => !(y.stage == .fetching && decide ((y.num - first).toNat < count))),
    st := .error, err := some .fetch })]
  rw [if_neg (by rw [beq_iff_eq]; exact hst)]

end

/-! ## What the data do (R579, R594, R595) -/

theorem State.fwData_rom (s : State) (n : Word32) (d : Desc) (data : List Byte) (hst : s.mason.stage = 4) :
    s.fwData n d data = (s.modMason fun m => { m with sram := if dNum d 4 4 = 0 then data else m.sram ++ data }).finish 0 n .done 0 := by
  refine (if_pos ((State.romHere_iff s).mpr hst)).trans ?_
  simp only [beq_iff_eq]

/-- A whole table of good rows, none of them in use, replaces the rows. -/
theorem State.accessData_table (s : State) (n : Word32) (d : Desc) (data : List Byte) (rows : Vector Word64 22)
    (hlock : s.locked = false) (hsel : dNum d 4 1 = 0xFF) (hlen : data.length = 176)
    (hrows : rows = Vector.ofFn fun i => BitVec.ofNat 64 (fieldAt data (8 * i.val) 8)) (hgood : ∀ w ∈ rows, rowBad w = false)
    (hfree : s.rowsInUse rows = false) :
    s.accessData n d data = (({ s with rows := rows } : State).configured none).finish 0 n .done 0 := by
  have hnew : (Vector.ofFn fun i : Fin 22 =>
      ((List.range (data.length / 8)).map fun i => (BitVec.ofNat 64 (fieldAt data (8 * i) 8) : Word64)).getD i.val 0) = rows := by
    rw [hrows, hlen]
    refine congrArg Vector.ofFn (funext fun i => ?_)
    rw [List.getD_eq_getElem _ _ (by simp), List.getElem_map, List.getElem_range]
  have hbad : ((List.range (data.length / 8)).map fun i => (BitVec.ofNat 64 (fieldAt data (8 * i) 8) : Word64)).any rowBad = false := by
    rw [List.any_eq_false]
    intro w hw
    obtain ⟨i, hi, rfl⟩ := List.mem_map.mp hw
    rw [List.mem_range, hlen] at hi
    refine Bool.eq_false_iff.mp (hgood _ ?_)
    rw [hrows, Vector.mem_ofFn]
    exact ⟨⟨i, hi⟩, rfl⟩
  unfold State.accessData
  rw [if_neg (Bool.eq_false_iff.mp hlock)]
  dsimp only
  rw [if_neg (Bool.eq_false_iff.mp hbad), if_pos (beq_iff_eq.mpr hsel), hnew, if_neg (Bool.eq_false_iff.mp hfree)]

/-- Settles O29: the data that have come go to the operation of the command's opcode. -/
theorem commandData : Obligations.CommandData := by
  intro dt q n d s S hS hh
  refine ⟨fun data hlen hop => ?data, fun data crc1 hlen hop => ?_, hostReadFailure_command hS hh, hostReadFailure_poll hS hh,
    hostReadFailure_index hS hh, fun first count e he hstage hnum hst => hostReadFailure_descriptor hS hh first count e he hstage hnum hst⟩
  case data =>
    have hacts := commandDataReadComplete_acts hS hh data none hlen hop
    refine ⟨fun hd => ?_, fun hd => ?_, fun hd => ?_, fun hd hst => ?_, fun hd hlock hsel h176 rows hrows hgood hfree => ?_⟩
    all_goals
      unfold State.takeData at hacts
      rw [hd] at hacts
    · exact hacts
    · exact hacts
    · exact hacts
    · exact hacts.trans (congrArg Host.Outcome.next (State.fwData_rom S n d data hst))
    · have hlen' : data.length = 176 := by
        rw [hlen, ← h176]
        simp only [dataLen, hd]
      exact hacts.trans (congrArg Host.Outcome.next (State.accessData_table S n d data rows hlock hsel hlen' hrows hgood hfree))
  · exact commandDataReadComplete_acts hS hh data (some crc1) hlen hop

end Sys2Proof.Machine

/-!
The serial port's events (R556–R570), and the settlement of O30.
-/
namespace Sys2Proof.Machine
open Sys2Proof

section
variable {dt : Nat} {s S : State} {p : Serial} (hS : S = s.elapse dt) (hp : p = S.serial) (hup : S.serialUp = true)
include hS hp hup

/-! ## Collisions and retries (R565, R566) -/

theorem spCollide_aborts (own : Fin 2) (sel : Fin 3) (hmm : spMmen p.word = true) (hab : p.aborted = false) (hscs : p.scs = true)
    (hne : sel.val ≠ own.val) : exec (.spCollide dt (own, sel)) s =
      .next ((S.modSerial fun c => { c with aborted := true, colCnt := min 255 (c.colCnt + 1), cs0 := c.cs0 && sel != 0,
                                            cs1 := c.cs1 && sel != 1, scs := sel != 2, freeSince := S.now }).raiseCause 10) := by
  subst hp hS
  exact next_of_when rfl (by rw [hup, hmm, hab, hscs, bne_iff_ne.mpr hne]; rfl) rfl

theorem serialRetry_retries (hab : p.aborted = true) (hscs : p.scs = true) (hfree : p.freeSince + 1000 * spTbus p.word ≤ S.now) :
    exec (.serialRetry dt) s = .next (S.modSerial fun c => { c with aborted := false, cs0 := true, cs1 := true }) := by
  subst hp hS
  exact next_of_when rfl (by rw [hup, hab, hscs, decide_eq_true hfree]; rfl) rfl

/-! ## The XIP window (R561–R564) -/

section
variable {addr : Nat} {line next : List Byte} {d : FlashDev} (hflash : p.flash[0] = some d) (hwin : addr < 0x4000000)
  (hdens : addr < d.density) (hline : line.length = 256) (hnext : next.length = 256)
include hflash hwin hdens hline hnext

omit hS hup hline hnext in
theorem Serial.xipEnd_covers : addr < p.xipEnd := by
  subst hp
  unfold Serial.xipEnd
  rw [hflash]
  exact Nat.lt_min.mpr ⟨hwin, hdens⟩

theorem xipRead_fetches (hab : p.aborted = false) (hbus : S.busFree = true)
    (hmiss : p.lines.find? (fun l => l.1 == addr / 256) = none) :
    exec (.xipRead dt addr line next) s = .next (S.modSerial fun c => c.fill (addr / 256) line) := by
  have hend := Serial.xipEnd_covers hp hflash hwin hdens
  subst hp hS
  refine (if_neg (Nat.not_le.mpr hwin)).trans (next_of_when rfl (by rw [hup, hline, hnext, decide_eq_true hend]; rfl) ?_)
  dsimp only
  rw [hmiss]
  exact if_pos (by rw [hbus, hab]; rfl)

/-- A hit in a line's first half reads nothing. -/
theorem xipRead_hits (l : Nat × List Byte) (hhit : p.lines.find? (fun l => l.1 == addr / 256) = some l) (hhalf : addr % 256 < 128) :
    exec (.xipRead dt addr line next) s = .next (S.modSerial fun c => { c with lines := useLine c.lines (addr / 256) l.2 }) := by
  have hend := Serial.xipEnd_covers hp hflash hwin hdens
  subst hp hS
  refine (if_neg (Nat.not_le.mpr hwin)).trans (next_of_when rfl (by rw [hup, hline, hnext, decide_eq_true hend]; rfl) ?_)
  dsimp only
  rw [hhit, decide_eq_false (by omega)]
  rfl

end

/-! ## The slave port (R567–R570) -/

omit hS hp hup in
theorem Serial.send_rx (p : Serial) : p.send.rx = p.rx := by
  unfold Serial.send
  split <;> rfl

theorem slaveWord_acts (w : Word32) (hen : spSen p.word = true) (hscs : p.scs = false) (hw : w.toNat < 2 ^ spBits p.word) :
    let A : State := S.modSerial fun c => { c.send with lastWord := S.now }
    exec (.slaveWord dt w) s = .next
      (if S.permits 12 [(0x16, 2)] = false then (A.modSerial fun c => { c with ovfCnt := min 255 (c.ovfCnt + 1) }).deny 12 0x16 2
       else if 64 ≤ p.rx.length then A.modSerial fun c => { c with ovfCnt := min 255 (c.ovfCnt + 1) }
       else (A.modSerial fun c => { c with rx := c.rx ++ [(w, S.now)] }).drainRx) := by
  subst hp hS
  refine next_of_when rfl (by rw [hup, hen, hscs, decide_eq_true hw]; rfl) ?_
  refine if_congr ?_ rfl (if_congr ?_ rfl rfl)
  · rw [State.permits_single, Bool.not_eq_true']
    rfl
  · rw [State.modSerial_serial]
    dsimp only
    rw [Serial.send_rx]

theorem slaveSelectRise_acts (bits : Nat) (hscs : p.scs = false) (hen : spSen p.word = true) (hbits : bits < spBits p.word) :
    exec (.slaveSelectRise dt bits) s = .next (
      let A := (S.modSerial fun c => { c with scs := true, freeSince := S.now }).stageOpen.drainRx
      if bits == 0 then A else A.modSerial fun c =>
        { c.send with txCut := if c.tx.isEmpty then c.txCut else min 255 (c.txCut + 1), partCnt := c.partCnt + 1 }) := by
  subst hp hS
  refine next_of_when (S := (s.elapse dt).modSerial fun c => { c with scs := true, freeSince := (s.elapse dt).now }) rfl ?_ rfl
  rw [show ((s.elapse dt).modSerial fun c => { c with scs := true, freeSince := (s.elapse dt).now }).serialUp = true from hup, hscs,
    State.modSerial_serial, decide_eq_true hbits, hen]
  rfl

theorem sidebandRecordTimeout_stages (hopen : p.openRec ≠ []) (hdue : p.lastWord + 100000 ≤ S.now) :
    exec (.sidebandRecordTimeout dt) s = .next S.stageOpen.drainRx := by
  subst hp hS
  exact next_of_when rfl (by rw [hup, List.isEmpty_eq_false_iff.mpr hopen, decide_eq_true hdue]; rfl) rfl

end

/-- Settles O30: each event of the port is its law above. -/
theorem serialPort : Obligations.SerialPort := by
  intro dt s S p hS hp
  refine ⟨by subst hS; rfl, fun hup => ⟨spCollide_aborts hS hp hup, serialRetry_retries hS hp hup,
      fun addr line next d hflash hwin hdens hline hnext hab hbus => ⟨fun hmiss => ?fetch, fun l hhit hhalf =>
        xipRead_hits hS hp hup hflash hwin hdens hline hnext l hhit hhalf⟩,
      fun w rest htx => ?sent, fun htx => ?fill, slaveWord_acts hS hp hup, fun hscs hen => ⟨?rise, fun bits hpos hbits => ?cut⟩,
      sidebandRecordTimeout_stages hS hp hup⟩, fun addr line next hout => if_pos hout⟩
  case fetch =>
    rw [xipRead_fetches hS hp hup hflash hwin hdens hline hnext hab hbus hmiss]
    subst hp
    refine congrArg (fun u => Host.Outcome.next { S with serial := u }) ?_
    unfold Serial.fill Serial.masonRead
    dsimp only
    rw [hflash]
    dsimp only
    split <;> rfl
  case sent => rw [Serial.send, htx]
  case fill => rw [Serial.send, htx]; rfl
  case rise => exact slaveSelectRise_acts hS hp hup 0 hscs hen (by unfold spBits; positivity)
  case cut =>
    rw [slaveSelectRise_acts hS hp hup bits hscs hen hbits]
    dsimp only
    rw [if_neg (by simpa using Nat.pos_iff_ne_zero.mp hpos)]
    simp only [List.isEmpty_iff]

end Sys2Proof.Machine

/-!
CH_CONFIG, SAFE_DEFINE and BUDGET_SET (R37, R121–R126, R154, R155, R163, R237–R239, R478–R480), with the rules for the effect of a
good I/O command and for passes over channels and quadrants, and the settlement of O31 and O32.
-/
namespace Sys2Proof.Machine
open Sys2Proof

/-! ## Good I/O commands, and passes over channels and quadrants -/

/-- The effect of a good I/O command: its descriptor is shaped, permitted, and no field check holds. -/
theorem State.io_shaped (s : State) (q : QueueId) (n : Word32) (d : Desc) (op : Nat) (used : List (Nat × Nat))
    (checks : Desc → List (Bool × Nat)) (needs : Desc → List (Nat × Nat)) (body : Desc → State → State)
    (hr : s.ioRuns q n d = true) (hs : shaped d op (s.queue q).profile.isSome false used = true)
    (hp : s.permits (s.queue q).hctx.val (needs d) = true) (hc : ∀ x ∈ checks d, x.1 = false) :
    s.io q n (isOp op) needs (fun d p => firstBad d p false used (checks d)) body = body d (s.started q n) :=
  s.io_runs q n d _ needs _ _ hr (isOp_of_shaped hs) hp (firstBad_of_shaped hs hc)

/-- A pass whose step is a change of one channel in every state that R allows. -/
theorem State.foldl_chans (s : State) (step : State → ChanId → State) (f : ChanId → Chan → Chan) (R : State → Prop) (hR : R s)
    (hstep : ∀ t c, R t → step t c = t.modChan c (f c)) (hkeep : ∀ t c, R t → R (t.modChan c (f c)))
    (l : List ChanId) (hl : l.Nodup) : l.foldl step s = s.onChans (fun c => decide (c ∈ l)) f := by
  rw [← s.foldl_modChan f l hl]
  clear hl
  induction l generalizing s with
  | nil => rfl
  | cons a l ih =>
    rw [List.foldl_cons, List.foldl_cons, hstep s a hR]
    exact ih _ (hkeep s a hR)

theorem maskChans_nodup (m : Mask128) : (maskChans m).Nodup := (List.nodup_finRange 128).filter _

theorem mem_maskChans (m : Mask128) (c : ChanId) : c ∈ maskChans m ↔ bit m c.val = true := by
  simp [maskChans, allChans]

theorem State.onChans_maskChans (s : State) (m : Mask128) (f : ChanId → Chan → Chan) :
    s.onChans (fun c => decide (c ∈ maskChans m)) f = s.onChans (fun c => bit m c.val) f := by
  refine congrArg (s.onChans · f) (funext fun c => ?_)
  rw [Bool.eq_iff_iff, decide_eq_true_eq, mem_maskChans]

theorem find?_maskChans_none {m : Mask128} {p : ChanId → Bool} (h : ∀ c : ChanId, bit m c.val = true → p c = false) :
    (maskChans m).find? p = none :=
  List.find?_eq_none.mpr fun c hc => Bool.eq_false_iff.mp (h c ((mem_maskChans m c).mp hc))

theorem State.onQuads_id (s : State) : s.onQuads (fun _ x => x) = s := by
  have h : Vector.ofFn (fun q : QuadId => s.quad q) = s.quads := by
    ext i hi : 1
    simp [State.quad]
  simp only [State.onQuads, h]

theorem State.onQuads_quad (s : State) (f : QuadId → Quad → Quad) (q : QuadId) : (s.onQuads f).quad q = f q (s.quad q) := by
  simp [State.onQuads, State.quad]

theorem State.onQuads_onQuads (s : State) (f g : QuadId → Quad → Quad) :
    (s.onQuads f).onQuads g = s.onQuads fun q x => g q (f q x) := by
  refine congrArg (fun v => { s with quads := Vector.ofFn v }) (funext fun q => ?_)
  rw [State.onQuads_quad]

theorem State.modQuad_eq_onQuads (s : State) (q : QuadId) (f : Quad → Quad) :
    s.modQuad q f = s.onQuads fun r x => if q = r then f x else x := by
  refine congrArg (fun v => { s with quads := v }) ?_
  ext i hi : 1
  simp only [Vector.getElem_ofFn, Vector.getElem_set, State.quad, Fin.ext_iff]
  split
  · next h => subst h; rfl
  · rfl

/-- Each quadrant of the list is changed once, by what it was before the pass. -/
theorem State.foldl_modQuad (s : State) (f : QuadId → Quad → Quad) (l : List QuadId) (hl : l.Nodup) :
    l.foldl (fun t q => t.modQuad q (f q)) s = s.onQuads fun q x => if q ∈ l then f q x else x := by
  induction l generalizing s with
  | nil => simpa using s.onQuads_id.symm
  | cons a l ih =>
    obtain ⟨ha, hl⟩ := List.nodup_cons.mp hl
    rw [List.foldl_cons, ih _ hl, State.modQuad_eq_onQuads, State.onQuads_onQuads]
    refine congrArg s.onQuads (funext fun q => funext fun x => ?_)
    by_cases hq : a = q
    · subst hq; simp [ha]
    · simp [hq, Ne.symm hq]

theorem dQuads_nodup (d : Desc) (off : Nat) : (dQuads d off).Nodup := (List.nodup_finRange 4).filter _

theorem mem_dQuads (d : Desc) (off : Nat) (k : QuadId) : k ∈ dQuads d off ↔ (dNum d off 1).testBit k.val = true := by
  simp [dQuads]

theorem State.foldl_dQuads (s : State) (d : Desc) (off : Nat) (f : QuadId → Quad → Quad) :
    (dQuads d off).foldl (fun t q => t.modQuad q (f q)) s =
      s.onQuads fun k x => if (dNum d off 1).testBit k.val then f k x else x := by
  rw [s.foldl_modQuad f _ (dQuads_nodup d off)]
  simp only [mem_dQuads]

/-! ## CH_CONFIG (R121–R126, R154, R478) -/

/-- Words are filed in a quadrant's mailbox (R124). -/
def Quad.file (x : Quad) (ws : List MboxWord) : Quad := { x with mbox := x.mbox ++ ws, mboxFiled := x.mboxFiled + ws.length }

theorem Quad.file_nil (x : Quad) : x.file [] = x := by
  simp [Quad.file]

theorem Quad.file_file (x : Quad) (a b : List MboxWord) : (x.file a).file b = x.file (a ++ b) := by
  simp [Quad.file, List.append_assoc, Nat.add_assoc]

/-- The words of each quadrant's channels, in the order of the pass. -/
theorem State.foldl_file (s : State) (ws : ChanId → List MboxWord) (l : List ChanId) :
    l.foldl (fun t c => t.modQuad (quadOf c) fun x => x.file (ws c)) s =
      s.onQuads fun k x => x.file ((l.filter fun c => quadOf c == k).flatMap ws) := by
  induction l generalizing s with
  | nil => simpa [Quad.file_nil] using s.onQuads_id.symm
  | cons a l ih =>
    rw [List.foldl_cons, ih, State.modQuad_eq_onQuads, State.onQuads_onQuads]
    refine congrArg s.onQuads (funext fun k => funext fun x => ?_)
    by_cases hk : quadOf a = k
    · simp [hk, Quad.file_file]
    · simp [hk]

/-- What a pass does to channels and what it does to quadrants can be told apart. -/
theorem State.foldl_chan_quad (s : State) (f : ChanId → Chan → Chan) (g : ChanId → Quad → Quad) (l : List ChanId) :
    l.foldl (fun t c => (t.modChan c (f c)).modQuad (quadOf c) (g c)) s =
      l.foldl (fun t c => t.modQuad (quadOf c) (g c)) (l.foldl (fun t c => t.modChan c (f c)) s) := by
  have hcomm : ∀ (l : List ChanId) (t : State) (q : QuadId) (h : Quad → Quad),
      l.foldl (fun t c => t.modChan c (f c)) (t.modQuad q h) = (l.foldl (fun t c => t.modChan c (f c)) t).modQuad q h := by
    intro l
    induction l with
    | nil => exact fun _ _ _ => rfl
    | cons a l ih => exact fun t q h => ih (t.modChan a (f a)) q h
  induction l generalizing s with
  | nil => rfl
  | cons a l ih =>
    rw [List.foldl_cons, ih, List.foldl_cons, List.foldl_cons, hcomm]

/-- A start does not change the order in which the command was fetched. -/
theorem State.started_reqKey (s : State) (q : QueueId) (n : Word32) : (s.started q n).reqKey (.host q n) = s.reqKey (.host q n) := by
  have hfind : ((s.started q n).queue q).flight.find? (fun e => e.num == n) =
      ((s.queue q).flight.find? fun e => e.num == n).map fun e => if e.num == n then { e with stage := .started } else e := by
    rw [State.started, State.modQueue_queue, if_pos rfl, List.find?_map]
    refine congrArg (Option.map _) (congrArg (List.find? · _) (funext fun e => ?_))
    dsimp only [Function.comp]
    split <;> rfl
  simp only [State.reqKey]
  rw [hfind]
  cases (s.queue q).flight.find? fun e => e.num == n with
  | none => rfl
  | some e =>
    simp only [Option.map_some]
    split <;> rfl

section
variable {dt : Nat} {q : QueueId} {n : Word32} {d : Desc} {s S : State} (hS : S = s.elapse dt) (hr : S.ioRuns q n d = true)
include hS hr

section
variable (hs : shaped d 0x20 (S.queue q).profile.isSome false [(4, 17), (24, 24)] = true)
  (hp : S.permits (S.queue q).hctx.val (maskNeeds 0x30 2 d) = true) (hmask : dMask d 4 ≠ 0) (hlow : 1 ≤ dNum d 20 1)
  (hhigh : dNum d 20 1 ≤ 7) (h24 : (dNum d 20 1).testBit 0 = false → d64 d 24 = 0)
  (h32 : (dNum d 20 1).testBit 1 = false → d64 d 32 = 0) (h40 : (dNum d 20 1).testBit 2 = false → d64 d 40 = 0)
include hs hp hmask hlow hhigh h24 h32 h40

/-- The three steps of R121 on a command whose own fields are good. -/
theorem chConfig_runs : exec (.chConfig dt q n) s = .next (
    match cfgFieldBad d with
    | some c => (S.started q n).finish q n .rejField c.val
    | none => match (maskChans (dMask d 4)).find? (S.cfgStateBad d) with
      | some c => (S.started q n).finish q n .rejState c.val
      | none => match S.cfgCapacity d with
        | some c => (S.started q n).finish q n .rejCapacity c.val
        | none =>
          let t := (S.cfgWrites d).foldl (fun t c => t.cfgFile d (Vector.ofFn fun c : ChanId => S.cfgChwOf d c)[c]
            ((S.started q n).reqKey (.host q n)) c) (S.started q n)
          t.addOp q n (.chConfig (quadMask fun k => cfgPul d && (S.cfgWrites d).any fun c => quadOf c == k)
            (quadMask fun k => (cfgChw d || cfgProt d) && (S.cfgWrites d).any fun c => quadOf c == k)
            ((List.finRange 4).map fun k => (t.quad k).mboxFiled))) := by
  subst hS
  refine congrArg Host.Outcome.next ((State.io_shaped _ q n d 0x20 _ (fun d => [(dMask d 4 == 0, 4),
    (cfgGroups d == 0 || 7 < cfgGroups d, 20), (!cfgChw d && d64 d 24 != 0, 24), (!cfgProt d && d64 d 32 != 0, 32),
    (!cfgPul d && d64 d 40 != 0, 40)]) (maskNeeds 0x30 2) _ hr hs hp ?_).trans rfl)
  have hg0 : dNum d 20 1 ≠ 0 := by omega
  simp only [List.mem_cons, List.not_mem_nil, or_false, forall_eq_or_imp, forall_eq, cfgGroups, cfgChw, cfgProt, cfgPul]
  simp only [Bool.or_eq_false_iff, Bool.and_eq_false_iff, beq_eq_false_iff_ne, bne_eq_false_iff_eq, Bool.not_eq_false',
    ← Bool.not_eq_false, ← imp_iff_not_or]
  exact ⟨hmask, ⟨hg0, decide_eq_false (Nat.not_lt.mpr hhigh)⟩, h24, h32, h40⟩

end

omit hS hr

/-- The channels that CH_CONFIG writes take its groups, and their quadrants' mailboxes its words. -/
theorem foldl_cfgFile (t : State) (d : Desc) (chw : ChanId → Word64) (ord : Nat) (l : List ChanId) (hl : l.Nodup) :
    l.foldl (fun t c => t.cfgFile d (chw c) ord c) t = (t.onChans (fun c => decide (c ∈ l)) fun c x => { x with
      chwNew := if cfgChw d then some (chw c) else x.chwNew, protNew := if cfgProt d then some (d64 d 32) else x.protNew
      pulNew := if cfgPul d then some (d64 d 40) else x.pulNew, pulOrd := if cfgPul d then ord else x.pulOrd }).onQuads fun k x =>
        x.file ((l.filter fun c => quadOf c == k).flatMap (cfgWords d)) := by
  rw [← t.foldl_modChan _ l hl, ← State.foldl_file _ (cfgWords d), ← State.foldl_chan_quad]
  rfl

end

/-- Settles O31: the pass over the channels that are written files each channel's groups and words once. -/
theorem channelConfiguration : Obligations.ChannelConfiguration := by
  intro dt q n d s S p m hS hr hprof hm hs hp hmask hlow hhigh h24 h32 h40
  subst hprof hm
  have hruns := chConfig_runs hS hr hs hp hmask hlow hhigh h24 h32 h40
  refine ⟨fun c hc => ?field, fun hfield c hc => ?state, fun hfield hstate => ⟨fun c hc => ?capacity, fun hcap w words at_ hw hat hwords => ?good⟩⟩
  case field => rw [hruns, hc]
  case state => rw [hruns, hfield, hc]
  all_goals have hfind := find?_maskChans_none hstate
  case capacity => rw [hruns, hfield, hfind, hc]
  case good =>
    rw [hruns, hfield, hfind, hcap]
    have hnodup : (S.cfgWrites d).Nodup := (List.nodup_finRange 128).filter _
    have hw' : w = fun c => decide (c ∈ S.cfgWrites d) := funext fun c => by rw [hw, List.contains_eq_mem]
    have hwords' : words = fun k => ((S.cfgWrites d).filter fun c => quadOf c == k).flatMap (cfgWords d) := funext hwords
    have hat' : at_ = fun k => (S.cfgWrites d).any fun c => quadOf c == k := funext hat
    subst hw' hwords' hat'
    have hfold := foldl_cfgFile (S.started q n) d (S.cfgChwOf d) (S.reqKey (.host q n)) (S.cfgWrites d) hnodup
    simp only [State.started_reqKey, Fin.getElem_fin, Vector.getElem_ofFn, Fin.eta, hfold, State.onQuads_quad]
    rfl

/-! ## SAFE_DEFINE (R163, R479, R480) -/

/-- A change that leaves what P reads of a channel leaves it on every channel. -/
theorem State.modChan_proj {α : Type} (s : State) (P : Chan → α) (c e : ChanId) (f : Chan → Chan) (h : ∀ x, P (f x) = P x) :
    P ((s.modChan c f).chan e) = P (s.chan e) := by
  rw [State.modChan_chan]
  split
  · next heq => rw [h, heq]
  · rfl

/-- The safe rules do not look at the safe values. -/
theorem State.modChan_safeRules (s : State) (c e : ChanId) (f : Chan → Chan)
    (h : ∀ x, (f x).chw = x.chw ∧ (f x).safeOn = x.safeOn ∧ (f x).encOut = x.encOut) :
    (s.modChan c f).safeRules e = s.safeRules e := by
  have hchw := fun e => s.modChan_proj Chan.chw c e f fun x => (h x).1
  have hon := fun e => s.modChan_proj Chan.safeOn c e f fun x => (h x).2.1
  have henc := fun e => s.modChan_proj Chan.encOut c e f fun x => (h x).2.2
  have hodd : (s.modChan c f).isOdd e = s.isOdd e := by rw [State.isOdd, hchw]; rfl
  have hlead : (s.modChan c f).lead e = s.lead e := if_congr (by rw [hodd]) rfl rfl
  simp only [State.safeRules, State.safeUnder, State.trigOn, State.courseOwned, State.chwOf, hlead, hchw, hon, henc]
  rfl

/-- The fields of SAFE_DEFINE that its row checks (R163, R479). -/
def safeChecks (d : Desc) : List (Bool × Nat) :=
  [(dMask d 4 == 0, 4), (3 < dNum d 20 1, 20),
   (if dNum d 20 1 == 3 then dNum d 24 4 < 250 || 1000000 < dNum d 24 4 else dNum d 24 4 != 0, 24),
   (if dNum d 20 1 == 3 then 1024 < dNum d 28 2 else dNum d 28 2 != 0, 28)]

theorem safeChecks_good {d : Desc} (hmask : dMask d 4 ≠ 0)
    (hval : dNum d 20 1 ≤ 2 ∧ dNum d 24 4 = 0 ∧ dNum d 28 2 = 0 ∨
      dNum d 20 1 = 3 ∧ 250 ≤ dNum d 24 4 ∧ dNum d 24 4 ≤ 1000000 ∧ dNum d 28 2 ≤ 1024) :
    ∀ x ∈ safeChecks d, x.1 = false := by
  simp only [safeChecks, List.mem_cons, List.not_mem_nil, or_false, forall_eq_or_imp, forall_eq]
  refine ⟨beq_eq_false_iff_ne.mpr hmask, ?_⟩
  rcases hval with ⟨h20, h24, h28⟩ | ⟨h20, h24, h24', h28⟩
  · have h3 : dNum d 20 1 ≠ 3 := by omega
    simp [h24, h28, h3]
    omega
  · simp [h20, h24, h24', h28]

section
variable {dt : Nat} {q : QueueId} {n : Word32} {d : Desc} {s S : State} (hS : S = s.elapse dt) (hr : S.ioRuns q n d = true)
include hS hr

section
variable (hs : shaped d 0x23 (S.queue q).profile.isSome false [(4, 17), (24, 6)] = true)
  (hp : S.permits (S.queue q).hctx.val (maskNeeds 0x38 2 d) = true) (hc : ∀ x ∈ safeChecks d, x.1 = false)
include hs hp hc

theorem safeDefine_rejected (c : ChanId) (hodd : (maskChans (dMask d 4)).find? S.lastOdd = some c) :
    exec (.safeDefine dt q n) s = .next ((S.started q n).finish q n .rejState c.val) := by
  subst hS
  refine congrArg Host.Outcome.next ((State.io_shaped _ q n d 0x23 _ safeChecks (maskNeeds 0x38 2) _ hr hs hp hc).trans ?_)
  rw [show (maskChans (dMask d 4)).find? ((s.elapse dt).started q n).lastOdd = some c from hodd]

/-- The safe values are kept, by what the rules say of each channel before the command. -/
theorem safeDefine_keeps (hodd : (maskChans (dMask d 4)).find? S.lastOdd = none) (v : SafeVal) (per duty : Nat)
    (hv : v = safeValOf (dNum d 20 1)) (hper : per = if v == .pulse then dNum d 24 4 else 250)
    (hduty : duty = if v == .pulse then dNum d 28 2 else 0) :
    exec (.safeDefine dt q n) s = .next (((S.started q n).onChans (fun c => bit (dMask d 4) c.val) fun c (x : Chan) =>
      if S.safeRules c || S.staleChan c then { x with safeNew := some (v, per, duty) }
      else { x with safe := v, safePer := per, safeDuty := duty, safeNew := none }).configDone q n .done 0 S.now 0) := by
  subst hS
  refine congrArg Host.Outcome.next ((State.io_shaped _ q n d 0x23 _ safeChecks (maskNeeds 0x38 2) _ hr hs hp hc).trans ?_)
  rw [show (maskChans (dMask d 4)).find? ((s.elapse dt).started q n).lastOdd = none from hodd]
  dsimp only
  rw [← hv, ← hper, ← hduty, ← State.onChans_maskChans]
  refine congrArg (fun t : State => t.configDone q n .done 0 t.now 0) (State.foldl_chans ((s.elapse dt).started q n) _ _
    (fun t => ∀ c, t.safeRules c = (s.elapse dt).safeRules c ∧ t.staleChan c = (s.elapse dt).staleChan c)
    (fun c => ⟨rfl, rfl⟩) (fun t c ht => ?_) (fun t c ht e => ?_) _ (maskChans_nodup _))
  · rw [(ht c).1, (ht c).2]
  · refine ⟨(State.modChan_safeRules _ _ _ _ fun x => ?_).trans (ht e).1, (ht e).2⟩
    split <;> exact ⟨rfl, rfl, rfl⟩

end

/-! ## BUDGET_SET (R237–R239) -/

/-- The fields of BUDGET_SET that its row checks (R237–R239). -/
def budgetChecks (d : Desc) : List (Bool × Nat) :=
  [(2 < dNum d 4 1, 4), (if dNum d 4 1 == 1 then dNum d 5 1 == 0 || 15 < dNum d 5 1 else dNum d 5 1 != 0, 5),
   (if dNum d 4 1 == 0 then dMask d 8 == 0 else dMask d 8 != 0, 8),
   (if dNum d 4 1 == 0 then budwBad (d64 d 24) else if dNum d 4 1 == 1 then qbudwBad (d64 d 24)
     else devwBad Config.codeAE (d64 d 24), 24)]

section
omit hS hr

theorem budgetNeeds_channels (hkind : dNum d 4 1 = 0) (hquads : dNum d 5 1 = 0) :
    budgetNeeds d = (maskQuads (dMask d 8)).map fun k => (0x30 + k, 2) := by
  rw [budgetNeeds, hkind, hquads]
  rfl

theorem budgetNeeds_quadrants (hkind : dNum d 4 1 = 1) (hmask : dMask d 8 = 0) :
    budgetNeeds d = (bitsList 4 (dNum d 5 1)).map fun k => (0x30 + k, 2) := by
  rw [budgetNeeds, hkind, hmask, show maskQuads 0 = [] by decide, List.append_nil]
  rfl

theorem budgetNeeds_device (hkind : dNum d 4 1 = 2) : budgetNeeds d = [(0, 2)] := by
  rw [budgetNeeds, hkind]
  rfl

theorem budgetChecks_channels (hkind : dNum d 4 1 = 0) (hquads : dNum d 5 1 = 0) (hmask : dMask d 8 ≠ 0)
    (hbad : budwBad (d64 d 24) = false) : ∀ x ∈ budgetChecks d, x.1 = false := by
  simp only [budgetChecks, List.mem_cons, List.not_mem_nil, or_false, forall_eq_or_imp, forall_eq, hkind, hquads]
  exact ⟨rfl, rfl, beq_eq_false_iff_ne.mpr hmask, hbad⟩

theorem budgetChecks_quadrants (hkind : dNum d 4 1 = 1) (hlow : 1 ≤ dNum d 5 1) (hhigh : dNum d 5 1 ≤ 15) (hmask : dMask d 8 = 0)
    (hbad : qbudwBad (d64 d 24) = false) : ∀ x ∈ budgetChecks d, x.1 = false := by
  simp only [budgetChecks, List.mem_cons, List.not_mem_nil, or_false, forall_eq_or_imp, forall_eq, hkind, hmask]
  exact ⟨rfl, Bool.or_eq_false_iff.mpr ⟨beq_eq_false_iff_ne.mpr (by omega), decide_eq_false (by omega)⟩, rfl, hbad⟩

theorem budgetChecks_device (hkind : dNum d 4 1 = 2) (hquads : dNum d 5 1 = 0) (hmask : dMask d 8 = 0)
    (hbad : devwBad Config.codeAE (d64 d 24) = false) : ∀ x ∈ budgetChecks d, x.1 = false := by
  simp only [budgetChecks, List.mem_cons, List.not_mem_nil, or_false, forall_eq_or_imp, forall_eq, hkind, hquads, hmask]
  exact ⟨rfl, rfl, rfl, hbad⟩

end

section
variable (hs : shaped d 0x27 (S.queue q).profile.isSome false [(4, 2), (8, 24)] = true)
  (hp : S.permits (S.queue q).hctx.val (budgetNeeds d) = true) (hc : ∀ x ∈ budgetChecks d, x.1 = false)
include hs hp hc

theorem budgetSet_rejected (hkind : dNum d 4 1 = 0) (c : ChanId) (hodd : (maskChans (dMask d 8)).find? S.lastOdd = some c) :
    exec (.budgetSet dt q n) s = .next ((S.started q n).finish q n .rejState c.val) := by
  subst hS
  refine congrArg Host.Outcome.next ((State.io_shaped _ q n d 0x27 _ budgetChecks budgetNeeds _ hr hs hp hc).trans ?_)
  dsimp only
  rw [if_pos (beq_iff_eq.mpr hkind), show (maskChans (dMask d 8)).find? ((s.elapse dt).started q n).lastOdd = some c from hodd]

theorem budgetSet_channels (hkind : dNum d 4 1 = 0) (hodd : (maskChans (dMask d 8)).find? S.lastOdd = none) :
    exec (.budgetSet dt q n) s = .next (((S.started q n).onChans (fun c => bit (dMask d 8) c.val) fun _ (x : Chan) =>
      { x with budwNew := some (d64 d 24) }).configDone q n .done 0 S.now 0) := by
  subst hS
  refine congrArg Host.Outcome.next ((State.io_shaped _ q n d 0x27 _ budgetChecks budgetNeeds _ hr hs hp hc).trans ?_)
  dsimp only
  rw [if_pos (beq_iff_eq.mpr hkind), show (maskChans (dMask d 8)).find? ((s.elapse dt).started q n).lastOdd = none from hodd]
  dsimp only
  rw [State.foldl_modChan _ (fun _ x => { x with budwNew := some (d64 d 24) }) _ (maskChans_nodup _), State.onChans_maskChans]
  rfl

theorem budgetSet_quadrants (hkind : dNum d 4 1 = 1) :
    exec (.budgetSet dt q n) s = .next (((S.started q n).onQuads fun k (x : Quad) =>
      if (dNum d 5 1).testBit k.val then { x with qbudwNew := some (d64 d 24) } else x).configDone q n .done 0 S.now 0) := by
  subst hS
  refine congrArg Host.Outcome.next ((State.io_shaped _ q n d 0x27 _ budgetChecks budgetNeeds _ hr hs hp hc).trans ?_)
  dsimp only
  rw [if_neg (by rw [hkind]; exact Bool.false_ne_true), if_pos (beq_iff_eq.mpr hkind),
    State.foldl_dQuads _ d 5 fun _ x => { x with qbudwNew := some (d64 d 24) }]
  rfl

theorem budgetSet_device (hkind : dNum d 4 1 = 2) :
    exec (.budgetSet dt q n) s = .next (({ S.started q n with devwNew := some (d64 d 24) } : State).configDone q n .done 0
      S.now 0) := by
  subst hS
  refine congrArg Host.Outcome.next ((State.io_shaped _ q n d 0x27 _ budgetChecks budgetNeeds _ hr hs hp hc).trans ?_)
  dsimp only
  rw [if_neg (by rw [hkind]; exact Bool.false_ne_true), if_neg (by rw [hkind]; exact Bool.false_ne_true)]
  rfl

end
end

/-- Settles O32: the values are kept by passes over the channels and quadrants that the command names. -/
theorem safeValuesAndBudgets : Obligations.SafeValuesAndBudgets := by
  intro dt q n d s S p m hS hr hprof hm
  subst hprof hm
  refine ⟨fun v per duty hs hp hmask hval => ?safe, fun hs => ⟨fun hkind hquads hmask hbad hp => ?channels,
    fun hkind hlow hhigh hmask hbad hp => ?quadrants, fun hkind hquads hmask hbad hp => ?device⟩⟩
  case safe =>
    have hc : ∀ x ∈ safeChecks d, x.1 = false := by
      refine safeChecks_good hmask ?_
      rcases hval with h | ⟨h20, -, rfl, rfl, h250, hmax, hduty⟩
      · simp only [List.mem_cons, Prod.mk.injEq, List.not_mem_nil, or_false] at h
        omega
      · exact Or.inr ⟨h20, h250, hmax, hduty⟩
    refine ⟨fun c hodd => safeDefine_rejected hS hr hs hp hc c hodd, fun hodd => safeDefine_keeps hS hr hs hp hc
      (find?_maskChans_none hodd) v per duty ?_ ?_ ?_⟩
    all_goals
      rcases hval with h | ⟨h20, rfl, rfl, rfl, -, -, -⟩
      · simp only [List.mem_cons, Prod.mk.injEq, List.not_mem_nil, or_false] at h
        rcases h with ⟨h20, -, -, rfl, rfl, rfl⟩ | ⟨h20, -, -, rfl, rfl, rfl⟩ | ⟨h20, -, -, rfl, rfl, rfl⟩ <;> simp [safeValOf, h20]
      · simp [safeValOf, h20]
  case channels =>
    rw [← budgetNeeds_channels hkind hquads] at hp
    have hc := budgetChecks_channels hkind hquads hmask hbad
    exact ⟨fun c hodd => budgetSet_rejected hS hr hs hp hc hkind c hodd,
      fun hodd => budgetSet_channels hS hr hs hp hc hkind (find?_maskChans_none hodd)⟩
  case quadrants =>
    rw [← budgetNeeds_quadrants hkind hmask] at hp
    exact budgetSet_quadrants hS hr hs hp (budgetChecks_quadrants hkind hlow hhigh hmask hbad) hkind
  case device =>
    rw [← budgetNeeds_device hkind] at hp
    exact budgetSet_device hS hr hs hp (budgetChecks_device hkind hquads hmask hbad) hkind

end Sys2Proof.Machine

/-!
ARM and DISARM (R104–R108, R470, R481) and FAULT_CLEAR (R158, R200, R204, R273, R479), and the settlement of O33 and O34.
-/
namespace Sys2Proof.Machine
open Sys2Proof

/-! ## ARM and DISARM -/

/-- A command starts at a unit that holds the role. -/
theorem State.holdsRole_of_ioRuns {s : State} {q : QueueId} {n : Word32} {d : Desc} (h : s.ioRuns q n d = true) : s.holdsRole = true := by
  simp only [State.ioRuns, Bool.and_eq_true, beq_iff_eq] at h
  have hstart := h.2
  unfold State.startable at hstart
  by_contra hrole
  simp [hrole] at hstart

/-- A pass whose step is a change of one quadrant in every state that R allows. -/
theorem State.foldl_quads (s : State) (step : State → QuadId → State) (f : QuadId → Quad → Quad) (R : State → Prop) (hR : R s)
    (l : List QuadId) (hl : l.Nodup) (hstep : ∀ t, ∀ k ∈ l, R t → step t k = t.modQuad k (f k))
    (hkeep : ∀ t k, R t → R (t.modQuad k (f k))) : l.foldl step s = s.onQuads fun k x => if k ∈ l then f k x else x := by
  rw [← s.foldl_modQuad f l hl]
  clear hl
  induction l generalizing s with
  | nil => rfl
  | cons a l ih =>
    rw [List.foldl_cons, List.foldl_cons, hstep s a List.mem_cons_self hR]
    exact ih _ (hkeep s a hR) fun t k hk => hstep t k (List.mem_cons_of_mem a hk)

theorem qmaskChecks_good {d : Desc} (hlow : 1 ≤ dNum d 4 1) (hhigh : dNum d 4 1 ≤ 15) :
    ∀ x ∈ [(dNum d 4 1 == 0 || decide (15 < dNum d 4 1), 4)], x.1 = false := by
  rw [List.forall_mem_singleton]
  exact Bool.or_eq_false_iff.mpr ⟨beq_eq_false_iff_ne.mpr (by omega), decide_eq_false (by omega)⟩

section
variable {dt : Nat} {q : QueueId} {n : Word32} {d : Desc} {s S : State} (hS : S = s.elapse dt) (hr : S.ioRuns q n d = true)
  (hp : S.permits (S.queue q).hctx.val ((bitsList 4 (dNum d 4 1)).map fun k => (0x38 + k, 4)) = true)
  (hlow : 1 ≤ dNum d 4 1) (hhigh : dNum d 4 1 ≤ 15)
include hS hr hp hlow hhigh

section
variable (hs : shaped d 0x24 (S.queue q).profile.isSome false [(4, 1)] = true)
include hs

theorem arm_rejected (h : (dQuads d 4).filter (fun k => !S.armBad k) = []) :
    exec (.arm dt q n) s = .next ((S.started q n).finish q n .rejState 0) := by
  subst hS
  refine congrArg Host.Outcome.next ((State.io_shaped _ q n d 0x24 _ (fun d => [(dNum d 4 1 == 0 || 15 < dNum d 4 1, 4)])
    (qmaskNeeds 0x38 4 4) _ hr hs hp (qmaskChecks_good hlow hhigh)).trans ?_)
  dsimp only
  rw [show (dQuads d 4).filter (fun k => !((s.elapse dt).started q n).armBad k) = [] from h]
  rfl

theorem arm_arms (h : (dQuads d 4).filter (fun k => !S.armBad k) ≠ []) :
    exec (.arm dt q n) s = .next (
      let ok := (dQuads d 4).filter fun k => !S.armBad k
      ((S.started q n).onQuads fun k (x : Quad) => if k ∈ ok then { x with armReq := true } else x).addOp q n
        (.arm (quadMask fun k => ok.contains k) (quadMask fun k => ok.contains k) (ok.length < (dQuads d 4).length))) := by
  subst hS
  refine congrArg Host.Outcome.next ((State.io_shaped _ q n d 0x24 _ (fun d => [(dNum d 4 1 == 0 || 15 < dNum d 4 1, 4)])
    (qmaskNeeds 0x38 4 4) _ hr hs hp (qmaskChecks_good hlow hhigh)).trans ?_)
  dsimp only
  refine (if_neg (fun he => h (List.isEmpty_iff.mp he))).trans (congrArg (fun t : State => t.addOp q n _) ?_)
  exact State.foldl_modQuad _ (fun _ x => { x with armReq := true }) _ ((dQuads_nodup d 4).filter _)

end

theorem disarm_runs (hs : shaped d 0x25 (S.queue q).profile.isSome false [(4, 1)] = true) :
    exec (.disarm dt q n) s = .next (((dQuads d 4).foldl State.disarmQuad (S.started q n)).addOp q n
      (.disarm (quadMask fun k => (dQuads d 4).contains k) (quadMask fun k => (dQuads d 4).contains k))) := by
  subst hS
  exact congrArg Host.Outcome.next (State.io_shaped _ q n d 0x25 _ (fun d => [(dNum d 4 1 == 0 || 15 < dNum d 4 1, 4)])
    (qmaskNeeds 0x38 4 4) _ hr hs hp (qmaskChecks_good hlow hhigh))

end

/-- Quadrants that are not synchronised are disarmed, and their dies told of it once they synchronise. -/
theorem State.foldl_disarmQuad (s : State) (l : List QuadId) (hl : l.Nodup) (h : ∀ k ∈ l, (s.quad k).sync = false) :
    l.foldl State.disarmQuad s = s.onQuads fun k x =>
      if k ∈ l then { x with armed := false, armReq := false, disWait := true } else x := by
  refine s.foldl_quads _ (fun _ x => { x with armed := false, armReq := false, disWait := true })
    (fun t => ∀ k ∈ l, (t.quad k).sync = false) h l hl (fun t k hk ht => ?_) (fun t k ht e he => ?_)
  · exact if_neg (by rw [ht k hk]; exact Bool.false_ne_true)
  · rw [State.modQuad_quad]
    split
    · next heq => subst heq; exact ht k he
    · exact ht e he

/-- Settles O33: the quadrants that are armed and left out are those of the mask that pass and fail R105. -/
theorem armAndDisarm : Obligations.ArmAndDisarm := by
  intro dt q n d s S p m named ok hS hr hprof hm hp hlow hhigh hnamed hok
  subst hprof hm
  have hrole := State.holdsRole_of_ioRuns hr
  have hok' (k : QuadId) : ok k = (named k && !S.armBad k) := by
    rw [hok, hnamed, State.armBad, hrole, Bool.and_assoc]
    simp [bne]
  have hfilter : (dQuads d 4).filter (fun k => !S.armBad k) = (List.finRange 4).filter ok := by
    rw [dQuads, List.filter_filter]
    exact List.filter_congr fun k _ => by rw [hok', hnamed, Bool.and_comm]
  have hnamedL : dQuads d 4 = (List.finRange 4).filter named := List.filter_congr fun k _ => (hnamed k).symm
  have hokC : (fun k => ((List.finRange 4).filter ok).contains k) = ok := funext fun k => by simp
  have hnamedC : (fun k => ((List.finRange 4).filter named).contains k) = named := funext fun k => by simp
  refine ⟨fun hs => ⟨fun hnone => ?none, fun hsome => ?some⟩, fun k hk => if_pos hk, fun hs => ⟨?disarm, fun hsync => ?unsync⟩⟩
  case none =>
    refine arm_rejected hS hr hp hlow hhigh hs ?_
    rw [hfilter]
    exact List.filter_eq_nil_iff.mpr fun k _ => Bool.eq_false_iff.mp (hnone k)
  case some =>
    obtain ⟨k, hk⟩ := hsome
    have hne : (dQuads d 4).filter (fun k => !S.armBad k) ≠ [] := by
      rw [hfilter]
      exact List.ne_nil_of_mem (List.mem_filter.mpr ⟨List.mem_finRange k, hk⟩)
    rw [arm_arms hS hr hp hlow hhigh hs hne]
    dsimp only
    have hpart : decide (((List.finRange 4).filter ok).length < (dQuads d 4).length) = (List.finRange 4).any fun k => named k && !ok k := by
      rw [← hfilter, Bool.eq_iff_iff, decide_eq_true_eq, List.length_filter_lt_length_iff_exists, List.any_eq_true]
      refine exists_congr fun k => ?_
      rw [mem_dQuads, ← hnamed, hok']
      cases named k <;> simp
    rw [hfilter, hokC, hpart]
    simp only [List.mem_filter, List.mem_finRange, true_and]
  case disarm => rw [disarm_runs hS hr hp hlow hhigh hs, hnamedL, hnamedC]
  case unsync =>
    rw [disarm_runs hS hr hp hlow hhigh hs, hnamedL, hnamedC, State.foldl_disarmQuad _ _ ((List.nodup_finRange 4).filter _)]
    · simp only [List.mem_filter, List.mem_finRange, true_and]
    · exact fun k hk => hsync k (List.mem_filter.mp hk).2

end Sys2Proof.Machine

/-!
FAULT_CLEAR (R158, R200, R204, R273, R479): what it does to each channel, and the settlement of O34.
-/
namespace Sys2Proof.Machine
open Sys2Proof

/-! ## What clearing leaves alone -/

/-- T is S but for its channels, the records that wait, and the counters of lost diagnostics. -/
def DiagOnly (S T : State) : Prop :=
  T = { S with chans := T.chans, quads := T.quads, staging := T.staging } ∧
    ∀ k, T.quad k = { S.quad k with diagDrop := (T.quad k).diagDrop }

theorem DiagOnly.refl (S : State) : DiagOnly S S := ⟨rfl, fun _ => rfl⟩

theorem DiagOnly.trans {S T U : State} (h : DiagOnly S T) (h' : DiagOnly T U) : DiagOnly S U := by
  obtain ⟨hT, hTq⟩ := h
  obtain ⟨hU, hUq⟩ := h'
  refine ⟨?_, fun k => ?_⟩
  · rw [hU, hT]
  · rw [hUq, hTq]

theorem DiagOnly.modChan (S : State) (c : ChanId) (f : Chan → Chan) : DiagOnly S (S.modChan c f) := ⟨rfl, fun _ => rfl⟩

theorem DiagOnly.modQuad (S : State) (q : QuadId) (n : Nat → Nat) : DiagOnly S (S.modQuad q fun x => { x with diagDrop := n x.diagDrop }) := by
  refine ⟨rfl, fun k => ?_⟩
  rw [State.modQuad_quad]
  split
  · next h => rw [h]
  · rfl

theorem DiagOnly.foldl {α : Type} {f : State → α → State} (hf : ∀ t a, DiagOnly t (f t a)) (l : List α) (S : State) :
    DiagOnly S (l.foldl f S) := by
  induction l generalizing S with
  | nil => exact .refl S
  | cons a l ih => exact (hf S a).trans (ih _)

theorem State.stage_diagOnly (s : State) (r : Record) : DiagOnly s (s.stage r).1 := by
  unfold State.stage
  split
  · exact .refl s
  · split
    · exact ⟨rfl, fun _ => rfl⟩
    · exact .refl s

theorem State.stageCount_diagOnly (s : State) (r : Record) (ok full : State → State) (hok : ∀ t, DiagOnly t (ok t))
    (hfull : ∀ t, DiagOnly t (full t)) : DiagOnly s (s.stageCount r ok full) := by
  have hstage := s.stage_diagOnly r
  unfold State.stageCount
  split
  · exact .refl s
  · split
    · next t heq => rw [heq] at hstage; exact hstage.trans (hok t)
    · next t heq => rw [heq] at hstage; exact hstage.trans (hfull t)

theorem State.diagRecord_diagOnly (s : State) (num : Nat) (qd : QuadId) (isQuad raised : Bool) (code : Nat) (ob : Byte) :
    DiagOnly s (s.diagRecord num qd isQuad raised code ob) :=
  s.stageCount_diagOnly _ _ _ (fun t => .modQuad t qd fun _ => 0) fun t => .modQuad t qd (· + 1)

theorem State.stage_chans (s : State) (r : Record) : (s.stage r).1.chans = s.chans := by
  unfold State.stage
  split_ifs <;> rfl

theorem State.stageCount_chans (s : State) (r : Record) (ok full : State → State) (hok : ∀ t, (ok t).chans = t.chans)
    (hfull : ∀ t, (full t).chans = t.chans) : (s.stageCount r ok full).chans = s.chans := by
  have hstage := s.stage_chans r
  unfold State.stageCount
  split
  · rfl
  · split
    · next t heq => rw [heq] at hstage; exact (hok t).trans hstage
    · next t heq => rw [heq] at hstage; exact (hfull t).trans hstage

theorem State.diagRecord_chan (s : State) (num : Nat) (qd : QuadId) (isQuad raised : Bool) (code : Nat) (ob : Byte) (e : ChanId) :
    (s.diagRecord num qd isQuad raised code ob).chan e = s.chan e :=
  congrArg (fun v : Vector Chan 128 => v[e]) (s.stageCount_chans _ _ _ (fun _ => rfl) fun _ => rfl)

theorem State.clearDiag_diagOnly (s : State) (c : ChanId) (k : Nat) : DiagOnly s (s.clearDiag c k) := by
  unfold State.clearDiag
  split
  · exact (DiagOnly.modChan s c _).trans (State.diagRecord_diagOnly ..)
  · exact .refl s

theorem State.clearFault_diagOnly (s : State) (c : ChanId) : DiagOnly s (s.clearFault c) :=
  (DiagOnly.modChan s _ _).trans (.foldl (fun t m => (DiagOnly.modChan t m _).trans (.foldl (fun u k => u.clearDiag_diagOnly m k) _ _)) _ _)

/-! ## What clearing does to a channel -/

/-- Clearing a bit that is 0 changes nothing. -/
theorem and_not_twoPow_of_clear (w : Word32) (k : Nat) (h : bit w k = false) : w &&& ~~~BitVec.ofNat 32 (2 ^ k) = w := by
  refine BitVec.eq_of_getLsbD_eq fun i hi => ?_
  simp only [BitVec.getLsbD_and, BitVec.getLsbD_not, BitVec.getLsbD_ofNat, Nat.testBit_two_pow, hi, decide_true, Bool.true_and]
  by_cases hk : k = i
  · subst hk
    rw [show w.getLsbD k = false from h, Bool.false_and]
  · rw [decide_eq_false hk, Bool.not_false, Bool.and_true]

theorem State.clearDiag_chan (s : State) (c e : ChanId) (k : Nat) : (s.clearDiag c k).chan e =
    if c = e then { s.chan c with standing := (s.chan c).standing &&& ~~~BitVec.ofNat 32 (2 ^ k) } else s.chan e := by
  unfold State.clearDiag
  split
  case isTrue => rw [State.diagRecord_chan, State.modChan_chan]
  case isFalse h =>
    split
    case isTrue heq =>
      subst heq
      rw [and_not_twoPow_of_clear _ _ (Bool.eq_false_iff.mpr h)]
    case isFalse => rfl

/-- A member of a cleared unit has neither its fault level nor the diagnostics 1 to 4. -/
def Chan.unfault (x : Chan) : Chan := { x with fault := false, standing := x.standing &&& ~~~0x1E }

/-- What clearing does to a member of the unit. -/
def State.clearMember (s : State) (m : ChanId) : State :=
  [1, 2, 3, 4].foldl (fun s k => s.clearDiag m k) (s.modChan m fun x => { x with fault := false })

theorem State.clearMember_chan (s : State) (m e : ChanId) :
    (s.clearMember m).chan e = if m = e then (s.chan m).unfault else s.chan e := by
  simp only [State.clearMember, List.foldl_cons, List.foldl_nil, State.clearDiag_chan, State.modChan_chan]
  by_cases h : m = e
  · subst h
    simp only [if_true, Chan.unfault, BitVec.and_assoc]
    rfl
  · simp only [h, if_false]

/-! ## The unit of a channel (R154, R158) -/

/-- The channels that are cleared with channel c: its own and the other one of its gang. -/
def State.unit (s : State) (c : ChanId) : List ChanId :=
  if s.gangAt (s.lead c) then [s.lead c, nextChan (s.lead c)] else [s.lead c]

theorem prevChan_of_odd {c : ChanId} (h : c.val % 2 = 1) : (prevChan c).val % 2 = 0 ∧ nextChan (prevChan c) = c := by
  have hc := c.isLt
  refine ⟨by simp only [prevChan]; omega, ?_⟩
  unfold nextChan prevChan
  rw [dif_pos (by simp only; omega)]
  exact Fin.ext (by simp only; omega)

theorem nextChan_of_even {c : ChanId} (h : c.val % 2 = 0) : (nextChan c).val % 2 = 1 ∧ prevChan (nextChan c) = c ∧ c ≠ nextChan c := by
  have hc := c.isLt
  unfold nextChan prevChan
  rw [dif_pos (by omega)]
  refine ⟨by simp only; omega, Fin.ext (by simp only; omega), fun h => ?_⟩
  have := congrArg Fin.val h
  simp only at this
  omega

section
variable (s : State)

theorem State.isOdd_iff (c : ChanId) : s.isOdd c = true ↔ c.val % 2 = 1 ∧ chGang (s.chan (prevChan c)).chw = true := by
  rw [State.isOdd, Bool.and_eq_true, beq_iff_eq]

theorem State.gangAt_iff (c : ChanId) : s.gangAt c = true ↔ c.val % 2 = 0 ∧ chGang (s.chan c).chw = true := by
  rw [State.gangAt, Bool.and_eq_true, beq_iff_eq]

theorem State.gangAt_prevChan {c : ChanId} (h : s.isOdd c = true) : s.gangAt (prevChan c) = true := by
  obtain ⟨hodd, hgang⟩ := (s.isOdd_iff c).mp h
  exact (s.gangAt_iff _).mpr ⟨(prevChan_of_odd hodd).1, hgang⟩

theorem State.isOdd_nextChan {c : ChanId} (h : s.gangAt c = true) : s.isOdd (nextChan c) = true := by
  obtain ⟨heven, hgang⟩ := (s.gangAt_iff c).mp h
  obtain ⟨hodd, hprev, -⟩ := nextChan_of_even heven
  exact (s.isOdd_iff _).mpr ⟨hodd, by rw [hprev]; exact hgang⟩

theorem State.isOdd_lead (c : ChanId) : s.isOdd (s.lead c) = false := by
  unfold State.lead
  split
  · next h =>
    refine Bool.eq_false_iff.mpr fun hp => ?_
    have := ((s.isOdd_iff _).mp hp).1
    have := (prevChan_of_odd ((s.isOdd_iff c).mp h).1).1
    omega
  · next h => exact Bool.eq_false_iff.mpr h

theorem State.lead_of_isOdd {c : ChanId} (h : s.isOdd c = true) : s.lead c = prevChan c := if_pos h

theorem State.lead_of_not_isOdd {c : ChanId} (h : s.isOdd c = false) : s.lead c = c := if_neg (Bool.eq_false_iff.mp h)

theorem State.members_lead (c : ChanId) : s.members (s.lead c) = s.unit c := by
  unfold State.members State.unit
  rw [s.lead_of_not_isOdd (s.isOdd_lead c)]

theorem State.mem_unit (c e : ChanId) : e ∈ s.unit c ↔ e = s.lead c ∨ s.gangAt (s.lead c) = true ∧ e = nextChan (s.lead c) := by
  unfold State.unit
  split
  · next h => simp [h]
  · next h => simp [h]

theorem State.mem_unit_self (c : ChanId) : c ∈ s.unit c := by
  rw [State.mem_unit]
  cases h : s.isOdd c
  · exact Or.inl (s.lead_of_not_isOdd h).symm
  · rw [s.lead_of_isOdd h]
    exact Or.inr ⟨s.gangAt_prevChan h, (prevChan_of_odd ((s.isOdd_iff c).mp h).1).2.symm⟩

/-- The channels of the units of a set of channels: the set, and the other channels of its gangs. -/
theorem State.exists_mem_unit (p : ChanId → Prop) (e : ChanId) :
    (∃ c, p c ∧ e ∈ s.unit c) ↔ p e ∨ (s.isOdd e = true ∧ p (prevChan e)) ∨ (s.gangAt e = true ∧ p (nextChan e)) := by
  constructor
  · rintro ⟨c, hc, he⟩
    rw [State.mem_unit] at he
    cases hodd : s.isOdd c
    · rw [s.lead_of_not_isOdd hodd] at he
      rcases he with rfl | ⟨hgang, rfl⟩
      · exact Or.inl hc
      · refine Or.inr (Or.inl ⟨s.isOdd_nextChan hgang, ?_⟩)
        rwa [(nextChan_of_even ((s.gangAt_iff c).mp hgang).1).2.1]
    · rw [s.lead_of_isOdd hodd] at he
      have hnext := (prevChan_of_odd ((s.isOdd_iff c).mp hodd).1).2
      rcases he with rfl | ⟨-, rfl⟩
      · exact Or.inr (Or.inr ⟨s.gangAt_prevChan hodd, by rwa [hnext]⟩)
      · exact Or.inl (by rwa [hnext])
  · rintro (h | ⟨hodd, h⟩ | ⟨hgang, h⟩)
    · exact ⟨e, h, s.mem_unit_self e⟩
    · have hgang := s.gangAt_prevChan hodd
      have heven := ((s.gangAt_iff _).mp hgang).1
      have hlead : s.lead (prevChan e) = prevChan e :=
        s.lead_of_not_isOdd (Bool.eq_false_iff.mpr fun h => by have := ((s.isOdd_iff _).mp h).1; omega)
      refine ⟨prevChan e, h, (s.mem_unit _ _).mpr (Or.inr ?_)⟩
      rw [hlead, (prevChan_of_odd ((s.isOdd_iff e).mp hodd).1).2]
      exact ⟨hgang, rfl⟩
    · refine ⟨nextChan e, h, (s.mem_unit _ _).mpr (Or.inl ?_)⟩
      rw [s.lead_of_isOdd (s.isOdd_nextChan hgang), (nextChan_of_even ((s.gangAt_iff e).mp hgang).1).2.1]

end

/-! ## Clearing the units of a mask -/

/-- Both states have the same gangs. -/
def SameChw (s t : State) : Prop := ∀ e, (t.chan e).chw = (s.chan e).chw

theorem SameChw.isOdd {s t : State} (h : SameChw s t) (c : ChanId) : t.isOdd c = s.isOdd c := by rw [State.isOdd, h]; rfl

theorem SameChw.gangAt {s t : State} (h : SameChw s t) (c : ChanId) : t.gangAt c = s.gangAt c := by rw [State.gangAt, h]; rfl

theorem SameChw.lead {s t : State} (h : SameChw s t) (c : ChanId) : t.lead c = s.lead c := if_congr (by rw [h.isOdd]) rfl rfl

theorem SameChw.unit {s t : State} (h : SameChw s t) (c : ChanId) : t.unit c = s.unit c := by
  unfold State.unit
  rw [h.lead, h.gangAt]

/-- Channel e cleared: its unit's lead loses the latch and the retry counter too. -/
def State.cleared (s : State) (e : ChanId) (x : Chan) : Chan :=
  { x.unfault with latch := s.isOdd e && x.latch, retry := if s.isOdd e then x.retry else 0 }

theorem State.cleared_cleared (s : State) (e : ChanId) (x : Chan) : s.cleared e (s.cleared e x) = s.cleared e x := by
  cases h : s.isOdd e <;> simp [State.cleared, Chan.unfault, h, BitVec.and_assoc]

theorem State.clearFault_eq (s : State) (c : ChanId) : s.clearFault c =
    (s.unit c).foldl State.clearMember (s.modChan (s.lead c) fun x => { x with latch := false, retry := 0 }) := by
  have hsame : SameChw s (s.modChan (s.lead c) fun x => { x with latch := false, retry := 0 }) :=
    fun e => s.modChan_proj Chan.chw _ e _ fun _ => rfl
  have hmem : (s.modChan (s.lead c) fun x => { x with latch := false, retry := 0 }).members (s.lead c) = s.unit c := by
    unfold State.members
    dsimp only
    rw [hsame.lead, s.lead_of_not_isOdd (s.isOdd_lead c), hsame.gangAt]
    rfl
  unfold State.clearFault
  dsimp only
  rw [hmem]
  rfl

theorem State.clearFault_chan (s : State) (c e : ChanId) :
    (s.clearFault c).chan e = if e ∈ s.unit c then s.cleared e (s.chan e) else s.chan e := by
  have hlead := s.isOdd_lead c
  rw [State.clearFault_eq]
  simp only [State.mem_unit]
  unfold State.unit
  cases hgang : s.gangAt (s.lead c)
  · simp only [Bool.false_eq_true, if_false, List.foldl_cons, List.foldl_nil, State.clearMember_chan, State.modChan_chan, if_true,
      false_and, or_false]
    by_cases he : s.lead c = e
    · subst he
      simp [State.cleared, Chan.unfault, hlead]
    · simp [he, Ne.symm he]
  · obtain ⟨-, -, hne⟩ := nextChan_of_even ((s.gangAt_iff _).mp hgang).1
    have hodd := s.isOdd_nextChan hgang
    simp only [if_true, List.foldl_cons, List.foldl_nil, State.clearMember_chan, State.modChan_chan, if_neg hne, true_and]
    by_cases he : s.lead c = e
    · subst he
      simp [State.cleared, Chan.unfault, hlead, Ne.symm hne]
    · by_cases hn : nextChan (s.lead c) = e
      · subst hn
        simp [State.cleared, Chan.unfault, hodd]
      · simp [he, hn, Ne.symm he, Ne.symm hn]

theorem State.clearFault_sameChw (s : State) (c : ChanId) : SameChw s (s.clearFault c) := by
  intro e
  rw [State.clearFault_chan]
  split <;> rfl

/-- Every channel of the units is cleared, whatever the order. -/
theorem State.foldl_clearFault_chan (s : State) (e : ChanId) (l : List ChanId) (t : State) (h : SameChw s t) :
    (l.foldl State.clearFault t).chan e = if ∃ c, c ∈ l ∧ e ∈ s.unit c then s.cleared e (t.chan e) else t.chan e := by
  induction l generalizing t with
  | nil => simp
  | cons a l ih =>
    have ht : SameChw s (t.clearFault a) := fun e => (t.clearFault_sameChw a e).trans (h e)
    have hcleared : t.cleared e = s.cleared e := by
      funext x
      rw [State.cleared, State.cleared, h.isOdd]
    rw [List.foldl_cons, ih _ ht, State.clearFault_chan, h.unit, hcleared]
    by_cases ha : e ∈ s.unit a <;> by_cases hl : ∃ c, c ∈ l ∧ e ∈ s.unit c <;> simp [ha, hl, State.cleared_cleared]

/-! ## FAULT_CLEAR -/

/-- The fields of FAULT_CLEAR that its row checks (R479). -/
def faultClearChecks (d : Desc) : List (Bool × Nat) :=
  [(dMask d 4 == 0 && dNum d 20 1 == 0 && dNum d 21 1 == 0, 4), (15 < dNum d 20 1, 20), (1 < dNum d 21 1, 21)]

theorem faultClearChecks_good {d : Desc} (hq : dNum d 20 1 ≤ 15) (ha : dNum d 21 1 ≤ 1)
    (hsome : dMask d 4 ≠ 0 ∨ dNum d 20 1 ≠ 0 ∨ dNum d 21 1 ≠ 0) : ∀ x ∈ faultClearChecks d, x.1 = false := by
  simp only [faultClearChecks, List.mem_cons, List.not_mem_nil, or_false, forall_eq_or_imp, forall_eq]
  refine ⟨?_, decide_eq_false (by omega), decide_eq_false (by omega)⟩
  rw [Bool.and_eq_false_iff, Bool.and_eq_false_iff, beq_eq_false_iff_ne, beq_eq_false_iff_ne, beq_eq_false_iff_ne, or_assoc]
  exact hsome

theorem faultClear_runs {dt : Nat} {q : QueueId} {n : Word32} {d : Desc} {s S : State} (hS : S = s.elapse dt)
    (hr : S.ioRuns q n d = true) (hs : shaped d 0x26 (S.queue q).profile.isSome false [(4, 18)] = true)
    (hp : S.permits (S.queue q).hctx.val (maskNeeds 0x30 2 d ++ qmaskNeeds 0x30 2 20 d ++
      (if (dNum d 21 1).testBit 0 then [(0x10, 4)] else [])) = true) (hc : ∀ x ∈ faultClearChecks d, x.1 = false) :
    exec (.faultClear dt q n) s = .next (
      if dNum d 21 1 == 1 && !(S.ang.st == .frozen || S.ang.st == .safe) then (S.started q n).finish q n .rejState 0
      else
        let V := (dQuads d 20).foldl State.clearSupply ((maskChans (dMask d 4)).foldl State.clearFault (S.started q n))
        let W := if dNum d 21 1 == 1 then V.clearAngle else V
        W.configDone q n .done 0 W.now 0 false) := by
  subst hS
  exact congrArg Host.Outcome.next (State.io_shaped _ q n d 0x26 _ faultClearChecks _ _ hr hs hp hc)

/-- Settles O34: the passes over the units and over the supplies that the command names. -/
theorem faultClear : Obligations.FaultClear := by
  intro dt q n d s S p m hS hr hprof hm hs hq ha hsome hp
  subst hprof hm
  have hneeds : (if dNum d 21 1 = 1 then [((0x10 : Nat), (4 : Nat))] else []) =
      if (dNum d 21 1).testBit 0 then [(0x10, 4)] else [] := by
    rcases Nat.le_one_iff_eq_zero_or_eq_one.mp ha with h | h <;> rw [h] <;> rfl
  rw [hneeds] at hp
  have hruns := faultClear_runs hS hr hs hp (faultClearChecks_good hq ha hsome)
  refine ⟨fun hasrc hfrozen hsafe => ?rejected, fun hmay => ⟨(maskChans (dMask d 4)).foldl State.clearFault (S.started q n),
    _, (DiagOnly.foldl State.clearFault_diagOnly _ _).1, (DiagOnly.foldl State.clearFault_diagOnly _ _).2, fun c => ?chan, rfl, ?exec⟩⟩
  case rejected =>
    rw [hruns, if_pos]
    simp [hasrc, hfrozen, hsafe]
  case chan =>
    rw [(S.started q n).foldl_clearFault_chan c _ _ fun _ => rfl]
    refine if_congr ?_ rfl rfl
    simp only [mem_maskChans]
    exact (S.started q n).exists_mem_unit (fun c => bit (dMask d 4) c.val = true) c
  case exec =>
    have hnow (b : Bool) (T : State) : (if b then ((dQuads d 20).foldl State.clearSupply
        ((maskChans (dMask d 4)).foldl State.clearFault T)).clearAngle else (dQuads d 20).foldl State.clearSupply
        ((maskChans (dMask d 4)).foldl State.clearFault T)).now = T.now := by
      have hV : ((dQuads d 20).foldl State.clearSupply ((maskChans (dMask d 4)).foldl State.clearFault T)).keep = T.keep :=
        (foldl_keep _ (fun t k => t.clearSupply_keep k) _ _).trans (foldl_keep _ (fun t c => t.clearFault_keep c) _ _)
      refine now_of_keep ?_
      split
      · exact (State.clearAngle_keep _).trans hV
      · exact hV
    rw [hruns, if_neg]
    · dsimp only
      rw [hnow]
      refine congrArg Host.Outcome.next (congrArg (fun t : State => t.configDone q n .done 0 S.now 0 false) (if_congr beq_iff_eq rfl rfl))
    · rw [Bool.and_eq_true, beq_iff_eq, Bool.not_eq_true', Bool.or_eq_false_iff]
      rintro ⟨h1, hf, hsafe⟩
      rcases hmay with h | h | h
      · omega
      · rw [h] at hf; exact Bool.noConfusion hf
      · rw [h] at hsafe; exact Bool.noConfusion hsafe

end Sys2Proof.Machine

/-!
OUT_WRITE and OUT_PULSE (R35, R39, R140, R155, R222–R225, R241, R246, R468, R479): an output command that decides one unit, and the
settlement of O35.
-/
namespace Sys2Proof.Machine
open Sys2Proof

/-! ## The started commands at a completion -/

theorem State.emit_ops (s : State) (o : HostOut) : (s.emit o).ops = s.ops := by
  unfold State.emit
  split_ifs <;> rfl

theorem State.signal_ops (s : State) (v : VecId) : (s.signal v).ops = s.ops := by
  unfold State.signal
  split_ifs
  · rfl
  · rfl
  · exact s.emit_ops _

/-- A completion takes the command out of the started ones. -/
theorem State.completeRaw_ops (s : State) (q : QueueId) (n : Word32) (st : Status) (detail time : Nat) (result : Mask128) :
    (s.completeRaw q n st detail time result).ops = s.ops ∨
      (s.completeRaw q n st detail time result).ops = s.ops.filter fun o => !(o.live && o.q == q && o.n == n) := by
  unfold State.completeRaw
  split
  · exact Or.inl rfl
  · dsimp only
    right
    split_ifs <;> simp only [State.signalQueue, State.modQueue_ops, State.signal_ops, State.emit_ops, State.modMason_ops]

theorem State.completeRaw_ops_found (s : State) (q : QueueId) (n : Word32) (st : Status) (detail time : Nat) (result : Mask128)
    (h : ((s.queue q).flight.find? fun e => e.num == n).isSome = true) :
    (s.completeRaw q n st detail time result).ops = s.ops.filter fun o => !(o.live && o.q == q && o.n == n) := by
  obtain ⟨e, he⟩ := Option.isSome_iff_exists.mp h
  unfold State.completeRaw
  rw [he]
  dsimp only
  split_ifs <;> simp only [State.signalQueue, State.modQueue_ops, State.signal_ops, State.emit_ops, State.modMason_ops]

theorem State.drained_ops (s : State) (q : QueueId) : (s.drained q).ops = s.ops := by
  unfold State.drained
  dsimp only
  split_ifs <;> rfl

theorem State.completeRaw_ops_mem (s : State) (q : QueueId) (n : Word32) (st : Status) (detail time : Nat) (result : Mask128) (x : Op)
    (h : x ∈ (s.completeRaw q n st detail time result).ops) : x ∈ s.ops := by
  rcases s.completeRaw_ops q n st detail time result with heq | heq <;> rw [heq] at h
  · exact h
  · exact (List.mem_filter.mp h).1

theorem State.drainStep_ops (s : State) (o x : Op) (h : x ∈ (s.drainStep o).ops) : x ∈ s.ops := by
  have hfilter (T : State) (hT : T.ops = s.ops)
      (hx : x ∈ (let U : State := { T with ops := T.ops.filter fun x => !(x.q == o.q && x.n == o.n && x.live == o.live) }
        if o.live then (U.completeRaw o.q o.n .done 0 U.now 0).drained o.q else U).ops) : x ∈ s.ops := by
    rw [← hT]
    dsimp only at hx
    split at hx
    · rw [State.drained_ops] at hx
      exact (List.mem_filter.mp (State.completeRaw_ops_mem _ _ _ _ _ _ _ x hx)).1
    · exact (List.mem_filter.mp hx).1
  unfold State.drainStep at h
  split at h
  · next t del _ =>
    split at h
    · exact hfilter (if del then s.modQueue t fun _ => Reset.queue else s) (by split <;> rfl) h
    · exact h
  · exact h

theorem State.finishDrains_ops (s : State) (x : Op) (h : x ∈ s.finishDrains.ops) : x ∈ s.ops := by
  have hfold (l : List Op) (t : State) (ht : ∀ y ∈ t.ops, y ∈ s.ops) : ∀ y ∈ (l.foldl State.drainStep t).ops, y ∈ s.ops := by
    induction l generalizing t with
    | nil => exact ht
    | cons a l ih => exact ih _ fun y hy => ht y (t.drainStep_ops a y hy)
  exact hfold s.ops s (fun _ hy => hy) x (s.finishDrains_eq ▸ h)

/-- The command that completes is no longer started. -/
theorem State.complete_unlisted (s : State) (q : QueueId) (n : Word32) (st : Status) (detail time : Nat) (result : Mask128)
    (h : ((s.queue q).flight.find? fun e => e.num == n).isSome = true) :
    ∀ x ∈ (s.complete q n st detail time result).ops, x.live = true → x.q = q → x.n ≠ n := by
  intro x hx hlive hq hn
  have hmem := State.finishDrains_ops _ x hx
  rw [State.drained_ops, State.completeRaw_ops_found _ _ _ _ _ _ _ h] at hmem
  have hnot := (List.mem_filter.mp hmem).2
  rw [hlive, hq, hn] at hnot
  simp at hnot

/-- Which started commands a completion takes away does not show after it. -/
theorem State.completeRaw_addOp (s : State) (q : QueueId) (n : Word32) (k : OpKind) (st : Status) (detail time : Nat) (result : Mask128)
    (h : ((s.queue q).flight.find? fun e => e.num == n).isSome = true) :
    (s.addOp q n k).completeRaw q n st detail time result = s.completeRaw q n st detail time result := by
  obtain ⟨e, he⟩ := Option.isSome_iff_exists.mp h
  unfold State.completeRaw
  rw [State.addOp_queue, he]
  have hops : (s.addOp q n k).ops.filter (fun o => !(o.live && o.q == q && o.n == n)) =
      s.ops.filter fun o => !(o.live && o.q == q && o.n == n) := by
    simp [State.addOp]
  dsimp only
  rw [hops]
  rfl

theorem State.finish_addOp (s : State) (q : QueueId) (n : Word32) (k : OpKind) (st : Status) (detail : Nat)
    (h : ((s.queue q).flight.find? fun e => e.num == n).isSome = true) :
    (s.addOp q n k).finish q n st detail = s.finish q n st detail := by
  unfold State.finish State.complete
  rw [show (s.addOp q n k).now = s.now from rfl, State.completeRaw_addOp _ _ _ _ _ _ _ _ h]

/-! ## An output command (R246) -/

/-- No started command is command n of queue q. -/
def State.Unlisted (s : State) (q : QueueId) (n : Word32) : Prop := ∀ x ∈ s.ops, x.live = true → x.q = q → x.n ≠ n

theorem bitOf_ne_zero (c : ChanId) : bitOf c ≠ 0 := by
  intro h
  have hnat := congrArg BitVec.toNat h
  rw [bitOf, BitVec.toNat_ofNat, Nat.mod_eq_of_lt (Nat.pow_lt_pow_right (by decide) c.isLt)] at hnat
  exact (Nat.two_pow_pos c.val).ne' hnat

theorem ofNat_two_pow_ne_zero (k : QuadId) : (BitVec.ofNat 4 (2 ^ k.val)) ≠ 0 := by
  revert k
  decide

section
variable {s : State} {q : QueueId} {n : Word32} (hno : s.Unlisted q n)
include hno

theorem State.findOut_none : s.findOut q n = none := by
  refine List.find?_eq_none.mpr fun x hx h => ?_
  simp only [Bool.and_eq_true, beq_iff_eq] at h
  exact hno x hx h.1.1.1 h.1.1.2 h.1.2

theorem State.findOut_addOp (o : OutOp) : (s.addOp q n (.out o)).findOut q n = some { q := q, n := n, live := true, kind := .out o } := by
  have h := State.findOut_none hno
  unfold State.findOut at h ⊢
  rw [State.addOp, List.find?_append, h]
  simp

theorem State.setOut_addOp (o x : OutOp) :
    (s.addOp q n (.out o)).setOut { q := q, n := n, live := true, kind := .out o } x = s.addOp q n (.out x) := by
  refine congrArg (fun l => { s with ops := l }) ?_
  rw [State.addOp, List.map_append]
  refine congrArg₂ _ ((List.map_congr_left fun y hy => if_neg fun heq => ?_).trans (List.map_id' _)) (by simp)
  obtain rfl := beq_iff_eq.mp heq
  exact hno _ hy rfl rfl rfl

theorem State.outDecided_runs (o : OutOp) (h : o.todo ≠ 0 ∨ o.quads ≠ 0) :
    (s.addOp q n (.out o)).outDecided q n = s.addOp q n (.out o) := by
  unfold State.outDecided
  rw [State.findOut_addOp hno]
  refine if_neg fun hend => ?_
  rw [Bool.and_eq_true, beq_iff_eq, beq_iff_eq] at hend
  exact h.elim (· hend.1) (· hend.2)

/-- With no channel applied the command completes at its last decision. -/
theorem State.outDecided_rejects (o : OutOp) (htodo : o.todo = 0) (hquads : o.quads = 0) (happlied : o.applied = 0)
    (hrefused : o.refused = 0) (hnamed : o.named ≠ 0)
    (hfind : ((s.queue q).flight.find? fun e => e.num == n).isSome = true) :
    (s.addOp q n (.out o)).outDecided q n = s.finish q n .rejState 0 := by
  unfold State.outDecided
  rw [State.findOut_addOp hno]
  have hstatus : o.status = .rejState := by
    unfold OutOp.status
    rw [if_pos (beq_iff_eq.mpr happlied), if_neg]
    rw [hrefused, beq_iff_eq]
    exact hnamed.symm
  refine (if_pos (by rw [htodo, hquads]; rfl)).trans ((if_pos (beq_iff_eq.mpr happlied)).trans ?_)
  rw [hstatus]
  exact State.finish_addOp s q n _ .rejState 0 hfind

end

/-! ## Masks of channels -/

theorem bit_bitOf (c e : ChanId) : bit (bitOf c) e.val = decide (c = e) := by
  rw [bit, bitOf, BitVec.getLsbD_ofNat, Nat.testBit_two_pow, decide_eq_true e.isLt, Bool.true_and]
  exact decide_eq_decide.mpr Fin.ext_iff.symm

theorem bit_chanMask (p : ChanId → Bool) (e : ChanId) : bit (chanMask p) e.val = p e := by
  have hfold (l : List ChanId) (m : Mask128) : bit (l.foldl (fun m c => if p c then m ||| bitOf c else m) m) e.val =
      (bit m e.val || (decide (e ∈ l) && p e)) := by
    induction l generalizing m with
    | nil => simp
    | cons a l ih =>
      rw [List.foldl_cons, ih]
      have hor : bit (m ||| bitOf a) e.val = (bit m e.val || decide (a = e)) := by
        rw [← bit_bitOf]
        exact BitVec.getLsbD_or
      by_cases ha : a = e
      · subst ha
        cases p a <;> simp [hor]
      · cases p a <;> simp [hor, ha, Ne.symm ha]
  rw [chanMask, hfold, allChans]
  simp [bit]

/-- An output command of which the channels todo are not decided and those of applied wait for the frames of quads. -/
def outOp (named todo applied : Mask128) (quads : BitVec 4) (capped : Nat) : OutOp :=
  { named := named, todo := todo, applied := applied, refused := 0, late := false, capped := capped, quads := quads, sentAt := 0 }

section
variable (A : State) (q : QueueId) (n : Word32) (mask : Mask128) (capped : Nat) (f : State → ChanId → State × Verdict) (c : ChanId)
  (hlead : A.maskLeads mask = [c])
include hlead

/-- The unit that the command is for is named. -/
theorem State.maskNamed_ne_zero : A.maskNamed mask ≠ 0 := by
  have hc : c ∈ A.maskLeads mask := hlead ▸ List.mem_singleton_self c
  rw [State.maskLeads, List.mem_filter, mem_maskChans, Bool.not_eq_true'] at hc
  intro h
  have hbit := bit_chanMask (fun c => bit mask c.val && !(A.isOdd c && bit mask (prevChan c).val)) c
  rw [show chanMask _ = 0 from h, hc.1, hc.2] at hbit
  simp [bit] at hbit

section
variable (hno : A.Unlisted q n)
include hno

theorem State.outCmd_rejects (hacc : A.accepts false c = false)
    (hfind : ((A.queue q).flight.find? fun e => e.num == n).isSome = true) :
    A.outCmd q n mask capped f = A.finish q n .rejState 0 := by
  unfold State.outCmd
  dsimp only
  rw [hlead]
  simp only [List.foldl_cons, List.foldl_nil]
  rw [if_pos (by rw [show (A.addOp q n _).accepts false c = false from hacc]; rfl)]
  unfold State.decided
  rw [State.findOut_addOp hno]
  dsimp only
  rw [State.setOut_addOp hno, State.outDecided_rejects hno _ (by simp) rfl rfl rfl (A.maskNamed_ne_zero mask c hlead) hfind]
  unfold State.outDecided
  rw [show (A.finish q n .rejState 0).findOut q n = none from State.findOut_none (A.complete_unlisted q n _ _ _ _ hfind)]

end

section
variable (hacc : A.accepts false c = true) (T : State) (hT : T.Unlisted q n)
include hacc hT

/-- A level or generator that was applied waits for the frame that carries it. -/
theorem State.outCmd_applies (hf : f (A.addOp q n (.out (outOp (A.maskNamed mask) (bitOf c) 0 0 capped))) c =
      (T.addOp q n (.out (outOp (A.maskNamed mask) (bitOf c) 0 0 capped)), .applied)) :
    A.outCmd q n mask capped f =
      T.addOp q n (.out (outOp (A.maskNamed mask) 0 (bitOf c) (BitVec.ofNat 4 (2 ^ (quadOf c).val)) capped)) := by
  unfold State.outCmd
  dsimp only
  rw [hlead]
  simp only [List.foldl_cons, List.foldl_nil]
  rw [show (0 : Mask128) ||| bitOf c = bitOf c from BitVec.zero_or]
  rw [if_neg (by rw [show (A.addOp q n _).accepts false c = true from hacc]; exact Bool.false_ne_true)]
  unfold outOp at hf
  rw [hf]
  dsimp only
  unfold State.decided
  rw [State.findOut_addOp hT]
  dsimp only
  have hquads : (0 : BitVec 4) ||| BitVec.ofNat 4 (2 ^ (quadOf c).val) ≠ 0 := by
    rw [show (0 : BitVec 4) ||| _ = _ from BitVec.zero_or]
    exact ofNat_two_pow_ne_zero _
  rw [State.setOut_addOp hT, State.outDecided_runs hT _ (Or.inr hquads), State.outDecided_runs hT _ (Or.inr hquads)]
  simp [outOp]

/-- A request waits for its decision. -/
theorem State.outCmd_waits (hf : f (A.addOp q n (.out (outOp (A.maskNamed mask) (bitOf c) 0 0 capped))) c =
      (T.addOp q n (.out (outOp (A.maskNamed mask) (bitOf c) 0 0 capped)), .waits)) :
    A.outCmd q n mask capped f = T.addOp q n (.out (outOp (A.maskNamed mask) (bitOf c) 0 0 capped)) := by
  unfold State.outCmd
  dsimp only
  rw [hlead]
  simp only [List.foldl_cons, List.foldl_nil]
  rw [show (0 : Mask128) ||| bitOf c = bitOf c from BitVec.zero_or]
  rw [if_neg (by rw [show (A.addOp q n _).accepts false c = true from hacc]; exact Bool.false_ne_true)]
  unfold outOp at hf
  rw [hf]
  exact State.outDecided_runs hT _ (Or.inl (bitOf_ne_zero c))

end
end

/-! ## Levels and generators under a started command -/

section
variable (s : State) (q : QueueId) (n : Word32) (k : OpKind) (c : ChanId)

theorem State.NoRequest.giveRef_addOp {s : State} {c : ChanId} (h : s.NoRequest c) (q : QueueId) (n : Word32) (k : OpKind) (on : Bool) :
    (s.addOp q n k).giveRef c on = (s.modChan c fun x => { x.owned with gen := none, ref := on, chgAt := s.now }).addOp q n k :=
  State.NoRequest.giveRef (s := s.addOp q n k) h on

/-- A level of on for a driver that is off asks Buttress. -/
theorem State.NoRequest.setLevel_asks {s : State} {c : ChanId} (h : s.NoRequest c) (q i : QueueId) (n j : Word32) (k : OpKind)
    (hdrv : (s.chan c).drv = false) (hlatch : (s.chan c).latch = false) (hsup : s.supplyHolds c = false) :
    (s.addOp q n k).setLevel c true (.host i j) = (State.addOp { s.modChan c fun x =>
        { x with gen := none, ref := x.cause != .none, chgAt := s.now } with
      reqs := s.reqs ++ [{ chan := c, src := .host i j, kind := .level, frame := s.frameNo, key := s.reqKey (.host i j),
                           seq := s.reqSeq, firing := s.course.firing, tested := none, failed := 0, olds := [] }],
      reqSeq := s.reqSeq + 1 } q n k, .waits) := by
  have hno : ((s.addOp q n k).modChan c fun x => { x with gen := none, ref := x.cause != .none, chgAt := s.now }).NoRequest c := h
  have hreq := hno.request (.host i j) .level
  unfold State.setLevel State.setOn
  rw [if_pos rfl]
  dsimp only
  rw [show (s.addOp q n k).chan c = s.chan c from rfl, hdrv, hlatch, show (s.addOp q n k).supplyHolds c = false from hsup]
  simp only [Bool.false_and, Bool.false_eq_true, if_false]
  unfold State.ask
  dsimp only
  rw [show (s.addOp q n k).now = s.now from rfl, hreq]
  rfl

end

/-! ## Pulse groups that an output command stores (R223) -/

section
variable (s : State) (d : Desc) (c : ChanId)

theorem State.foldl_pulw (w : Word64) (l : List ChanId) :
    l.foldl (fun u k => u.modChan k fun x => { x with pulw := w }) s =
        { s with chans := (l.foldl (fun u k => u.modChan k fun x => { x with pulw := w }) s).chans } ∧
      ∀ e, (l.foldl (fun u k => u.modChan k fun x => { x with pulw := w }) s).chan e =
        { s.chan e with pulw := ((l.foldl (fun u k => u.modChan k fun x => { x with pulw := w }) s).chan e).pulw } := by
  induction l generalizing s with
  | nil => exact ⟨rfl, fun _ => rfl⟩
  | cons a l ih =>
    obtain ⟨hst, hch⟩ := ih (s.modChan a fun x => { x with pulw := w })
    refine ⟨hst.trans rfl, fun e => (hch e).trans ?_⟩
    rw [State.modChan_chan]
    split
    · next h => rw [h]; rfl
    · rfl

theorem State.pulseWrite_chans : s.pulseWrite d c = { s with chans := (s.pulseWrite d c).chans } := by
  unfold State.pulseWrite
  split
  · exact (s.foldl_pulw (d64 d 24) (s.members c)).1
  · rfl

theorem State.pulseWrite_chan (e : ChanId) :
    (s.pulseWrite d c).chan e = { s.chan e with pulw := ((s.pulseWrite d c).chan e).pulw } := by
  unfold State.pulseWrite
  split
  · exact (s.foldl_pulw (d64 d 24) (s.members c)).2 e
  · rfl

theorem State.pulseWrite_addOp (q : QueueId) (n : Word32) (k : OpKind) :
    (s.addOp q n k).pulseWrite d c = (s.pulseWrite d c).addOp q n k := by
  have hfold (l : List ChanId) (t : State) : l.foldl (fun u m => u.modChan m fun x => { x with pulw := d64 d 24 }) (t.addOp q n k) =
      (l.foldl (fun u m => u.modChan m fun x => { x with pulw := d64 d 24 }) t).addOp q n k := by
    induction l generalizing t with
    | nil => rfl
    | cons a l ih => exact ih (t.modChan a fun x => { x with pulw := d64 d 24 })
  unfold State.pulseWrite
  split
  · exact hfold _ s
  · rfl

theorem State.pulseWrite_of_stored (stored : ChanId → State → State) (hle : dNum d 21 1 ≤ 1)
    (h0 : dNum d 21 1 = 0 → ∀ c T, stored c T = T)
    (h1 : dNum d 21 1 = 1 → ∀ c T, stored c T = (T.members c).foldl (fun u k => u.modChan k fun x => { x with pulw := d64 d 24 }) T) :
    stored c s = s.pulseWrite d c := by
  rcases Nat.le_one_iff_eq_zero_or_eq_one.mp hle with h | h
  · rw [h0 h, State.pulseWrite, if_neg (by rw [dPvalid, h]; exact Bool.false_ne_true)]
  · rw [h1 h, State.pulseWrite, if_pos (by rw [dPvalid, h]; rfl)]
    rfl

end

/-- The checks of OUT_PULSE but for what every descriptor is held to (R479). -/
def pulseChecks (d : Desc) : List (Bool × Nat) :=
  [(dMask d 4 == 0, 4), (2 < dNum d 20 1, 20), (1 < dNum d 21 1 || (dNum d 20 1 == 2 && dNum d 21 1 == 0), 21),
   (if dNum d 21 1 == 0 then d64 d 24 != 0 else pulwBad (d64 d 24), 24)]

theorem isPulse_of_shaped {d : Desc} {p : Bool} {op : Nat} (hs : shaped d 0x22 p false [(4, 18), (24, 8)] = true)
    (hop : dNum d 20 1 = op) : isPulse op d = true := by
  rw [isPulse, isOp_of_shaped hs, hop, beq_self_eq_true]
  rfl

theorem pulseBad_none {d : Desc} {p : Bool} (hs : shaped d 0x22 p false [(4, 18), (24, 8)] = true) (hmask : dMask d 4 ≠ 0)
    (hop : dNum d 20 1 ≤ 2) (hle : dNum d 21 1 ≤ 1) (hupd : dNum d 20 1 = 2 → dNum d 21 1 = 1)
    (h0 : dNum d 21 1 = 0 → d64 d 24 = 0) (h1 : dNum d 21 1 = 1 → pulwBad (d64 d 24) = false) : pulseBad d p = none := by
  refine firstBad_of_shaped (checks := pulseChecks d) hs ?_
  simp only [pulseChecks, List.mem_cons, List.not_mem_nil, or_false, forall_eq_or_imp, forall_eq]
  refine ⟨beq_eq_false_iff_ne.mpr hmask, decide_eq_false (Nat.not_lt.mpr hop), ?_, ?_⟩
  · rw [decide_eq_false (Nat.not_lt.mpr hle), Bool.false_or, Bool.and_eq_false_iff]
    rcases Nat.le_one_iff_eq_zero_or_eq_one.mp hle with h | h
    · left
      refine beq_eq_false_iff_ne.mpr fun h2 => ?_
      rw [hupd h2] at h
      exact absurd h (by decide)
    · exact Or.inr (by rw [h]; rfl)
  · rcases Nat.le_one_iff_eq_zero_or_eq_one.mp hle with h | h
    · rw [if_pos (by rw [h]; rfl), h0 h]
      rfl
    · rw [if_neg (by rw [h]; decide)]
      exact h1 h

/-- The other fields of an output command are at 0 or good. -/
theorem outBad_none {d : Desc} {p : Bool} (hs : shaped d 0x21 p false [(4, 32)] = true) (hmask : dMask d 4 ≠ 0) :
    firstBad d p false [(4, 32)] [(dMask d 4 == 0, 4)] = none :=
  firstBad_of_shaped hs (List.forall_mem_singleton.mpr (beq_eq_false_iff_ne.mpr hmask))

/-! ## One unit decided by an output command (R35, R222–R225, R241, R246) -/

theorem State.started_find {s : State} {q : QueueId} {n : Word32} {d : Desc} (hr : s.ioRuns q n d = true) :
    (((s.started q n).queue q).flight.find? fun e => e.num == n).isSome = true := by
  rw [State.ioRuns, Bool.and_eq_true, beq_iff_eq] at hr
  have hstart := hr.2
  unfold State.startable at hstart
  dsimp only at hstart
  split at hstart
  · cases hstart
  · split at hstart
    · next e he =>
      rw [State.started, State.modQueue_queue, if_pos rfl, List.find?_isSome]
      have hn := List.find?_some he
      exact ⟨_, List.mem_map_of_mem (List.mem_of_find?_eq_some he), by rw [if_pos hn]; exact hn⟩
    · cases hstart

section
variable {A : State} {q : QueueId} {n : Word32} {mask : Mask128} {capped : Nat} {c : ChanId} {w : Word64}
  (hlead : A.maskLeads mask = [c]) (hno : A.Unlisted q n) (hacc : A.accepts false c = true)
include hlead hno hacc

theorem State.outCmd_level_off (hreq : A.NoRequest c) (m : Mask128) (hm : bit m c.val = false) :
    A.outCmd q n mask capped (fun u c => u.setLevel c (bit m c.val) (.host q n)) =
      (A.modChan c fun x => { x.owned with gen := none, ref := false, chgAt := A.now }).addOp q n
        (.out (outOp (A.maskNamed mask) 0 (bitOf c) (BitVec.ofNat 4 (2 ^ (quadOf c).val)) capped)) := by
  refine A.outCmd_applies q n mask capped _ c hlead hacc _ hno ?_
  rw [hm, State.setLevel_off, hreq.giveRef_addOp]

theorem State.outCmd_level_driven (hreq : A.NoRequest c) (m : Mask128) (hm : bit m c.val = true) (hdrv : (A.chan c).drv = true)
    (hgen : (A.chan c).gen = none) (htest : (A.chan c).test = .idle) :
    A.outCmd q n mask capped (fun u c => u.setLevel c (bit m c.val) (.host q n)) =
      (A.modChan c fun x => { x.owned with gen := none, ref := true, chgAt := A.now }).addOp q n
        (.out (outOp (A.maskNamed mask) 0 (bitOf c) (BitVec.ofNat 4 (2 ^ (quadOf c).val)) capped)) := by
  refine A.outCmd_applies q n mask capped _ c hlead hacc _ hno ?_
  rw [hm, State.setLevel_on_driven (A.addOp q n _) c _ hdrv hgen htest, hreq.giveRef_addOp]

theorem State.outCmd_level_asks (hreq : A.NoRequest c) (m : Mask128) (hm : bit m c.val = true) (hdrv : (A.chan c).drv = false)
    (hlatch : (A.chan c).latch = false) (hsup : A.supplyHolds c = false) :
    A.outCmd q n mask capped (fun u c => u.setLevel c (bit m c.val) (.host q n)) =
      State.addOp { A.modChan c fun x => { x with gen := none, ref := x.cause != .none, chgAt := A.now } with
        reqs := A.reqs ++ [{ chan := c, src := .host q n, kind := .level, frame := A.frameNo, key := A.reqKey (.host q n),
                             seq := A.reqSeq, firing := A.course.firing, tested := none, failed := 0, olds := [] }],
        reqSeq := A.reqSeq + 1 } q n (.out (outOp (A.maskNamed mask) (bitOf c) 0 0 capped)) := by
  refine A.outCmd_waits q n mask capped _ c hlead hacc _ ?_ ?_
  · exact hno
  · rw [hm]
    exact State.NoRequest.setLevel_asks hreq q q n n _ hdrv hlatch hsup

theorem State.outCmd_stop (d : Desc) (hreq : A.NoRequest c) (hgen : (A.chan c).gen = none) :
    A.outCmd q n mask capped (fun u c => (u.pulseWrite d c).stopGen c) = (A.pulseWrite d c).addOp q n
        (.out (outOp (A.maskNamed mask) 0 (bitOf c) (BitVec.ofNat 4 (2 ^ (quadOf c).val)) capped)) := by
  refine A.outCmd_applies q n mask capped _ c hlead hacc _ ?_ ?_
  · rw [A.pulseWrite_chans]
    exact hno
  · rw [State.pulseWrite_addOp]
    have hno' : ((A.pulseWrite d c).addOp q n (.out (outOp (A.maskNamed mask) (bitOf c) 0 0 capped))).NoRequest c := by
      rw [A.pulseWrite_chans]
      exact hreq
    rw [hno'.stopGen, if_pos]
    exact (congrArg Chan.gen (A.pulseWrite_chan d c c)).trans hgen

theorem State.outCmd_update (d : Desc) (hgen : (A.chan c).gen = none) :
    A.outCmd q n mask capped (fun u c => (u.pulseWrite d c).updateGen c w (u.chan c).pulw (.host q n)) =
      (A.pulseWrite d c).addOp q n
        (.out (outOp (A.maskNamed mask) 0 (bitOf c) (BitVec.ofNat 4 (2 ^ (quadOf c).val)) capped)) := by
  refine A.outCmd_applies q n mask capped _ c hlead hacc _ ?_ ?_
  · rw [A.pulseWrite_chans]
    exact hno
  · rw [State.pulseWrite_addOp, State.updateGen]
    have hnone : (((A.pulseWrite d c).addOp q n (.out (outOp (A.maskNamed mask) (bitOf c) 0 0 capped))).chan c).gen = none :=
      (congrArg Chan.gen (A.pulseWrite_chan d c c)).trans hgen
    rw [hnone]

theorem State.outCmd_start (d : Desc) (hreq : A.NoRequest c) (hgen : (A.chan c).gen = none) (hlatch : (A.chan c).latch = false)
    (hsup : A.supplyHolds c = false) :
    A.outCmd q n mask capped (fun u c => if (u.chan c).latch && (u.chan c).gen.isNone then (u, .notApplied)
          else (u.pulseWrite d c).startGen c (u.pulseGroup d c) (u.chan c).pulw (.host q n)) =
      State.addOp { A.pulseWrite d c with
        reqs := A.reqs ++ [{ chan := c, src := .host q n, kind := .start (A.pulseGroup d c), frame := A.frameNo,
                             key := A.reqKey (.host q n), seq := A.reqSeq, firing := A.course.firing, tested := none,
                             failed := 0, olds := [] }],
        reqSeq := A.reqSeq + 1 } q n (.out (outOp (A.maskNamed mask) (bitOf c) 0 0 capped)) := by
  have hB := A.pulseWrite_chans d c
  have hch := A.pulseWrite_chan d c c
  refine A.outCmd_waits q n mask capped _ c hlead hacc _ ?_ ?_
  · rw [hB]
    exact hno
  · dsimp only
    rw [show ((A.addOp q n _).chan c).latch = false from hlatch, State.pulseWrite_addOp]
    refine (if_neg (by rw [Bool.false_and]; exact Bool.false_ne_true)).trans ?_
    rw [State.startGen_asks ((A.pulseWrite d c).addOp q n _) c _ _ _ ((congrArg Chan.gen hch).trans hgen) ((congrArg Chan.latch hch).trans hlatch)
      (by rw [hB]; exact hsup)]
    unfold State.ask
    dsimp only
    have hno' : ((A.pulseWrite d c).addOp q n (.out (outOp (A.maskNamed mask) (bitOf c) 0 0 capped))).NoRequest c := by
      rw [hB]
      exact hreq
    rw [hno'.request, hB]
    rfl

end

/-- Settles O35: each row on one unit, over the started command's own record. -/
theorem outputCommands : Obligations.OutputCommands := by
  intro dt q n d s S A p m o hS hA hr hpf hm hmask hperm ho
  subst hpf hm
  have hops : A.ops = S.ops := hA ▸ rfl
  have hfind := hA ▸ State.started_find hr
  have hord : A.reqKey (.host q n) = S.reqKey (.host q n) := hA ▸ S.started_reqKey q n
  have hshow (todo applied : Mask128) (quads : BitVec 4) (capped : Nat) (T : State) : o todo applied quads capped T =
      T.addOp q n (.out (outOp (A.maskNamed (dMask d 4)) todo applied quads capped)) := by
    rw [ho, hA]
    rfl
  refine ⟨fun hs => ?_, fun stored hs hle h0 h1 => ?_⟩
  · have hexec : exec (.outWrite dt q n) s =
        .next (A.outCmd q n (dMask d 4) 0 fun u c => u.setLevel c (bit (dMask d 20) c.val) (.host q n)) := by
      subst hS hA
      exact congrArg _ (State.io_runs _ q n d _ _ _ _ hr (isOp_of_shaped hs) hperm (outBad_none hs hmask))
    refine ⟨hexec, fun c hlead hno hreq => ⟨fun hacc => ?_, fun hacc => ⟨fun hb => ?_, fun hb hdrv hgen htest => ?_,
      fun hb hdrv hlatch hsup => ?_⟩⟩⟩ <;> subst hA <;> rw [hexec]
    · exact congrArg _ (State.outCmd_rejects _ q n _ 0 _ c hlead hno hacc hfind)
    · rw [State.outCmd_level_off (A := S.started q n) hlead hno hacc hreq _ hb, hshow]
      rfl
    · rw [State.outCmd_level_driven (A := S.started q n) hlead hno hacc hreq _ hb hdrv hgen htest, hshow]
      rfl
    · rw [State.outCmd_level_asks (A := S.started q n) hlead hno hacc hreq _ hb hdrv hlatch hsup, hshow, hord]
      rfl
  · have hstored (c : ChanId) (T : State) : stored c T = T.pulseWrite d c :=
      T.pulseWrite_of_stored d c stored hle (fun h => (h0 h).2) fun h => (h1 h).2
    have hbad (hop : dNum d 20 1 ≤ 2) (hupd : dNum d 20 1 = 2 → dNum d 21 1 = 1) :=
      pulseBad_none hs hmask hop hle hupd (fun h => (h0 h).1) fun h => (h1 h).1
    refine ⟨fun hop => ?_, fun hop => ?_, fun hop hv => ?_⟩
    · have hexec : exec (.outPulseStart dt q n) s = .next (A.outCmd q n (dMask d 4) (S.cappedCount d) fun u c =>
          if (u.chan c).latch && (u.chan c).gen.isNone then (u, .notApplied)
          else (u.pulseWrite d c).startGen c (u.pulseGroup d c) (u.chan c).pulw (.host q n)) := by
        subst hS hA
        exact congrArg _ (State.io_runs _ q n d _ _ _ _ hr (isPulse_of_shaped hs hop) hperm
          (hbad (by omega) fun h => absurd (hop.symm.trans h) (by decide)))
      refine ⟨hexec, fun c hlead hno hreq hacc hgen hlatch hsup => ?_⟩
      subst hA
      have hgroup : (S.started q n).pulseGroup d c = if dNum d 21 1 = 1 then d64 d 24 else (S.chan c).pulw :=
        if_congr beq_iff_eq rfl rfl
      rw [hexec, State.outCmd_start (A := S.started q n) hlead hno hacc d hreq hgen hlatch hsup, hshow, hstored, hord, hgroup]
      rfl
    · have hexec : exec (.outPulseStop dt q n) s =
          .next (A.outCmd q n (dMask d 4) 0 fun u c => (u.pulseWrite d c).stopGen c) := by
        subst hS hA
        exact congrArg _ (State.io_runs _ q n d _ _ _ _ hr (isPulse_of_shaped hs hop) hperm
          (hbad (by omega) fun h => absurd (hop.symm.trans h) (by decide)))
      refine ⟨hexec, fun c hlead hno hreq hacc hgen => ?_⟩
      subst hA
      rw [hexec, State.outCmd_stop (A := S.started q n) hlead hno hacc d hreq hgen, hshow, hstored]
    · have hexec : exec (.outPulseUpdate dt q n) s = .next (A.outCmd q n (dMask d 4) (S.cappedCount d) fun u c =>
          (u.pulseWrite d c).updateGen c (d64 d 24) (u.chan c).pulw (.host q n)) := by
        subst hS hA
        exact congrArg _ (State.io_runs _ q n d _ _ _ _ hr (isPulse_of_shaped hs hop) hperm (hbad (by omega) fun _ => hv))
      refine ⟨hexec, fun c hlead hno hacc hgen => ?_⟩
      subst hA
      rw [hexec, State.outCmd_update (A := S.started q n) hlead hno hacc d hgen, hshow, hstored]

end Sys2Proof.Machine

/-!
COURSE_LOAD, COURSE_SWAP, SWAP_DONE and the prefetch (R279–R282, R292, R293, R295, R406, R470, R513): the rows, and the settlement of
O36.
-/
namespace Sys2Proof.Machine
open Sys2Proof

/-! ## COURSE_LOAD (R279–R282, R551) -/

/-- The checks of COURSE_LOAD but for what every descriptor is held to (R280). -/
def courseLoadChecks (d : Desc) : List (Bool × Nat) :=
  [(1 < dNum d 4 1, 4), (bwCount (d64 d 16) == 0 && d64 d 8 != 0, 8), (bankwBad (d64 d 16), 16)]

theorem courseBad_none {d : Desc} {p : Bool} (hs : shaped d 0x30 p false [(4, 1), (8, 16)] = true) (hbank : dNum d 4 1 ≤ 1)
    (haddr : bwCount (d64 d 16) = 0 → d64 d 8 = 0) (hword : bankwBad (d64 d 16) = false) : courseBad d p = none := by
  refine firstBad_of_shaped (checks := courseLoadChecks d) hs ?_
  simp only [courseLoadChecks, List.mem_cons, List.not_mem_nil, or_false, forall_eq_or_imp, forall_eq]
  refine ⟨decide_eq_false (Nat.not_lt.mpr hbank), Bool.and_eq_false_iff.mpr ?_, hword⟩
  by_cases h : bwCount (d64 d 16) = 0
  · exact Or.inr (by rw [haddr h]; rfl)
  · exact Or.inl (beq_eq_false_iff_ne.mpr h)

theorem dCBank_val {d : Desc} (h : dNum d 4 1 ≤ 1) : (dCBank d).val = dNum d 4 1 := Nat.mod_eq_of_lt (Nat.lt_succ_of_le h)

/-- An empty table passes every check of its entries (R280). -/
theorem State.courseChecks_empty (s : State) (q : QueueId) (n : Word32) (d : Desc) (f : State → State)
    (h : bwCount (d64 d 16) = 0) : s.courseChecks q n d [] f =
      if s.course.active == dCBank d || s.course.swap.isSome then s.finish q n .rejState 0 else f s := by
  have htable : tableOf (bwCount (dBankWord d)) [] = [] := by
    rw [dBankWord, h]
    rfl
  unfold State.courseChecks
  rw [htable]
  rfl

/-- Outside a pair no delta is made for the partner. -/
theorem State.configured_alone (s : State) (who : Option (QueueId × Word32)) (h : s.journals = false) :
    s.configured who false = s := by
  have hneg : ¬s.journals = true := by rw [h]; exact Bool.false_ne_true
  exact if_neg hneg

theorem State.courseDone_alone (s : State) (q : QueueId) (n : Word32) (d : Desc) (crc : Word32) (h : s.journals = false) :
    s.courseDone q n d [] crc = (s.putBank (dCBank d) [] (dBankWord d)).complete q n .done 0 s.now (crc.setWidth 128) := by
  unfold State.courseDone
  dsimp only
  rw [State.configured_alone (s.putBank _ _ _) none h]
  have hneg : ¬(s.putBank (dCBank d) [] (dBankWord d)).journals = true := by
    rw [show (s.putBank (dCBank d) [] (dBankWord d)).journals = s.journals from rfl, h]
    exact Bool.false_ne_true
  exact congrArg (fun t : State => t.complete q n .done 0 s.now (crc.setWidth 128)) (if_neg hneg)

theorem crc32c_nil : crc32c [] = 0 := by decide +kernel

section
variable {dt : Nat} {q : QueueId} {n : Word32} {d : Desc} {s S : State} (hS : S = s.elapse dt) (hr : S.ioRuns q n d = true)
  (hs : shaped d 0x30 (S.queue q).profile.isSome false [(4, 1), (8, 16)] = true) (hp : S.permits (S.queue q).hctx.val [(0x10, 2)] = true)
  (hbank : dNum d 4 1 ≤ 1) (hword : bankwBad (d64 d 16) = false)
include hS hr hs hp hbank hword

theorem courseLoad_reads (hcount : bwCount (d64 d 16) ≠ 0) : exec (.courseLoad dt q n) s =
    .next (((S.started q n).addOp q n .data).emit (.dataRead (d64 d 8) (16 * bwCount (d64 d 16)))) := by
  subst hS
  refine congrArg _ ((State.io_runs _ q n d _ _ _ _ hr (isOp_of_shaped hs) hp
    (courseBad_none hs hbank (fun h => absurd h hcount) hword)).trans (if_neg ?_))
  rw [beq_iff_eq]
  exact Nat.mul_ne_zero (by decide) hcount

theorem courseLoad_empty (hcount : bwCount (d64 d 16) = 0) (haddr : d64 d 8 = 0) : exec (.courseLoad dt q n) s =
    .next (if S.course.active == dCBank d || S.course.swap.isSome then (S.started q n).finish q n .rejState 0
      else ((S.started q n).overtake 1 (dCBank d).val).courseDone q n d [] (crc32c [])) := by
  subst hS
  refine congrArg _ ((State.io_runs _ q n d _ _ _ _ hr (isOp_of_shaped hs) hp
    (courseBad_none hs hbank (fun _ => haddr) hword)).trans ((if_pos ?_).trans (State.courseChecks_empty _ q n d _ hcount)))
  rw [dBankWord, hcount]
  rfl

end

/-! ## COURSE_SWAP and its end (R292–R295) -/

section
variable (T : State) (q : QueueId) (n : Word32) (imm : Bool) (w : Swap) (hw : w = { wrap := T.swapWrap, who := some (q, n) })

theorem State.courseSwap_waits (h : T.copyWaits (courseRegion (1 - T.course.active)) 0x20000 = true) :
    T.courseSwap q n imm = T.addOp q n (.swapWait imm) := if_pos h

section
variable (h : T.copyWaits (courseRegion (1 - T.course.active)) 0x20000 = false)
include h

theorem State.courseSwap_runs : T.courseSwap q n imm = T.courseSwapRun imm (some (q, n)) :=
  if_neg (by rw [h]; exact Bool.false_ne_true)

theorem State.courseSwap_pending (hswap : T.course.swap ≠ none) : T.courseSwap q n imm = T.complete q n .rejState 0 T.now 0 := by
  rw [T.courseSwap_runs q n imm h]
  exact if_pos (Option.isSome_iff_ne_none.mpr hswap)

variable (hswap : T.course.swap = none)
include hswap

theorem State.courseSwapRun_free : T.courseSwap q n imm =
    (if !T.firing then T.swapNow { wrap := T.swapWrap, who := some (q, n) } false
      else if imm then
        if -rpmUnits (trVstall T.ang.trkw) < T.omegaNow && T.omegaNow < rpmUnits (trVstall T.ang.trkw) then
          T.swapNow { wrap := T.swapWrap, who := some (q, n) } false
        else T.complete q n .rejState 0 T.now 0
      else T.modCourse fun c => { c with
        swap := some { wrap := T.swapWrap, who := some (q, n) }, fronts := c.fronts ++ T.newFronts (1 - c.active) T.lam }) := by
  rw [T.courseSwap_runs q n imm h]
  exact if_neg (by rw [hswap]; exact Bool.false_ne_true)

include hw

theorem State.courseSwap_still (hfire : T.firing = false) : T.courseSwap q n imm = T.swapNow w false := by
  rw [T.courseSwapRun_free q n imm h hswap, if_pos (by rw [hfire]; rfl), hw]

theorem State.courseSwap_slow (hfire : T.firing = true) (hlo : -rpmUnits (trVstall T.ang.trkw) < T.omegaNow)
    (hhi : T.omegaNow < rpmUnits (trVstall T.ang.trkw)) : T.courseSwap q n true = T.swapNow w false := by
  rw [T.courseSwapRun_free q n true h hswap, if_neg (by rw [hfire]; exact Bool.false_ne_true), if_pos rfl,
    if_pos (by rw [decide_eq_true hlo, decide_eq_true hhi]; rfl), hw]

omit hw in
theorem State.courseSwap_fast (hfire : T.firing = true)
    (hv : T.omegaNow ≤ -rpmUnits (trVstall T.ang.trkw) ∨ rpmUnits (trVstall T.ang.trkw) ≤ T.omegaNow) :
    T.courseSwap q n true = T.complete q n .rejState 0 T.now 0 := by
  rw [T.courseSwapRun_free q n true h hswap, if_neg (by rw [hfire]; exact Bool.false_ne_true), if_pos rfl, if_neg]
  rw [Bool.and_eq_true, decide_eq_true_iff, decide_eq_true_iff]
  rintro ⟨hlo, hhi⟩
  exact hv.elim (not_le.mpr hlo) (not_le.mpr hhi)

theorem State.courseSwap_filed (hfire : T.firing = true) : T.courseSwap q n false = T.modCourse fun k =>
    { k with swap := some w, fronts := k.fronts ++ T.newFronts (1 - k.active) T.lam } := by
  rw [T.courseSwapRun_free q n false h hswap, if_neg (by rw [hfire]; exact Bool.false_ne_true), if_neg Bool.false_ne_true, hw]

end
end

theorem courseSwap_exec {dt : Nat} {q : QueueId} {n : Word32} {d : Desc} {s S : State} {imm : Bool} (hS : S = s.elapse dt)
    (hr : S.ioRuns q n d = true) (hs : shaped d 0x31 (S.queue q).profile.isSome true [] = true)
    (hp : S.permits (S.queue q).hctx.val [(0x10, 4)] = true) (himm : imm = dCspec d) :
    (if imm then exec (.courseSwapImmediate dt q n) s else exec (.courseSwap dt q n) s) =
      .next ((S.started q n).angleTick.courseSwap q n imm) := by
  subst hS
  have hbad : firstBad d ((s.elapse dt).queue q).profile.isSome true [] [] = none :=
    firstBad_of_shaped hs fun x hx => absurd hx List.not_mem_nil
  have hform (b : Bool) (h : b = true) : (isOp 0x31 d && b) = true := by rw [isOp_of_shaped hs, h]; rfl
  cases imm with
  | true => exact (if_pos rfl).trans (congrArg _ (State.io_runs _ q n d _ _ _ _ hr (hform _ himm.symm) hp hbad))
  | false =>
    refine (if_neg Bool.false_ne_true).trans (congrArg _ (State.io_runs _ q n d _ _ _ _ hr (hform _ ?_) hp hbad))
    rw [← himm]
    rfl

section
variable (T : State) (w : Swap)

/-- The other bank becomes active, with its mark (R293, R298). -/
def State.bankSwapped : State :=
  (T.modCourse fun k => { k with
    active := 1 - k.active, swap := none,
    fronts := (k.fronts.filter fun f => f.bank != k.active).map fun (f : Front) => { f with changed := false } }).mark 2 0
      (BitVec.ofNat 32 (1 - T.course.active).val) 0 0

theorem State.swapEnd_alone (h : w.who = none) : T.swapEnd w false = T.bankSwapped := by
  unfold State.swapEnd
  dsimp only
  rw [h]
  rfl

theorem State.swapEnd_completes (k : QueueId) (i : Word32) (h : w.who = some (k, i)) : T.swapEnd w false =
    T.bankSwapped.configDone k i .done 0 T.bankSwapped.now T.bankSwapped.swapResult false := by
  unfold State.swapEnd
  dsimp only
  rw [h]
  rfl

end

theorem swapDone_exec {dt : Nat} {s S T : State} {w : Swap} (hS : S = s.elapse dt) (hup : S.up = true) (hfire : S.firing = true)
    (hT : T = S.angleTick) (hw : T.course.swap = some w) : exec (.swapDone dt) s =
      .next (if T.ang.fwd && (w.wrap : Rat) * 4294967296 ≤ T.thetaNow then T.swapEnd w false else T) := by
  subst hS hT
  refine next_of_when rfl (by rw [hup, hfire]; rfl) ?_
  dsimp only
  rw [hw]

/-- Settles O36: each row, by what it finds. -/
theorem courseTables : Obligations.CourseTables := by
  intro dt q n d s S p m hS
  refine ⟨fun hr hpf hm => ?_, fun T U w hup hfire hT hw hU => ?_, fun b lead T mine hup hmine hex hT => ?_⟩
  · subst hpf hm
    refine ⟨fun hs hp hbank hword => ⟨courseLoad_reads hS hr hs hp hbank hword, fun hcount haddr => ?_⟩,
      fun T w hT hw hs hp imm himm X hX => ?_⟩
    · have hrun := courseLoad_empty hS hr hs hp hbank hword hcount haddr
      refine ⟨fun hrej => ?_, fun b hb hact hswap hjour => ?_⟩
      · rw [hrun, if_pos]
        rw [Bool.or_eq_true, beq_iff_eq, Option.isSome_iff_ne_none]
        exact hrej.imp_left fun h => Fin.ext (h.trans (dCBank_val hbank).symm)
      · obtain rfl : b = dCBank d := Fin.ext (hb.trans (dCBank_val hbank).symm)
        have hfree : ¬(S.course.active == dCBank d || S.course.swap.isSome) = true := by
          rw [hswap, beq_eq_false_iff_ne.mpr hact]
          exact Bool.false_ne_true
        rw [hrun, if_neg hfree, State.courseDone_alone ((S.started q n).overtake 1 _) q n d _ hjour, crc32c_nil]
        refine congrArg (fun t : State => Host.Outcome.next (t.complete q n .done 0 S.now 0)) ?_
        have hcrc : bankCrc { entries := [], tcoast := bwTcoast (d64 d 16), fpol := bwFpol (d64 d 16), suspect := false } = 0 :=
          crc32c_nil
        unfold State.putBank
        dsimp only
        rw [dBankWord, hcrc]
        rfl
    · have hX : X = .next (T.courseSwap q n imm) := by
        rw [hX, hT]
        exact courseSwap_exec hS hr hs hp himm
      refine ⟨fun h => hX.trans (congrArg _ (T.courseSwap_waits q n imm h)), fun h => ⟨fun hsw => ?_, fun hsw hf => ?_,
        fun hsw hf hi hlo hhi => ?_, fun hsw hf hi hv => ?_, fun hsw hf hi => ?_⟩⟩
      · exact hX.trans (congrArg _ (T.courseSwap_pending q n imm h hsw))
      · exact hX.trans (congrArg _ (T.courseSwap_still q n imm w hw h hsw hf))
      · subst hi
        exact hX.trans (congrArg _ (T.courseSwap_slow q n w hw h hsw hf hlo hhi))
      · subst hi
        exact hX.trans (congrArg _ (T.courseSwap_fast q n h hsw hf hv))
      · subst hi
        exact hX.trans (congrArg _ (T.courseSwap_filed q n w hw h hsw hf))
  · rw [swapDone_exec hS hup hfire hT hw]
    replace hU : U = T.bankSwapped := hU
    refine ⟨fun hfwd hle => ?_, fun hnot => congrArg _ (if_neg fun h => ?_)⟩
    · rw [if_pos (by rw [hfwd, decide_eq_true hle]; rfl), hU]
      exact ⟨fun h => congrArg _ (T.swapEnd_alone w h), fun k i h => congrArg _ (T.swapEnd_completes w k i h)⟩
    · rw [Bool.and_eq_true, decide_eq_true_iff] at h
      exact hnot.elim (fun hf => Bool.false_ne_true (hf.symm.trans h.1)) fun hlt => not_lt.mpr h.2 hlt
  · have hm : mine = fun f => f.bank == b && f.lead == lead && decide (f.pre ≤ 8) := funext hmine
    have hany : (S.up && S.course.fronts.any fun f => f.bank == b && f.lead == lead && decide (f.pre ≤ 8)) = true := by
      rw [hup, Bool.true_and, List.any_eq_true]
      exact hex.imp fun f hf => ⟨hf.1, (hmine f).symm.trans hf.2⟩
    subst hm hS hT
    exact ⟨next_of_when rfl hany rfl, fun i => next_of_when rfl hany rfl⟩

end Sys2Proof.Machine

/-!
ANGLE_CONFIG (R253–R257, R262, R482): the source words that it leaves, and the settlement of O37.
-/
namespace Sys2Proof.Machine
open Sys2Proof

/-! ## The ANGLE source under the operations of the course and the archive -/

/-- Operations that keep every kind of field state keep the ANGLE source. -/
theorem ang_of_field {s t : State} (h : t.field = s.field) : t.ang = s.ang :=
  congrArg (fun x : FieldT => x.2.2.2.2.1) h

section
variable (s : State)

theorem State.stageCount_ang (r : Record) (ok full : State → State) (hok : ∀ t, (ok t).ang = t.ang)
    (hfull : ∀ t, (full t).ang = t.ang) : (s.stageCount r ok full).ang = s.ang := by
  have hstage := ang_of_field (s.stage_field r none)
  unfold State.stageCount
  split
  · rfl
  · split
    · next t heq => rw [heq] at hstage; exact (hok t).trans hstage
    · next t heq => rw [heq] at hstage; exact (hfull t).trans hstage

theorem State.mark_ang (kind flags : Byte) (d0 d1 : Word32) (entry : Nat) : (s.mark kind flags d0 d1 entry).ang = s.ang :=
  s.stageCount_ang _ _ _ (fun _ => rfl) fun _ => rfl

theorem State.configDone_ang (q : QueueId) (n : Word32) (st : Status) (detail time : Nat) (result : Mask128) (measured : Bool) :
    (s.configDone q n st detail time result measured).ang = s.ang := by
  have hconf := ang_of_field (s.configured_field (if s.journals then some (q, n) else none) measured)
  have hend (t : State) (ht : t.ang = s.ang) : (if t.journals then
      ({ t with ops := t.ops.filter fun o => !(o.live && o.q == q && o.n == n) } : State).addOp q n
        (.delta t.pair.cfggen st detail time result) else t.complete q n st detail time result).ang = s.ang := by
    split
    · exact ht
    · exact (ang_of_field (State.complete_field ..)).trans ht
  exact hend _ hconf

theorem State.swapEnd_ang (w : Swap) (reversed : Bool) : (s.swapEnd w reversed).ang = s.ang := by
  unfold State.swapEnd
  dsimp only
  split
  · exact (State.configDone_ang ..).trans (State.mark_ang ..)
  · exact State.mark_ang ..

theorem State.swapNow_ang (w : Swap) (reversed : Bool) : (s.swapNow w reversed).ang = s.ang := by
  have hend := (s.modCourse fun c => { c with fronts := [], due := [] }).swapEnd_ang w reversed
  unfold State.swapNow
  dsimp only
  split <;> exact hend

theorem State.completeWho_ang (who : Option (QueueId × Word32)) (st : Status) (detail time : Nat) (result : Mask128) :
    (s.completeWho who st detail time result).ang = s.ang := by
  unfold State.completeWho
  split
  · exact ang_of_field (State.complete_field ..)
  · rfl

theorem State.archDone_ang : s.archDone.ang = s.ang := by
  unfold State.archDone
  split
  · exact State.completeWho_ang ..
  · rfl

theorem State.freezeNow_ang : s.freezeNow.ang = s.ang :=
  (ang_of_field (State.raiseCause_field (s.modArch fun a => { a with st := .frozen, left := 0 }) 6)).trans rfl

/-- The engine stops firing: of the ANGLE source its state and the coast change (R295, R394). -/
theorem State.stopFiring_ang (st : EState) : (s.stopFiring st).ang = { (s.gotoState st).ang with coast := none } := by
  have hswap (t : State) : (match t.course.swap with | some w => t.swapNow w false | none => t).ang = t.ang := by
    split
    · exact State.swapNow_ang ..
    · rfl
  have hfreeze (b : Bool) (t : State) : (if b then t.freezeNow.archDone else t).ang = t.ang := by
    split
    · exact (State.archDone_ang _).trans (State.freezeNow_ang _)
    · rfl
  exact (hfreeze _ _).trans (hswap _)

theorem State.angleClear_srcw : s.angleClear.ang.srcw = s.ang.srcw := by
  have hstop := s.stopFiring_ang (if srSrc s.ang.srcw == 0 then .idle else .unreferenced)
  have hsrcw := congrArg Ang.srcw hstop
  exact hsrcw

end

/-! ## ANGLE_CONFIG (R256, R257, R262) -/

/-- The checks of ANGLE_CONFIG but for what every descriptor is held to (R256). -/
def State.angleChecks (s : State) (d : Desc) : List (Bool × Nat) :=
  let m := dNum d 4 1
  let w (i : Nat) (bad : Word64 → Bool) : Bool := if m.testBit i then bad (d64 d (8 + 8 * i)) else d64 d (8 + 8 * i) != 0
  let tooth := toothBad (angNew d 0 s.ang.srcw) (angNew d 1 s.ang.trkw)
  [(m == 0 || 7 < m, 4), (w 0 srcwBad || (m.testBit 0 && tooth), 8), (w 1 trkwBad || (!m.testBit 0 && tooth), 16), (w 2 refwBad, 24)]

/-- A word that the mask names is good, and one that it does not name is 0; x is the word in force after the command. -/
def WordTaken (d : Desc) (i : Nat) (bad : Word64 → Bool) (old x : Word64) : Prop :=
  ((dNum d 4 1).testBit i = false → d64 d (8 + 8 * i) = 0 ∧ x = old) ∧
    ((dNum d 4 1).testBit i = true → x = d64 d (8 + 8 * i) ∧ bad x = false)

section
variable {d : Desc} {i : Nat} {bad : Word64 → Bool} {old x : Word64} (h : WordTaken d i bad old x)
include h

theorem WordTaken.new : angNew d i old = x := by
  cases hbit : (dNum d 4 1).testBit i with
  | false => exact (if_neg (by rw [hbit]; exact Bool.false_ne_true)).trans (h.1 hbit).2.symm
  | true => exact (if_pos hbit).trans (h.2 hbit).1.symm

theorem WordTaken.good : (if (dNum d 4 1).testBit i then bad (d64 d (8 + 8 * i)) else d64 d (8 + 8 * i) != 0) = false := by
  cases hbit : (dNum d 4 1).testBit i with
  | false =>
    rw [if_neg Bool.false_ne_true, (h.1 hbit).1]
    rfl
  | true =>
    rw [if_pos rfl, ← (h.2 hbit).1]
    exact (h.2 hbit).2

end

section
variable {dt : Nat} {q : QueueId} {n : Word32} {d : Desc} {s S T U V : State} {src trk ref : Word64} (hS : S = s.elapse dt)
  (hr : S.ioRuns q n d = true) (hs : shaped d 0x32 (S.queue q).profile.isSome false [(4, 1), (8, 24)] = true)
  (hp : S.permits (S.queue q).hctx.val [(0x10, 4)] = true) (hlo : 1 ≤ dNum d 4 1) (hhi : dNum d 4 1 ≤ 7)
  (hsrc : WordTaken d 0 srcwBad S.ang.srcw src) (htrk : WordTaken d 1 trkwBad S.ang.trkw trk)
  (href : WordTaken d 2 refwBad S.ang.refw ref) (htooth : toothBad src trk = false)
include hs hlo hhi hsrc htrk href htooth

theorem angleBad_none : S.angleBad d (S.queue q).profile.isSome = none := by
  refine firstBad_of_shaped (checks := S.angleChecks d) hs ?_
  simp only [State.angleChecks, List.mem_cons, List.not_mem_nil, or_false, forall_eq_or_imp, forall_eq]
  rw [hsrc.new, htrk.new, htooth]
  refine ⟨?_, ?_, ?_, href.good⟩
  · rw [Bool.or_eq_false_iff]
    exact ⟨beq_eq_false_iff_ne.mpr (by omega), decide_eq_false (by omega)⟩
  · rw [Bool.and_false, Bool.or_false]
    exact hsrc.good
  · rw [Bool.and_false, Bool.or_false]
    exact htrk.good

/-- Whether the command sets the reference itself: an encoder without an index, configured anew (R262). -/
def State.angleFresh (s : State) (hard : Bool) (src : Word64) : Bool := hard && s.ang.encoder && !srZuse src

include hS hr hp

theorem angleConfig_exec (hT : T = (S.started q n).angleTick)
    (hU : U = T.modAng (fun a => { a with srcw := src, trkw := if (dNum d 4 1).testBit 1 then trk else a.trkw, refw := ref })) :
    exec (.angleConfig dt q n) s = .next (
      if S.angleStruct src ref && allChans.any (fun c => S.courseOwned c && (S.quad (quadOf c)).armed) then
        (S.started q n).finish q n .rejState 0
      else
        let X := if S.angleStruct src ref then U.angleClear else U
        let Y := X.configDone q n .done 0 X.now 0
        if !X.angleFresh (S.angleStruct src ref) src then Y
        else if Y.journals then Y.modAng fun a => { a with refWait := some Y.pair.cfggen }
        else Y.reference 3) := by
  have hnew : (fun a : Ang => { a with srcw := src, trkw := angNew d 1 a.trkw, refw := ref }) =
      fun a => { a with srcw := src, trkw := if (dNum d 4 1).testBit 1 then trk else a.trkw, refw := ref } := by
    funext a
    refine congrArg (fun w : Word64 => { a with srcw := src, trkw := w, refw := ref }) ?_
    cases hbit : (dNum d 4 1).testBit 1 with
    | false => exact if_neg (by rw [hbit]; exact Bool.false_ne_true)
    | true => exact (if_pos hbit).trans (htrk.2 hbit).1.symm
  have hbad := angleBad_none hs hlo hhi hsrc htrk href htooth
  subst hS hT hU
  refine congrArg _ ((State.io_runs _ q n d _ _ _ _ hr (isOp_of_shaped hs) hp hbad).trans ?_)
  dsimp only
  rw [show angNew d 0 ((s.elapse dt).started q n).ang.srcw = src from hsrc.new,
    show angNew d 2 ((s.elapse dt).started q n).ang.refw = ref from href.new, hnew]
  rfl

end

/-- Settles O37: the branches of the row, with the source word that the cleared angle keeps. -/
theorem angleConfiguration : Obligations.AngleConfiguration := by
  intro dt q n d s S T U V p m src trk ref hS hr hpf hm hs hp hlo hhi hsrc0 hsrc1 htrk0 htrk1 href0 href1 htooth hT hU
  subst hpf hm
  have hrun := angleConfig_exec hS hr hs hp hlo hhi ⟨hsrc0, hsrc1⟩ ⟨htrk0, htrk1⟩ ⟨href0, href1⟩ htooth hT hU
  have hnowT : U.now = S.now := by
    rw [hU, hT]
    exact now_of_keep (State.angleTick_keep _)
  refine ⟨fun hsoft => ?_, fun hhard => ⟨fun hown => ?_, fun hfree hV => ?_⟩⟩
  · rw [hrun, hsoft, Bool.false_and, if_neg Bool.false_ne_true]
    dsimp only
    rw [if_neg Bool.false_ne_true, State.angleFresh, Bool.false_and, Bool.false_and, if_pos (show (!false) = true from rfl), hnowT]
  · obtain ⟨c, hc, harm⟩ := hown
    rw [hrun, if_pos]
    rw [hhard, Bool.true_and, List.any_eq_true]
    exact ⟨c, List.mem_finRange c, by rw [hc, harm]; rfl⟩
  · have hclear : U.angleClear.now = S.now := (now_of_keep (State.angleClear_keep U)).trans hnowT
    have hany : allChans.any (fun c => S.courseOwned c && (S.quad (quadOf c)).armed) = false :=
      List.any_eq_false.mpr fun c _ h => by
        rw [Bool.and_eq_true] at h
        exact Bool.false_ne_true ((hfree c h.1).symm.trans h.2)
    have hsrcw : U.angleClear.ang.srcw = src := by
      rw [State.angleClear_srcw, hU]
      rfl
    have hfresh : U.angleClear.angleFresh true src = (srSrc src == 1 && !srZuse src) := by
      rw [State.angleFresh, Ang.encoder, hsrcw, Bool.true_and]
    have hrun' : exec (.angleConfig dt q n) s = .next (if !(srSrc src == 1 && !srZuse src) then V
        else if V.journals then V.modAng fun a => { a with refWait := some V.pair.cfggen } else V.reference 3) := by
      rw [hrun, hhard, hany, Bool.and_false, if_neg Bool.false_ne_true]
      dsimp only
      rw [if_pos rfl, hfresh, hclear, hV]
    rw [hrun']
    refine ⟨fun h => congrArg _ (if_pos ?_), fun h1 h2 => ?_⟩
    · rw [Bool.not_eq_true', Bool.and_eq_false_iff, beq_eq_false_iff_ne, Bool.not_eq_false']
      by_cases h1 : srSrc src = 1
      · exact Or.inr (by simpa [h1] using h)
      · exact Or.inl h1
    · rw [h1, h2, if_neg (show ¬(!((1 : Nat) == 1 && !false)) = true from Bool.false_ne_true)]
      exact ⟨fun hj => congrArg _ (if_neg (by rw [hj]; exact Bool.false_ne_true)), fun hj => congrArg _ (if_pos hj)⟩

end Sys2Proof.Machine

/-!
The events of the ANGLE source (R258–R264, R267–R271): the rows, and the settlements of O38 and O40.
-/
namespace Sys2Proof.Machine
open Sys2Proof

/-! ## The lines A and B (R253, R258, R260) -/

/-- When a change of a line counts (R253). -/
theorem Ang.passes_iff (a : Ang) (last : Option Nat) (tick held : Nat) : a.passes last tick held = true ↔
    srFilt a.srcw ≤ held ∧ ∀ t, last = some t → t < tick ∧ t + held ≤ tick := by
  unfold Ang.passes
  rw [Bool.and_eq_true, decide_eq_true_iff]
  refine and_congr_right fun _ => ?_
  cases last <;> simp

theorem Ang.change_iff (a : Ang) (old new : Bool) (last : Option Nat) (tick held : Nat) (d : Bool)
    (h : d = true ↔ old ≠ new ∧ srFilt a.srcw ≤ held ∧ ∀ t, last = some t → t < tick ∧ t + held ≤ tick) :
    (old != new && a.passes last tick held) = d := by
  rw [Bool.eq_iff_iff, h, Bool.and_eq_true, bne_iff_ne, a.passes_iff]

/-- The lines after an event of which dA and dB count (R258). -/
def State.linesTaken (S : State) (a b dA dB : Bool) (tick : Nat) : State :=
  S.modAng fun y => { y with
    lvlA := if dA then a else y.lvlA, lvlB := if dB then b else y.lvlB
    chgA := if dA then some tick else y.chgA, chgB := if dB then some tick else y.chgB }

/-- The four changes of one line that count up (R258). -/
def StepsUp (a b a' b' : Bool) : Prop :=
  (a, b, a', b') ∈ [(false, false, true, false), (true, false, true, true), (true, true, false, true), (false, true, false, false)]

theorem phase_up {a b a' b' : Bool} (h : StepsUp a b a' b') : ((phase a' b' + 4 - phase a b) % 4 == 1) = true := by
  simp only [StepsUp, List.mem_cons, List.not_mem_nil, or_false, Prod.mk.injEq] at h
  obtain ⟨rfl, rfl, rfl, rfl⟩ | ⟨rfl, rfl, rfl, rfl⟩ | ⟨rfl, rfl, rfl, rfl⟩ | ⟨rfl, rfl, rfl, rfl⟩ := h <;> rfl

theorem phase_down {a b a' b' : Bool} (h : StepsUp a b a' b') : ((phase a b + 4 - phase a' b') % 4 == 1) = false := by
  simp only [StepsUp, List.mem_cons, List.not_mem_nil, or_false, Prod.mk.injEq] at h
  obtain ⟨rfl, rfl, rfl, rfl⟩ | ⟨rfl, rfl, rfl, rfl⟩ | ⟨rfl, rfl, rfl, rfl⟩ | ⟨rfl, rfl, rfl, rfl⟩ := h <;> rfl

/-- What the lines' change does (R258, R260, R269). -/
def State.edgeTaken (S T : State) (a dA dB : Bool) (tick : Nat) : State :=
  if S.ang.encoder then
    if (dA && dB) || (dA && S.ang.chgB == some tick) || (dB && S.ang.chgA == some tick) then T.angleTick.encFault .illegal
    else T.edge (if ((phase T.ang.lvlA T.ang.lvlB + 4 - phase S.ang.lvlA S.ang.lvlB) % 4 == 1) != srInv S.ang.srcw then 1 else -1)
  else if S.ang.tooth then (if dA && a then T.edge 1 else T)
  else T

section
variable {dt : Nat} {s S : State} (hS : S = s.elapse dt) (hup : S.up = true)

section
variable {a b dA dB : Bool} {held tick : Nat} {T : State}

include hS hup in
theorem encoderEdge_exec (htick : tick = S.now / 8) (hT : T = S.linesTaken a b dA dB tick)
    (hA : (S.ang.lvlA != a && S.ang.passes S.ang.chgA tick held) = dA) (hB : (S.ang.lvlB != b && S.ang.passes S.ang.chgB tick held) = dB) :
    exec (.encoderEdge dt (a, b) held) s = .next (S.when (dA || dB) fun _ => S.edgeTaken T a dA dB tick) := by
  subst hS htick hT hA hB
  refine Eq.trans (b := .next ((s.elapse dt).when ((s.elapse dt).up && _) fun _ => _)) rfl ?_
  rw [hup, Bool.true_and]
  rfl

theorem State.edgeTaken_illegal (henc : srSrc S.ang.srcw = 1)
    (h : dA = true ∧ dB = true ∨ dA = true ∧ S.ang.chgB = some tick ∨ dB = true ∧ S.ang.chgA = some tick) :
    S.edgeTaken T a dA dB tick = T.angleTick.encFault .illegal := by
  refine (if_pos (beq_iff_eq.mpr henc)).trans (if_pos ?_)
  simpa only [Bool.or_eq_true, Bool.and_eq_true, beq_iff_eq, or_assoc] using h

theorem State.edgeTaken_counts (henc : srSrc S.ang.srcw = 1)
    (h : dA = true ∧ dB = false ∧ S.ang.chgB ≠ some tick ∨ dA = false ∧ dB = true ∧ S.ang.chgA ≠ some tick) :
    S.edgeTaken T a dA dB tick =
      T.edge (if ((phase T.ang.lvlA T.ang.lvlB + 4 - phase S.ang.lvlA S.ang.lvlB) % 4 == 1) != srInv S.ang.srcw then 1 else -1) := by
  refine (if_pos (beq_iff_eq.mpr henc)).trans (if_neg ?_)
  obtain ⟨rfl, rfl, hb⟩ | ⟨rfl, rfl, ha⟩ := h
  · rw [beq_eq_false_iff_ne.mpr hb]
    exact Bool.false_ne_true
  · rw [beq_eq_false_iff_ne.mpr ha]
    exact Bool.false_ne_true

theorem State.edgeTaken_tooth (htooth : srSrc S.ang.srcw = 2) :
    S.edgeTaken T a dA dB tick = if dA = true ∧ a = true then T.edge 1 else T := by
  refine (if_neg ?_).trans ((if_pos (beq_iff_eq.mpr htooth)).trans (if_congr (Bool.and_eq_true_iff) rfl rfl))
  rw [Ang.encoder, htooth]
  decide

theorem State.edgeTaken_idle (hsrc : srSrc S.ang.srcw = 0) : S.edgeTaken T a dA dB tick = T := by
  refine (if_neg ?_).trans (if_neg ?_)
  · rw [Ang.encoder, hsrc]
    decide
  · rw [Ang.tooth, hsrc]
    decide

end

/-! ## Reference marks, stall, coasting and the cap (R262, R264, R267–R271) -/

include hup in
theorem State.checking_up (hst : S.ang.st = .running ∨ S.ang.st = .unreferenced) :
    (S.up && (S.ang.st == .running || S.ang.st == .unreferenced)) = true := by
  rw [hup, Bool.true_and, Bool.or_eq_true, beq_iff_eq, beq_iff_eq]
  exact hst

include hS hup

/-- An index that its gate and its hold let through is judged (R262, R269). -/
theorem referenceMark_index {held : Nat} (hst : S.ang.st = .running ∨ S.ang.st = .unreferenced) (henc : srSrc S.ang.srcw = 1)
    (hz : srZuse S.ang.srcw = true)
    (hgate : srZgate S.ang.srcw < 4 ∨ (bit S.ang.srcw 5 = S.ang.lvlA ∧ bit S.ang.srcw 4 = S.ang.lvlB))
    (hheld : srFilt S.ang.srcw ≤ held) (X : State)
    (hX : (match S.ang.idxCnt with
      | some k => if !S.ang.trustNext && srZtol S.ang.srcw < indexError (srCpr S.ang.srcw) (S.ang.cnt - k) then
          S.angleTick.encFault .index else S.angleTick.reference 1
      | none => S.angleTick.reference 1) = X) : exec (.referenceMark ⟨dt, held⟩) s = .next X := by
  have hch := State.checking_up hup hst
  subst hS
  refine next_of_when rfl hch ((if_pos (beq_iff_eq.mpr henc)).trans ((if_neg ?_).trans hX))
  have hopen : (decide (srZgate (s.elapse dt).ang.srcw < 4) ||
      (bit (s.elapse dt).ang.srcw 5 == (s.elapse dt).ang.lvlA && bit (s.elapse dt).ang.srcw 4 == (s.elapse dt).ang.lvlB)) = true := by
    rw [Bool.or_eq_true, decide_eq_true_iff, Bool.and_eq_true, beq_iff_eq, beq_iff_eq]
    exact hgate
  rw [hz, hopen, decide_eq_false (Nat.not_lt.mpr hheld)]
  decide

theorem referenceMark_gap {held : Nat} {T : State} (hst : S.ang.st = .running ∨ S.ang.st = .unreferenced)
    (htooth : srSrc S.ang.srcw = 2) (hgap : S.ang.gap = true) (hT : T = (S.modAng fun x => { x with gap := false }).angleTick) :
    exec (.referenceMark ⟨dt, held⟩) s = .next (
      if !S.ang.trustNext && S.ang.teeth != srTeeth S.ang.srcw - srTmiss S.ang.srcw then T.encFault .index else T.reference 2) := by
  have hch := State.checking_up hup hst
  subst hS hT
  refine next_of_when rfl hch ((if_neg ?_).trans (if_pos ?_))
  · rw [Ang.encoder, htooth]
    decide
  · rw [Ang.tooth, htooth, hgap]
    rfl

theorem encStall_exec {t : Nat} {rest : List Nat} (hedge : S.ang.edges = t :: rest)
    (hsilent : t + trStall S.ang.trkw * 1000000 ≤ S.now) (hfast : rpmUnits (trVstall S.ang.trkw) ≤ |S.ang.edgeSeg.om|) :
    exec (.encStall dt) s = .next (S.angleTick.encFault .stall) := by
  have hsp : (decide (rpmUnits (trVstall S.ang.trkw) ≤ S.ang.edgeSeg.om) ||
      decide (S.ang.edgeSeg.om ≤ -rpmUnits (trVstall S.ang.trkw))) = true := by
    rw [Bool.or_eq_true, decide_eq_true_iff, decide_eq_true_iff]
    exact (le_abs.mp hfast).imp_right le_neg_of_le_neg
  have hhead : S.ang.edges.head? = some t := by rw [hedge]; rfl
  subst hS
  refine next_of_when rfl ?_ rfl
  rw [hup, hsp, hhead]
  dsimp only
  rw [decide_eq_true hsilent]
  rfl

end

theorem State.capNow_seg (S : State) (h : S.ang.seg.capped S.now = true) :
    S.capNow.ang.seg.t = S.now ∧ S.capNow.ang.seg.th = S.ang.seg.theta S.now ∧ S.capNow.ang.seg.om = 0 := by
  unfold State.capNow
  dsimp only
  rw [if_neg (by rw [h]; exact Bool.false_ne_true)]
  split <;> exact ⟨rfl, rfl, rfl⟩

/-- Settles O38: each event, by what it finds at the source. -/
theorem angleEvents : Obligations.AngleEvents := by
  intro dt s S hS hup
  refine ⟨fun a b dA dB held tick T htick hA hB hT => ?_, fun hst => ⟨fun henc hz hgate held hheld => ⟨fun hidx => ?_,
    fun k hidx e he => ?_⟩, fun htooth hgap held T hT => ?_⟩, fun t rest => encStall_exec hS hup, fun c hst hc hle => ?_,
    fun hst hcap => ?_, S.capNow_seg⟩
  · have hexec := encoderEdge_exec hS hup htick hT (S.ang.change_iff _ _ _ _ _ _ hA) (S.ang.change_iff _ _ _ _ _ _ hB)
    have hacts (h : dA = true ∨ dB = true) : exec (.encoderEdge dt (a, b) held) s = .next (S.edgeTaken T a dA dB tick) := by
      rw [hexec]
      exact congrArg _ (State.when_of_true _ _ ((Bool.or_eq_true dA dB).mpr h))
    refine ⟨fun h h' => ?_, fun henc => ⟨fun h => ?_, fun h => ?_⟩, fun htooth h => ?_, fun hsrc h => ?_⟩
    · rw [hexec, h, h']
      rfl
    · rw [hacts (h.elim (fun h => Or.inl h.1) fun h => h.imp And.left And.left), State.edgeTaken_illegal henc h]
    · rw [hacts (h.imp And.left fun h => h.2.1), State.edgeTaken_counts henc h]
      refine ⟨fun hstep => ?_, fun hstep => ?_⟩
      · rw [phase_up hstep]
        cases srInv S.ang.srcw <;> rfl
      · rw [phase_down hstep]
        cases srInv S.ang.srcw <;> rfl
    · rw [hacts h, State.edgeTaken_tooth htooth]
    · rw [hacts h, State.edgeTaken_idle hsrc]
  · refine referenceMark_index hS hup hst henc hz hgate hheld _ ?_
    rw [hidx]
  · refine referenceMark_index hS hup hst henc hz hgate hheld _ ?_
    rw [hidx, he]
    exact if_congr (by rw [Bool.and_eq_true, Bool.not_eq_true', decide_eq_true_iff]) rfl rfl
  · rw [referenceMark_gap hS hup hst htooth hgap hT]
    exact congrArg _ (if_congr (by rw [Bool.and_eq_true, Bool.not_eq_true', bne_iff_ne]) rfl rfl)
  · subst hS
    refine next_of_when rfl ?_ rfl
    rw [hup, hst, hc]
    exact decide_eq_true hle
  · subst hS
    refine next_of_when rfl ?_ rfl
    rw [hup, hcap, bne_iff_ne.mpr hst]
    rfl

/-! ## A reference (R263, R264) -/

/-- The nearest angle that reads REFANG is REFANG in one of three turns about the angle's own. -/
theorem nearestRef_turn (ref : Nat) (v : Rat) : ∃ k : Int, nearestRef ref v = (ref : Rat) + (k : Rat) * 4294967296 := by
  unfold nearestRef
  dsimp only
  split_ifs
  · exact ⟨(v / 4294967296).floor - 1, by push_cast; ring⟩
  · exact ⟨(v / 4294967296).floor + 1, by push_cast; ring⟩
  · exact ⟨(v / 4294967296).floor, by ring⟩

theorem nearestRef_near (ref : Nat) (v : Rat) (h : ref < 4294967296) : |nearestRef ref v - v| ≤ 2147483648 := by
  have hlo : ((v / 4294967296).floor : Rat) ≤ v / 4294967296 := Rat.le_floor_iff.mp le_rfl
  have hhi : v / 4294967296 < ((v / 4294967296).floor : Rat) + 1 := by
    have := Rat.lt_floor_add_one (v / 4294967296)
    exact_mod_cast this
  rw [le_div_iff₀ (by norm_num)] at hlo
  rw [div_lt_iff₀ (by norm_num)] at hhi
  have href : (ref : Rat) < 4294967296 := by exact_mod_cast h
  have hpos : (0 : Rat) ≤ ref := Nat.cast_nonneg ref
  unfold nearestRef
  dsimp only
  rw [abs_le]
  split_ifs with h1 h2
  · constructor <;> linarith
  · constructor <;> linarith
  · rw [not_le] at h1
    rw [not_lt] at h2
    constructor <;> linarith

/-- Settles O40: the nearest value by its turn, and the row by the engine's state. -/
theorem reference : Obligations.Reference := by
  refine ⟨nearestRef_turn, nearestRef_near, fun s S source first tgt hf ht hS => ?_⟩
  have hrun : s.reference source = (if S.ang.st == .unreferenced then S.becomeRunning source else S).angleTick := by
    subst hS ht hf
    rfl
  have hst : S.ang.st = s.ang.st := hS ▸ rfl
  rw [hrun, hst]
  refine ⟨fun h => congrArg State.angleTick (if_pos (by rw [h]; rfl)), fun h => congrArg State.angleTick (if_neg (by rw [h]; decide))⟩

end Sys2Proof.Machine

/-!
Which course entry fires (R278, R283, R285, R288–R290, R292, R406), the order of the conversions that are due (R316), and the
settlements of O41 and O46.
-/
namespace Sys2Proof.Machine
open Sys2Proof

/-! ## The entry that fires next (R285, R406) -/

theorem State.nextDue_spec (s : State) (x : Due) (h : s.nextDue = some x) : s.firing = true ∧
    s.course.lastFire ≠ some (s.now / 8) ∧ s.prefetched x = true ∧
    ∃ l r, s.course.due = l ++ x :: r ∧ ∀ y ∈ l, s.prefetched y = false := by
  unfold State.nextDue at h
  split at h
  · cases h
  · next hrun =>
    rw [Bool.or_eq_true, not_or, Bool.not_eq_true', Bool.not_eq_false, beq_iff_eq] at hrun
    obtain ⟨hx, l, r, hl, hskip⟩ := List.find?_eq_some_iff_append.mp h
    exact ⟨hrun.1, hrun.2, hx, l, r, hl, fun y hy => by simpa using hskip y hy⟩

theorem State.prefetched_iff (s : State) (x : Due) (e : Entry) (he : (s.cbank x.bank).entries[x.idx]? = some e) :
    s.prefetched x = true ↔ ∀ f ∈ s.course.fronts, f.bank = x.bank → f.lead = enLead e → 0 < f.pre := by
  unfold State.prefetched
  rw [he]
  dsimp only
  rw [List.all_eq_true]
  refine forall₂_congr fun f _ => ?_
  rw [Bool.or_eq_true, Bool.not_eq_true', Bool.and_eq_false_iff, beq_eq_false_iff_ne, beq_eq_false_iff_ne, bne_iff_ne,
    Nat.pos_iff_ne_zero, or_iff_not_imp_left, not_or, not_not, not_not, and_imp]

/-! ## Firing order (R285) -/

/-- x does not fire after y. -/
def Due.Upto (x y : Due) : Prop := x.tick < y.tick ∨ x.tick = y.tick ∧ x.idx ≤ y.idx

theorem Due.Upto.trans {x y z : Due} (h : x.Upto y) (h' : y.Upto z) : x.Upto z := by
  unfold Due.Upto at *
  omega

theorem Due.upto_of_before {x y : Due} (h : x.before y = true) : x.Upto y := by
  simp only [Due.before, Bool.or_eq_true, Bool.and_eq_true, decide_eq_true_iff, beq_iff_eq] at h
  exact h.imp_right fun h => ⟨h.1, h.2.le⟩

theorem Due.upto_of_not_before {x y : Due} (h : ¬x.before y = true) : y.Upto x := by
  simp only [Due.before, Bool.or_eq_true, Bool.and_eq_true, decide_eq_true_iff, beq_iff_eq] at h
  unfold Due.Upto
  omega

theorem mem_insertDue (x y : Due) (l : List Due) : y ∈ insertDue x l ↔ y = x ∨ y ∈ l := by
  induction l with
  | nil => exact List.mem_singleton.trans (by simp)
  | cons a l ih =>
    unfold insertDue
    split
    · exact List.mem_cons
    · rw [List.mem_cons, ih, List.mem_cons]
      exact or_left_comm

theorem mem_foldl_insertDue (y : Due) (new l : List Due) :
    y ∈ new.foldl (fun l x => insertDue x l) l ↔ y ∈ l ∨ y ∈ new := by
  induction new generalizing l with
  | nil => simp
  | cons a new ih =>
    rw [List.foldl_cons, ih, mem_insertDue, List.mem_cons, or_comm (a := y = a), or_assoc]

theorem pairwise_insertDue (x : Due) (l : List Due) (h : l.Pairwise Due.Upto) : (insertDue x l).Pairwise Due.Upto := by
  induction l with
  | nil => exact List.pairwise_singleton _ _
  | cons a l ih =>
    obtain ⟨ha, hl⟩ := List.pairwise_cons.mp h
    unfold insertDue
    split
    · next hxa =>
      refine List.pairwise_cons.mpr ⟨fun y hy => ?_, h⟩
      rcases List.mem_cons.mp hy with rfl | hy
      · exact Due.upto_of_before hxa
      · exact (Due.upto_of_before hxa).trans (ha y hy)
    · next hxa =>
      refine List.pairwise_cons.mpr ⟨fun y hy => ?_, ih hl⟩
      rcases (mem_insertDue x y l).mp hy with rfl | hy
      · exact Due.upto_of_not_before hxa
      · exact ha y hy

theorem pairwise_foldl_insertDue (new l : List Due) (h : l.Pairwise Due.Upto) :
    (new.foldl (fun l x => insertDue x l) l).Pairwise Due.Upto := by
  induction new generalizing l with
  | nil => exact h
  | cons a new ih => exact ih _ (pairwise_insertDue a l h)

/-! ## The points that a front passes (R283, R289–R292) -/

/-- The k that put a + k × r into (lo, hi]. -/
theorem turn_up (a lo hi r : Rat) (hr : 0 < r) (k : Int) :
    ((lo - a) / r).floor + 1 ≤ k ∧ k ≤ ((hi - a) / r).floor ↔ lo < a + k * r ∧ a + k * r ≤ hi := by
  rw [Int.add_one_le_iff, ← not_le, Rat.le_floor_iff, Rat.le_floor_iff, not_le, div_lt_iff₀ hr, le_div_iff₀ hr, sub_lt_iff_lt_add',
    le_sub_iff_add_le']

/-- The k that put a + k × r into [lo, hi). -/
theorem turn_down (a lo hi r : Rat) (hr : 0 < r) (k : Int) :
    ((lo - a) / r).ceil ≤ k ∧ k ≤ ((hi - a) / r).ceil - 1 ↔ lo ≤ a + k * r ∧ a + k * r < hi := by
  rw [Int.le_sub_one_iff, ← not_le (b := k), Rat.ceil_le_iff, Rat.ceil_le_iff, not_le, lt_div_iff₀ hr, div_le_iff₀ hr,
    sub_le_iff_le_add', lt_sub_iff_add_lt']

/-- The turns from lo to hi. -/
theorem mem_turns (a r : Rat) (lo hi : Int) (p : Rat) :
    p ∈ ((List.range (hi - lo + 1).toNat).map fun k => a + ((lo + k : Int) : Rat) * r) ↔
      ∃ k : Int, p = a + (k : Rat) * r ∧ lo ≤ k ∧ k ≤ hi := by
  simp only [List.pure_def, List.bind_eq_flatMap, List.mem_map, List.mem_flatMap, List.mem_range, List.mem_singleton]
  constructor
  · rintro ⟨_, ⟨i, hi', rfl⟩, rfl⟩
    exact ⟨lo + i, rfl, by omega, by omega⟩
  · rintro ⟨k, rfl, hlo, hhi⟩
    refine ⟨_, ⟨(k - lo).toNat, by omega, rfl⟩, ?_⟩
    rw [show lo + ((k - lo).toNat : Int) = k by omega]

/-- The entry runs in the direction of motion (R289). -/
def State.Runs (s : State) (e : Entry) : Prop :=
  (s.ang.fwd = true → enDir e = 0 ∨ enDir e = 2) ∧ (s.ang.fwd = false → enDir e = 1 ∧ s.ang.tooth = false ∨ enDir e = 2)

/-- The front of a class passes p when λ reaches lam (R283). -/
def State.Crosses (s : State) (f : Front) (lam p : Rat) : Prop :=
  (s.ang.fwd = true → f.ext < p ∧ p ≤ lam) ∧ (s.ang.fwd = false → lam ≤ p ∧ p < f.ext)

theorem State.runs_iff (s : State) (f : Front) (e : Entry) :
    (enLead e == f.lead && (enDir e == 2 || (if s.ang.fwd then enDir e == 0 else enDir e == 1 && !s.ang.tooth))) = true ↔
      enLead e = f.lead ∧ s.Runs e := by
  unfold State.Runs
  rw [Bool.and_eq_true, beq_iff_eq]
  refine and_congr_right fun _ => ?_
  cases s.ang.fwd
  · simp [or_comm]
  · simp [or_comm]

theorem State.mem_points (s : State) (f : Front) (lam p : Rat) (e : Entry) : p ∈ s.points f lam e ↔
    (enLead e = f.lead ∧ s.Runs e) ∧ (∃ k : Int, p = (e.angle.toNat : Rat) + (k : Rat) * 4294967296) ∧ s.Crosses f lam p ∧
      s.ownSide f p = true := by
  have hrun := s.runs_iff f e
  have hpos : (0 : Rat) < 4294967296 := by norm_num
  unfold State.points State.Crosses
  dsimp only
  by_cases hr : (enLead e = f.lead ∧ s.Runs e)
  · rw [if_neg (by rw [hrun.mpr hr]; decide), List.mem_filter, mem_turns, and_iff_right hr]
    refine Iff.trans (and_congr_left ?_) (and_assoc (a := ∃ k : Int, p = _ + (k : Rat) * _))
    rw [← exists_and_right]
    refine fun _ => exists_congr fun k => and_congr_right fun hk => ?_
    subst hk
    cases s.ang.fwd with
    | true =>
      simp only [if_true, forall_const, Bool.true_eq_false, false_imp_iff, and_true]
      exact turn_up _ _ _ _ hpos k
    | false =>
      simp only [Bool.false_eq_true, if_false, forall_const, false_imp_iff, true_and]
      exact turn_down _ _ _ _ hpos k
  · rw [if_pos (by rw [Bool.not_eq_true', ← Bool.not_eq_true, hrun]; exact hr)]
    exact ⟨fun h => absurd h List.not_mem_nil, fun h => absurd h.1 hr⟩

theorem State.mem_passed (s : State) (f : Front) (lam : Rat) (x : Due) : x ∈ s.passed f lam ↔
    ∃ (e : Entry) (p : Rat), f.bank = x.bank ∧ (s.cbank x.bank).entries[x.idx]? = some e ∧ p ∈ s.points f lam e ∧
      x.tick = s.reachTick f.lead p := by
  unfold State.passed
  rw [List.mem_flatMap]
  constructor
  · rintro ⟨⟨e, i⟩, he, hx⟩
    obtain ⟨p, hp, rfl⟩ := List.mem_map.mp hx
    exact ⟨e, p, rfl, List.mk_mem_zipIdx_iff_getElem?.mp he, hp, rfl⟩
  · rintro ⟨e, p, hb, he, hp, ht⟩
    refine ⟨(e, x.idx), List.mk_mem_zipIdx_iff_getElem?.mpr (hb ▸ he), List.mem_map.mpr ⟨p, hp, ?_⟩⟩
    rw [hb, ← ht]

/-- A front does not move back (R283, R290). -/
def State.beyond (s : State) (lam : Nat → Rat) (f : Front) : Rat :=
  if s.ang.fwd then max f.ext (lam f.lead) else min f.ext (lam f.lead)

theorem State.crosses_beyond (s : State) (lam : Nat → Rat) (f : Front) (p : Rat) :
    s.Crosses f (s.beyond lam f) p ↔ s.Crosses f (lam f.lead) p := by
  unfold State.Crosses State.beyond
  cases s.ang.fwd
  · simp only [Bool.false_eq_true, if_false, false_imp_iff, true_and, forall_const, inf_le_iff]
    exact and_congr_left fun hlt => or_iff_right (not_le.mpr hlt)
  · simp only [if_true, reduceCtorEq, false_imp_iff, and_true, forall_const, le_sup_iff]
    exact and_congr_right fun hlt => or_iff_right (not_le.mpr hlt)

theorem State.sweep_due (s : State) (lam : Nat → Rat) : (s.sweep lam).course.due =
    (s.course.fronts.flatMap fun f => s.passed f (s.beyond lam f)).foldl (fun l x => insertDue x l) s.course.due := rfl

theorem State.mem_sweep (s : State) (lam : Nat → Rat) (x : Due) : x ∈ (s.sweep lam).course.due ↔ x ∈ s.course.due ∨
    ∃ f ∈ s.course.fronts, ∃ (e : Entry) (p : Rat), f.bank = x.bank ∧ (s.cbank x.bank).entries[x.idx]? = some e ∧
      ((enLead e = f.lead ∧ s.Runs e) ∧ (∃ k : Int, p = (e.angle.toNat : Rat) + (k : Rat) * 4294967296) ∧
        s.Crosses f (lam f.lead) p ∧ s.ownSide f p = true) ∧ x.tick = s.reachTick f.lead p := by
  rw [State.sweep_due, mem_foldl_insertDue, List.mem_flatMap]
  simp only [State.mem_passed, State.mem_points, State.crosses_beyond]

/-! ## The side of a pending swap (R291, R292) -/

theorem State.ownSide_settled (s : State) (f : Front) (p : Rat) (h : s.course.swap = none) :
    s.ownSide f p = true ↔ f.bank = s.course.active := by
  unfold State.ownSide State.wrapAt
  rw [h]
  exact beq_iff_eq

theorem State.ownSide_pending (s : State) (f : Front) (p : Rat) (w : Swap) (h : s.course.swap = some w) (hf : f.changed = false) :
    s.ownSide f p = true ↔ (f.bank = s.course.active ↔ p < (w.wrap : Rat) * 4294967296) := by
  unfold State.ownSide State.wrapAt
  rw [h]
  dsimp only [Option.map_some]
  rw [hf]
  split
  · next hb => simp [beq_iff_eq.mp hb]
  · next hb =>
    rw [beq_iff_eq] at hb
    simp [hb]

/-- Settles O41: what is due by the points that each front passes, in an order that insertion keeps. -/
theorem courseFiring : Obligations.CourseFiring := by
  refine ⟨State.nextDue_spec, State.prefetched_iff, fun s lam sorted hsorted h => ?_, fun s lam x => ?_, fun s f p =>
    ⟨s.ownSide_settled f p, s.ownSide_pending f p⟩⟩
  · rw [hsorted] at h ⊢
    exact pairwise_foldl_insertDue _ _ h
  · rw [State.mem_sweep]
    refine or_congr_right (exists_congr fun f => and_congr_right fun _ => exists_congr fun e => ?_)
    constructor
    · rintro ⟨p, hb, he, ⟨⟨hl, hup, hdown⟩, ⟨k, hk⟩, ⟨hcu, hcd⟩, hown⟩, ht⟩
      exact ⟨k, p, hb, he, hl, hk, hown, ht, fun h => ⟨hup h, hcu h⟩, fun h => ⟨hdown h, hcd h⟩⟩
    · rintro ⟨k, p, hb, he, hl, hk, hown, ht, hup, hdown⟩
      exact ⟨p, hb, he, ⟨⟨hl, fun h => (hup h).1, fun h => (hdown h).1⟩, ⟨k, hk⟩, ⟨fun h => (hup h).2, fun h => (hdown h).2⟩, hown⟩, ht⟩

/-! ## The order of the conversions that are due (R316) -/

/-- The request time of a slot's trigger that is due in the eighth that begins at t. -/
def Meas.dueAt (m : Meas) (t : Nat) (i : SlotId) : Option Nat :=
  match m.slots[i].trig with
  | some r => if r / 125 * 125 ≤ t then some r else none
  | none => none

/-- Of two due triggers the one that was requested first, the earlier found among equals. -/
def earlier (best : Option (Burst ⊕ (SlotId × Nat))) (x : SlotId × Nat) : Option (Burst ⊕ (SlotId × Nat)) :=
  match best with
  | some (.inr y) => if x.2 < y.2 then some (.inr x) else best
  | _ => some (.inr x)

theorem Meas.dueAt_iff (m : Meas) (t r : Nat) (i : SlotId) : m.dueAt t i = some r ↔ m.slots[i].trig = some r ∧ r / 125 * 125 ≤ t := by
  unfold Meas.dueAt
  split
  · next r' h =>
    rw [h, Option.ite_none_right_eq_some, Option.some_inj]
    exact ⟨fun ⟨hle, hr⟩ => ⟨hr, hr ▸ hle⟩, fun ⟨hr, hle⟩ => ⟨hr ▸ hle, hr⟩⟩
  · next h => exact iff_of_false (fun h => nomatch h) fun hr => nomatch (h.symm.trans hr.1)

/-- What goes on, or begins, of an injected burst, its slot's due trigger, a regular burst and the best regular trigger. -/
def chooseDue (inj : Option Burst) (due : Option Nat) (burst : Option Burst) (best : Option (Burst ⊕ (SlotId × Nat))) :
    Option (Burst ⊕ (SlotId × Nat)) :=
  match inj, due, burst with
  | some b, _, _ => some (.inl b)
  | none, some r, _ => some (.inr (injSlot, r))
  | none, none, some b => some (.inl b)
  | none, none, none => best

theorem Meas.nextDue_eq (m : Meas) (t : Nat) : m.nextDue t = chooseDue m.inj (m.dueAt t injSlot) m.burst
    (((List.finRange 64).filterMap fun i => (m.dueAt t (regSlot i)).map fun r => (regSlot i, r)).foldl earlier none) := rfl

/-- Triggers requested later leave the best one either absent or later too. -/
theorem foldl_earlier_later (r : Nat) (l : List (SlotId × Nat)) (hl : ∀ x ∈ l, r < x.2) (best : Option (Burst ⊕ (SlotId × Nat)))
    (hbest : best = none ∨ ∃ y : SlotId × Nat, best = some (.inr y) ∧ r < y.2) :
    l.foldl earlier best = none ∨ ∃ y : SlotId × Nat, l.foldl earlier best = some (.inr y) ∧ r < y.2 := by
  induction l generalizing best with
  | nil => exact hbest
  | cons x l ih =>
    refine ih (fun y hy => hl y (List.mem_cons_of_mem _ hy)) _ (Or.inr ?_)
    have hx := hl x List.mem_cons_self
    rcases hbest with rfl | ⟨y, rfl, hy⟩
    · exact ⟨x, rfl, hx⟩
    · unfold earlier
      dsimp only
      split
      · exact ⟨x, rfl, hx⟩
      · exact ⟨y, rfl, hy⟩

theorem foldl_earlier_keeps (x : SlotId × Nat) (l : List (SlotId × Nat)) (hl : ∀ y ∈ l, x.2 ≤ y.2) :
    l.foldl earlier (some (.inr x)) = some (.inr x) := by
  induction l with
  | nil => rfl
  | cons y l ih =>
    rw [List.foldl_cons, show earlier (some (.inr x)) y = some (.inr x) from if_neg (Nat.not_lt.mpr (hl y List.mem_cons_self))]
    exact ih fun z hz => hl z (List.mem_cons_of_mem _ hz)

/-- The trigger that was requested first, of the lowest slot among equals, is the best one. -/
theorem foldl_earlier_first (f : Fin 64 → Option (SlotId × Nat)) (i : Fin 64) (x : SlotId × Nat) (hi : f i = some x)
    (hlow : ∀ j y, f j = some y → j < i → x.2 < y.2) (hhigh : ∀ j y, f j = some y → x.2 ≤ y.2) :
    ((List.finRange 64).filterMap f).foldl earlier none = some (.inr x) := by
  obtain ⟨l, r, hsplit⟩ := List.append_of_mem (List.mem_finRange i)
  have hsorted := hsplit ▸ List.pairwise_lt_finRange 64
  have hbefore : ∀ a ∈ l, a < i := fun a ha => (List.pairwise_append.mp hsorted).2.2 a ha i List.mem_cons_self
  rw [hsplit, List.filterMap_append, List.filterMap_cons_some hi, List.foldl_append, List.foldl_cons]
  have hlater : ∀ y ∈ l.filterMap f, x.2 < y.2 := fun y hy => by
    obtain ⟨j, hj, hfj⟩ := List.mem_filterMap.mp hy
    exact hlow j y hfj (hbefore j hj)
  have hfirst : earlier ((l.filterMap f).foldl earlier none) x = some (.inr x) := by
    rcases foldl_earlier_later x.2 _ hlater none (Or.inl rfl) with h | ⟨y, h, hy⟩
    · exact congrArg (earlier · x) h
    · exact (congrArg (earlier · x) h).trans (if_pos hy)
  rw [hfirst]
  refine foldl_earlier_keeps x _ fun y hy => ?_
  obtain ⟨j, _, hfj⟩ := List.mem_filterMap.mp hy
  exact hhigh j y hfj

/-- Settles O46: the branches of the order, and the first of the due triggers. -/
theorem conversionOrder : Obligations.ConversionOrder := by
  intro s q t due hdue
  have hat (i : SlotId) (r : Nat) : due i r ↔ s.meas[q].dueAt t i = some r := (hdue i r).trans (Meas.dueAt_iff ..).symm
  have hnone (i : SlotId) (h : ∀ r, ¬due i r) : s.meas[q].dueAt t i = none :=
    Option.eq_none_iff_forall_ne_some.mpr fun r hr => h r ((hat i r).mpr hr)
  rw [Meas.nextDue_eq]
  refine ⟨fun b hb => by rw [hb]; rfl, fun hinj r hr => ?_, fun hinj hno => ?_⟩
  · rw [hinj, (hat _ _).mp hr]
    rfl
  · rw [hinj, hnone _ hno]
    refine ⟨fun b hb => by rw [hb]; rfl, fun hb => ?_⟩
    rw [hb]
    refine ⟨fun hnever => ?_, fun i r hr hfirst => ?_⟩
    · have hempty : ((List.finRange 64).filterMap fun i => (s.meas[q].dueAt t (regSlot i)).map fun r => (regSlot i, r)) = [] :=
        List.filterMap_eq_nil_iff.mpr fun i _ => by rw [hnone _ (hnever _)]; rfl
      rw [hempty]
      rfl
    · have hat' (j : Fin 64) (y : SlotId × Nat) (h : (s.meas[q].dueAt t (regSlot j)).map (fun r => (regSlot j, r)) = some y) :
          due (regSlot j) y.2 := by
        obtain ⟨r', hr', rfl⟩ := Option.map_eq_some_iff.mp h
        exact (hat _ _).mpr hr'
      refine foldl_earlier_first _ i (regSlot i, r) ?_ (fun j y hy hlt => ?_) fun j y hy => ?_
      · rw [(hat _ _).mp hr]
        rfl
      · exact (hfirst j y.2 (hat' j y hy)).resolve_right fun h => absurd h.2 (not_le.mpr hlt)
      · exact (hfirst j y.2 (hat' j y hy)).elim Nat.le_of_lt fun h => h.1.le

end Sys2Proof.Machine

/-!
SEQ_LOAD, CALIBRATE, ACC_SNAPSHOT and INJECT (R252, R305–R311, R320–R322, R330–R340, R447, R597): the rows, and the settlements of O43
and O44.
-/
namespace Sys2Proof.Machine
open Sys2Proof

/-! ## Masks of bits -/

theorem bit_foldl_maskOf (n : Nat) (p : Nat → Bool) (l : List Nat) (m : BitVec n) (j : Nat) (hl : ∀ i ∈ l, i < n) :
    bit (l.foldl (fun m i => if p i then m ||| BitVec.ofNat n (1 <<< i) else m) m) j = (bit m j || (decide (j ∈ l) && p j)) := by
  induction l generalizing m with
  | nil => simp
  | cons a l ih =>
    have ha : a < n := hl a List.mem_cons_self
    have hor : bit (m ||| BitVec.ofNat n (1 <<< a)) j = (bit m j || decide (a = j)) := by
      rw [bit, bit, BitVec.getLsbD_or, BitVec.getLsbD_ofNat, Nat.shiftLeft_eq, Nat.one_mul, Nat.testBit_two_pow]
      by_cases h : a = j
      · subst h
        simp [ha]
      · simp [h]
    rw [List.foldl_cons, ih _ fun i hi => hl i (List.mem_cons_of_mem _ hi)]
    by_cases h : a = j
    · subst h
      cases p a <;> simp [hor]
    · cases p a <;> simp [hor, h, Ne.symm h]

theorem bit_maskOf (n : Nat) (p : Nat → Bool) (j : Nat) : bit (maskOf n p) j = (decide (j < n) && p j) := by
  unfold maskOf
  rw [bit_foldl_maskOf n p _ _ _ fun i hi => List.mem_range.mp hi]
  simp [bit]

theorem maskOf_eq {n : Nat} {p : Nat → Bool} {m : BitVec n} (h : ∀ i, i < n → bit m i = p i) : maskOf n p = m :=
  BitVec.eq_of_getLsbD_eq fun i hi => by
    have := bit_maskOf n p i
    rw [decide_eq_true hi, Bool.true_and, ← h i hi] at this
    exact this

theorem isEmpty_bits (w : Word64) : ((List.finRange 64).filter fun i => bit w i.val).isEmpty = (w == 0) := by
  rw [Bool.eq_iff_iff, List.isEmpty_iff, List.filter_eq_nil_iff, beq_iff_eq]
  constructor
  · intro h
    refine BitVec.eq_of_getLsbD_eq fun i hi => ?_
    have := h ⟨i, hi⟩ (List.mem_finRange _)
    rw [Bool.not_eq_true] at this
    rw [show (0 : Word64).getLsbD i = false by simp]
    exact this
  · rintro rfl i _
    simp [bit]

/-! ## SEQ_LOAD, CALIBRATE and ACC_SNAPSHOT (R309–R311, R330, R337–R340) -/

theorem dQuad_eq {d : Desc} {k : QuadId} (h : dNum d 4 1 = k.val) : dQuad d = k :=
  Fin.ext ((congrArg (· % 4) h).trans (Nat.mod_eq_of_lt k.isLt))

/-- The checks of SEQ_LOAD but for what every descriptor is held to (R310). -/
def seqChecks (d : Desc) : List (Bool × Nat) := [(3 < dNum d 4 1, 4), (d64 d 8 == 0 && d64 d 16 != 0, 16), (qwBad (d64 d 24), 24)]

/-- The checks of ACC_SNAPSHOT but for what every descriptor is held to (R339). -/
def snapChecks (d : Desc) : List (Bool × Nat) :=
  [(3 < dNum d 4 1, 4), (d64 d 8 == 0 && dNum d 16 1 == 0, 8), (1 < dNum d 16 1, 16)]

section
variable {dt : Nat} {q : QueueId} {n : Word32} {d : Desc} {s S : State} (hS : S = s.elapse dt) (hr : S.ioRuns q n d = true)
include hS hr

theorem seqLoad_exec {k : QuadId} (hs : shaped d 0x38 (S.queue q).profile.isSome false [(4, 1), (8, 24)] = true)
    (hp : S.permits (S.queue q).hctx.val [(0x12, 2)] = true) (hk : dNum d 4 1 = k.val) (hqw : fld (d64 d 24) 13 51 = 0)
    (haddr : d64 d 8 = 0 → d64 d 16 = 0) : exec (.seqLoad dt q n) s = .next (
      if d64 d 8 == 0 then (S.started q n).seqAccept q n k [] (d64 d 24)
      else ((S.started q n).addOp q n .data).emit
        (.dataRead (d64 d 16) (16 * ((List.finRange 64).filter fun i => bit (d64 d 8) i.val).length))) := by
  have hbad : seqBad d (S.queue q).profile.isSome = none := by
    refine firstBad_of_shaped (checks := seqChecks d) hs ?_
    simp only [seqChecks, List.mem_cons, List.not_mem_nil, or_false, forall_eq_or_imp, forall_eq]
    refine ⟨decide_eq_false (by omega), Bool.and_eq_false_iff.mpr ?_, ?_⟩
    · by_cases h : d64 d 8 = 0
      · exact Or.inr (by rw [haddr h]; rfl)
      · exact Or.inl (beq_eq_false_iff_ne.mpr h)
    · rw [qwBad, hqw]
      rfl
  subst hS
  refine congrArg _ ((State.io_runs _ q n d _ _ _ _ hr (isOp_of_shaped hs) hp hbad).trans ?_)
  rw [dQuad_eq hk, seqSlots, isEmpty_bits]

theorem calibrate_exec (hs : shaped d 0x3A (S.queue q).profile.isSome false [(4, 1)] = true)
    (hp : S.permits (S.queue q).hctx.val [(0x12, 4)] = true) (hlo : 1 ≤ dNum d 4 1) (hhi : dNum d 4 1 ≤ 15) {named : List QuadId}
    (hnamed : named = (List.finRange 4).filter fun k => (dNum d 4 1).testBit k.val) : exec (.calibrate dt q n) s = .next (
      if S.calRuns || named.any (fun k => !(S.quad k).sync) then (S.started q n).finish q n .rejState 0
      else if 3 ≤ S.mason.shed.val then (S.started q n).finish q n .rejBusy 0
      else (S.started q n).addOp q n (.cal named 0)) := by
  have hbad : calBad d (S.queue q).profile.isSome = none := by
    refine firstBad_of_shaped hs (List.forall_mem_singleton.mpr (Bool.or_eq_false_iff.mpr
      ⟨beq_eq_false_iff_ne.mpr (by omega), decide_eq_false (by omega)⟩))
  subst hS hnamed
  exact congrArg _ (State.io_runs _ q n d _ _ _ _ hr (isOp_of_shaped hs) hp hbad)

/-- The blocks of a snapshot that is staged, or not kept, are cleared with CLEAR (R337, R340). -/
def State.snapped (s : State) (k : QuadId) (clear : Bool) (blocks : List SlotId) : State :=
  if clear then blocks.foldl (fun u i => u.modAcc k i Acc.cleared) s else s

/-- What becomes of a snapshot whose record was offered to staging (R340). -/
def snapResult (q : QueueId) (n : Word32) (k : QuadId) (clear gone : Bool) (blocks : List SlotId) (tick : Nat) (x : State × Bool) :
    State :=
  match x with
  | (s, false) => s.finish q n .rejBusy 0
  | (s, true) => if gone then (s.snapped k clear blocks).complete q n .done 0 tick 0 else s.snapped k clear blocks

theorem accSnapshot_exec {k : QuadId} {blocks : List SlotId} {r : Record}
    (hs : shaped d 0x3B (S.queue q).profile.isSome true [(4, 1), (8, 9)] = true)
    (hp : S.permits (S.queue q).hctx.val [(0x12, 1)] = true) (hk : dNum d 4 1 = k.val) (hle : dNum d 16 1 ≤ 1)
    (hsome : d64 d 8 ≠ 0 ∨ dNum d 16 1 = 1)
    (hblocks : blocks = (List.finRange 65).filter fun i => bit (BitVec.ofNat 65 (dNum d 8 8 + dNum d 16 1 * 2 ^ 64)) i.val)
    (hrec : r = .acc k (dCspec d) (S.dspTick S.now) (BitVec.ofNat 65 (dNum d 8 8 + dNum d 16 1 * 2 ^ 64))
      (blocks.map fun i => (S.slot k i).acc.bytes)) :
    exec (.accSnapshot dt q n) s = .next (snapResult q n k (dCspec d) (S.route r == 0x40) blocks (S.dspTick S.now)
      ((S.started q n).stage r (some (q, n)))) := by
  have hbad : snapBad d (S.queue q).profile.isSome = none := by
    refine firstBad_of_shaped (checks := snapChecks d) hs ?_
    simp only [snapChecks, List.mem_cons, List.not_mem_nil, or_false, forall_eq_or_imp, forall_eq]
    refine ⟨decide_eq_false (by omega), Bool.and_eq_false_iff.mpr (hsome.imp (fun h => beq_eq_false_iff_ne.mpr h) fun h => ?_),
      decide_eq_false (by omega)⟩
    rw [h]
    rfl
  obtain rfl := dQuad_eq hk
  subst hS hblocks hrec
  exact congrArg _ ((State.io_runs _ q n d _ _ _ _ hr (isOp_of_shaped hs) hp hbad).trans rfl)

end

/-- Settles O43: each row, by what it finds. -/
theorem measurementCommands : Obligations.MeasurementCommands := by
  intro dt q n d s S A p m hS hA hr hpf hm
  subst hpf hm
  refine ⟨fun k hs hp hk hqw => ⟨fun h8 h16 hcal => ?_, fun h8 h16 hcal htd => ?_, fun h8 => ?_⟩,
    fun named hs hp hlo hhi hnamed => ?_, fun k blocks r hs hp hk hle hsome hblocks hrec => ?_⟩
  · rw [seqLoad_exec hS hr hs hp hk hqw fun _ => h16, if_pos (beq_iff_eq.mpr h8), hA]
    refine congrArg _ (if_neg ?_)
    rw [Bool.and_eq_true]
    rintro ⟨h, h'⟩
    exact hcal.elim (fun hc => Bool.false_ne_true (hc.symm.trans h)) fun hb => Bool.false_ne_true (hb.symm.trans h')
  · rw [seqLoad_exec hS hr hs hp hk hqw fun _ => h16, if_pos (beq_iff_eq.mpr h8), hA]
    have hcal' : ((S.started q n).meas[k]).cal = true := hcal
    refine congrArg _ ((if_pos (by rw [hcal', htd]; rfl)).trans ?_)
    have hset : (S.started q n).modMeas k (fun m => m.setTdac ((d64 d 24).extractLsb' 0 12) 0) =
        (S.started q n).modMeas k fun m => { m with tdacHeld := some ((d64 d 24).extractLsb' 0 12) } := by
      unfold State.modMeas
      exact congrArg (fun x => { S.started q n with meas := (S.started q n).meas.set k x }) (if_pos hcal')
    rw [hset]
  · rw [seqLoad_exec hS hr hs hp hk hqw fun h => absurd h h8, if_neg (beq_iff_eq.not.mpr h8), hA]
  · rw [calibrate_exec hS hr hs hp hlo hhi hnamed, ← hA]
    refine ⟨fun h => congrArg _ (if_pos ?_), fun hrun hsync => congrArg _ ((if_neg ?_).trans rfl)⟩
    · rw [Bool.or_eq_true, List.any_eq_true]
      exact h.imp_right fun ⟨k, hk, hn⟩ => ⟨k, hk, by rw [hn]; rfl⟩
    · rw [hrun, Bool.false_or, List.any_eq_true]
      rintro ⟨k, hk, hn⟩
      rw [hsync k hk] at hn
      exact Bool.false_ne_true hn
  · have hexec := accSnapshot_exec hS hr hs hp hk hle hsome hblocks hrec
    rw [hexec, ← hA]
    have hroute : A.route r = S.route r := hA ▸ rfl
    have hroom : A.stageRoom r.len = S.stageRoom r.len := hA ▸ rfl
    have hstaging : A.staging = S.staging := hA ▸ rfl
    refine ⟨fun hne hno => ?_, fun hne hfit => ?_, fun hgone => ?_⟩
    · rw [State.stage_full A r (some (q, n)) (hroute.trans_ne hne) (hroom.trans hno)]
      rfl
    · rw [State.stage_fits A r (some (q, n)) (hroute.trans_ne hne) (hroom.trans hfit), beq_eq_false_iff_ne.mpr hne, hstaging]
      rfl
    · rw [State.stage_discarded A r (some (q, n)) (hroute.trans hgone), beq_iff_eq.mpr hgone]
      rfl

/-! ## INJECT (R252, R320–R322) -/

/-- The checks of INJECT but for what every descriptor is held to (R320). -/
def injChecks (d : Desc) : List (Bool × Nat) :=
  [(3 < dNum d 4 1, 4), (1 < dNum d 5 1, 5), (d64 d 8 == 0 && dNum d 5 1 == 0, 8),
   (if dNum d 5 1 == 0 then d64 d 16 != 0 else fld (d64 d 16) 6 30 != 0, 16),
   (if dNum d 5 1 == 0 then d64 d 24 != 0 else s1Defer (d64 d 24), 24)]

theorem injBad_plain {d : Desc} {p : Bool} (hs : shaped d 0x39 p false [(4, 2), (8, 24)] = true) (hk : dNum d 4 1 < 4)
    (hv : dNum d 5 1 = 0) (h8 : d64 d 8 ≠ 0) (h16 : d64 d 16 = 0) (h24 : d64 d 24 = 0) : injBad d p = none := by
  refine firstBad_of_shaped (checks := injChecks d) hs ?_
  simp only [injChecks, List.mem_cons, List.not_mem_nil, or_false, forall_eq_or_imp, forall_eq]
  rw [hv, h16, h24]
  exact ⟨decide_eq_false (by omega), rfl, by rw [beq_eq_false_iff_ne.mpr h8]; rfl, rfl, rfl⟩

theorem injBad_valid {d : Desc} {p : Bool} (hs : shaped d 0x39 p false [(4, 2), (8, 24)] = true) (hk : dNum d 4 1 < 4)
    (hv : dNum d 5 1 = 1) (h16 : fld (d64 d 16) 6 30 = 0) (h24 : s1Defer (d64 d 24) = false) : injBad d p = none := by
  refine firstBad_of_shaped (checks := injChecks d) hs ?_
  simp only [injChecks, List.mem_cons, List.not_mem_nil, or_false, forall_eq_or_imp, forall_eq]
  rw [hv, h16, h24]
  exact ⟨decide_eq_false (by omega), rfl, Bool.and_false _, rfl, rfl⟩

section
variable (A : State) (q : QueueId) (n : Word32) (k : QuadId) (w0 w1 : Word64) (regs : List (Fin 64)) (all id t : Nat)

/-- The slots that an INJECT triggers: the regular ones regs, and the injected one with inj. -/
def hitBy (regs : List (Fin 64)) (inj : Bool) : BitVec 65 := maskOf 65 fun i => if i == 64 then inj else regs.any fun r => r.val == i

/-- Those of them whose trigger stands in state u. -/
def State.leftOf (u : State) (k : QuadId) (regs : List (Fin 64)) (inj : Bool) : BitVec 65 :=
  maskOf 65 fun i => if i == 64 then inj else regs.any fun r => r.val == i && (u.slot k (regSlot r)).trig.isSome

/-- The regular slots are triggered (R321). -/
def State.injRegs (u : State) (k : QuadId) (regs : List (Fin 64)) (id t : Nat) : State :=
  regs.foldl (fun s i => s.trigSlot k (regSlot i) (t + 1600 + delayNs (s.slot k (regSlot i)).w0) (some id)) u

/-- The end of an INJECT that passed its checks (R320–R322). -/
def State.injEnd (u : State) (q : QueueId) (n : Word32) (k : QuadId) (regs : List (Fin 64)) (inj : Bool) (named id t : Nat) : State :=
  let all := regs.length + b2n inj == named
  if hitBy regs inj == 0 then u.finish q n .rejState 0
  else if u.leftOf k regs inj == 0 then u.complete q n (if all then .done else .partialDone) 0 t ((hitBy regs inj).setWidth 128)
  else u.addOp q n (.inject k id (u.leftOf k regs inj) (hitBy regs inj) all t)

theorem State.injEnd_rejects {inj : Bool} (h : hitBy regs inj = 0) : A.injEnd q n k regs inj all id t = A.finish q n .rejState 0 := by
  have hpos : (hitBy regs inj == 0) = true := beq_iff_eq.mpr h
  exact if_pos hpos

section
variable {inj : Bool} (h : hitBy regs inj ≠ 0)
include h

theorem State.injEnd_ends (hl : A.leftOf k regs inj = 0) : A.injEnd q n k regs inj all id t =
    A.complete q n (if regs.length + b2n inj == all then .done else .partialDone) 0 t ((hitBy regs inj).setWidth 128) := by
  have hneg : ¬(hitBy regs inj == 0) = true := beq_iff_eq.not.mpr h
  have hpos : (A.leftOf k regs inj == 0) = true := beq_iff_eq.mpr hl
  exact (if_neg hneg).trans (if_pos hpos)

theorem State.injEnd_waits (hl : A.leftOf k regs inj ≠ 0) : A.injEnd q n k regs inj all id t =
    A.addOp q n (.inject k id (A.leftOf k regs inj) (hitBy regs inj) (regs.length + b2n inj == all) t) := by
  have hneg : ¬(hitBy regs inj == 0) = true := beq_iff_eq.not.mpr h
  have hneg' : ¬(A.leftOf k regs inj == 0) = true := beq_iff_eq.not.mpr hl
  exact (if_neg hneg).trans (if_neg hneg')

end

theorem not_any_64 (p : Fin 64 → Bool) : (regs.any fun r => r.val == 64 && p r) = false :=
  List.any_eq_false.mpr fun r _ => by
    rw [beq_eq_false_iff_ne.mpr (Nat.ne_of_lt r.isLt)]
    exact Bool.false_ne_true

theorem hitBy_regs {hit : BitVec 65} (h : ∀ i, bit hit i = regs.any fun r => r.val == i) : hitBy regs false = hit :=
  maskOf_eq fun i _ => by
    rw [h]
    split
    · next hi =>
      rw [beq_iff_eq.mp hi]
      simpa using not_any_64 regs fun _ => true
    · rfl

theorem State.leftOf_regs (u : State) {left : BitVec 65}
    (h : ∀ i, bit left i = regs.any fun r => r.val == i && (u.slot k (regSlot r)).trig.isSome) : u.leftOf k regs false = left :=
  maskOf_eq fun i _ => by
    rw [h]
    split
    · next hi =>
      rw [beq_iff_eq.mp hi]
      exact not_any_64 regs _
    · rfl

theorem hitBy_ne_zero (h : regs ≠ []) : hitBy regs false ≠ 0 := by
  obtain ⟨r, l, rfl⟩ := List.exists_cons_of_ne_nil h
  intro h0
  have hbit := bit_maskOf 65 (fun i => if i == 64 then false else (r :: l).any fun r => r.val == i) r.val
  rw [show maskOf 65 _ = (0 : BitVec 65) from h0, decide_eq_true (Nat.lt_succ_of_lt r.isLt),
    beq_eq_false_iff_ne.mpr (Nat.ne_of_lt r.isLt), List.any_cons, beq_self_eq_true] at hbit
  simp [bit] at hbit

theorem hitBy_none : hitBy [] false = 0 := by decide

theorem hitBy_injected : hitBy [] true = BitVec.ofNat 65 (2 ^ 64) := by decide

theorem State.leftOf_injected (u : State) : u.leftOf k [] true = BitVec.ofNat 65 (2 ^ 64) := hitBy_injected

end

/-- The slots of INJECT that a mask names: TRIG is HOST, and free (R321). -/
def State.injNamed (s : State) (k : QuadId) (mask : Word64) : List (Fin 64) :=
  (List.finRange 64).filter fun i => bit mask i.val && slTrig (s.slot k (regSlot i)).w0 == 4 &&
    ((s.slot k (regSlot i)).trig.isNone && !s.slotBusy k (regSlot i))

/-- The row of INJECT once its descriptor is good (R320, R321). -/
def State.injRun (s : State) (q : QueueId) (n : Word32) (d : Desc) (k : QuadId) : State :=
  let valid := dNum d 5 1 == 1
  if valid && slotBad (d64 d 16) (d64 d 24) then s.finish q n .rejField 64
  else if valid && (s.modeBad k (d64 d 24) || rangeClash (s.slotsAfter k [(injSlot, d64 d 16, d64 d 24)]) injSlot) then
    s.finish q n .rejState 64
  else
    let id := s.meas[k].nextId
    let inj := valid && ((s.slot k injSlot).trig.isNone && !s.slotBusy k injSlot) && s.meas[k].injNew.isNone
    let u := (s.modMeas k fun m => { m with nextId := id + 1 }).injRegs k (s.injNamed k (d64 d 8)) id s.now
    let u := if inj then u.modMeas k fun m => { m with injNew := some (d64 d 16, d64 d 24, s.now + 1600 + delayNs (d64 d 16), id) } else u
    u.injEnd q n k (s.injNamed k (d64 d 8)) inj ((seqSlots d).length + b2n valid) id s.now

theorem inject_exec {dt : Nat} {q : QueueId} {n : Word32} {d : Desc} {s S : State} {k : QuadId} (hS : S = s.elapse dt)
    (hr : S.ioRuns q n d = true) (hs : shaped d 0x39 (S.queue q).profile.isSome false [(4, 2), (8, 24)] = true)
    (hp : S.permits (S.queue q).hctx.val [(0x12, 4)] = true) (hk : dNum d 4 1 = k.val)
    (hbad : injBad d (S.queue q).profile.isSome = none) : exec (.inject dt q n) s = .next ((S.started q n).injRun q n d k) := by
  obtain rfl := dQuad_eq hk
  subst hS
  exact congrArg _ ((State.io_runs _ q n d _ _ _ _ hr (isOp_of_shaped hs) hp hbad).trans rfl)

section
variable {A : State} {q : QueueId} {n : Word32} {d : Desc} {k : QuadId} {id : Nat}

theorem State.injRun_plain (hv : dNum d 5 1 = 0) : A.injRun q n d k =
    ((A.modMeas k fun m => { m with nextId := A.meas[k].nextId + 1 }).injRegs k (A.injNamed k (d64 d 8)) A.meas[k].nextId A.now).injEnd
      q n k (A.injNamed k (d64 d 8)) false (seqSlots d).length A.meas[k].nextId A.now := by
  unfold State.injRun
  rw [hv]
  rfl

theorem State.injRun_badWords (hv : dNum d 5 1 = 1) (hbad : slotBad (d64 d 16) (d64 d 24) = true) :
    A.injRun q n d k = A.finish q n .rejField 64 := by
  unfold State.injRun
  rw [hv, hbad]
  rfl

theorem State.injRun_clash (hv : dNum d 5 1 = 1) (hgood : slotBad (d64 d 16) (d64 d 24) = false)
    (hbad : (A.modeBad k (d64 d 24) || rangeClash (A.slotsAfter k [(injSlot, d64 d 16, d64 d 24)]) injSlot) = true) :
    A.injRun q n d k = A.finish q n .rejState 64 := by
  unfold State.injRun
  rw [hv, hgood, hbad]
  rfl

section
variable (hv : dNum d 5 1 = 1) (hgood : slotBad (d64 d 16) (d64 d 24) = false)
  (hok : (A.modeBad k (d64 d 24) || rangeClash (A.slotsAfter k [(injSlot, d64 d 16, d64 d 24)]) injSlot) = false)
  (hregs : A.injNamed k (d64 d 8) = [])
include hv hgood hok hregs

theorem State.injRun_injects (hfree : ((A.slot k injSlot).trig.isNone && !A.slotBusy k injSlot) = true) (hnew : A.meas[k].injNew = none) :
    A.injRun q n d k = ((A.modMeas k fun m => { m with nextId := A.meas[k].nextId + 1 }).modMeas k fun m => { m with
      injNew := some (d64 d 16, d64 d 24, A.now + 1600 + delayNs (d64 d 16), A.meas[k].nextId) }).injEnd q n k [] true
        ((seqSlots d).length + 1) A.meas[k].nextId A.now := by
  unfold State.injRun
  rw [hv, hgood, hok, hregs, hfree, hnew]
  rfl

theorem State.injRun_busy (hno : ((A.slot k injSlot).trig.isNone && !A.slotBusy k injSlot) = false ∨ A.meas[k].injNew ≠ none) :
    A.injRun q n d k = (A.modMeas k fun m => { m with nextId := A.meas[k].nextId + 1 }).finish q n .rejState 0 := by
  have hinj : (((A.slot k injSlot).trig.isNone && !A.slotBusy k injSlot) && A.meas[k].injNew.isNone) = false := by
    rw [Bool.and_eq_false_iff]
    refine hno.imp_right fun h => ?_
    rw [Bool.eq_false_iff]
    exact fun hn => h (Option.isNone_iff_eq_none.mp hn)
  unfold State.injRun
  rw [hv, hgood, hok, hregs]
  dsimp only
  rw [show ((1 : Nat) == 1) = true from rfl, Bool.true_and, Bool.true_and, hinj]
  exact (if_neg Bool.false_ne_true).trans ((if_neg Bool.false_ne_true).trans (State.injEnd_rejects _ q n k [] _ _ _ hitBy_none))

end
end

/-- Settles O44: the row by VALID, with the masks read off their bits. -/
theorem inject : Obligations.Inject := by
  intro dt q n d s S A B C p m k free regs all id hS hA hr hpf hm hs hp hk hfree hregs hall hid hB hC
  subst hpf hm
  have hk4 : dNum d 4 1 < 4 := hk ▸ k.isLt
  have hregs' : A.injNamed k (d64 d 8) = regs := by
    rw [hregs, hA]
    exact List.filter_congr fun i _ => by rw [hfree]; rfl
  have hid' : A.meas[k].nextId = id := by
    rw [hid, hA]
    rfl
  have hnow : A.now = S.now := hA ▸ rfl
  have hC' : C = B.injRegs k regs id S.now := by
    rw [hC]
    unfold State.injRegs delayNs
    simp only [Nat.mul_comm]
  have hexec (hbad : injBad d (S.queue q).profile.isSome = none) : exec (.inject dt q n) s = .next (A.injRun q n d k) :=
    hA ▸ inject_exec hS hr hs hp hk hbad
  refine ⟨fun hv h8 h16 h24 => ?_, fun hv h16 h24 => ?_, fun w0 w1 req tag h => ?_⟩
  · rw [hexec (injBad_plain hs hk4 hv h8 h16 h24), State.injRun_plain hv, hregs', hid', hnow, ← hB, ← hC']
    refine ⟨fun hnil => ?_, fun hne hit left hhit hleft => ?_⟩
    · have hCB : C = B := by rw [hC', hnil]; rfl
      rw [hnil, hCB]
      exact congrArg _ (State.injEnd_rejects B q n k [] _ id _ hitBy_none)
    · have hmask := hitBy_regs regs hhit
      have hstand := C.leftOf_regs k regs hleft
      have hne0 := hitBy_ne_zero regs hne
      have hlen : (regs.length + b2n false == (seqSlots d).length) = decide (regs.length = all) := by
        rw [hall]
        rfl
      refine ⟨fun hl => ?_, fun hl => ?_⟩
      · rw [State.injEnd_waits _ q n k regs _ id _ hne0 (hstand.trans_ne hl), hmask, hstand, hlen]
      · rw [State.injEnd_ends _ q n k regs _ id _ hne0 (hstand.trans hl), hmask, hlen]
        simp only [decide_eq_true_iff]
  · have hrun := hexec (injBad_valid hs hk4 hv h16 h24)
    rw [hrun]
    refine ⟨fun hbad => congrArg _ (State.injRun_badWords hv hbad), fun hgood hbad => congrArg _ ?_, fun hgood hok hnil =>
      ⟨fun hf hnew => ?_, fun hno => congrArg _ ?_⟩⟩
    · exact State.injRun_clash hv hgood (hA ▸ hbad)
    · have hf' : ((A.slot k injSlot).trig.isNone && !A.slotBusy k injSlot) = true := hA ▸ (hfree injSlot).symm.trans hf
      rw [State.injRun_injects hv hgood (hA ▸ hok) (hregs'.trans hnil) hf' (hA ▸ hnew), hid', hnow, ← hB]
      have hlen : (([] : List (Fin 64)).length + b2n true == (seqSlots d).length + 1) = decide (all = 0) := by
        rw [hall, Bool.eq_iff_iff, beq_iff_eq, decide_eq_true_iff]
        exact Nat.succ_inj.trans eq_comm
      rw [State.injEnd_waits _ q n k [] _ id _ (by decide) (by rw [State.leftOf_injected]; decide), hlen, hitBy_injected, State.leftOf_injected, delayNs, Nat.mul_comm]
    · refine (State.injRun_busy hv hgood (hA ▸ hok) (hregs'.trans hnil) ?_).trans (by rw [hid', ← hB])
      rw [hA]
      exact hno.imp_left fun h => (hfree injSlot).symm.trans h
  · unfold State.injApply
    rw [h]

end Sys2Proof.Machine

/-!
Results and calibrations (R317, R324, R326, R331–R337, R342, R593): the events, and the settlement of O47.
-/
namespace Sys2Proof.Machine
open Sys2Proof

/-! ## A result enters its block (R324, R326, R334–R337) -/

/-- The flags of a block after a result that enters it without an overrange. -/
def stickyFlags (a : Acc) (w1 : Word64) (fl : Word16) : Word16 :=
  (a.flags ||| setIf (fl &&& fRecovery != 0) 2 ||| setIf (fl &&& fLate != 0) 4 ||| setIf (fl &&& fTb != 0) 16) &&&
    ~~~(0x300 : Word16) ||| BitVec.ofNat 16 (s1Range w1 * 256)

/-- The sum of a block after a result (R334). -/
def accSum (a : Acc) (w1 : Word64) (v : Int) : Acc :=
  if !s1Acc w1 || bit a.flags 5 then a
  else if (satS 48 (a.sum + v)).2 || a.count == 0xFFFFFFFF then { a with flags := a.flags ||| 32 }
  else { a with sum := a.sum + v, count := a.count + 1 }

/-- The extremes of a block after a result (R336). -/
def accRange (a : Acc) (w1 : Word64) (v : Int) : Acc :=
  if !s1Mm w1 then a
  else if bit a.flags 6 then { a with min := min a.min v, max := max a.max v }
  else { a with min := v, max := v, flags := a.flags ||| 64 }

theorem enterAcc_plain (a : Acc) (w1 : Word64) (v : Int) (stamp : Nat) (fl : Word16) (hovr : fl &&& fOvr = 0)
    (hrec : s1Recx w1 = false ∨ fl &&& fRecovery = 0) :
    enterAcc a w1 v stamp fl = accRange (accSum { a with last := stamp, flags := stickyFlags a w1 fl } w1 v) w1 v := by
  have hout : (s1Recx w1 && fl &&& fRecovery != 0) = false := by
    rw [Bool.and_eq_false_iff, bne_eq_false_iff_eq]
    exact hrec
  have h0 : (fl &&& fOvr != 0) = false := bne_eq_false_iff_eq.mpr hovr
  have hflags : a.flags ||| setIf false 1 = a.flags := BitVec.or_zero
  unfold enterAcc stickyFlags
  dsimp only
  rw [hout, h0, hflags, if_neg Bool.false_ne_true, Bool.not_false, Bool.and_true]
  rfl

section
variable (a : Acc) (w1 : Word64) (v : Int)

theorem accSum_off (h : s1Acc w1 = false) : accSum a w1 v = a := if_pos (by rw [h]; rfl)

theorem accSum_room (h : s1Acc w1 = true) (hsat : bit a.flags 5 = false) (hlo : -2 ^ 47 ≤ a.sum + v) (hhi : a.sum + v < 2 ^ 47)
    (hcount : a.count ≠ 0xFFFFFFFF) : accSum a w1 v = { a with sum := a.sum + v, count := a.count + 1 } := by
  have hfits : (satS 48 (a.sum + v)).2 = false := by
    unfold satS
    rw [if_neg (not_lt.mpr hlo), if_neg (not_le.mpr hhi)]
  refine (if_neg (by rw [h, hsat]; exact Bool.false_ne_true)).trans (if_neg ?_)
  rw [hfits, beq_eq_false_iff_ne.mpr hcount]
  exact Bool.false_ne_true

theorem accRange_off (h : s1Mm w1 = false) : accRange a w1 v = a := if_pos (by rw [h]; rfl)

theorem accRange_on (h : s1Mm w1 = true) : accRange a w1 v =
    if bit a.flags 6 then { a with min := min a.min v, max := max a.max v } else { a with min := v, max := v, flags := a.flags ||| 64 } :=
  if_neg (by rw [h]; exact Bool.false_ne_true)

end

/-! ## Results (R317, R342, R593) -/

/-- The oldest burst of its kind whose codes have all come back (R317). -/
def State.readyBurst (s : State) (q : QuadId) (injected : Bool) : Option Burst :=
  s.meas[q].wait.find? fun b => (b.slot == injSlot) == injected && !b.lost && b.convs.all fun c => c.code.isSome

section
variable {dt : Nat} {s S : State} {q : QuadId} (hS : S = s.elapse dt) (hup : S.up = true)
include hS hup

theorem conversionResult_none {injected : Bool} (h : S.readyBurst q injected = none) :
    exec (.conversionResult dt q injected) s = .next S := by
  unfold State.readyBurst at h
  subst hS
  refine next_of_when rfl hup ?_
  dsimp only
  rw [h]

theorem conversionResult_exec {injected : Bool} {b : Burst} {T U : State} {v : Int} {stamp : Nat} {fl : Word16}
    (h : S.readyBurst q injected = some b) (hr : (v, stamp, fl) = b.result)
    (hT : T = S.modMeas q (fun m => { m with wait := m.wait.filter fun x => x.id != b.id }))
    (hU : U = (if S.allowed 10 0x12 2 then T.modSlot q b.slot fun x => { x with acc := enterAcc x.acc b.w1 v stamp fl }
      else T.deny 10 0x12 2)) :
    exec (.conversionResult dt q injected) s = .next
      ((if s1Chains b.w1 then U.feed q b.slot (chainValue b.w1 v) stamp fl else U).injectDone q b.slot b.tag) := by
  unfold State.readyBurst at h
  subst hS hT hU
  refine next_of_when rfl hup ?_
  dsimp only
  rw [h]
  dsimp only
  rw [← hr]
  rfl

/-! ## Calibrations (R330–R333) -/

theorem calibrationStart_exec {o : Op} {rest : List QuadId} {f : BitVec 16} (hop : S.calOp = some (o, q :: rest, f))
    (hcal : S.meas[q].cal = false) (hburst : S.meas[q].burst = none) (hinj : S.meas[q].inj = none) (hnew : S.meas[q].injNew = none)
    (htrig : (S.slot q injSlot).trig = none) (hbusy : S.meas[q].busyUntil ≤ S.now) : exec (.calibrationStart dt q) s =
      .next (S.modMeas q fun m => { m with cal := true, calSaved := m.tdac, tdacHeld := none }) := by
  subst hS
  refine next_of_when rfl ?_ rfl
  unfold State.slot at htrig
  rw [hup, hop, hcal, hburst, hinj, hnew, htrig, decide_eq_true hbusy]
  simp

end

section
variable (s : State) (q : QuadId)

theorem State.foldl_modChan_ops (f : ChanId → Chan → Chan) (l : List ChanId) :
    (l.foldl (fun s c => s.modChan c (f c)) s).ops = s.ops := by
  induction l generalizing s with
  | nil => rfl
  | cons a l ih => exact ih (s.modChan a (f a))

theorem State.newThermal_ops : (s.newThermal q).ops = s.ops := by
  unfold State.newThermal
  dsimp only
  rw [State.useFresh_ops, State.modQuad_ops]
  exact s.foldl_modChan_ops _ _

end

section
variable {T : State} {q : QuadId} {o : Op} {todo : List QuadId} {f failed' : BitVec 16} {failed : BitVec 4}
  (hop : T.calOp = some (o, todo, f)) (hf : failed' = f ||| (failed.setWidth 16 <<< (4 * q.val)))
include hop hf

theorem State.calNext_more (hmore : ∃ k ∈ todo, k ≠ q) : T.calNext q failed =
    { T with ops := T.ops.map fun x => if x == o then { o with kind := .cal (todo.filter fun k => k != q) failed' } else x } := by
  unfold State.calNext
  rw [hop, hf]
  refine if_pos ?_
  obtain ⟨k, hk, hne⟩ := hmore
  rw [Bool.not_eq_true', List.isEmpty_eq_false_iff_exists_mem]
  exact ⟨k, List.mem_filter.mpr ⟨hk, bne_iff_ne.mpr hne⟩⟩

theorem State.calNext_last (hlast : ∀ k ∈ todo, k = q) : T.calNext q failed =
    if o.live then ({ T with ops := T.ops.filter fun x => x != o } : State).configDone o.q o.n
      (if failed' = 0 then .done else .partialDone) 0 T.now (failed'.setWidth 128) false
    else { T with ops := T.ops.filter fun x => x != o } := by
  unfold State.calNext
  rw [hop, hf]
  have hempty : (todo.filter fun k => k != q) = [] :=
    List.filter_eq_nil_iff.mpr fun k hk => by rw [hlast k hk, bne_self_eq_false]; exact Bool.false_ne_true
  dsimp only
  rw [hempty]
  refine (if_neg Bool.false_ne_true).trans ?_
  simp only [beq_iff_eq]
  rfl

end

/-- A calibration's end at its quadrant, before its command goes on (R331–R333). -/
def State.calEnded (S : State) (q : QuadId) (found : Vector Coef 4) (pass : Fin 4 → Bool) : State :=
  (S.modMeas q fun m => { m with
    cal := false, tdac := m.tdacHeld.getD m.calSaved, tdacHeld := none, tdacAt := S.now,
    coef := Vector.ofFn fun i => if pass i then found[i] else m.coef[i],
    slots := m.slots.map fun x => { x with held := match x.trig with | some r => decide (r ≤ S.now) | none => false } }).newThermal q

theorem calibrationEnd_exec {dt : Nat} {s S : State} {q : QuadId} {found : Vector Coef 4} {pass : Fin 4 → Bool} {failed : BitVec 4}
    (hS : S = s.elapse dt) (hup : S.up = true) (hcal : S.meas[q].cal = true) (hpass : ∀ i : Fin 4, pass i = coefPasses found[i])
    (hfailed : ∀ i : Fin 4, bit failed i.val = !pass i) :
    exec (.calibrationEnd dt q found) s = .next ((S.calEnded q found pass).calNext q failed) := by
  have hmask : maskOf 4 (fun i => match found.toList[i]? with | some c => !coefPasses c | none => false) = failed :=
    maskOf_eq fun i hi => by
      rw [hfailed ⟨i, hi⟩, hpass]
      simp [hi]
  obtain rfl : pass = fun i => coefPasses found[i] := funext hpass
  subst hS
  refine next_of_when rfl ?_ ?_
  · rw [hup, hcal]
    rfl
  · exact congrArg (State.calNext _ q) hmask

/-- Settles O47: each event, by what it finds. -/
theorem resultsAndCalibrations : Obligations.ResultsAndCalibrations := by
  intro dt s S q hS hup
  refine ⟨fun injected b T U v stamp fl h hr hT hU => conversionResult_exec hS hup h hr hT hU,
    fun injected h => conversionResult_none hS hup h,
    fun o rest f hop hcal hburst hinj hnew htrig hbusy => calibrationStart_exec hS hup hop hcal hburst hinj hnew htrig hbusy,
    fun o todo f failed' failed found pass T hpass hfailed hcal hop hf hT => ?_,
    fun a w1 v stamp fl stick hovr hrec hstick => ?_⟩
  · have hpass' (i : Fin 4) : pass i = coefPasses found[i] := by
      rw [Bool.eq_iff_iff, hpass, coefPasses]
      simp [and_assoc]
    replace hT : T = S.calEnded q found pass := hT
    have hexec := calibrationEnd_exec hS hup hcal hpass' hfailed
    rw [← hT] at hexec
    obtain ⟨hops, hnow⟩ : T.ops = S.ops ∧ T.now = S.now := by
      rw [hT]
      exact ⟨State.newThermal_ops _ q, now_of_keep (State.newThermal_keep _ q)⟩
    have hop' : T.calOp = some (o, todo, f) := by
      unfold State.calOp at hop ⊢
      rw [hops]
      exact hop
    rw [hexec, ← hops, ← hnow]
    refine ⟨fun hmore => congrArg _ (State.calNext_more hop' hf hmore), fun hlast hlive => ?_, fun hlast hlive => ?_⟩
    · rw [State.calNext_last hop' hf hlast, hlive]
      rfl
    · rw [State.calNext_last hop' hf hlast, hlive]
      rfl
  · replace hstick : stick = stickyFlags a w1 fl := hstick
    rw [enterAcc_plain a w1 v stamp fl hovr hrec, ← hstick]
    refine ⟨fun hacc hmm hsat hlo hhi hcount => ?_, fun hacc hmm hset => ?_, fun hacc hmm hset => ?_, fun hacc hmm => ?_⟩
    · rw [accSum_room { a with last := stamp, flags := stick } w1 v hacc hsat hlo hhi hcount, accRange_off _ w1 v hmm]
    · rw [accSum_off _ w1 v hacc, accRange_on _ w1 v hmm]
      exact if_pos hset
    · rw [accSum_off _ w1 v hacc, accRange_on _ w1 v hmm]
      exact if_neg (Bool.eq_false_iff.mp hset)
    · rw [accSum_off _ w1 v hacc, accRange_off _ w1 v hmm]

end Sys2Proof.Machine

/-!
FILTER_CONFIG, COEF_LOAD, COEF_SWAP, SYNC, a SYNC_IN edge and the batch time-out (R350–R352, R360–R367, R374–R379, R470): the rows, and
the settlement of O48.
-/
namespace Sys2Proof.Machine
open Sys2Proof

theorem dChain_eq {d : Desc} {k : ChainId} (h : k.val = dNum d 4 1) : dChain d = k :=
  Fin.ext ((congrArg (· % 16) h.symm).trans (Nat.mod_eq_of_lt k.isLt))

/-! ## FILTER_CONFIG (R350–R352, R362) -/

/-- The checks of FILTER_CONFIG but for what every descriptor is held to (R350). -/
def filterChecks (d : Desc) : List (Bool × Nat) :=
  let c0 := d64 d 8
  let c1 := d64 d 16
  let c2 := d64 d 24
  [(15 < dNum d 4 1, 4), (fld c0 50 14 != 0 || cN c0 == 0 || 6 ≤ cN c0 || 64 < cSsrc c0, 8),
   (2 ≤ fld c1 62 2 || fld c1 48 7 != 0 || (if oAngle c1 then fld c1 12 36 != 0 else oRatio c1 < 2 ^ 24), 16),
   (fld c2 21 43 != 0 || 2000000 < cFsmax c2 || (cEnable c0 && cFsmax c2 == 0), 24)]

/-- The ranges of the words of FILTER_CONFIG (R350). -/
structure FilterWords (c0 c1 c2 : Word64) : Prop where
  spare0 : fld c0 50 14 = 0
  stages : 1 ≤ cN c0 ∧ cN c0 ≤ 5
  source : cSsrc c0 ≤ 64
  sync : fld c1 62 2 ≤ 1
  spare1 : fld c1 48 7 = 0
  angle : oAngle c1 = true → fld c1 12 36 = 0
  ratio : oAngle c1 = false → 2 ^ 24 ≤ oRatio c1
  spare2 : fld c2 21 43 = 0
  rate : cFsmax c2 ≤ 2000000
  some_rate : cEnable c0 = true → cFsmax c2 ≠ 0

theorem filterBad_none {d : Desc} {p : Bool} (hs : shaped d 0x40 p false [(4, 1), (8, 24)] = true) (hk : dNum d 4 1 < 16)
    (h : FilterWords (d64 d 8) (d64 d 16) (d64 d 24)) : filterBad d p = none := by
  refine firstBad_of_shaped (checks := filterChecks d) hs ?_
  simp only [filterChecks, List.mem_cons, List.not_mem_nil, or_false, forall_eq_or_imp, forall_eq]
  obtain ⟨h0, ⟨hlo, hhi⟩, hsrc, hsync, h1, hang, hrat, h2, hrate, hsome⟩ := h
  refine ⟨decide_eq_false (by omega), ?_, ?_, ?_⟩
  · rw [h0, beq_eq_false_iff_ne.mpr (by omega), decide_eq_false (by omega), decide_eq_false (by omega)]
    rfl
  · rw [h1, decide_eq_false (by omega)]
    cases ha : oAngle (d64 d 16) with
    | true =>
      rw [hang ha]
      rfl
    | false => exact decide_eq_false (Nat.not_lt.mpr (hrat ha))
  · rw [h2, decide_eq_false (by omega)]
    cases he : cEnable (d64 d 8) with
    | true => exact beq_eq_false_iff_ne.mpr (hsome he)
    | false => rfl

/-- What FILTER_CONFIG rejects at chain k with REJ_STATE (R350). -/
def Chain.keepsOut (c : Chain) (c0 c1 c2 : Word64) : Bool :=
  ((c.st == .running || c.st == .suspended) && !softChange c c0 c1 c2) || c.st == .draining ||
    (cEnable c0 && !cUser c0 && !symmetric ((if c.bankB then c.coefB else c.coefA).take (cT c0)))

theorem filterConfig_exec {dt : Nat} {q : QueueId} {n : Word32} {d : Desc} {s S T : State} {k : ChainId} (hS : S = s.elapse dt)
    (hT : T = S.started q n) (hr : S.ioRuns q n d = true)
    (hs : shaped d 0x40 (S.queue q).profile.isSome false [(4, 1), (8, 24)] = true) (hp : S.permits (S.queue q).hctx.val [(0x11, 4)] = true)
    (hk : k.val = dNum d 4 1) (hw : FilterWords (d64 d 8) (d64 d 16) (d64 d 24)) : exec (.filterConfig dt q n) s = .next (
      if T.chains[k].keepsOut (d64 d 8) (d64 d 16) (d64 d 24) then T.finish q n .rejState 0
      else if cEnable (d64 d 8) && macFull < T.demandBut (some k) [.running, .suspended] +
        chainDemand (d64 d 8) (d64 d 24) (T.chains[k].fade.isSome || T.chains[k].pend.isSome) then T.finish q n .rejCapacity 0
      else (T.filterApply k (d64 d 8) (d64 d 16) (d64 d 24)).configDone q n .done 0 T.now 0) := by
  obtain rfl := dChain_eq hk
  subst hS hT
  exact congrArg _ ((State.io_runs _ q n d _ _ _ _ hr (isOp_of_shaped hs) hp (filterBad_none hs (hk ▸ Fin.isLt _) hw)).trans rfl)

section
variable (c : Chain) (c0 c1 c2 : Word64) (busy soft asym : Prop) (hbusy : busy ↔ c.st = .running ∨ c.st = .suspended)
  (hsoft : soft ↔ putFld c0 0 1 0 = putFld c.c0 0 1 0 ∧ putFld c1 55 7 0 = putFld c.c1 55 7 0 ∧ c2 = c.c2)
  (hasym : asym ↔ cEnable c0 = true ∧ cUser c0 = false ∧ symmetric ((if c.bankB then c.coefB else c.coefA).take (cT c0)) = false)
include hbusy hsoft hasym

theorem Chain.keepsOut_iff : c.keepsOut c0 c1 c2 = true ↔ (busy ∧ ¬soft) ∨ c.st = .draining ∨ asym := by
  rw [hbusy, hsoft, hasym, Chain.keepsOut, softChange]
  simp only [Bool.or_eq_true, Bool.and_eq_true, Bool.not_eq_true', beq_iff_eq, or_assoc, and_assoc, Bool.and_eq_false_iff,
    beq_eq_false_iff_ne, not_and_or, ne_eq]

end

section
variable (T : State) (k : ChainId) (c0 c1 c2 : Word64)

/-- A change of BATCH ends the batch of a running chain (R351). -/
def State.batchEnded (T : State) (k : ChainId) (c1 : Word64) : State :=
  if T.chains[k].st == .running && oBatch T.chains[k].c1 != oBatch c1 then T.closeBatch k 0 else T

theorem State.batchEnded_eq {B : State}
    (hB : B = if T.chains[k].st = .running ∧ oBatch T.chains[k].c1 ≠ oBatch c1 then T.closeBatch k 0 else T) :
    T.batchEnded k c1 = B := by
  rw [hB]
  exact if_congr (by rw [Bool.and_eq_true, beq_iff_eq, bne_iff_ne]) rfl rfl

theorem State.batchEnded_still (h : T.chains[k].st ≠ .running) : T.batchEnded k c1 = T :=
  if_neg (by rw [beq_eq_false_iff_ne.mpr h]; exact Bool.false_ne_true)

/-- The words of a FILTER_CONFIG (R350). -/
def Chain.put (x : Chain) (c0 c1 c2 : Word64) : Chain := { x with c0 := c0, c1 := c1, c2 := c2 }

theorem State.filterApply_stops (hen : cEnable c0 = false) (hst : T.chains[k].st = .running) : T.filterApply k c0 c1 c2 =
    ((T.batchEnded k c1).chainStop k .quiesced 0x10).modChain k fun x => x.put c0 c1 c2 := by
  unfold State.filterApply
  dsimp only
  rw [hen, hst]
  unfold State.batchEnded
  rw [hst]
  rfl

theorem State.filterApply_off (hen : cEnable c0 = false) (hst : T.chains[k].st ≠ .running) : T.filterApply k c0 c1 c2 =
    (T.modChain k fun x => { x with st := .quiesced }).modChain k fun x => x.put c0 c1 c2 := by
  have hstill := T.batchEnded_still k c1 hst
  unfold State.batchEnded at hstill
  unfold State.filterApply
  dsimp only
  rw [hen, hstill, beq_eq_false_iff_ne.mpr hst]
  rfl

theorem State.filterApply_on (hen : cEnable c0 = true) (hst : T.chains[k].st ≠ .quiesced) : T.filterApply k c0 c1 c2 =
    (T.batchEnded k c1).modChain k fun x => x.put c0 c1 c2 := by
  unfold State.filterApply
  dsimp only
  rw [hen, bne_iff_ne.mpr hst]
  rfl

/-- A chain that FILTER_CONFIG switches on, P being the state with its words (R351, R362). -/
theorem State.filterApply_starts (hen : cEnable c0 = true) (hst : T.chains[k].st = .quiesced) {P : State}
    (hP : P = T.modChain k fun x => x.put c0 c1 c2) : T.filterApply k c0 c1 c2 =
      if P.throttled && macHalf < P.demandBut (some k) [.running] + chainDemand c0 c2 false then
        (P.modChain k fun x => { x.cleared P.now false with st := .suspended, batch := [] }).chainRecord k 0x04 P.now
          (revWord P.thetaNow) 0 []
      else P.chainStart k (P.dspTick P.now) 0 := by
  subst hP
  unfold State.filterApply
  dsimp only
  rw [hen, hst]
  rfl

end

/-! ## COEF_LOAD and COEF_SWAP (R363–R367) -/

/-- The checks of COEF_LOAD and COEF_SWAP but for what every descriptor is held to. -/
def coefChecks (d : Desc) : List (Bool × Nat) :=
  [(15 < dNum d 4 1, 4), (1 < dNum d 5 1, 5), (dNum d 6 2 < 1 || 256 < dNum d 6 2, 6)]

theorem coefChecks_good {d : Desc} (hk : dNum d 4 1 < 16) (hb : dNum d 5 1 ≤ 1) (hlo : 1 ≤ dNum d 6 2) (hhi : dNum d 6 2 ≤ 256) :
    ∀ x ∈ coefChecks d, x.1 = false := by
  simp only [coefChecks, List.mem_cons, List.not_mem_nil, or_false, forall_eq_or_imp, forall_eq]
  exact ⟨decide_eq_false (by omega), decide_eq_false (by omega),
    Bool.or_eq_false_iff.mpr ⟨decide_eq_false (by omega), decide_eq_false (by omega)⟩⟩

theorem dBankB_eq {d : Desc} {b : Bool} (h : dNum d 5 1 = b2n b) : dBankB d = b := by
  rw [dBankB, h]
  cases b <;> rfl

theorem b2n_le (b : Bool) : b2n b ≤ 1 := by cases b <;> decide

section
variable {dt : Nat} {q : QueueId} {n : Word32} {d : Desc} {s S T : State} {k : ChainId} {b : Bool} (hS : S = s.elapse dt)
  (hT : T = S.started q n) (hr : S.ioRuns q n d = true) (hk : k.val = dNum d 4 1) (hb : dNum d 5 1 = b2n b)
  (hlo : 1 ≤ dNum d 6 2) (hhi : dNum d 6 2 ≤ 256)
include hS hT hr hk hb hlo hhi

theorem coefLoad_exec (hs : shaped d 0x41 (S.queue q).profile.isSome false [(4, 4), (8, 8)] = true)
    (hp : S.permits (S.queue q).hctx.val [(0x11, 2)] = true) : exec (.coefLoad dt q n) s = .next (
      if T.chains[k].bankBusy b then T.finish q n .rejState 0
      else (T.addOp q n .data).emit (.dataRead (d64 d 8) (4 * dNum d 6 2))) := by
  have hbad : coefBad d (S.queue q).profile.isSome = none :=
    firstBad_of_shaped hs (coefChecks_good (hk ▸ k.isLt) (hb ▸ b2n_le b) hlo hhi)
  obtain rfl := dChain_eq hk
  obtain rfl := dBankB_eq hb
  subst hS hT
  exact congrArg _ ((State.io_runs _ q n d _ _ _ _ hr (isOp_of_shaped hs) hp hbad).trans rfl)

theorem coefSwap_exec (hs : shaped d 0x42 (S.queue q).profile.isSome false [(4, 4)] = true)
    (hp : S.permits (S.queue q).hctx.val [(0x11, 4)] = true) {f : Fade} (hf : f = { toB := b, k := dNum d 6 2, j := 0, who := some (q, n) }) :
    exec (.coefSwap dt q n) s = .next (if T.copyWaits 0x50000 0x8000 then T.addOp q n (.fadeWait k f) else T.coefSwapRun k f) := by
  have hbad : coefSwapBad d (S.queue q).profile.isSome = none :=
    firstBad_of_shaped hs (coefChecks_good (hk ▸ k.isLt) (hb ▸ b2n_le b) hlo hhi)
  obtain rfl := dChain_eq hk
  obtain rfl := dBankB_eq hb
  subst hS hT hf
  exact congrArg _ ((State.io_runs _ q n d _ _ _ _ hr (isOp_of_shaped hs) hp hbad).trans rfl)

end

theorem Chain.bankBusy_iff (c : Chain) (b : Bool) :
    c.bankBusy b = true ↔ c.bankB = b ∨ c.fade ≠ none ∨ ∃ x, c.pend = some x ∧ x.toB = b := by
  unfold Chain.bankBusy
  rw [Bool.or_eq_true, Bool.or_eq_true, beq_iff_eq, Option.isSome_iff_ne_none, or_assoc]
  cases c.pend <;> simp

/-- A swap during a fade waits, in the place of the one that waited (R366). -/
def State.coefSwapPends (T : State) (k : ChainId) (f : Fade) : State :=
  let s := T.modChain k fun c => { c with pend := some f, swapCollide := c.swapCollide + b2n T.chains[k].pend.isSome }
  match T.chains[k].pend with
  | some p => s.configWho p.who .done 1 0
  | none => s

section
variable (T : State) (k : ChainId) (f : Fade) (q : QueueId) (n : Word32)

section
variable (hwho : f.who = some (q, n))
include hwho

theorem State.coefSwapRun_unsymmetric (h : cUser T.chains[k].c0 = false ∧ symmetric (T.chains[k].coefs f.toB) = false) :
    T.coefSwapRun k f = T.complete q n .rejState 0 T.now 0 := by
  unfold State.coefSwapRun
  dsimp only
  rw [h.1, h.2, hwho]
  rfl

section
variable (hok : cUser T.chains[k].c0 = true ∨ symmetric (T.chains[k].coefs f.toB) = true)
include hok

omit hwho in
/-- A swap whose coefficients the chain takes (R364). -/
theorem State.coefSwapRun_taken : T.coefSwapRun k f =
    if T.chains[k].fade.isNone && T.chains[k].bankB == f.toB then T.configWho f.who .done 0 0
    else if T.chains[k].st != .running then (T.modChain k fun c => { c with bankB := f.toB }).configWho f.who .done 0 0
    else if macFull < T.demandBut (some k) [.running, .suspended] + chainDemand T.chains[k].c0 T.chains[k].c2 true then
      T.completeWho f.who .rejCapacity 0 T.now 0
    else if T.chains[k].fade.isNone then (T.modChain k fun c => { c with fade := some f }).refit
    else T.coefSwapPends k f := by
  have hneg : ¬(!cUser T.chains[k].c0 && !symmetric (T.chains[k].coefs f.toB)) = true := by
    rw [Bool.and_eq_true, Bool.not_eq_true', Bool.not_eq_true']
    rintro ⟨h, h'⟩
    exact hok.elim (fun h1 => Bool.false_ne_true (h.symm.trans h1)) fun h1 => Bool.false_ne_true (h'.symm.trans h1)
  exact (if_neg hneg).trans rfl

variable (hrun : T.chains[k].fade ≠ none ∨ T.chains[k].bankB ≠ f.toB)
include hrun

omit hwho in
theorem State.coefSwapRun_changes : T.coefSwapRun k f =
    if T.chains[k].st != .running then (T.modChain k fun c => { c with bankB := f.toB }).configWho f.who .done 0 0
    else if macFull < T.demandBut (some k) [.running, .suspended] + chainDemand T.chains[k].c0 T.chains[k].c2 true then
      T.completeWho f.who .rejCapacity 0 T.now 0
    else if T.chains[k].fade.isNone then (T.modChain k fun c => { c with fade := some f }).refit
    else T.coefSwapPends k f := by
  refine (T.coefSwapRun_taken k f hok).trans (if_neg ?_)
  rw [Bool.and_eq_true, Option.isNone_iff_eq_none, beq_iff_eq]
  rintro ⟨h, h'⟩
  exact hrun.elim (fun h1 => h1 h) fun h1 => h1 h'

theorem State.coefSwapRun_still (hst : T.chains[k].st ≠ .running) : T.coefSwapRun k f =
    (T.modChain k fun c => { c with bankB := f.toB }).configDone q n .done 0 T.now 0 := by
  rw [T.coefSwapRun_changes k f hok hrun, if_pos (bne_iff_ne.mpr hst), hwho]
  rfl

variable (hst : T.chains[k].st = .running)
include hst

theorem State.coefSwapRun_full
    (hfull : 3200000000 < T.demandBut (some k) [.running, .suspended] + chainDemand T.chains[k].c0 T.chains[k].c2 true) :
    T.coefSwapRun k f = T.complete q n .rejCapacity 0 T.now 0 := by
  rw [T.coefSwapRun_changes k f hok hrun, if_neg (by rw [hst]; decide), macFull, if_pos hfull, hwho]
  rfl

omit hwho in
theorem State.coefSwapRun_runs
    (hfit : T.demandBut (some k) [.running, .suspended] + chainDemand T.chains[k].c0 T.chains[k].c2 true ≤ 3200000000) :
    T.coefSwapRun k f = if T.chains[k].fade.isNone then (T.modChain k fun c => { c with fade := some f }).refit
      else T.coefSwapPends k f := by
  rw [T.coefSwapRun_changes k f hok hrun, if_neg (by rw [hst]; decide), macFull, if_neg (not_lt.mpr hfit)]

end
end

theorem State.coefSwapPends_free (h : T.chains[k].pend = none) :
    T.coefSwapPends k f = T.modChain k fun x => { x with pend := some f } := by
  unfold State.coefSwapPends
  rw [h]
  rfl

theorem State.coefSwapPends_collides {x : Fade} {i : QueueId} {j : Word32} (h : T.chains[k].pend = some x) (hx : x.who = some (i, j)) :
    T.coefSwapPends k f = (T.modChain k fun x => { x with pend := some f, swapCollide := x.swapCollide + 1 }).configDone i j .done 1
      T.now 0 := by
  unfold State.coefSwapPends
  rw [h]
  dsimp only
  rw [hx]
  rfl

end

/-! ## SYNC and its input (R374–R376) -/

/-- A reset less than 1,000 ticks from the last one merges with it (R374). -/
def State.merges (s : State) (r : Nat) : Bool :=
  match s.syncTick with | some t => decide (r < t + 1000 ∧ t < r + 1000) | none => false

/-- Every chain resets at tick r (R375, R376). -/
def State.syncNew (s : State) (r : Nat) (out : Bool) : State :=
  (List.finRange 16).foldl (fun s k => s.chainReset k r false)
    { s with syncTick := some (max r (s.syncTick.getD 0)), syncOut := if out then r + 1000 else s.syncOut }

theorem State.syncAll_eq (s : State) (r : Nat) (fromPin : Bool) : s.syncAll r fromPin =
    if s.merges r then { s with syncMerged := s.syncMerged + 1 }
    else s.syncNew r (fld s.syncw 2 2 == 2 || (fld s.syncw 2 2 == 1 && !fromPin)) := by
  have hput (b : Bool) (t : State) : (if b then { t with syncOut := r + 1000 } else t) =
      { t with syncOut := if b then r + 1000 else t.syncOut } := by cases b <;> rfl
  exact if_congr Iff.rfl rfl (congrArg (fun t => (List.finRange 16).foldl (fun s k => s.chainReset k r false) t) (hput _ _))

theorem State.merges_of (s : State) (r r0 : Nat) (h : s.syncTick = some r0) (hlo : r < r0 + 1000) (hhi : r0 < r + 1000) :
    s.merges r = true := by
  unfold State.merges
  rw [h]
  exact decide_eq_true ⟨hlo, hhi⟩

theorem State.not_merges (s : State) (r : Nat) (h : ∀ r0, s.syncTick = some r0 → r0 + 1000 ≤ r ∨ r + 1000 ≤ r0) : s.merges r = false := by
  unfold State.merges
  split
  · next t ht =>
    have := h t ht
    exact decide_eq_false (by omega)
  · rfl

/-- SYNC drives SYNC_OUT in modes 1 and 2 (R375). -/
theorem State.syncAll_command (s U : State) (r : Nat)
    (hmerge : (∃ r0, s.syncTick = some r0 ∧ r < r0 + 1000 ∧ r0 < r + 1000) → U = { s with syncMerged := s.syncMerged + 1 })
    (hnew : (∀ r0, s.syncTick = some r0 → r0 + 1000 ≤ r ∨ r + 1000 ≤ r0) → U = (List.finRange 16).foldl (fun s k => s.chainReset k r false)
      { s with syncTick := some (max r (s.syncTick.getD 0)),
               syncOut := if fld s.syncw 2 2 = 2 ∨ fld s.syncw 2 2 = 1 then r + 1000 else s.syncOut }) : s.syncAll r false = U := by
  rw [State.syncAll_eq]
  by_cases h : ∃ r0, s.syncTick = some r0 ∧ r < r0 + 1000 ∧ r0 < r + 1000
  · obtain ⟨r0, ht, hlo, hhi⟩ := h
    rw [if_pos (s.merges_of r r0 ht hlo hhi), hmerge ⟨r0, ht, hlo, hhi⟩]
  · have hfar (r0 : Nat) (ht : s.syncTick = some r0) : r0 + 1000 ≤ r ∨ r + 1000 ≤ r0 := by
      by_contra hc
      exact h ⟨r0, ht, by omega, by omega⟩
    rw [if_neg (by rw [s.not_merges r hfar]; exact Bool.false_ne_true), hnew hfar]
    unfold State.syncNew
    simp only [Bool.not_false, Bool.and_true, Bool.or_eq_true, beq_iff_eq]

theorem sync_exec {dt : Nat} {q : QueueId} {n : Word32} {d : Desc} {s S T U : State} (hS : S = s.elapse dt) (hT : T = S.started q n)
    (hr : S.ioRuns q n d = true) (hs : shaped d 0x43 (S.queue q).profile.isSome false [] = true)
    (hp : S.permits (S.queue q).hctx.val [(0x11, 4)] = true) (hU : T.syncAll (T.dspTick (T.now + 1600)) false = U) :
    exec (.sync dt q n) s = .next (U.complete q n .done 0 (U.syncTick.getD U.now) 0) := by
  subst hS hT hU
  exact congrArg _ (State.io_runs _ q n d _ _ _ _ hr (isOp_of_shaped hs) hp
    (firstBad_of_shaped hs fun x hx => absurd hx List.not_mem_nil))

section
variable {dt : Nat} {s S : State} (hS : S = s.elapse dt) (hup : S.up = true)
include hS hup

theorem syncInEdge_exec {rising : Bool} : exec (.syncInEdge dt rising) s = .next (
    if fld S.syncw 0 2 = (if rising then 1 else 2) then S.syncAll (S.dspTick S.now) true else S) := by
  have hrun : exec (.syncInEdge dt rising) s = .next (S.when (S.up && fld S.syncw 0 2 == (if rising then 1 else 2))
      fun s => s.syncAll (s.dspTick s.now) true) := by
    subst hS
    rfl
  rw [hrun, hup, Bool.true_and]
  exact congrArg _ (if_congr beq_iff_eq rfl rfl)

theorem filterBatchTimeout_exec {k : ChainId} {o : FOut} {l : List FOut} (h : S.chains[k].batch = o :: l) :
    exec (.filterBatchTimeout dt k) s = .next (if S.chains[k].batchAt + 1000000 ≤ S.now then S.closeBatch k 0 else S) := by
  have hrun : exec (.filterBatchTimeout dt k) s = .next (S.when (S.up && !S.chains[k].batch.isEmpty &&
      S.chains[k].batchAt + 1000000 ≤ S.now) fun s => s.closeBatch k 0) := by
    subst hS
    rfl
  rw [hrun, hup, h, List.isEmpty_cons, Bool.not_false, Bool.and_true, Bool.true_and]
  exact congrArg _ (if_congr decide_eq_true_iff rfl rfl)

end

theorem State.closeBatch_held (S : State) (k : ChainId) {o : FOut} {l : List FOut} (h : S.chains[k].batch = o :: l) :
    S.closeBatch k 0 = (S.modChain k fun x => { x with batch := [] }).chainRecord k 0 o.stamp
      (if bit o.flags 9 then revWord (S.ang.thetaHat o.stamp) else o.rev) 0 (o :: l) := by
  unfold State.closeBatch
  dsimp only
  rw [h]
  rfl

/-- Settles O48: each row, by what it finds. -/
theorem filterCommands : Obligations.FilterCommands := by
  intro dt q n d s S T p m hS hT
  refine ⟨fun hr hpf hm => ?_, fun hup => ⟨fun rising hdir r hr => ?_, fun rising hdir => ?_, fun k o l h => ?_⟩⟩
  · subst hpf hm
    refine ⟨fun k c c0 c1 c2 busy soft asym put hk hc hc0 hc1 hc2 hbusy hsoft hasym hput hs hp h0 hlo hhi hsrc hsync h1 hang hrat h2 hrate
      hsome => ?_, fun k c b hk hc hb hlo hhi => ⟨fun hs hp => ?_, fun hs hp f hf => ?_⟩, fun hs hp r U hr' hmerge hnew => ?_⟩
    · obtain rfl : put = fun x => x.put c0 c1 c2 := funext hput
      subst hc hc0 hc1 hc2
      have hrun := filterConfig_exec hS hT hr hs hp hk ⟨h0, ⟨hlo, hhi⟩, hsrc, hsync, h1, hang, hrat, h2, hrate, hsome⟩
      have hkeep := T.chains[k].keepsOut_iff _ _ _ busy soft asym hbusy hsoft hasym
      refine ⟨fun hrej => ?_, fun hbs hdr has => ?_⟩
      · rw [hrun, if_pos (hkeep.mpr hrej)]
      · have hgo : ¬T.chains[k].keepsOut (d64 d 8) (d64 d 16) (d64 d 24) = true := by
          rw [hkeep]
          rintro (⟨hb, hns⟩ | h | h)
          · exact hns (hbs hb)
          · exact hdr h
          · exact has h
        rw [hrun, if_neg hgo]
        refine ⟨fun hen hfull => ?_, fun hfit A B hB hA1 hA2 hA3 hA4 => ?_⟩
        · rw [hen, Bool.true_and, macFull, if_pos (decide_eq_true hfull)]
        · have hroom : ¬(cEnable (d64 d 8) && macFull < T.demandBut (some k) [.running, .suspended] +
              chainDemand (d64 d 8) (d64 d 24) (T.chains[k].fade.isSome || T.chains[k].pend.isSome)) = true := by
            rw [Bool.and_eq_true, decide_eq_true_iff, macFull]
            rintro ⟨h, h'⟩
            exact hfit.elim (fun hf => Bool.false_ne_true (hf.symm.trans h)) fun hf => not_lt.mpr hf h'
          rw [if_neg hroom]
          refine congrArg (fun t : State => Host.Outcome.next (t.configDone q n .done 0 T.now 0)) ?_
          have hended := T.batchEnded_eq k _ hB
          cases hen : cEnable (d64 d 8) with
          | false =>
            by_cases hst : T.chains[k].st = .running
            · rw [T.filterApply_stops k _ _ _ hen hst, hended, hA1 hen hst]
            · rw [T.filterApply_off k _ _ _ hen hst, hA2 hen hst]
          | true =>
            by_cases hst : T.chains[k].st = .quiesced
            · obtain ⟨hsusp, hstart⟩ := hA4 hen hst _ rfl
              rw [T.filterApply_starts k _ _ _ hen hst rfl]
              split
              · next h =>
                rw [Bool.and_eq_true, decide_eq_true_iff] at h
                rw [hsusp h.1 h.2]
              · next h =>
                rw [Bool.and_eq_true, decide_eq_true_iff, not_and_or, Bool.not_eq_true, not_lt] at h
                rw [hstart h]
            · rw [T.filterApply_on k _ _ _ hen hst, hended, hA3 hen hst]
    · subst hc
      have hrun := coefLoad_exec hS hT hr hk hb hlo hhi hs hp
      rw [hrun]
      refine ⟨fun h => congrArg _ (if_pos ((Chain.bankBusy_iff _ b).mpr h)), fun hbank hfade hpend => congrArg _ (if_neg ?_)⟩
      rw [Chain.bankBusy_iff]
      rintro (h | h | ⟨x, hx, h⟩)
      · exact hbank h
      · exact h hfade
      · exact hpend x hx h
    · subst hc
      have hrun := coefSwap_exec hS hT hr hk hb hlo hhi hs hp hf
      have hwho : f.who = some (q, n) := hf ▸ rfl
      obtain rfl : f.toB = b := hf ▸ rfl
      rw [hrun]
      refine ⟨fun hw => congrArg _ (if_pos hw), fun hw => ?_⟩
      rw [if_neg (by rw [hw]; exact Bool.false_ne_true)]
      refine ⟨fun h => congrArg _ (T.coefSwapRun_unsymmetric k f q n hwho h), fun hok => ⟨fun hfade hbank => ?_, fun hch =>
        ⟨fun hst => congrArg _ (T.coefSwapRun_still k f q n hwho hok hch hst), fun hst hfull =>
          congrArg _ (T.coefSwapRun_full k f q n hwho hok hch hst hfull), fun hst hfit => ?_⟩⟩⟩
      · rw [T.coefSwapRun_taken k f hok, if_pos (by rw [hfade, hbank]; exact beq_self_eq_true _), hwho]
        rfl
      · rw [T.coefSwapRun_runs k f hok hch hst hfit]
        refine ⟨fun hfade => congrArg _ (if_pos (by rw [hfade]; rfl)), fun hfade hpend => congrArg _ ((if_neg ?_).trans
          (T.coefSwapPends_free k f hpend)), fun x i j hfade hpend hx => congrArg _ ((if_neg ?_).trans
          (T.coefSwapPends_collides k f hpend hx))⟩
        · rwa [Option.isNone_iff_eq_none]
        · rwa [Option.isNone_iff_eq_none]
    · exact sync_exec hS hT hr hs hp (hr' ▸ T.syncAll_command U r hmerge hnew)
  · rw [syncInEdge_exec hS hup, if_pos hdir, ← hr, State.syncAll_eq]
    refine ⟨fun r0 ht h1 h2 => congrArg _ (if_pos (S.merges_of r r0 ht h1 h2)), fun hfar => congrArg _ ?_⟩
    rw [if_neg (by rw [S.not_merges r hfar]; exact Bool.false_ne_true), State.syncNew]
    simp only [Bool.not_true, Bool.and_false, Bool.or_false, beq_iff_eq]
  · rw [syncInEdge_exec hS hup, if_neg hdir]
  · rw [filterBatchTimeout_exec hS hup h]
    exact ⟨fun hlt => congrArg _ (if_neg (Nat.not_le.mpr hlt)), fun hle => congrArg _ ((if_pos hle).trans (S.closeBatch_held k h))⟩

end Sys2Proof.Machine

/-!
The journal at the active unit (R503, R513–R516, R518, R519, R530, R533): captures, acknowledgements, and the settlement of O50.
-/
namespace Sys2Proof.Machine
open Sys2Proof

/-! ## A capture (R514–R516) -/

section
variable (s : State)

/-- The body of the next capture (R514). -/
def State.captureBody : List Byte := (List.range bodyLen).map fun i => (Config.freeBytes s.freeCtr).getD i 0

/-- The header of the next capture but for its check value (R515). -/
def State.captureHead : List Byte := headerBytes (s.pair.seq + 1) s.pair.epoch s.pair.cfggen s.frameStart false

/-- The next capture, sent: whether its COMMIT has left. -/
def State.captureOf (sent : Bool) : Capture :=
  { seq := s.pair.seq + 1, cfggen := s.pair.cfggen, final := false
    header := s.captureHead ++ leBytes 4 (crc32c (s.captureHead ++ s.captureBody)).toNat
    sent := sent, who := s.pair.cpWaiters, logs := s.pair.logWait }

/-- The BODY frames of the next capture (R516). -/
def State.captureFrames : List ZFrame := (List.range 28).map fun i =>
  ZFrame.body (BitVec.ofNat 32 (slotBase (s.pair.seq + 1).toNat + 0x40 + 256 * i)) ((s.captureBody.drop (256 * i)).take 256)

/-- The state after a capture, its COMMIT sent or not. -/
def State.captured (sent : Bool) : State :=
  s.useFresh.modPair fun p =>
    { p with seq := s.pair.seq + 1, cap := some (s.captureOf sent), capAt := s.now, capNow := false, logUsed := 0, cpWaiters := []
             finalDue := p.finalDue
             tx := p.tx ++ s.captureFrames ++ (if sent then [ZFrame.commit (s.captureOf sent).header] else []) }

/-- COMMIT waits for a delta that is not acknowledged (R516). -/
def State.commitHeld : Bool := s.pair.deltas.any fun d => (s.pair.cfggen - d.2.1).toNat < 2 ^ 31

theorem State.capture_eq : s.capture false = s.captured (!s.commitHeld) := by
  have hrun : s.capture false = (s.useFresh.modPair fun p =>
      { p with seq := s.pair.seq + 1, cap := some (s.captureOf false), capAt := s.now, capNow := false, logUsed := 0, cpWaiters := []
               finalDue := p.finalDue && !false, tx := p.tx ++ s.captureFrames }).sendCommit := rfl
  rw [hrun]
  unfold State.captured
  cases h : s.commitHeld with
  | true =>
    refine (if_pos h).trans ?_
    simp
  | false =>
    refine (if_neg (Bool.eq_false_iff.mp h)).trans ?_
    simp [State.zsend, State.modPair, State.captureOf]

theorem State.commitHeld_eq_false_iff :
    (!s.commitHeld) = true ↔ ∀ x ∈ s.pair.deltas, 2 ^ 31 ≤ (s.pair.cfggen - x.2.1).toNat := by
  rw [Bool.not_eq_true', State.commitHeld, List.any_eq_false]
  exact forall₂_congr fun x _ => by rw [decide_eq_true_iff, not_lt]

theorem State.captureBody_length : s.captureBody.length = 0x1BC0 := by
  rw [State.captureBody, List.length_map, List.length_range]
  rfl

end

section
variable {dt : Nat} {s S : State} (hS : S = s.elapse dt) (hup : S.up = true)
include hS hup

/-- When a checkpoint is captured (R516, R530). -/
theorem checkpointCapture_exec (hcap : S.pair.cap = none) : exec (.checkpointCapture dt) s = .next (
    S.when (S.pair.finalDue || (S.journals && (decide (S.pair.capAt + ptCpint S.pair.timing * 1000000 ≤ S.now) ||
      ((S.pair.capNow || 1152 ≤ S.pair.logUsed) && decide (S.pair.capAt + 1000000 ≤ S.now)))))
      fun s => s.capture S.pair.finalDue) := by
  have hrun : exec (.checkpointCapture dt) s = .next (S.when (S.up && S.pair.cap.isNone && (S.pair.finalDue || (S.journals &&
      (decide (S.pair.capAt + ptCpint S.pair.timing * 1000000 ≤ S.now) ||
        ((S.pair.capNow || 1152 ≤ S.pair.logUsed) && decide (S.pair.capAt + 1000000 ≤ S.now))))))
      fun s => s.capture S.pair.finalDue) := by
    subst hS
    rfl
  rw [hrun, hup, hcap, Option.isNone_none, Bool.and_self, Bool.true_and]

variable (hcap : S.pair.cap = none)
include hcap

theorem checkpointCapture_final (hfin : S.pair.finalDue = true) : exec (.checkpointCapture dt) s = .next (S.capture true) := by
  rw [checkpointCapture_exec hS hup hcap, hfin]
  rfl

section
variable (hfin : S.pair.finalDue = false) (hst : S.pair.st = .active) (hzaf : S.pair.zaf.present = true)
include hfin hst hzaf

theorem checkpointCapture_due (hdue : S.pair.capAt + ptCpint S.pair.timing * 1000000 ≤ S.now ∨
      (S.pair.capNow = true ∨ 1152 ≤ S.pair.logUsed) ∧ S.pair.capAt + 1000000 ≤ S.now) :
    exec (.checkpointCapture dt) s = .next (S.capture false) := by
  rw [checkpointCapture_exec hS hup hcap, hfin]
  refine congrArg _ (State.when_of_true _ _ ?_)
  rw [Bool.false_or, (State.journals_iff S).mpr ⟨hst, hzaf⟩, Bool.true_and, Bool.or_eq_true, Bool.and_eq_true, Bool.or_eq_true,
    decide_eq_true_iff, decide_eq_true_iff, decide_eq_true_iff]
  exact hdue

theorem checkpointCapture_early (hper : S.now < S.pair.capAt + ptCpint S.pair.timing * 1000000)
    (hno : S.pair.capNow = false ∧ S.pair.logUsed < 1152 ∨ S.now < S.pair.capAt + 1000000) :
    exec (.checkpointCapture dt) s = .next S := by
  rw [checkpointCapture_exec hS hup hcap, hfin]
  refine congrArg _ (State.when_of_false _ _ ?_)
  rw [Bool.false_or, (State.journals_iff S).mpr ⟨hst, hzaf⟩, Bool.true_and, decide_eq_false (Nat.not_le.mpr hper), Bool.false_or,
    Bool.and_eq_false_iff]
  refine hno.imp (fun h => ?_) fun h => decide_eq_false (Nat.not_le.mpr h)
  rw [h.1, decide_eq_false (Nat.not_le.mpr h.2)]
  rfl

end
end

/-! ## Acknowledgements (R503, R513, R516, R518, R533) -/

section
variable {α : Type} {p : α → Bool} {x : α} {l1 l2 : List α}

theorem find?_first (hx : p x = true) (hl : ∀ y ∈ l1, p y = false) : (l1 ++ x :: l2).find? p = some x :=
  List.find?_eq_some_iff_append.mpr ⟨hx, l1, l2, rfl, fun y hy => by rw [hl y hy]; rfl⟩

theorem erase_first [BEq α] [LawfulBEq α] (hx : p x = true) (hl : ∀ y ∈ l1, p y = false) : (l1 ++ x :: l2).erase x = l1 ++ l2 := by
  rw [List.erase_append_right, List.erase_cons_head]
  intro h
  exact Bool.false_ne_true ((hl x h).symm.trans hx)

end

/-- What an acknowledgement commits that is not the checkpoint's. -/
def State.ackOther (s : State) (v : Word32) : State :=
  match s.pair.deltas.find? fun d => d.1 == v with
  | some d => ((s.modPair fun p => { p with deltas := p.deltas.erase d, acked := d.2.1 }).deltaDone d.2.1).sendCommit
  | none => match s.pair.logWait.find? fun e => e.1 == v with
    | some e => (s.modPair fun p => { p with logWait := p.logWait.erase e }).logged e.2.1 e.2.2
    | none => s

/-- What an acknowledgement does (R503). -/
def State.ackTaken (s : State) (v : Word32) : State :=
  match s.pair.cap.filter fun c => c.sent && c.seq == v with
  | some c => s.checkpointDone c
  | none => if s.pair.resyncing.isSome && s.pair.resyncBytes < 0x80000 && v.toNat == s.pair.resyncNext then s.resyncAck
    else s.ackOther v

section
variable (s : State) (v : Word32)

theorem State.ackTaken_checkpoint {c : Capture} (hcap : s.pair.cap = some c) (hsent : c.sent = true) (hseq : c.seq = v) :
    s.ackTaken v = s.checkpointDone c := by
  have hfilter : (s.pair.cap.filter fun c => c.sent && c.seq == v) = some c := by
    rw [hcap]
    exact if_pos (Bool.and_eq_true_iff.mpr ⟨hsent, beq_iff_eq.mpr hseq⟩)
  unfold State.ackTaken
  rw [hfilter]

section
variable (hno : ∀ c, s.pair.cap = some c → c.sent = false ∨ c.seq ≠ v)
include hno

theorem State.ackTaken_other : s.ackTaken v =
    if s.pair.resyncing.isSome && s.pair.resyncBytes < 0x80000 && v.toNat == s.pair.resyncNext then s.resyncAck
    else s.ackOther v := by
  have hfilter : (s.pair.cap.filter fun c => c.sent && c.seq == v) = none := by
    cases hc : s.pair.cap with
    | none => rfl
    | some c =>
      refine if_neg fun h => ?_
      obtain ⟨h, h'⟩ := Bool.and_eq_true_iff.mp h
      exact (hno c hc).elim (fun hf => Bool.false_ne_true (hf.symm.trans h)) fun hf => hf (beq_iff_eq.mp h')
  unfold State.ackTaken
  rw [hfilter]

theorem State.ackTaken_copy (hre : s.pair.resyncing ≠ none) (hlt : s.pair.resyncBytes < 0x80000)
    (hv : v.toNat = (s.pair.resyncBytes + 0x1000) % 0x80000) : s.ackTaken v = s.resyncAck := by
  rw [s.ackTaken_other v hno, if_pos]
  rw [Option.isSome_iff_ne_none.mpr hre, decide_eq_true hlt, Bool.and_self, Bool.true_and, beq_iff_eq]
  exact hv

theorem State.ackTaken_none
    (h : s.pair.resyncing = none ∨ 0x80000 ≤ s.pair.resyncBytes ∨ v.toNat ≠ (s.pair.resyncBytes + 0x1000) % 0x80000) :
    s.ackTaken v = s.ackOther v := by
  rw [s.ackTaken_other v hno, if_neg]
  rw [Bool.and_eq_true, Bool.and_eq_true, decide_eq_true_iff, beq_iff_eq, Option.isSome_iff_ne_none]
  rintro ⟨⟨h1, h2⟩, h3⟩
  exact h.elim h1 fun h => h.elim (Nat.not_le.mpr h2) fun h => h h3

end

theorem State.ackOther_delta {x : Word32 × Word32 × Option (QueueId × Word32)} {l1 l2 : List (Word32 × Word32 × Option (QueueId × Word32))}
    (hl : s.pair.deltas = l1 ++ x :: l2) (hx : x.1 = v) (hfirst : ∀ y ∈ l1, y.1 ≠ v) : s.ackOther v =
      ((s.modPair fun p => { p with deltas := l1 ++ l2, acked := x.2.1 }).deltaDone x.2.1).sendCommit := by
  have hhit : (x.1 == v) = true := beq_iff_eq.mpr hx
  have hmiss : ∀ y ∈ l1, (y.1 == v) = false := fun y hy => beq_eq_false_iff_ne.mpr (hfirst y hy)
  have hfind : s.pair.deltas.find? (fun d => d.1 == v) = some x := by
    rw [hl]
    exact find?_first hhit hmiss
  have herase : s.pair.deltas.erase x = l1 ++ l2 := by
    rw [hl]
    exact erase_first (p := fun y => Prod.fst y == v) hhit hmiss
  unfold State.ackOther
  rw [hfind]
  exact congrArg (fun l => (State.deltaDone { s with pair := { s.pair with deltas := l, acked := x.2.1 } } x.2.1).sendCommit) herase

section
variable (hno : ∀ x ∈ s.pair.deltas, x.1 ≠ v)
include hno

theorem State.ackOther_log : s.ackOther v = match s.pair.logWait.find? fun e => e.1 == v with
    | some e => (s.modPair fun p => { p with logWait := p.logWait.erase e }).logged e.2.1 e.2.2
    | none => s := by
  have hfind : s.pair.deltas.find? (fun d => d.1 == v) = none :=
    List.find?_eq_none.mpr fun x hx => beq_iff_eq.not.mpr (hno x hx)
  unfold State.ackOther
  rw [hfind]

theorem State.ackOther_entry {x : Word32 × QueueId × Word32} {l1 l2 : List (Word32 × QueueId × Word32)}
    (hl : s.pair.logWait = l1 ++ x :: l2) (hx : x.1 = v) (hfirst : ∀ y ∈ l1, y.1 ≠ v) :
    s.ackOther v = (s.modPair fun p => { p with logWait := l1 ++ l2 }).logged x.2.1 x.2.2 := by
  have hhit : (x.1 == v) = true := beq_iff_eq.mpr hx
  have hmiss : ∀ y ∈ l1, (y.1 == v) = false := fun y hy => beq_eq_false_iff_ne.mpr (hfirst y hy)
  have hfind : s.pair.logWait.find? (fun d => d.1 == v) = some x := by
    rw [hl]
    exact find?_first hhit hmiss
  have herase : s.pair.logWait.erase x = l1 ++ l2 := by
    rw [hl]
    exact erase_first (p := fun y => Prod.fst y == v) hhit hmiss
  rw [s.ackOther_log v hno, hfind]
  exact congrArg (fun l => State.logged { s with pair := { s.pair with logWait := l } } x.2.1 x.2.2) herase

theorem State.ackOther_nothing (hnone : ∀ x ∈ s.pair.logWait, x.1 ≠ v) : s.ackOther v = s := by
  have hfind : s.pair.logWait.find? (fun d => d.1 == v) = none :=
    List.find?_eq_none.mpr fun x hx => beq_iff_eq.not.mpr (hnone x hx)
  rw [s.ackOther_log v hno, hfind]

end
end

theorem ack_exec {dt : Nat} {s S : State} {v : Word32} (hS : S = s.elapse dt) (hup : S.up = true)
    (hst : S.pair.st = .active ∨ S.pair.st = .releasing) : exec (.ack dt v) s = .next (S.ackTaken v) := by
  subst hS
  refine next_of_when rfl ?_ rfl
  rw [hup, Bool.true_and, Bool.or_eq_true, State.pairActive_iff, beq_iff_eq]
  exact hst

/-- Settles O50: captures by when they are due, acknowledgements by what they name. -/
theorem journalAtActive : Obligations.JournalAtActive := by
  intro dt s S hS hup
  refine ⟨fun hfin hcap => checkpointCapture_final hS hup hcap hfin, fun hfin hst hzaf hcap => ⟨fun hdue => ?_, fun hper hno =>
    checkpointCapture_early hS hup hcap hfin hst hzaf hper hno⟩, fun v hst => ⟨fun c B hcap hsent hseq hB => ?_, fun hno => ⟨fun hre hlt hv => ?_,
    fun hnc => ⟨fun x l1 l2 hl hx hfirst => ?_, fun hnd => ⟨fun x l1 l2 hl hx hfirst => ?_, fun hnl => ?_⟩⟩⟩⟩⟩
  · refine ⟨S.captured (!S.commitHeld), S.captureOf (!S.commitHeld), S.captureBody, ?_, rfl, rfl, rfl, rfl, rfl, rfl, rfl,
      S.captureBody_length, rfl, S.commitHeld_eq_false_iff, rfl, rfl, rfl, rfl, rfl, rfl⟩
    rw [checkpointCapture_due hS hup hcap hfin hst hzaf hdue, State.capture_eq]
  · rw [ack_exec hS hup hst, S.ackTaken_checkpoint v hcap hsent hseq, hB, ← hseq]
    rfl
  · rw [ack_exec hS hup hst, S.ackTaken_copy v hno hre hlt hv]
    rfl
  · rw [ack_exec hS hup hst, S.ackTaken_none v hno hnc, S.ackOther_delta v hl hx hfirst]
  · rw [ack_exec hS hup hst, S.ackTaken_none v hno hnc, S.ackOther_entry v hnd hl hx hfirst]
  · rw [ack_exec hS hup hst, S.ackTaken_none v hno hnc, S.ackOther_nothing v hnd hnl]

end Sys2Proof.Machine

/-!
Heartbeats and the paths of a pair (R496, R501, R504–R508, R521, R528, R530–R533), and the settlement of O52.
-/
namespace Sys2Proof.Machine
open Sys2Proof

/-! ## Sending heartbeats (R504–R506) -/

theorem bit_flags (a b c d e : Bool) (i : Nat) :
    bit (BitVec.ofNat 8 (b2n a + 2 * b2n b + 4 * b2n c + 8 * b2n d + 16 * b2n e)) i = true ↔
      (i = 0 ∧ a = true) ∨ (i = 1 ∧ b = true) ∨ (i = 2 ∧ c = true) ∨ (i = 3 ∧ d = true) ∨ (i = 4 ∧ e = true) := by
  by_cases hi : i < 8
  · have hsmall : ∀ (i : Fin 8) (a b c d e : Bool),
        bit (BitVec.ofNat 8 (b2n a + 2 * b2n b + 4 * b2n c + 8 * b2n d + 16 * b2n e)) i.val =
          ((i.val == 0 && a) || (i.val == 1 && b) || (i.val == 2 && c) || (i.val == 3 && d) || (i.val == 4 && e)) := by decide
    rw [hsmall ⟨i, hi⟩]
    simp only [Bool.or_eq_true, Bool.and_eq_true, beq_iff_eq, or_assoc]
  · rw [bit, BitVec.getLsbD_of_ge _ _ (Nat.not_lt.mp hi)]
    refine iff_of_false Bool.false_ne_true fun h => ?_
    omega

/-- The STATE byte of a heartbeat (R498, R504). -/
theorem State.bit_hbState (s : State) (i : Nat) : bit s.hbState i = true ↔
    (i = 0 ∧ s.pair.st = .active) ∨ (i = 1 ∧ s.pair.st = .releasing) ∨ (i = 2 ∧ s.pair.st = .standby ∧ s.pair.staticOk = true) ∨
      (i = 3 ∧ s.pair.st = .standby ∧ s.pair.staticOk = false) ∨ (i = 4 ∧ s.pair.lone = true) := by
  unfold State.hbState
  rw [bit_flags, Bool.and_eq_true, Bool.and_eq_true, Bool.not_eq_true', beq_iff_eq, beq_iff_eq, beq_iff_eq]

section
variable {dt : Nat} {s S : State} (hS : S = s.elapse dt) (hup : S.up = true) (hpair : S.inPair = true)
include hS hup hpair

theorem heartbeatSend_exec : exec (.heartbeatSend dt) s = .next (
    S.when (S.pair.gate && !S.pair.mute && decide (S.pair.hbLast + 1000 * ptHbper S.pair.timing ≤ S.now)) fun s =>
      s.modPair fun p => { p with
        tx := p.tx ++ [.heartbeat s.hbState (s.straps.setWidth 8) p.hbcnt p.epoch
          (if p.st = .active then p.acked else p.cfggen) (if p.st = .active then p.seq else p.committedSeq.getD 0)]
        hbcnt := p.hbcnt + 1, hbLast := s.now }) := by
  have hrun : exec (.heartbeatSend dt) s = .next (S.when (S.up && S.inPair && S.pair.gate && !S.pair.mute &&
      decide (S.pair.hbLast + 1000 * ptHbper S.pair.timing ≤ S.now)) fun s =>
      s.modPair fun p => { p with
        tx := p.tx ++ [.heartbeat s.hbState (s.straps.setWidth 8) p.hbcnt p.epoch
          (if p.st == .active then p.acked else p.cfggen) (if p.st == .active then p.seq else p.committedSeq.getD 0)]
        hbcnt := p.hbcnt + 1, hbLast := s.now }) := by
    subst hS
    rfl
  simp only [beq_iff_eq] at hrun
  rw [hrun, hup, hpair, Bool.true_and, Bool.true_and]

theorem hbOutToggle_exec : exec (.hbOutToggle dt) s = .next (
    S.when (S.pair.gate && !S.pair.mute) fun s => s.modPair fun p => { p with hbOut := !p.hbOut }) := by
  have hrun : exec (.hbOutToggle dt) s = .next (S.when (S.up && S.inPair && S.pair.gate && !S.pair.mute) fun s =>
      s.modPair fun p => { p with hbOut := !p.hbOut }) := by
    subst hS
    rfl
  rw [hrun, hup, hpair, Bool.true_and, Bool.true_and]

theorem livenessGate_exec : exec (.livenessGateFail dt) s = .next (S.modPair fun p => { p with gate := false }) ∧
    exec (.livenessGatePass dt) s = .next (S.modPair fun p => { p with gate := true }) := by
  have hrun : (S.up && S.inPair) = true := by rw [hup, hpair]; rfl
  subst hS
  exact ⟨next_of_when rfl hrun rfl, next_of_when rfl hrun rfl⟩

theorem hbInEdge_exec : exec (.hbInEdge dt) s =
    .next (S.modPair fun p => { p with hb := p.hb.arrive (1000 * ptHbper p.timing) S.now }).degrade := by
  have hrun : (S.up && S.inPair) = true := by rw [hup, hpair]; rfl
  subst hS
  exact next_of_when rfl hrun rfl

end

/-! ## Presence and loss of a path (R507, R508) -/

section
variable (x : HPath) (per t since : Nat) (hs : since = match x.goodSince with | some g => if t ≤ x.last + per then g else t | none => t)
include hs

theorem HPath.arrive_present (h : x.lost = false ∨ since + 10 * per ≤ t) : x.arrive per t =
    { x with last := t, seen := true, present := true, lost := false, goodSince := none, ever := true } := by
  subst hs
  refine if_pos ?_
  rw [Bool.or_eq_true, Bool.not_eq_true', decide_eq_true_iff]
  exact h

theorem HPath.arrive_counts (h : x.lost = true) (hlt : t < since + 10 * per) :
    x.arrive per t = { x with last := t, seen := true, goodSince := some since } := by
  subst hs
  refine if_neg ?_
  rw [Bool.or_eq_true, Bool.not_eq_true', decide_eq_true_iff, h]
  rintro (h' | h')
  · cases h'
  · exact Nat.not_le.mpr hlt h'

end

section
variable (A : State)

theorem State.degrade_eq : A.degrade = if (A.pair.zaf.lost != A.pair.hb.lost) == A.pair.degraded then A
    else (A.modPair fun p => { p with degraded := A.pair.zaf.lost != A.pair.hb.lost }).pairEvent
      (if A.pair.zaf.lost != A.pair.hb.lost then 1 else 2) (BitVec.ofNat 64 (b2n A.pair.zaf.lost + 2 * b2n A.pair.hb.lost)) := rfl

theorem State.degrade_same (h : A.pair.degraded = true ↔ A.pair.zaf.lost ≠ A.pair.hb.lost) : A.degrade = A := by
  rw [A.degrade_eq, if_pos]
  rw [beq_iff_eq, Bool.eq_iff_iff, h, bne_iff_ne]

theorem State.degrade_begins (hno : A.pair.degraded = false) (h : A.pair.zaf.lost ≠ A.pair.hb.lost) : A.degrade =
    (A.modPair fun p => { p with degraded := true }).pairEvent 1 (if A.pair.zaf.lost then 1 else 2) := by
  rw [A.degrade_eq, hno]
  revert h
  cases A.pair.zaf.lost <;> cases A.pair.hb.lost
  case true.false => exact fun _ => rfl
  case false.true => exact fun _ => rfl
  all_goals exact fun h => absurd rfl h

theorem State.degrade_ends (hyes : A.pair.degraded = true) (h : A.pair.zaf.lost = A.pair.hb.lost) : A.degrade =
    (A.modPair fun p => { p with degraded := false }).pairEvent 2 (if A.pair.zaf.lost then 3 else 0) := by
  rw [A.degrade_eq, hyes, ← h]
  cases A.pair.zaf.lost <;> rfl

theorem State.grantTake_eq : A.grantTake = if A.redmode = 2 ∧ A.pair.st = .standby ∧ A.pair.gntN = false ∧ A.partnerHolds = false
    then A.takeover 2 else A := by
  refine if_congr ?_ rfl rfl
  rw [Bool.and_eq_true, Bool.and_eq_true, Bool.and_eq_true, beq_iff_eq, beq_iff_eq, Bool.not_eq_true', Bool.not_eq_true', and_assoc,
    and_assoc]

theorem State.grantTake_alone (h : A.redmode = 1) : A.grantTake = A := by
  rw [A.grantTake_eq, if_neg]
  rw [h]
  rintro ⟨h, -⟩
  cases h

end

/-! ## The straps under a takeover -/

theorem straps_of_keep {s t : State} (h : t.keep = s.keep) : t.straps = s.straps :=
  congrArg (fun x : KeepT => x.2.2.2.2.2.2.2.2.1) h

theorem State.pairEvent_straps (s : State) (ev : Byte) (data : Word64) : (s.pairEvent ev data).straps = s.straps :=
  straps_of_keep (s.pairEvent_keep ev data)

theorem State.startChains_straps (s : State) : s.startChains.straps = s.straps := by
  have hstep (t : State) (k : ChainId) :
      (if cEnable t.chains[k].c0 then t.chainStart k (t.dspTick t.now) 0 else t).keep = t.keep := by
    split
    · exact State.chainStart_keep ..
    · rfl
  exact straps_of_keep (foldl_keep _ hstep _ s)

theorem State.safeStart_straps (s : State) : s.safeStart.straps = s.straps := rfl

theorem State.restoreStatic_straps (s : State) : s.restoreStatic.straps = s.straps := by
  unfold State.restoreStatic
  dsimp only
  exact Eq.trans (straps_of_keep (State.recheck_keep _)) rfl

theorem State.restoreSlot_straps (s : State) (k : Nat) : (s.restoreSlot k).straps = s.straps := by
  unfold State.restoreSlot
  rfl

theorem State.hold_straps (s : State) (cause : Nat) : (s.hold cause).straps = s.straps := by
  unfold State.hold
  dsimp only
  rw [State.modHost_straps, State.modPair_straps]

theorem State.romStart_straps (s : State) : s.romStart.straps = s.straps := by
  obtain ⟨f, hrom⟩ := s.romStart_eq
  rw [hrom, State.modMason_straps]

theorem State.takeover_straps (s : State) (cause : Nat) : (s.takeover cause).straps = s.straps := by
  unfold State.takeover
  dsimp only
  split
  · rfl
  · split
    · simp only [State.pairEvent_straps, State.modPair_straps, State.romStart_straps, State.hold_straps]
    · split
      · simp only [State.pairEvent_straps, State.startChains_straps, State.safeStart_straps, State.restoreStatic_straps,
          State.modPair_straps, State.romStart_straps, State.hold_straps]
      · simp only [apply_ite State.straps, State.pairEvent_straps, State.startChains_straps, State.safeStart_straps,
          State.restoreSlot_straps, State.restoreStatic_straps, State.modPair_straps, State.romStart_straps, State.hold_straps, ite_self]

theorem State.takeover_redmode (s : State) (cause : Nat) : (s.takeover cause).redmode = s.redmode :=
  congrArg (fun w => fld w 1 2) (s.takeover_straps cause)

theorem State.roleLoss_redmode (s : State) (tl : Nat) : (s.roleLoss tl).redmode = s.redmode :=
  congrArg (fun w => fld w 1 2) (straps_of_keep (s.roleLoss_keep tl))

/-! ## What the events of a path lead to (R521, R528–R533) -/

section
variable (D : State)

theorem State.bothLost_not (h : D.redmode ≠ 1 ∨ D.pair.zaf.lost = false ∨ D.pair.hb.lost = false ∨
    (D.pair.zaf.ever = false ∧ D.pair.hb.ever = false)) : D.bothLost = D := by
  refine if_pos ?_
  rw [Bool.not_eq_true', Bool.and_eq_false_iff, Bool.and_eq_false_iff, Bool.and_eq_false_iff, Bool.or_eq_false_iff, beq_eq_false_iff_ne,
    or_assoc, or_assoc]
  exact h

section
variable (hred : D.redmode = 1)
include hred

theorem State.pathEnd_present (h : D.pair.zaf.lost = false ∨ D.pair.hb.lost = false ∨ (D.pair.zaf.ever = false ∧ D.pair.hb.ever = false)) :
    D.bothLost.grantTake = D := by
  rw [D.bothLost_not (Or.inr h), D.grantTake_alone hred]

variable (hz : D.pair.zaf.lost = true) (hh : D.pair.hb.lost = true) (hever : D.pair.zaf.ever = true ∨ D.pair.hb.ever = true)
include hz hh hever

theorem State.bothLost_eq : D.bothLost = if D.pair.st == .standby then D.takeover 1
    else if D.pair.st == .active && !D.pair.peerAbsent then D.roleLoss (max D.pair.zaf.last D.pair.hb.last) else D := by
  have hall : (D.redmode == 1 && D.pair.zaf.lost && D.pair.hb.lost && (D.pair.zaf.ever || D.pair.hb.ever)) = true := by
    rw [hred, hz, hh, (Bool.or_eq_true _ _).mpr hever]
    rfl
  exact if_neg (by rw [hall]; decide)

theorem State.pathEnd_standby (hst : D.pair.st = .standby) : D.bothLost.grantTake = D.takeover 1 := by
  rw [D.bothLost_eq hred hz hh hever, if_pos (beq_iff_eq.mpr hst)]
  exact State.grantTake_alone _ ((D.takeover_redmode 1).trans hred)

theorem State.pathEnd_active (hst : D.pair.st = .active) (hpeer : D.pair.peerAbsent = false) :
    D.bothLost.grantTake = D.roleLoss (max D.pair.zaf.last D.pair.hb.last) := by
  rw [D.bothLost_eq hred hz hh hever, hst, hpeer]
  exact State.grantTake_alone _ ((D.roleLoss_redmode _).trans hred)

theorem State.pathEnd_lone (hst : D.pair.st = .active) (hpeer : D.pair.peerAbsent = true) : D.bothLost.grantTake = D := by
  rw [D.bothLost_eq hred hz hh hever, hst, hpeer]
  exact State.grantTake_alone _ hred

end

section
variable (hred : D.redmode = 2)
include hred

theorem State.pathEnd_arbiter : D.bothLost.grantTake = D.grantTake := by
  rw [D.bothLost_not (Or.inl (by rw [hred]; decide))]

theorem State.pathEnd_granted (hst : D.pair.st = .standby) (hg : D.pair.gntN = false) (hp : D.partnerHolds = false) :
    D.bothLost.grantTake = D.takeover 2 := by
  rw [D.pathEnd_arbiter hred, D.grantTake_eq, if_pos ⟨hred, hst, hg, hp⟩]

theorem State.pathEnd_denied (h : D.pair.st ≠ .standby ∨ D.pair.gntN = true ∨ D.partnerHolds = true) : D.bothLost.grantTake = D := by
  rw [D.pathEnd_arbiter hred, D.grantTake_eq, if_neg]
  rintro ⟨-, hst, hg, hp⟩
  rcases h with h | h | h
  · exact h hst
  · exact Bool.false_ne_true (hg.symm.trans h)
  · exact Bool.false_ne_true (hp.symm.trans h)

end
end

/-- A path is lost (R507). -/
def State.pathLost (s : State) (zafifa : Bool) : State :=
  s.modPair fun p => if zafifa then { p with zaf := p.zaf.lose } else { p with hb := p.hb.lose }

/-- Whether a final checkpoint is due or under way (R530). -/
def State.finalOpen (s : State) : Bool := s.pair.finalDue || match s.pair.cap with | some c => c.final | none => false

theorem State.finalOpen_iff (s : State) : s.finalOpen = true ↔ s.pair.finalDue = true ∨ ∃ c, s.pair.cap = some c ∧ c.final = true := by
  unfold State.finalOpen
  rw [Bool.or_eq_true]
  refine or_congr_right ?_
  cases s.pair.cap <;> simp

section
variable {dt : Nat} {s S : State} (hS : S = s.elapse dt) (hup : S.up = true) (hpair : S.inPair = true)
include hS hup hpair

theorem pathLoss_exec {zafifa : Bool} {x : HPath} (hx : x = if zafifa then S.pair.zaf else S.pair.hb) : exec (.pathLoss dt zafifa) s = .next (
    S.when (!x.lost && decide (x.last + ptTmiss S.pair.timing * (1000 * ptHbper S.pair.timing) ≤ S.now)) fun s =>
      let A := s.pathLost zafifa
      let B := if zafifa && A.pairActive then A.dropJournal else A
      let C := if zafifa && B.pair.st == .releasing && s.finalOpen then
        B.modPair fun p => { p with mute := true, finalDue := false, cap := none } else B
      C.degrade.bothLost.grantTake) := by
  have hrun : exec (.pathLoss dt zafifa) s = .next (S.when (S.up && S.inPair && !x.lost &&
      decide (x.last + ptTmiss S.pair.timing * (1000 * ptHbper S.pair.timing) ≤ S.now)) fun s =>
      let A := s.pathLost zafifa
      let B := if zafifa && A.pairActive then A.dropJournal else A
      let C := if zafifa && B.pair.st == .releasing && s.finalOpen then
        B.modPair fun p => { p with mute := true, finalDue := false, cap := none } else B
      C.degrade.bothLost.grantTake) := by
    subst hS hx
    rfl
  rw [hrun, hup, hpair, Bool.true_and, Bool.true_and]

/-- A heartbeat that arrives (R496, R504, R507, R533). -/
theorem heartbeat_exec {b : List Byte} {x : Partner} (hlen : b.length = 16) (hx : x = partnerOf b) : exec (.heartbeat dt b) s = .next (
    let A := S.modPair fun p => { p with
      partner := some x, mismatch := fld x.straps 1 2 != S.redmode || bit x.straps 0 == S.roleB
      zaf := p.zaf.arrive (1000 * ptHbper p.timing) S.now
      staticOk := p.staticOk && !(p.st == .standby && bit x.state 0 && x.epoch != p.epoch) }
    let B := (A.modPair fun p => { p with needResync := p.needResync || (!S.pair.zaf.present && p.zaf.present) }).degrade
    let C := if B.journals && (bit x.state 2 || bit x.state 3) && (B.pair.needResync ||
        (B.pair.resyncing.isNone && (x.epoch != B.pair.epoch || bit x.state 3))) then B.startResync (B.pair.resyncing.getD none) else B
    C.grantTake) := by
  have hrun : (S.up && S.inPair && b.length == 16) = true := by rw [hup, hpair, hlen]; rfl
  subst hS hx
  exact next_of_when rfl hrun rfl

end

theorem State.inPair_of_redmode (S : State) (h : S.redmode = 1 ∨ S.redmode = 2) : S.inPair = true := by
  rw [State.inPair, Bool.or_eq_true, beq_iff_eq, beq_iff_eq]
  exact h

/-- When a heartbeat starts a full copy (R533). -/
theorem State.copyDue_iff (B : State) (x : Partner) : (B.journals && (bit x.state 2 || bit x.state 3) && (B.pair.needResync ||
      (B.pair.resyncing.isNone && (x.epoch != B.pair.epoch || bit x.state 3)))) = true ↔
    B.pair.st = .active ∧ B.pair.zaf.present = true ∧ (bit x.state 2 = true ∨ bit x.state 3 = true) ∧
      (B.pair.needResync = true ∨ B.pair.resyncing = none ∧ (x.epoch ≠ B.pair.epoch ∨ bit x.state 3 = true)) := by
  rw [Bool.and_eq_true, Bool.and_eq_true, State.journals_iff, Bool.or_eq_true, Bool.or_eq_true, Bool.and_eq_true, Bool.or_eq_true,
    Option.isNone_iff_eq_none, bne_iff_ne, and_assoc, and_assoc]

/-- Settles O52: each event, by what it finds and by what the paths then say. -/
theorem heartbeats : Obligations.Heartbeats := by
  intro dt s S hS hup hred
  have hpair := S.inPair_of_redmode hred
  obtain ⟨hfail, hpass⟩ := livenessGate_exec hS hup hpair
  refine ⟨fun hg hm => ⟨fun hlt => ?_, fun hle => ⟨S.hbState, S.bit_hbState, ?_⟩, ?_⟩, fun hno => ?_, hfail, hpass,
    fun x per t since hs => ⟨x.arrive_present per t since hs, x.arrive_counts per t since hs⟩,
    fun A => ⟨A.degrade_same, A.degrade_begins, A.degrade_ends⟩, hbInEdge_exec hS hup hpair,
    fun b x A B C bad hlen hx hbad hA hB hC hC' => ?_, fun zafifa x A B C D fin hx => ⟨fun hno => ?_, fun hlost hle hfin hA hB hC hD => ?_⟩⟩
  · rw [heartbeatSend_exec hS hup hpair, hg, hm, decide_eq_false (Nat.not_le.mpr hlt)]
    rfl
  · rw [heartbeatSend_exec hS hup hpair, hg, hm, decide_eq_true hle]
    rfl
  · rw [hbOutToggle_exec hS hup hpair, hg, hm]
    rfl
  · have hstop : (S.pair.gate && !S.pair.mute) = false := by
      rw [Bool.and_eq_false_iff, Bool.not_eq_false']
      exact hno
    rw [heartbeatSend_exec hS hup hpair, hbOutToggle_exec hS hup hpair, hstop]
    exact ⟨rfl, rfl⟩
  · have hbad' : (fld x.straps 1 2 != S.redmode || bit x.straps 0 == S.roleB) = bad := by
      rw [Bool.eq_iff_iff, hbad, Bool.or_eq_true, bne_iff_ne, beq_iff_eq]
    rw [heartbeat_exec hS hup hpair hlen hx, hbad']
    dsimp only
    rw [← hA, ← hB, ← State.grantTake_eq C]
    refine congrArg (fun t : State => Host.Outcome.next t.grantTake) ?_
    split
    · next h => exact (hC ((B.copyDue_iff x).mp h)).symm
    · next h => exact (hC' fun hc => h ((B.copyDue_iff x).mpr hc)).symm
  · rw [pathLoss_exec hS hup hpair hx]
    refine congrArg _ (State.when_of_false _ _ ?_)
    rw [Bool.and_eq_false_iff, Bool.not_eq_false', decide_eq_false_iff_not, Nat.not_le]
    exact hno
  · have hfin' : S.finalOpen = fin := by rw [Bool.eq_iff_iff, hfin, State.finalOpen_iff]
    have hA' : S.pathLost zafifa = A := by
      rw [hA x.lose rfl, hx]
      unfold State.pathLost
      cases zafifa <;> rfl
    have hst : A.pair.st = S.pair.st := by
      rw [← hA']
      unfold State.pathLost
      cases zafifa <;> rfl
    have hB' : (if zafifa && A.pairActive then A.dropJournal else A) = B := by
      rw [hB, ← hst]
      exact if_congr (by rw [Bool.and_eq_true, State.pairActive_iff]) rfl rfl
    have hC' : (if zafifa && B.pair.st == .releasing && fin then
        B.modPair fun p => { p with mute := true, finalDue := false, cap := none } else B) = C := by
      rw [hC]
      exact if_congr (by rw [Bool.and_eq_true, Bool.and_eq_true, beq_iff_eq, and_assoc]) rfl rfl
    have hend : exec (.pathLoss dt zafifa) s = .next D.bothLost.grantTake := by
      rw [pathLoss_exec hS hup hpair hx, hlost, decide_eq_true hle]
      refine congrArg _ ((State.when_of_true _ _ rfl).trans ?_)
      dsimp only
      rw [hfin', hA', hB', hC', ← hD]
    rw [hend]
    exact ⟨fun h1 hz hh hever => ⟨fun hst => congrArg _ (D.pathEnd_standby h1 hz hh hever hst),
        fun hst hpeer => congrArg _ (D.pathEnd_active h1 hz hh hever hst hpeer),
        fun hst hpeer => congrArg _ (D.pathEnd_lone h1 hz hh hever hst hpeer)⟩,
      fun h1 h => congrArg _ (D.pathEnd_present h1 h), fun h2 hst hg hp => congrArg _ (D.pathEnd_granted h2 hst hg hp),
      fun h2 h => congrArg _ (D.pathEnd_denied h2 h)⟩

end Sys2Proof.Machine

/-!
The role (R496, R499–R503, R521, R528, R529, R537): decision, grant, release and YIELD, and the settlement of O53.
-/
namespace Sys2Proof.Machine
open Sys2Proof

/-! ## Standing by and losing the role (R498, R529) -/

section
variable (s : State) (fresh : Bool)

theorem State.enterStandby_pair : (s.enterStandby fresh).pair.st = .standby ∧
    (s.enterStandby fresh).pair.staticOk = (s.pair.staticOk && fresh) ∧
    (s.enterStandby fresh).host.link = (if s.host.perst then 0 else 2) ∧ (s.enterStandby fresh).plinth = s.plinth ∧
    (s.enterStandby fresh).reqs = [] ∧ (s.enterStandby fresh).ops = [] := ⟨rfl, rfl, rfl, rfl, rfl, rfl⟩

theorem State.enterStandby_quad (q : QuadId) : (s.enterStandby fresh).quad q = Reset.quad (1000 * ptTrel s.pair.timing) :=
  Vector.getElem_replicate q.isLt

theorem State.enterStandby_queue (q : QueueId) : (s.enterStandby fresh).queue q = Reset.queue := Vector.getElem_replicate q.isLt

theorem State.enterStandby_chan (c : ChanId) : (s.enterStandby fresh).chan c = Reset.chan := Vector.getElem_replicate c.isLt

end

section
variable (s : State) (tl : Nat)

theorem State.roleLoss_queue (q : QueueId) : ((s.roleLoss tl).queue q).flight = [] ∧ ((s.roleLoss tl).queue q).bufs = [] := by
  have h : (s.roleLoss tl).queue q = { s.queue q with flight := [], bufs := [] } := Vector.getElem_map _ q.isLt
  rw [h]
  exact ⟨rfl, rfl⟩

/-- A generator stops at its present level (R529). -/
def Chan.released (x : Chan) : Chan :=
  match x.gen with
  | some g => { x with gen := none, ref := g.lvl }
  | none => x

theorem Chan.released_gen (x : Chan) : x.released.gen = none := by
  unfold Chan.released
  split
  · rfl
  · next h => exact h

theorem Chan.released_ref (x : Chan) : x.released.ref = match x.gen with | some g => g.lvl | none => x.ref := by
  unfold Chan.released
  split <;> rfl

theorem State.roleLoss_chan (c : ChanId) : (s.roleLoss tl).chan c = (s.chan c).released := Vector.getElem_map _ c.isLt

end

/-! ## The decision at start-up (R499–R502) -/

section
variable (S : State)

/-- The unit takes the role at start-up, for a cause (R499, R537). -/
def State.roleTaken (cause : Nat) : State :=
  ((S.modPair fun p => { p with
      st := .active, cause := cause, lone := p.peerAbsent, capAt := S.now, capNow := false, cap := none, logUsed := 0,
      zaf := { p.zaf with ever := p.zaf.present }, hb := { p.hb with ever := p.hb.present }, firstPoll := false,
      needResync := p.zaf.present, driven := true, t1 := none }).modHost fun h =>
        { h with link := if h.perst then 0 else 1, wakeLow := false }).pairEvent 3 (BitVec.ofNat 64 cause)

theorem State.startRole_eq (cause : Nat) : S.startRole cause = S.roleTaken cause := rfl

/-- What the unit does at start-up where its partner does not mismatch (R499–R502). -/
def State.roleDecided : State :=
  if S.pair.peerAbsent then S.startRole 4
  else if S.redmode == 2 then (if !S.pair.gntN && !S.partnerHolds then S.startRole 2 else S.enterStandby true)
  else if S.partnerHolds then S.enterStandby true
  else if !S.roleB then S.startRole 4
  else if S.pair.zaf.seen || S.pair.hb.seen then S.enterStandby true
  else if 500000000 ≤ S.now then S.startRole 4 else S

theorem State.roleDecided_lone (h : S.pair.peerAbsent = true) : S.roleDecided = S.startRole 4 := if_pos h

section
variable (hpeer : S.pair.peerAbsent = false)
include hpeer

theorem State.roleDecided_arbiter (hred : S.redmode = 2) :
    S.roleDecided = if !S.pair.gntN && !S.partnerHolds then S.startRole 2 else S.enterStandby true :=
  (if_neg (by rw [hpeer]; exact Bool.false_ne_true)).trans (if_pos (by rw [hred]; rfl))

theorem State.roleDecided_heartbeat (hred : S.redmode = 1) : S.roleDecided = if S.partnerHolds then S.enterStandby true
    else if !S.roleB then S.startRole 4
    else if S.pair.zaf.seen || S.pair.hb.seen then S.enterStandby true
    else if 500000000 ≤ S.now then S.startRole 4 else S :=
  (if_neg (by rw [hpeer]; exact Bool.false_ne_true)).trans (if_neg (by rw [hred]; decide))

section
variable (hred : S.redmode = 1) (hfree : S.partnerHolds = false)
include hred hfree

theorem State.roleDecided_unitA (hA : S.roleB = false) : S.roleDecided = S.startRole 4 := by
  rw [S.roleDecided_heartbeat hpeer hred, hfree, hA]
  rfl

theorem State.roleDecided_unitB (hB : S.roleB = true) : S.roleDecided = if S.pair.zaf.seen || S.pair.hb.seen then S.enterStandby true
    else if 500000000 ≤ S.now then S.startRole 4 else S := by
  rw [S.roleDecided_heartbeat hpeer hred, hfree, hB]
  rfl

end
end
end

section
variable {dt : Nat} {s S : State} (hS : S = s.elapse dt) (hup : S.up = true)
include hS hup

theorem pairRoleDecision_exec (hst : S.pair.st = .starting) :
    exec (.pairRoleDecision dt) s = .next (S.when (!S.pair.mismatch) State.roleDecided) := by
  have hrun : exec (.pairRoleDecision dt) s = .next (S.when (S.up && S.pair.st == .starting && !S.pair.mismatch) State.roleDecided) := by
    subst hS
    rfl
  rw [hrun, hup, hst]
  rfl

/-! ## Grant, YIELD and release (R501, R503, R528, R529) -/

theorem actGntLow_exec (hred : S.redmode = 2) :
    exec (.actGntLow dt) s = .next (S.modPair fun p => { p with gntN := false }).grantTake := by
  subst hS
  exact next_of_when rfl (by rw [hup, hred]; rfl) rfl

theorem actGntHigh_exec (hred : S.redmode = 2) {B : State} (hB : B = S.modPair fun p => { p with gntN := true }) :
    exec (.actGntHigh dt) s = .next (if S.pairActive then B.roleLoss S.now else B) := by
  subst hS hB
  exact next_of_when rfl (by rw [hup, hred]; rfl) rfl

theorem yield_exec {cause : Byte} : exec (.yield dt cause) s = .next (S.when (S.pair.st == .standby && (cause == 1 || cause == 2))
    fun s => if cause == 1 then (s.takeover 3).pairEvent 5 ((s.pair.committedSeq.getD 0).setWidth 64) else s.takeover 3) := by
  have hrun : exec (.yield dt cause) s = .next (S.when (S.up && S.pair.st == .standby && (cause == 1 || cause == 2))
      fun s => if cause == 1 then (s.takeover 3).pairEvent 5 ((s.pair.committedSeq.getD 0).setWidth 64) else s.takeover 3) := by
    subst hS
    rfl
  rw [hrun, hup, Bool.true_and]

theorem releaseExpiry_exec (hst : S.pair.st = .releasing) : exec (.releaseExpiry dt) s =
    .next (S.when (decide (S.pair.tl + 1000000 * ptTrel S.pair.timing ≤ S.now)) fun s => s.enterStandby false) := by
  have hrun : exec (.releaseExpiry dt) s = .next (S.when (S.up && S.pair.st == .releasing &&
      decide (S.pair.tl + 1000000 * ptTrel S.pair.timing ≤ S.now)) fun s => s.enterStandby false) := by
    subst hS
    rfl
  rw [hrun, hup, hst]
  rfl

end

/-- What standing by at start-up leaves (R498, R499). -/
def State.Stands (S t : State) : Prop :=
  t.pair.st = .standby ∧ t.pair.staticOk = S.pair.staticOk ∧ t.host.link = (if S.host.perst then 0 else 2) ∧ t.plinth = S.plinth ∧
    (∀ q : QuadId, (t.quad q).sync = false ∧ (t.quad q).armed = false) ∧ (∀ q : QueueId, (t.queue q).st = .absent) ∧ t.reqs = [] ∧
    t.ops = []

theorem State.enterStandby_stands (S : State) : S.Stands (S.enterStandby true) := by
  obtain ⟨hst, hok, hlink, hpl, hreqs, hops⟩ := S.enterStandby_pair true
  refine ⟨hst, hok.trans (Bool.and_true _), hlink, hpl, fun q => ?_, fun q => ?_, hreqs, hops⟩
  · rw [State.enterStandby_quad]
    exact ⟨rfl, rfl⟩
  · rw [State.enterStandby_queue]
    rfl

/-- Settles O53: each event, by the unit's state and its partner's. -/
theorem roles : Obligations.Roles := by
  intro dt s S hS hup
  refine ⟨fun hst X hX => ?_, fun hred A B hA hB => ?_, fun cause => ?_, fun hst => ?_, fun tl => ?_⟩
  · rw [pairRoleDecision_exec hS hup hst] at hX
    refine ⟨fun hmis => ?_, fun hmis takes htakes stands hstands => ?_⟩
    · rw [hX, hmis]
      rfl
    · replace hX : X = .next S.roleDecided := by
        rw [hX, hmis]
        rfl
      replace htakes (cause : Nat) (h : S.roleDecided = S.startRole cause) : takes cause :=
        (htakes cause).mpr (hX.trans (congrArg _ (h.trans (S.startRole_eq cause))))
      replace hstands (h : S.roleDecided = S.enterStandby true) : stands :=
        hstands.mpr ⟨S.enterStandby true, hX.trans (congrArg _ h), S.enterStandby_stands⟩
      refine ⟨fun hpeer => htakes 4 (S.roleDecided_lone hpeer), fun hpeer hred hg hp => htakes 2 ?_, fun hpeer hred hno => hstands ?_,
        fun hpeer hred hp => hstands ?_, fun hpeer hred hp => ⟨fun hA => htakes 4 (S.roleDecided_unitA hpeer hred hp hA), fun hB hseen =>
          hstands ?_, fun hB hz hh => ⟨fun hle => htakes 4 ?_, fun hlt => ?_⟩⟩⟩
      · rw [S.roleDecided_arbiter hpeer hred, hg, hp]
        rfl
      · rw [S.roleDecided_arbiter hpeer hred, if_neg]
        rw [Bool.and_eq_true, Bool.not_eq_true', Bool.not_eq_true']
        rintro ⟨hg, hp⟩
        exact hno.elim (fun h => Bool.false_ne_true (hg.symm.trans h)) fun h => Bool.false_ne_true (hp.symm.trans h)
      · rw [S.roleDecided_heartbeat hpeer hred, hp]
        rfl
      · rw [S.roleDecided_unitB hpeer hred hp hB, if_pos ((Bool.or_eq_true _ _).mpr hseen)]
      · rw [S.roleDecided_unitB hpeer hred hp hB, hz, hh, if_neg (by decide), if_pos hle]
      · rw [hX, S.roleDecided_unitB hpeer hred hp hB, hz, hh, if_neg (by decide), if_neg (Nat.not_le.mpr hlt)]
  · have hred' : A.redmode = 2 := hA ▸ hred
    have hstA : A.pair.st = S.pair.st := hA ▸ rfl
    have hpA : A.partnerHolds = S.partnerHolds := hA ▸ rfl
    have hgA : A.pair.gntN = false := hA ▸ rfl
    rw [actGntLow_exec hS hup hred, ← hA, actGntHigh_exec hS hup hred hB, State.grantTake_eq, hstA, hpA]
    refine ⟨fun hst hp => congrArg _ (if_pos ⟨hred', hst, hgA, hp⟩), fun hno => congrArg _ (if_neg ?_),
      fun hst => congrArg _ (if_pos ((State.pairActive_iff S).mpr hst)), fun hst => congrArg _ (if_neg fun h => hst ((State.pairActive_iff S).mp h))⟩
    rintro ⟨-, hst, -, hp⟩
    exact hno.elim (fun h => h hst) fun h => Bool.false_ne_true (hp.symm.trans h)
  · rw [yield_exec hS hup]
    refine ⟨fun hst hc => ?_, fun hst hc => ?_, fun hno => congrArg _ (State.when_of_false _ _ ?_)⟩
    · rw [hst, hc]
      rfl
    · rw [hst, hc]
      rfl
    · rw [Bool.and_eq_false_iff, Bool.or_eq_false_iff, beq_eq_false_iff_ne, beq_eq_false_iff_ne, beq_eq_false_iff_ne]
      exact hno
  · rw [releaseExpiry_exec hS hup hst]
    refine ⟨fun hlt => congrArg _ (State.when_of_false _ _ (decide_eq_false (Nat.not_le.mpr hlt))), fun hle =>
      ⟨S.enterStandby false, congrArg _ (State.when_of_true _ _ (decide_eq_true hle)), ?_⟩⟩
    obtain ⟨hsb, hok, hlink, hpl, -, -⟩ := S.enterStandby_pair false
    refine ⟨hsb, hok.trans (Bool.and_false _), hlink, hpl, fun q => ?_, fun c => ?_, fun q => ?_⟩
    · rw [State.enterStandby_quad]
      exact ⟨rfl, rfl, rfl⟩
    · rw [State.enterStandby_chan]
      rfl
    · rw [State.enterStandby_queue]
      rfl
  · refine ⟨_, rfl, rfl, rfl, rfl, rfl, rfl, rfl, S.roleLoss_queue tl, fun c => ?_⟩
    rw [State.roleLoss_chan]
    exact ⟨Chan.released_gen _, Chan.released_ref _⟩

end Sys2Proof.Machine

/-!
Takeover (R467, R521–R527, R537): restoring from the Plinth, driving the outputs, resuming the host interface, and the settlement of
O54.
-/
namespace Sys2Proof.Machine
open Sys2Proof

/-! ## What is restored (R521–R523, R526) -/

theorem staticLost_data : BitVec.ofNat 64 (3 + 0xFFFFFFFF * 2 ^ 32) = 0xFFFFFFFF00000003 := by decide

theorem noSlot_data : BitVec.ofNat 64 (2 + 0xFFFFFFFF * 2 ^ 32) = 0xFFFFFFFF00000002 := by decide

theorem slotUnknown_data : BitVec.ofNat 64 (1 + 0xFFFFFFFF * 2 ^ 32) = 0xFFFFFFFF00000001 := by decide

/-- What a takeover at t does with slot k once it is restored: without its age, or with an age beyond STALE, the safe values. -/
def State.slotTaken (T : State) (t k : Nat) : State :=
  let age := match T.pair.slotTimes.find? fun x => x.1 == k with | some x => some (t - x.2) | none => none
  let stale := match age with | some a => decide (ptStale T.pair.timing * 1000000 < a) | none => true
  if stale then
    let ms := match age with | some a => min 0xFFFFFFFF (a / 1000000) | none => 0xFFFFFFFF
    T.safeStart.pairEvent 7 (BitVec.ofNat 64 (1 + ms * 2 ^ 32))
  else T.modPair fun p => { p with slot := some k }

section
variable (T : State) (t k : Nat)

theorem State.slotTaken_unknown (hno : ∀ x ∈ T.pair.slotTimes, x.1 ≠ k) :
    T.slotTaken t k = T.safeStart.pairEvent 7 0xFFFFFFFF00000001 := by
  have hfind : T.pair.slotTimes.find? (fun x => x.1 == k) = none :=
    List.find?_eq_none.mpr fun x hx => beq_iff_eq.not.mpr (hno x hx)
  rw [State.slotTaken, hfind]
  exact congrArg (T.safeStart.pairEvent 7) slotUnknown_data

variable {x : Nat × Nat} {l1 l2 : List (Nat × Nat)} (hl : T.pair.slotTimes = l1 ++ x :: l2) (hx : x.1 = k)
  (hfirst : ∀ y ∈ l1, y.1 ≠ k)
include hl hx hfirst

theorem State.slotTaken_known : T.slotTaken t k = if ptStale T.pair.timing * 1000000 < t - x.2 then
    T.safeStart.pairEvent 7 (BitVec.ofNat 64 (1 + min 0xFFFFFFFF ((t - x.2) / 1000000) * 2 ^ 32))
    else T.modPair fun p => { p with slot := some k } := by
  have hfind : T.pair.slotTimes.find? (fun y => y.1 == k) = some x := by
    rw [hl]
    exact find?_first (beq_iff_eq.mpr hx) fun y hy => beq_eq_false_iff_ne.mpr (hfirst y hy)
  rw [State.slotTaken, hfind]
  exact if_congr decide_eq_true_iff rfl rfl

end

/-- What a takeover at t makes of the static area that it restored. -/
def State.slotRestored (R : State) (t : Nat) : State :=
  match R.newestSlot with
  | none => (R.safeStart.startChains).pairEvent 7 (BitVec.ofNat 64 (2 + 0xFFFFFFFF * 2 ^ 32))
  | some k => ((R.restoreSlot k).startChains).slotTaken t k

section
variable {s H : State} {cause : Nat} (hmis : s.pair.mismatch = false)
  (hH : H = ((s.hold cause).modPair fun p => { p with t1 := some s.now, driven := false, slot := none }).romStart)
include hmis hH

theorem State.takeover_eq : s.takeover cause = if !H.pair.staticOk then
    (H.modPair fun p => { p with driven := true }).pairEvent 7 (BitVec.ofNat 64 (3 + 0xFFFFFFFF * 2 ^ 32))
    else H.restoreStatic.slotRestored s.now := by
  subst hH
  rw [State.takeover, if_neg (by rw [hmis]; exact Bool.false_ne_true)]
  rfl

theorem State.takeover_static (hok : H.pair.staticOk = true) : s.takeover cause = H.restoreStatic.slotRestored s.now := by
  rw [State.takeover_eq hmis hH, hok]
  rfl

theorem State.takeover_slot (hok : H.pair.staticOk = true) {k : Nat} (hk : H.restoreStatic.newestSlot = some k) :
    s.takeover cause = ((H.restoreStatic.restoreSlot k).startChains).slotTaken s.now k := by
  rw [State.takeover_static hmis hH hok, State.slotRestored, hk]

end

theorem slotBase_eq (k : Nat) : 0x80000 + 0x6000 * (k % 64) = slotBase k := rfl

/-! ## Driving the outputs (R524, R525) -/

/-- The units whose references a takeover sets. -/
def State.outputUnits (S : State) : List ChanId := allChans.filter fun c => S.isOutput c && !S.isOdd c

/-- The arm state that slot k holds (R524). -/
def State.slotArmed (A : State) (b : Nat) : State :=
  { A with quads := A.quads.mapFinIdx fun i x _ => { x with armed := A.itemB b 6 i } }

/-- Channels under a trigger take their safe values, and the units that are on are going to switch on (R165, R525). -/
def State.unitsOn (B : State) (units : List ChanId) : State :=
  let C := allChans.foldl (fun t c => if t.trigOn c then t.modChan c fun x => { x with safeOn := true } else t) B
  C.modPair fun p => { p with ons := units.filter fun l => C.demand l }

/-- Slot k is driven: references, arm state, safe values under a trigger, and the units that are going to switch on. -/
def State.slotDriven (S : State) (k : Nat) (readback : Mask128) : State :=
  ((S.outputUnits.foldl (fun t l => t.takeRef k (bit (memRead S.plinth (slotBase k + 24)) 0) readback l) S).slotArmed
    (slotBase k)).unitsOn S.outputUnits

/-- What TAKEOVER_DRIVE does once every die is synchronised. -/
def State.takeoverDriven (S : State) (readback : Mask128) : State :=
  (match S.pair.slot with
    | none => S
    | some k => S.slotDriven k readback).modPair fun p => { p with driven := true }

theorem State.slotArmed_eq (A : State) (b : Nat) : A.slotArmed b = A.onQuads fun q x => { x with armed := A.itemB b 6 q.val } := by
  have hquads : (A.quads.mapFinIdx fun i x _ => { x with armed := A.itemB b 6 i }) =
      Vector.ofFn fun q : QuadId => { A.quad q with armed := A.itemB b 6 q.val } := by
    ext i hi : 1
    rw [Vector.getElem_mapFinIdx, Vector.getElem_ofFn]
    rfl
  rw [State.slotArmed, hquads]
  rfl

theorem State.takeRef_eq (s : State) (k : Nat) (final : Bool) (readback : Mask128) (l : ChanId) {r : Bool}
    (hr : r = (if final = true ∨ bit (s.chan l).standing 7 = true ∨ (s.chan l).reverse = true then s.itemB (slotBase k) 15 l.val
      else bit readback l.val)) :
    s.takeRef k final readback l = if s.itemB (slotBase k) 16 l.val then
      s.modChan l fun x => { x with gen := some (s.newGen l (s.itemW (slotBase k) 17 l.val)), ref := false, held := r }
      else s.modChan l fun x => { x with ref := r, held := r } := by
  have hr' : (if final || bit (s.chan l).standing 7 || (s.chan l).reverse then s.itemB (slotBase k) 15 l.val
      else bit readback l.val) = r := by
    rw [hr]
    exact if_congr (by rw [Bool.or_eq_true, Bool.or_eq_true, or_assoc]) rfl rfl
  rw [State.takeRef, hr']

section
variable {dt : Nat} {s S : State} (hS : S = s.elapse dt) (hup : S.up = true) (hst : S.pair.st = .active)
  {t1 : Nat} (ht : S.pair.t1 = some t1)
include hS hup hst ht

theorem takeoverDrive_exec (hdr : S.pair.driven = false) (readback : Mask128) : exec (.takeoverDrive dt readback) s =
    .next (S.when ((List.finRange 4).all fun q => (S.quad q).sync) fun S => S.takeoverDriven readback) := by
  have hrun : exec (.takeoverDrive dt readback) s = .next (S.when (S.up && S.pairActive && S.pair.t1.isSome && !S.pair.driven &&
      (List.finRange 4).all fun q => (S.quad q).sync) fun S => S.takeoverDriven readback) := by
    subst hS
    rfl
  rw [hrun, hup, (State.pairActive_iff S).mpr hst, ht, hdr]
  rfl

/-! ## The host interface resumes (R467, R527) -/

/-- The host interface resumed with what the completion rings tell. -/
def State.hostResumed (S : State) (phases : Vector Nat 64) (cids : List Word16) : State :=
  let r := (List.finRange 64).foldl (fun (r : State × List Word16 × Nat) q =>
    (r.1.resumeQueue q phases[q] (r.2.1.take ((r.1.queue q).doubts phases[q])), r.2.1.drop ((r.1.queue q).doubts phases[q]),
      r.2.2 + (r.1.queue q).doubts phases[q])) (S, cids, 0)
  let A := r.1.stageAny (r.1.fieldRecord 2)
  (A.pairEvent 3 (BitVec.ofNat 64 (A.pair.cause + r.2.2 % 2 ^ 32 * 2 ^ 32))).modPair fun p => { p with t1 := none, firstPoll := true }

theorem hostResume_exec (hdr : S.pair.driven = true) (hons : S.pair.ons = []) (phases : Vector Nat 64) (cids : List Word16) :
    exec (.hostResume dt phases cids) s = .next (S.when (decide (t1 + 2 * (1000 * ptHbper S.pair.timing) ≤ S.now))
      fun S => S.hostResumed phases cids) := by
  subst hS
  show execHostResume dt phases cids s = _
  unfold execHostResume State.hostResumed
  dsimp only
  rw [hup, (State.pairActive_iff _).mpr hst, ht, hdr, hons]
  simp only [Bool.true_and, List.isEmpty_nil]
  congr 2

end

theorem State.resumeQueue_present (S : State) (q : QueueId) (phases : Nat) (cids : List Word16) (hq : (S.queue q).st ≠ .absent)
    {A : State} (hA : A = S.modQueue q fun u =>
      { u with w := u.w + BitVec.ofNat 32 (min phases (u.f - u.w).toNat), resync := u.profile.isSome })
    {k : Nat} (hk : k = ((A.queue q).f - (A.queue q).w).toNat) : S.resumeQueue q phases cids =
      (if k == 0 then A.indoubt q cids k else (A.indoubt q cids k).signalQueue q).drained q := by
  subst hA hk
  exact if_neg (beq_iff_eq.not.mpr hq)

/-- Settles O54: a takeover by what it finds in the Plinth, TAKEOVER_DRIVE by the slot, HOST_RESUME by its time, and each queue by what
its completion ring tells. -/
theorem takeover : Obligations.Takeover := by
  unfold Obligations.Takeover
  refine ⟨fun s H R cause hmis hH hR => ?_, fun dt s S hS hup hst t1 ht => ⟨fun rb hdr => ⟨?_, fun hsync => ⟨?_, ?_⟩⟩,
    fun k final rb l r hr => ⟨fun hg => ?_, fun hg => ?_⟩, fun phases cids hdr hons => ⟨fun hlt => ?_, fun hle R A hR hA => ?_⟩,
    fun q phases cids => ⟨fun hq => if_pos (beq_iff_eq.mpr hq), fun hq A k hk hA => ⟨fun h0 => ?_, fun h0 => ?_⟩, rfl, fun c k => rfl⟩⟩⟩
  · subst hR
    refine ⟨fun hok => ?_, fun hok hnone => ?_, fun k T hok hk hT => ⟨fun hno => ?_, fun x l1 l2 hl hx hfirst => ⟨fun hlt => ?_, fun hle => ?_⟩⟩⟩
    · rw [State.takeover_eq hmis hH, hok]
      exact congrArg ((H.modPair fun p => { p with driven := true }).pairEvent 7) staticLost_data
    · rw [State.takeover_static hmis hH hok, State.slotRestored, hnone]
      exact congrArg (H.restoreStatic.safeStart.startChains.pairEvent 7) noSlot_data
    · rw [State.takeover_slot hmis hH hok hk, ← hT, State.slotTaken_unknown T s.now k hno]
    · rw [State.takeover_slot hmis hH hok hk, ← hT, State.slotTaken_known T s.now k hl hx hfirst, if_pos hlt]
    · rw [State.takeover_slot hmis hH hok hk, ← hT, State.slotTaken_known T s.now k hl hx hfirst, if_neg (Nat.not_lt.mpr hle)]
  · rintro ⟨q, hq⟩
    rw [takeoverDrive_exec hS hup hst ht hdr]
    refine congrArg _ (State.when_of_false _ _ (List.all_eq_false.mpr ⟨q, List.mem_finRange q, ?_⟩))
    rw [hq]
    exact Bool.false_ne_true
  · rw [takeoverDrive_exec hS hup hst ht hdr,
      State.when_of_true _ _ (List.all_eq_true.mpr fun q _ => hsync q)]
    intro hno
    rw [State.takeoverDriven, hno]
  · intro k final units A B C hk hfin hunits hA hB hC
    rw [takeoverDrive_exec hS hup hst ht hdr,
      State.when_of_true _ _ (List.all_eq_true.mpr fun q _ => hsync q), State.takeoverDriven, hk]
    rw [slotBase_eq] at hfin hB
    have hdriven : S.slotDriven k rb = B.unitsOn units := by
      rw [hB, hA, hunits, hfin]
      exact congrArg (fun B : State => B.unitsOn S.outputUnits) (State.slotArmed_eq _ _)
    have hons : B.unitsOn units = C.modPair fun p => { p with ons := units.filter fun l => C.demand l } := by
      rw [hC]
      rfl
    exact congrArg (fun T : State => Host.Outcome.next (T.modPair fun p => { p with driven := true })) (hdriven.trans hons)
  · rw [slotBase_eq] at hr hg
    rw [State.takeRef_eq S k final rb l hr, hg]
    rfl
  · rw [slotBase_eq] at hr hg ⊢
    rw [State.takeRef_eq S k final rb l hr, hg]
    rfl
  · rw [hostResume_exec hS hup hst ht hdr hons]
    exact congrArg _ (State.when_of_false _ _ (decide_eq_false (Nat.not_le.mpr hlt)))
  · rw [hostResume_exec hS hup hst ht hdr hons, State.when_of_true _ _ (decide_eq_true hle)]
    simp only [State.hostResumed, ← hR, ← hA]
  · rw [State.resumeQueue_present S q phases cids hq hA hk, h0]
    rfl
  · rw [State.resumeQueue_present S q phases cids hq hA hk, if_neg (beq_iff_eq.not.mpr h0)]

end Sys2Proof.Machine

/-!
Buttress and what runs in time (R42, R43, R191, R197, R219, R224, R241–R245, R252): admission, deferral, test pulses and the edges
of generators, and the settlement of O59.
-/
namespace Sys2Proof.Machine
open Sys2Proof

/-! ## The order of the requests (R42) -/

/-- A request's place in the order of R42. -/
def Req.place (r : Req) : ℕ ×ₗ ℕ ×ₗ ℕ ×ₗ ℕ := toLex (r.rank, toLex (r.frame, toLex (r.key, r.chan.val)))

theorem Req.before_iff (a b : Req) : a.before b = true ↔ a.rank < b.rank ∨ (a.rank = b.rank ∧ (a.frame < b.frame ∨
    (a.frame = b.frame ∧ (a.key < b.key ∨ (a.key = b.key ∧ a.chan.val < b.chan.val))))) := by
  unfold Req.before
  simp only [bne_iff_ne, ne_eq]
  split_ifs with hrank hframe hkey <;> rw [decide_eq_true_iff] <;> omega

theorem Req.before_iff_place (a b : Req) : a.before b = true ↔ a.place < b.place := by
  rw [Req.before_iff, Req.place, Req.place, Prod.Lex.toLex_lt_toLex, Prod.Lex.toLex_lt_toLex, Prod.Lex.toLex_lt_toLex]

theorem Req.rank_le (r : Req) : r.rank ≤ 3 := by
  unfold Req.rank
  split <;> decide

/-- A deferrable request that is not a restart is a soft entry's or a command's (R42, R243). -/
theorem Req.defers_iff (r : Req) : (r.rank != 0 && r.rank != 3) = true ↔ r.rank = 1 ∨ r.rank = 2 := by
  have hle := r.rank_le
  rw [Bool.and_eq_true, bne_iff_ne, bne_iff_ne]
  omega

section
variable {S H : State} {q : QuadId}

/-- The requests that a frame is still to test. -/
def State.candidates (S : State) (q : QuadId) : List Req :=
  S.reqs.filter fun r => quadOf r.chan == q && S.readyReq r && r.tested != some S.frameNo

theorem State.mem_candidates (r : Req) : r ∈ S.candidates q ↔
    r ∈ S.reqs ∧ quadOf r.chan = q ∧ S.readyReq r = true ∧ r.tested ≠ some S.frameNo := by
  rw [State.candidates, List.mem_filter, Bool.and_eq_true, Bool.and_eq_true, beq_iff_eq, bne_iff_ne, and_assoc]

theorem State.nextReq_eq_argmin : S.nextReq q = (S.candidates q).argmin Req.place := by
  refine congrArg (fun step => (S.candidates q).foldl step none) (funext fun best => funext fun r => ?_)
  cases best with
  | none => rfl
  | some b => exact if_congr (Req.before_iff_place r b) rfl rfl

theorem State.nextReq_none (hno : ∀ r, r ∉ S.candidates q) : S.nextReq q = none := by
  rw [State.nextReq_eq_argmin, List.eq_nil_iff_forall_not_mem.mpr hno, List.argmin_nil]

/-- The request that is tested next is one that no other goes before. -/
theorem State.nextReq_some {x : Req} (hx : x ∈ S.candidates q) :
    ∃ r ∈ S.candidates q, S.nextReq q = some r ∧ ∀ y ∈ S.candidates q, y.before r = false := by
  have hne : (S.candidates q).argmin Req.place ≠ none := fun h => List.ne_nil_of_mem hx (List.argmin_eq_none.mp h)
  obtain ⟨r, hr⟩ := Option.ne_none_iff_exists'.mp hne
  refine ⟨r, List.argmin_mem hr, State.nextReq_eq_argmin.trans hr, fun y hy => Bool.eq_false_iff.mpr fun h => ?_⟩
  exact List.not_lt_of_mem_argmin hy hr ((Req.before_iff_place y r).mp h)

theorem State.holdBack_eq (S : State) (q : QuadId) : S.holdBack q = { S with
    reqs := S.reqs.map fun r => if quadOf r.chan = q ∧ S.readyReq r = false ∧ r.tested = none then { r with frame := S.frameNo } else r } := by
  have hmap : (fun r : Req => if quadOf r.chan == q && !S.readyReq r && r.tested.isNone then { r with frame := S.frameNo } else r) =
      fun r => if quadOf r.chan = q ∧ S.readyReq r = false ∧ r.tested = none then { r with frame := S.frameNo } else r :=
    funext fun r => if_congr (by
      rw [Bool.and_eq_true, Bool.and_eq_true, beq_iff_eq, Bool.not_eq_true', Option.isNone_iff_eq_none, and_assoc]) rfl rfl
  rw [State.holdBack, hmap]

end

/-! ## The tests of R241 -/

theorem State.testReq_eq_zero_iff (S : State) (r : Req) : S.testReq r = 0 ↔
    S.frozen (quadOf r.chan) = false ∧ (∀ m ∈ S.members r.chan, S.tj m < 150) ∧
      (r.opens S = true → S.windows (quadOf r.chan) < qbKinr (S.quad (quadOf r.chan)).qbudw) ∧
      S.standingCur false (quadOf r.chan) + (S.asks r).1 ≤ S.iEff (quadOf r.chan) ∧
      S.standingCond false (quadOf r.chan) + (S.asks r).2 ≤ S.pBud (quadOf r.chan) ∧ S.pPkg false + (S.asks r).2 ≤ S.pPKG := by
  have hhot : (S.members r.chan).any (fun m => 150 ≤ S.tj m) = false ↔ ∀ m ∈ S.members r.chan, S.tj m < 150 := by
    simp only [List.any_eq_false, decide_eq_true_eq, not_le]
  have hwin : (r.opens S && decide (qbKinr (S.quad (quadOf r.chan)).qbudw ≤ S.windows (quadOf r.chan))) = false ↔
      (r.opens S = true → S.windows (quadOf r.chan) < qbKinr (S.quad (quadOf r.chan)).qbudw) := by
    rw [← Bool.not_eq_true, Bool.and_eq_true, decide_eq_true_iff, not_and, not_le]
  rw [← hhot, ← hwin, ← not_lt (a := S.iEff _), ← not_lt (a := S.pBud _), ← not_lt (a := S.pPKG), State.testReq]
  split_ifs with h1 h2 h3 h4 h5 h6 <;> simp_all

/-! ## Admission and deferral (R241–R245) -/

/-- Buttress tests a request that no course entry forces: it is granted, or waits on with the test that it failed (R241). -/
def State.reqTested (H : State) (q : QuadId) (r : Req) : State :=
  let n := H.testReq r
  if n == 0 then H.grant r (r.frame < H.frameNo)
  else
    let f := H.frameNo
    let A := { H with reqs := H.reqs.map fun x => if x.seq == r.seq then { x with tested := some f, failed := n } else x }
    if r.failed == 0 && r.src != .restart then A.modQuad q fun x => { x with deferred := x.deferred + 1 } else A

/-- What Buttress makes of the requests of a quadrant in a frame. -/
def State.reqAdmitted (H : State) (q : QuadId) : State :=
  match H.nextReq q with
  | none => H
  | some r => if r.rank == 0 then H.fireHard r else H.reqTested q r

/-- What a request's deferral limit brings (R243, R244). -/
def State.reqLimited (H : State) (l : ChanId) (r : Req) : State :=
  let n := H.testReq r
  let w := (H.chan l).budw
  if !H.readyReq r || H.frameNo < r.frame + 100 * buDmax w || n == 0 then H
  else if buRefuse w then H.refuse r n
  else if n == 1 then H
  else (H.overBudget r 2 n).grant r (r.frame < H.frameNo)

/-- The deferral limit of a unit. -/
def State.unitLimited (H : State) (l : ChanId) : State :=
  match H.reqs.find? fun r => r.chan == l && r.rank != 0 && r.rank != 3 with
  | none => H
  | some r => H.reqLimited l r

section
variable (H : State) (q : QuadId) (r : Req)

theorem State.fireHard_eq : H.fireHard r = if H.testReq r = 0 then H.grant r false
    else (H.overBudget r 1 (H.testReq r)).grant r false := by
  rw [State.fireHard]
  rw [apply_ite (fun s : State => s.grant r false)]
  by_cases h : H.testReq r = 0
  · rw [if_pos h, if_neg (by rw [h]; decide)]
  · rw [if_neg h, if_pos (bne_iff_ne.mpr h)]

theorem State.reqTested_granted (h : H.testReq r = 0) : H.reqTested q r = H.grant r (r.frame < H.frameNo) :=
  if_pos (beq_iff_eq.mpr h)

theorem State.reqTested_waits (h : H.testReq r ≠ 0) {A : State} (hA : A = { H with reqs := H.reqs.map fun x =>
    if x.seq = r.seq then { x with tested := some H.frameNo, failed := H.testReq r } else x }) :
    H.reqTested q r = if r.failed = 0 ∧ r.src ≠ .restart then A.modQuad q fun x => { x with deferred := x.deferred + 1 } else A := by
  have hmap : (fun x : Req => if x.seq == r.seq then { x with tested := some H.frameNo, failed := H.testReq r } else x) =
      fun x => if x.seq = r.seq then { x with tested := some H.frameNo, failed := H.testReq r } else x :=
    funext fun x => if_congr beq_iff_eq rfl rfl
  rw [hA, ← hmap]
  refine (if_neg (beq_iff_eq.not.mpr h)).trans (if_congr ?_ rfl rfl)
  rw [Bool.and_eq_true, beq_iff_eq, bne_iff_ne]

variable {l : ChanId}

theorem State.reqLimited_stays (h : H.readyReq r = false ∨ H.frameNo < r.frame + 100 * buDmax (H.chan l).budw ∨ H.testReq r = 0) :
    H.reqLimited l r = H := by
  refine if_pos ?_
  rw [Bool.or_eq_true, Bool.or_eq_true, Bool.not_eq_true', decide_eq_true_iff, beq_iff_eq, or_assoc]
  exact h

section
variable (hready : H.readyReq r = true) (hlim : r.frame + 100 * buDmax (H.chan l).budw ≤ H.frameNo) (hfail : H.testReq r ≠ 0)
include hready hlim hfail

theorem State.reqLimited_decides : H.reqLimited l r = if buRefuse (H.chan l).budw then H.refuse r (H.testReq r)
    else if H.testReq r == 1 then H else (H.overBudget r 2 (H.testReq r)).grant r (r.frame < H.frameNo) := by
  refine if_neg ?_
  rw [Bool.or_eq_true, Bool.or_eq_true, Bool.not_eq_true', decide_eq_true_iff, beq_iff_eq]
  rintro ((h | h) | h)
  · exact Bool.false_ne_true (h.symm.trans hready)
  · exact Nat.not_lt.mpr hlim h
  · exact hfail h

end

theorem State.unitLimited_first {l1 l2 : List Req} (hreqs : H.reqs = l1 ++ r :: l2) (hchan : r.chan = l)
    (hrank : r.rank = 1 ∨ r.rank = 2) (hfirst : ∀ x ∈ l1, x.chan ≠ l ∨ x.rank = 0 ∨ x.rank = 3) :
    H.unitLimited l = H.reqLimited l r := by
  have hfind : H.reqs.find? (fun r => r.chan == l && r.rank != 0 && r.rank != 3) = some r := by
    rw [hreqs]
    refine find?_first ?_ fun x hx => ?_
    · rw [Bool.and_assoc, Bool.and_eq_true, beq_iff_eq]
      exact ⟨hchan, r.defers_iff.mpr hrank⟩
    · rw [Bool.and_assoc, Bool.and_eq_false_iff, beq_eq_false_iff_ne, Bool.and_eq_false_iff, bne_eq_false_iff_eq, bne_eq_false_iff_eq]
      exact hfirst x hx
  rw [State.unitLimited, hfind]

theorem State.unitLimited_none (hno : ∀ r ∈ H.reqs, r.chan ≠ l ∨ r.rank = 0 ∨ r.rank = 3) : H.unitLimited l = H := by
  have hfind : H.reqs.find? (fun r => r.chan == l && r.rank != 0 && r.rank != 3) = none := by
    refine List.find?_eq_none.mpr fun x hx => Bool.eq_false_iff.mp ?_
    rw [Bool.and_assoc, Bool.and_eq_false_iff, beq_eq_false_iff_ne, Bool.and_eq_false_iff, bne_eq_false_iff_eq, bne_eq_false_iff_eq]
    exact hno x hx
  rw [State.unitLimited, hfind]

end

section
variable {dt : Nat} {s S : State} (hS : S = s.elapse dt) (hup : S.up = true) (hrole : S.holdsRole = true)
include hS hup hrole

theorem switchOnAdmit_exec (q : QuadId) :
    exec (.switchOnAdmit dt q) s = .next (S.when (!(S.quad q).statusMiss) fun S => (S.holdBack q).reqAdmitted q) := by
  have hrun : exec (.switchOnAdmit dt q) s =
      .next (S.when (S.up && S.holdsRole && !(S.quad q).statusMiss) fun S => (S.holdBack q).reqAdmitted q) := by
    subst hS
    rfl
  rw [hrun, hup, hrole]
  rfl

theorem deferralLimit_exec {c l : ChanId} {q : QuadId} (hl : l = S.lead c) (hq : quadOf l = q) : exec (.deferralLimit dt c) s =
    .next (S.when (!(S.quad q).statusMiss) fun S => (S.holdBack q).unitLimited l) := by
  have hrun : exec (.deferralLimit dt c) s = .next (S.when (S.up && S.holdsRole && !(S.quad (quadOf (S.lead c))).statusMiss)
      fun H => (H.holdBack (quadOf (S.lead c))).unitLimited (S.lead c)) := by
    subst hS
    rfl
  rw [hrun, hup, hrole, ← hl, hq]
  rfl

/-! ## Test pulses (R191, R252) -/

/-- A test pulse of c starts at k. -/
def State.pulseStarted (B : State) (c : ChanId) (k : Nat) : State :=
  (B.members c).foldl (fun t m => t.modChan m fun x => { x with
    test := .running, testEnd := none, chgAt := k, testLast := some k }) B

/-- Whether a test pulse of c may start: its turn, none in the quadrant, headroom. -/
def State.pulseMay (S : State) (c : ChanId) : Bool :=
  S.testDue c && ((quadChans (quadOf c)).all fun d => !(S.testDue d && (S.chan d).testKey < (S.chan c).testKey)) &&
    ((quadChans (quadOf c)).all fun d => (S.chan d).test == .idle) && decide (1 / 10 ≤ S.headroom (quadOf c) (S.inom c))

theorem testPulseStart_exec (c : ChanId) : exec (.testPulseStart dt c) s = .next (S.when (S.pulseMay c) fun S =>
    (S.modQuad (quadOf c) fun x => { x with
      testDelays := x.testDelays + b2n (decide ((S.chan c).testFrom + 1000000000 < S.now)) }).pulseStarted c S.now) := by
  subst hS
  refine congrArg (fun b => Host.Outcome.next (State.when _ b _)) ?_
  rw [hup, hrole, Bool.true_and, Bool.true_and]
  rfl

end

section
variable (S : State) (c : ChanId)

theorem State.pulseMay_iff : S.pulseMay c = true ↔ S.testDue c = true ∧
    (∀ d ∈ quadChans (quadOf c), S.testDue d = true → (S.chan c).testKey ≤ (S.chan d).testKey) ∧
    (∀ d ∈ quadChans (quadOf c), (S.chan d).test = .idle) ∧ 1 / 10 ≤ S.headroom (quadOf c) (S.inom c) := by
  have hturn : ((quadChans (quadOf c)).all fun d => !(S.testDue d && (S.chan d).testKey < (S.chan c).testKey)) = true ↔
      ∀ d ∈ quadChans (quadOf c), S.testDue d = true → (S.chan c).testKey ≤ (S.chan d).testKey := by
    simp only [List.all_eq_true, Bool.not_eq_true', Bool.and_eq_false_imp, decide_eq_false_iff_not, not_lt]
  have hidle : ((quadChans (quadOf c)).all fun d => (S.chan d).test == .idle) = true ↔
      ∀ d ∈ quadChans (quadOf c), (S.chan d).test = .idle := by
    simp only [List.all_eq_true, beq_iff_eq]
  rw [State.pulseMay, Bool.and_eq_true, Bool.and_eq_true, Bool.and_eq_true, hturn, hidle, decide_eq_true_iff, and_assoc, and_assoc]

theorem State.pulseMay_false (h : S.testDue c = false ∨
    (∃ d ∈ quadChans (quadOf c), S.testDue d = true ∧ (S.chan d).testKey < (S.chan c).testKey) ∨
    (∃ d ∈ quadChans (quadOf c), (S.chan d).test ≠ .idle) ∨ S.headroom (quadOf c) (S.inom c) < 1 / 10) : S.pulseMay c = false := by
  refine Bool.eq_false_iff.mpr fun hmay => ?_
  obtain ⟨hdue, hturn, hidle, hroom⟩ := (S.pulseMay_iff c).mp hmay
  rcases h with h | ⟨d, hd, hddue, hlt⟩ | ⟨d, hd, hbusy⟩ | h
  · exact Bool.false_ne_true (h.symm.trans hdue)
  · exact Nat.not_lt.mpr (hturn d hd hddue) hlt
  · exact hbusy (hidle d hd)
  · exact not_lt.mpr hroom h

/-- A test pulse of the unit l ends: the driver stays on or goes off. -/
def State.pulseEnded (l : ChanId) (rose : Bool × Bool) (stays : Bool) : State :=
  (S.members l).foldl (fun s m =>
    let w := chSettle (s.chwOf m) * 1000
    (s.testSeen m (if m == l then rose.1 else rose.2)).modChan m fun x =>
      if stays then { x with test := .idle, testEnd := none, settle := some (S.now + w), checkDue := true, ovFrom := S.now }
      else { x with test := .ending, testEnd := none, chgAt := S.now }) S

variable {rose roseOdd : Bool} {l : ChanId} {see : State → ChanId → State}
  (hsee : ∀ u m, see u m = if (if m = l then rose else roseOdd) then u.clearDiag m 9
    else if bit (u.chan m).standing 9 then u else u.raiseDiag m 9)
include hsee

theorem State.testSeen_eq (u : State) (m : ChanId) : u.testSeen m (if m == l then rose else roseOdd) = see u m := by
  have hrose : (if m == l then rose else roseOdd) = if m = l then rose else roseOdd := if_congr beq_iff_eq rfl rfl
  rw [hsee, hrose]
  rfl

theorem State.pulseEnded_off : S.pulseEnded l (rose, roseOdd) false = (S.members l).foldl (fun u m => (see u m).modChan m fun x =>
    { x with test := .ending, testEnd := none, chgAt := S.now }) S :=
  congrArg (fun f => (S.members l).foldl f S) (funext fun u => funext fun m =>
    congrArg (fun t : State => t.modChan m fun x => { x with test := .ending, testEnd := none, chgAt := S.now })
      (State.testSeen_eq hsee u m))

theorem State.pulseEnded_on : S.pulseEnded l (rose, roseOdd) true = (S.members l).foldl (fun u m => (see u m).modChan m fun x =>
    { x with test := .idle, testEnd := none, settle := some (S.now + chSettle (u.chwOf m) * 1000), checkDue := true,
             ovFrom := S.now }) S :=
  congrArg (fun f => (S.members l).foldl f S) (funext fun u => funext fun m =>
    congrArg (fun t : State => t.modChan m fun x => { x with
      test := .idle, testEnd := none, settle := some (S.now + chSettle (u.chwOf m) * 1000), checkDue := true, ovFrom := S.now })
      (State.testSeen_eq hsee u m))

end

theorem testPulseEnd_exec {dt : Nat} {s S : State} {c l : ChanId} {t : Nat} (hS : S = s.elapse dt) (hl : l = S.lead c)
    (hlink : S.linked (quadOf c) = true) (hrun : (S.chan l).test = .running) (ht : (S.chan l).testEnd = some t)
    (rose : Bool × Bool) : exec (.testPulseEnd dt c rose) s =
      .next (S.when (decide (t ≤ S.dieNow)) fun S => S.pulseEnded l rose (S.demand l && !S.fieldOff l)) := by
  subst hS hl
  show execTestPulseEnd dt c rose s = _
  unfold execTestPulseEnd
  dsimp only
  rw [hlink, hrun, ht]
  exact congrArg (fun b => Host.Outcome.next (State.when _ b _)) (Bool.true_and _)

/-! ## Edges of generators (R219, R224, R230) -/

/-- A generator's edge: its next level, the instant of the change, and the current of an on-phase that is over. -/
def State.genEdged (S : State) (c : ChanId) (g : Gen) : State :=
  let t := S.now
  let x := S.chan c
  let h := S.genNext c g
  let lvl := h.levelAt x.budw t
  let edge := h.lastEdge x.budw t
  let on := genOn (g.runs x.budw)
  let over_ := g.lvl && (!lvl || on == genPeriod g.pulw)
  let fresh := over_ && x.drv && decide (edge ≤ x.senseAt + on && x.senseAt < edge)
  let h := { h with lvl := lvl, measured := if fresh then some (S.unitUa c) else g.measured }
  let A := S.modChan c fun x => { x with gen := some h, chgAt := if lvl == g.lvl then x.chgAt else edge - 1600 }
  if lvl == g.lvl then A else A.pwmTrigger c lvl edge

section
variable {dt : Nat} {s S : State} {c : ChanId} (hS : S = s.elapse dt) (hup : S.up = true) (hrole : S.holdsRole = true)
include hS hup hrole

theorem pulseEdge_idle (hgen : (S.chan c).gen = none) : exec (.pulseEdge dt c) s = .next S := by
  subst hS
  refine next_of_when rfl (by rw [hup, hrole]; rfl) ?_
  rw [hgen]

theorem pulseEdge_exec {g : Gen} (hgen : (S.chan c).gen = some g) : exec (.pulseEdge dt c) s = .next (S.genEdged c g) := by
  subst hS
  refine next_of_when rfl (by rw [hup, hrole]; rfl) ?_
  rw [hgen]
  rfl

end

/-- The current of an on-phase is taken when it is over and the last sense codes lie in it (R230). -/
def Chan.onPhaseOver (x : Chan) (g : Gen) (lvl : Bool) (edge on : Nat) : Bool :=
  g.lvl && (!lvl || on == genPeriod g.pulw) && x.drv && decide (edge ≤ x.senseAt + on && x.senseAt < edge)

theorem Chan.onPhaseOver_iff (x : Chan) (g : Gen) (lvl : Bool) (edge on : Nat) : x.onPhaseOver g lvl edge on = true ↔
    g.lvl = true ∧ (lvl = false ∨ on = genPeriod g.pulw) ∧ x.drv = true ∧ edge ≤ x.senseAt + on ∧ x.senseAt < edge := by
  simp only [Chan.onPhaseOver, Bool.and_eq_true, Bool.or_eq_true, Bool.not_eq_true', beq_iff_eq, decide_eq_true_eq, and_assoc]

theorem State.genEdged_eq (S A : State) (c : ChanId) (g h : Gen) (lvl : Bool) (edge : Nat) (hh : h = S.genNext c g)
    (hlvl : lvl = h.levelAt (S.chan c).budw S.now) (hedge : edge = h.lastEdge (S.chan c).budw S.now)
    (hA : A = S.modChan c fun x => { x with
      gen := some { h with lvl := lvl, measured :=
        if (S.chan c).onPhaseOver g lvl edge (genOn (g.runs (S.chan c).budw)) then some (S.unitUa c) else g.measured },
      chgAt := if lvl = g.lvl then x.chgAt else edge - 1600 }) :
    S.genEdged c g = if lvl = g.lvl then A else A.pwmTrigger c lvl edge := by
  subst hA hlvl hedge hh
  simp only [State.genEdged, Chan.onPhaseOver, beq_iff_eq]
  rfl

theorem Gen.levelAt_between (g : Gen) {w : Word64} {e : Nat} (hnext : g.next = some (w, e)) (b : Word64) {t : Nat} (ht : e ≤ t) :
    g.levelAt b t = false := by
  have hbetween : g.between t = true := by
    rw [Gen.between, hnext]
    exact decide_eq_true ht
  rw [Gen.levelAt, hbetween]
  rfl

/-- Settles O59: admission by the first request in the order of R42, the deferral limit by the unit's first deferrable request, test
pulses by their turn and end, and a generator's edge by its phase and its due change. -/
theorem buttress : Obligations.Buttress := by
  unfold Obligations.Buttress
  intro dt s S H q hS hup hst hH
  have hrole : S.holdsRole = true := by
    rw [State.holdsRole, Bool.or_eq_true, beq_iff_eq, beq_iff_eq]
    exact hst
  rw [← State.holdBack_eq] at hH
  have hlimit {c l : ChanId} (hl : l = S.lead c) (hq : quadOf l = q) (hmiss : (S.quad q).statusMiss = false) :
      exec (.deferralLimit dt c) s = .next (H.unitLimited l) := by
    rw [deferralLimit_exec hS hup hrole hl hq, hmiss, hH]
    rfl
  refine ⟨fun hmiss => ⟨?_, fun c hq => ?_⟩, fun hmiss cand hcand => ?_, Req.before_iff, H.testReq_eq_zero_iff,
    fun c l r l1 l2 w hl hq hmiss hreqs hchan hrank hfirst hw => ?_, fun c hq hmiss hno => ?_, fun c k B hq hk hB => ⟨fun hdue hturn hidle hroom => ?_, fun hno => ?_,
      fun rose roseOdd l t see hl hlink hsee hrun ht => ⟨fun hlt => ?_, fun hle hoff => ?_, fun hle hdem hfield => ?_⟩⟩,
    fun c => ⟨pulseEdge_idle hS hup hrole, fun g h lvl x edge on over_ A hx hgen hh hlvl hedge hon hover hA hA' => ?_, fun g =>
      ⟨fun hnext => ?_, fun w e at_ hnext hat => ⟨fun hle => ?_, fun hlt => ?_, fun b t => g.levelAt_between hnext b⟩⟩⟩⟩
  · rw [switchOnAdmit_exec hS hup hrole, hmiss]
    rfl
  · rw [deferralLimit_exec hS hup hrole rfl hq, hmiss]
    rfl
  · have hexec : exec (.switchOnAdmit dt q) s = .next (H.reqAdmitted q) := by
      rw [switchOnAdmit_exec hS hup hrole, hmiss, hH]
      rfl
    have hmem (r : Req) : cand r ↔ r ∈ H.candidates q := (hcand r).trans (State.mem_candidates r).symm
    rw [hexec]
    refine ⟨fun hno => ?_, fun ⟨x, hx⟩ => ?_⟩
    · rw [State.reqAdmitted, State.nextReq_none fun r hr => hno r ((hmem r).mpr hr)]
    · obtain ⟨r, hr, hnext, hmin⟩ := State.nextReq_some ((hmem x).mp hx)
      rw [State.reqAdmitted, hnext]
      refine ⟨r, (hmem r).mpr hr, fun y hy => hmin y ((hmem y).mp hy), fun h0 => ?_, fun h0 hpass => ?_, fun h0 hfail A hA => ?_⟩
      · exact congrArg _ ((if_pos (beq_iff_eq.mpr h0)).trans (H.fireHard_eq r))
      · exact congrArg _ ((if_neg (beq_iff_eq.not.mpr h0)).trans (H.reqTested_granted q r hpass))
      · exact congrArg _ ((if_neg (beq_iff_eq.not.mpr h0)).trans (H.reqTested_waits q r hfail hA))
  · replace hw : w = (H.chan l).budw := by
      rw [hw, hH]
      rfl
    rw [hlimit hl hq hmiss, H.unitLimited_first r hreqs hchan hrank hfirst]
    subst hw
    refine ⟨fun hready hlim hfail => ?_, fun hstay => congrArg _ (H.reqLimited_stays r hstay)⟩
    rw [H.reqLimited_decides r hready hlim hfail]
    refine ⟨fun hpol => congrArg _ (if_pos hpol), fun hpol h1 => ?_, fun hpol h1 => ?_⟩
    · rw [hpol, h1]
      rfl
    · rw [hpol]
      exact congrArg _ (if_neg (beq_iff_eq.not.mpr h1))
  · rw [hlimit rfl hq hmiss, H.unitLimited_none hno]
  · subst hq
    rw [testPulseStart_exec hS hup hrole, State.when_of_true _ _ ((S.pulseMay_iff c).mpr ⟨hdue, hturn, hidle, hroom⟩), hk]
    have hcount : b2n (decide ((S.chan c).testFrom + 1000000000 < S.now)) =
        if (S.chan c).testFrom + 1000000000 < S.now then 1 else 0 := if_congr decide_eq_true_iff rfl rfl
    rw [hcount, ← hk, ← hB]
    rfl
  · subst hq
    rw [testPulseStart_exec hS hup hrole, State.when_of_false _ _ (S.pulseMay_false c hno)]
  · subst hq
    rw [testPulseEnd_exec hS hl hlink hrun ht, State.when_of_false _ _ (decide_eq_false (Nat.not_le.mpr hlt))]
  · subst hq hk
    have hstays : (S.demand l && !S.fieldOff l) = false := by
      rw [Bool.and_eq_false_iff, Bool.not_eq_false']
      exact hoff
    rw [testPulseEnd_exec hS hl hlink hrun ht, State.when_of_true _ _ (decide_eq_true hle), hstays, S.pulseEnded_off hsee]
  · subst hq hk
    rw [testPulseEnd_exec hS hl hlink hrun ht, State.when_of_true _ _ (decide_eq_true hle), hdem, hfield]
    exact congrArg _ (S.pulseEnded_on hsee)
  · have hdec := hover.trans (x.onPhaseOver_iff g lvl edge on).symm
    subst hx hon
    have hedged : A = S.modChan c fun x => { x with
        gen := some { h with lvl := lvl, measured :=
          if (S.chan c).onPhaseOver g lvl edge (genOn (g.runs (S.chan c).budw)) then some (S.unitUa c) else g.measured },
        chgAt := if lvl = g.lvl then x.chgAt else edge - 1600 } := by
      by_cases h : over_
      · rw [hA h, if_pos (hdec.mp h)]
      · rw [hA' h, if_neg fun hb => h (hdec.mpr hb)]
    rw [pulseEdge_exec hS hup hrole hgen, S.genEdged_eq A c g h lvl edge hh hlvl hedge hedged]
  · rw [State.genNext, hnext]
  · rw [hat] at hle ⊢
    rw [State.genNext, hnext]
    exact if_pos hle
  · rw [hat] at hlt
    rw [State.genNext, hnext]
    exact if_neg (Nat.not_le.mpr hlt)

end Sys2Proof.Machine
